-- ==== Sys2Proof/Word.lean ====
section
/-! DEFINITION. The word types of the JQ-4200's registers, memories and fields, and the numbered units of its blocks. -/

namespace Sys2Proof

/-- A byte. -/
abbrev Byte := BitVec 8

/-- A 32-bit register or memory word. -/
abbrev Word := BitVec 32

/-- A 64-bit value. -/
abbrev DWord := BitVec 64

/-- A byte string; byte 0 is the head, at the lowest address (R2). -/
abbrev Bytes := List Byte

/-- A map from numbers to values, kept as plain data: keys strictly rising, and no entry equal to what a key
that is not listed reads as. The operations on it are in Sys2Proof/Machine/Ops.lean. -/
abbrev Sparse (α : Type) := List (Nat × α)

end Sys2Proof
end

