-- ==== Sys2Proof/Syntax.lean ====
section
/-! DEFINITION. The commands of the block: one constructor of Instr per row of spec/opcode_table.json, and the types of
their operands. An operand is what the outside gives the step: who accesses, what it writes, what a sample, a link or a
memory outside the die answers. -/

namespace Sys2Proof

/-- Who makes an access on the bus fabric (R11, R18). The domain tag follows from the initiator and the state. -/
inductive Initiator where
  | ac0 | ac1 | mc | tally | cal | intake
  | fab (p : Fin 4)
  | dma (n : Fin 64)
  | pcie | cport | debug
  deriving DecidableEq, Repr

/-- A core (R281, R282 number 7). -/
inductive CoreId where
  | ac0 | ac1 | mc
  deriving DecidableEq, Repr

/-- A PCIe base address register (R30). -/
inductive Bar where
  | bar0 | bar2
  deriving DecidableEq, Repr

/-- What the host does to the MSI-X controls (R416): it writes a vector's mask bit, or MSI-X Enable and Function Mask. -/
inductive MsixCtl where
  | vector (v : Fin 64) (masked : Bool)
  | enable (en fmask : Bool)
  deriving DecidableEq, Repr

/-- What a bank finds at a read (R337, R338): no error, one bit in error, or more than it corrects. -/
inductive EccFind where
  | clean | corrected | uncorrectable
  deriving DecidableEq, Repr

/-- What befalls an access at the banks: what the word's check bits show, and whether the DMA port of bank 0 wrote the
same word in the same cycle (R343). -/
structure BankEvent where
  ecc : EccFind
  collide : Bool
  deriving DecidableEq, Repr

/-- The head common to all instructions (R305): the core that executes and whether CHECK stands before it. -/
structure Head where
  core : CoreId
  check : Bool
  deriving DecidableEq, Repr

/-- A general register number (R309). -/
abbrev Gpr := Fin 16

/-- A displacement or an immediate of 1, 2 or 4 bytes (R305, R307). -/
inductive Field where
  | b1 (v : BitVec 8)
  | b2 (v : BitVec 16)
  | b4 (v : BitVec 32)
  deriving DecidableEq, Repr

/-- The second operand of an arithmetic instruction: a register form or an immediate form (R317). -/
inductive Src where
  | reg (s : Gpr)
  | imm (v : Field)
  deriving DecidableEq, Repr

/-- The count of a shift: a register form or a 1-byte immediate (R317). -/
inductive Count where
  | reg (s : Gpr)
  | imm (v : BitVec 8)
  deriving DecidableEq, Repr

/-- A synchronous exception that no instruction row raises itself (R288): a fetch refused or an undefined encoding at the
fetch, or the mismatch of an instruction under CHECK. -/
inductive ExcEvent where
  | fetch (addr : Word)
  | undef
  | checkMismatch
  deriving DecidableEq, Repr

/-- How a PCIe read fails (R356, R386): Unsupported Request, Completer Abort or a poisoned completion. -/
inductive ReadError where
  | ur | ca | poisoned
  deriving DecidableEq, Repr

/-- What comes back for a read the device made as a bus master: the bytes, which only a read of host memory takes from
here; a timeout; or an error. -/
inductive DmaData where
  | data (bs : Bytes)
  | timeout
  | error (e : ReadError)
  deriving DecidableEq, Repr

/-- A source of quantity increments (R117). -/
inductive TallySrc where
  | pulse (k : Fin 32)
  | slot (k : Fin 256)
  | mains
  deriving DecidableEq, Repr

/-- The 64-bit axis registers of the AXS page (R169). -/
inductive Axs64 where
  | rtc | mains | net
  deriving DecidableEq, Repr

/-- What a scrub pass finds at a flash page (R471): a 2-bit correction or a margin failure, or an uncorrectable group. -/
inductive FlashFind where
  | weak (page : Nat)
  | lost (page : Nat)
  deriving DecidableEq, Repr

/-- How an unwrap of KUW ends (R186, R205): with the key, with a failed RFC 3394 check, with a failed tag, or with a mismatch of
its duplicated datapath. -/
inductive Unwrap where
  | ok | icv | tag | fault
  deriving DecidableEq, Repr

/-- What a hash lane was computing (R240): a job, a ledger extension, or a unit of the seal engine or of the LMS sequencer. -/
inductive HashWork where
  | job | ledger | command | seal | lms
  deriving DecidableEq, Repr

/-- A command frame of the card bus as it arrives (R407): ADDR, its LEN bytes of data, and whether its EDC and LEN are right. -/
structure CardFrame where
  addr : Byte
  data : Bytes
  good : Bool
  deriving DecidableEq, Repr

/-- A command of the contact port as it arrives (R395): an APDU with CLA, P1 and P2, its Lc bytes of data and its Le, or a
card-bus frame. -/
inductive PortCmd where
  | apdu (cla p1 p2 : Byte) (data : Bytes) (le : Option Nat)
  | card (f : CardFrame)
  deriving DecidableEq, Repr

/-- What the VMAIN glitch detector sees (R487, R490): an excursion that is over, one above 3.795 V that lasts, or the end of
such a one. -/
inductive Excursion where
  | brief | lasting | ended
  deriving DecidableEq, Repr

/-- The commands, operations and events of the block: one constructor per row of spec/opcode_table.json, in its
order; each docstring names the row and the rule the table gives it. -/
inductive Instr where
  /-- REGISTER_WRITE (R36). -/
  | registerWrite (i : Initiator) (addr : Nat) (v : Word)
  /-- HOST_MEMORY_WRITE (R31). -/
  | hostMemoryWrite (bar : Bar) (off : Nat) (dws : List (Word × Bool))
  /-- HOST_MEMORY_READ (R32). -/
  | hostMemoryRead (bar : Bar) (off : Nat) (n : Nat) (full : Bool)
  /-- CTRL_EN_CLEAR (R41). -/
  | ctrlEnClear (i : Initiator) (page : Nat)
  /-- QUIESCE (R42). -/
  | quiesce (i : Initiator) (page : Nat) (on : Bool)
  /-- QUIESCED_REACHED (R42). -/
  | quiescedReached (page : Nat)
  /-- SELFTEST (R43). -/
  | selftest (i : Initiator) (page : Nat)
  /-- SELFTEST_DONE (R43). -/
  | selftestDone (page : Nat) (pass : Bool)
  /-- EVT_RAW_CLEAR (R44). -/
  | evtRawClear (i : Initiator) (addr : Nat) (clr hw : Word)
  /-- EVT_SET (R45). -/
  | evtSet (i : Initiator) (addr : Nat) (v : Word)
  /-- LOCK (R47). -/
  | lockWrite (i : Initiator) (page : Nat)
  /-- OWNER_WRITE (R48). -/
  | ownerWrite (i : Initiator) (page : Nat) (v : Word)
  /-- OWNER_REASSIGN_COMPLETE (R48). -/
  | ownerReassignComplete (page : Nat)
  /-- ERRINFO_CLEAR (R51). -/
  | errinfoClear (i : Initiator) (page : Nat) (v : Word)
  /-- SHADOW_MISMATCH (R50). -/
  | shadowMismatch (addr : Nat) (prim shad : Word)
  /-- AUTOINC_DATA_ACCESS (R582). -/
  | autoincDataAccess (i : Initiator) (addr : Nat) (w : Option Word)
  /-- EVR_CLAIM (R55). -/
  | evrClaim (i : Initiator) (n : Fin 2)
  /-- EVR_DONE (R55). -/
  | evrDone (i : Initiator) (n : Fin 2) (v : Word)
  /-- EVR_ROUTE_WRITE (R58). -/
  | evrRouteWrite (i : Initiator) (m : Fin 512) (v : Word)
  /-- EVR_SWDB_SET (R577). -/
  | evrSwdbSet (i : Initiator) (v : Word)
  /-- EVR_SWDB_CLEAR (R577). -/
  | evrSwdbClear (i : Initiator) (v : Word)
  /-- MSIX_UNMASK (R416). -/
  | msixUnmask (c : MsixCtl)
  /-- INTAKE (R63). -/
  | intake (n : Fin 64)
  /-- FRAME_ADMIT (R65). -/
  | frameAdmit (d : DmaData)
  /-- GATE_ENTER (R99). -/
  | gateEnter (k : Nat)
  /-- INTAKE_UNWRAP (R185). -/
  | intakeUnwrap (k : Nat) (fault : Bool)
  /-- DECRYPT_VERIFY (R91). -/
  | decryptVerify (k : Nat)
  /-- LEDGER_EXTEND (R97). -/
  | ledgerExtend (k : Nat)
  /-- FRAME_COMMIT (R99). -/
  | frameCommit (k : Nat)
  /-- FORWARD_RESPONSE (R78). -/
  | forwardResponse (p : Fin 4)
  /-- DIR_SWAP (R79). -/
  | dirSwap (i : Initiator)
  /-- DIR_SWAP_APPLY (R79). -/
  | dirSwapApply
  /-- CREATE (R101). -/
  | accCreate (i : Initiator) (a : Fin 1024)
  /-- DELETE (R101). -/
  | accDelete (i : Initiator) (a : Fin 1024)
  /-- ENABLE (R101). -/
  | accEnable (i : Initiator) (a : Fin 1024)
  /-- DISABLE (R101). -/
  | accDisable (i : Initiator) (a : Fin 1024)
  /-- SET_FEED (R101). -/
  | setFeed (i : Initiator) (a : Fin 1024)
  /-- SET_PROFILE (R101). -/
  | setProfile (i : Initiator) (a : Fin 1024)
  /-- RESEAT (R101). -/
  | reseat (i : Initiator) (a : Fin 1024)
  /-- ACC_READ (R101). -/
  | accRead (i : Initiator) (a : Fin 1024)
  /-- CLEAR_FAILS (R101). -/
  | clearFails (i : Initiator) (a : Fin 1024)
  /-- CLRCNT (R101). -/
  | clrcnt (i : Initiator) (a : Fin 1024)
  /-- CKPT (R101). -/
  | ckpt (i : Initiator) (a : Fin 1024)
  /-- RETOTAL (R101). -/
  | retotal (i : Initiator) (a : Fin 1024)
  /-- CKPT_NOW (R107). -/
  | ckptNow (i : Initiator)
  /-- CHECKPOINT_CAPTURE (R102). -/
  | checkpointCapture
  /-- CHECKPOINT_PROGRAM_DONE (R102). -/
  | checkpointProgramDone (ok : Bool)
  /-- PULSE_EDGE (R131). -/
  | pulseEdge (k : Fin 32) (rising : Bool)
  /-- SOURCE_CONSUME (R117). -/
  | sourceConsume (src : TallySrc)
  /-- TALLY_DISPATCH (R120). -/
  | tallyDispatch
  /-- TALLY_UPDATE_COMMIT (R121). -/
  | tallyUpdateCommit (mism : Fin 3)
  /-- TAL_SNAPCMD (R126). -/
  | talSnapcmd (i : Initiator) (p : Fin 4) (v : Word)
  /-- SNAPSHOT_CAPTURE (R126). -/
  | snapshotCapture (p : Fin 4)
  /-- TAL_PRECMD (R127). -/
  | talPrecmd (i : Initiator) (p : Fin 4) (v : Word)
  /-- PRESET_APPLY (R127). -/
  | presetApply (p : Fin 4)
  /-- TCO_CRCSEL (R116). -/
  | tcoCrcsel (i : Initiator) (v : Word)
  /-- TCO_CRC_DONE (R116). -/
  | tcoCrcDone
  /-- TCO_CDATA_WRITE (R115). -/
  | tcoCdataWrite (i : Initiator) (v : Word)
  /-- SNS_RUN_START (R137). -/
  | snsRunStart
  /-- RUN_NOW (R137). -/
  | runNow (i : Initiator)
  /-- SNS_XFER (R138). -/
  | snsXfer (rx : List Byte)
  /-- SNS_WAIT (R138). -/
  | snsWait
  /-- SNS_WAITRDY (R138). -/
  | snsWaitrdy (low : Bool)
  /-- SNS_CHECK (R138). -/
  | snsCheck
  /-- SNS_STORE (R139). -/
  | snsStore
  /-- SNS_COMMIT (R140). -/
  | snsCommit
  /-- SNS_END (R140). -/
  | snsEnd
  /-- SNS_WCMD (R135). -/
  | snsWcmd (i : Initiator) (v : Word)
  /-- SNS_SIDX (R145). -/
  | snsSidx (i : Initiator) (v : Word)
  /-- AXS_RTCCMD (R151). -/
  | axsRtccmd (i : Initiator) (v : Word)
  /-- AXS_MCMD (R151). -/
  | axsMcmd (i : Initiator) (v : Word)
  /-- AXS_NCMD (R151). -/
  | axsNcmd (i : Initiator) (v : Word)
  /-- AXS_RTCSLEW (R152). -/
  | axsRtcslew (i : Initiator) (v : Word)
  /-- AXS_NSLEW (R152). -/
  | axsNslew (i : Initiator) (v : Word)
  /-- SLEW_DONE (R152). -/
  | slewDone (net : Bool)
  /-- AXS_LOW_READ (R169). -/
  | axsLowRead (i : Initiator) (ax : Axs64)
  /-- MAINS_EDGE (R148). -/
  | mainsEdge
  /-- MAINS_TIMEOUT (R148). -/
  | mainsTimeout
  /-- POSTING_DUE (R158). -/
  | postingDue (axis : Nat)
  /-- POSTING_FIRE (R159). -/
  | postingFire (delay : Nat)
  /-- CLOSING_CAPTURE (R162). -/
  | closingCapture
  /-- CLOSING_RECORD_MOVE (R166). -/
  | closingRecordMove
  /-- ARM (R156). -/
  | arm (i : Initiator) (v : Word)
  /-- DISARM (R168). -/
  | disarm (i : Initiator) (v : Word)
  /-- DISARM_AXIS (R168). -/
  | disarmAxis (i : Initiator) (v : Word)
  /-- CAL_PEEKAX (R168). -/
  | calPeekax (i : Initiator) (v : Word)
  /-- CAL_LATMAX_WRITE (R168). -/
  | calLatmaxWrite (i : Initiator) (v : Word)
  /-- PUF_POWER_DONE (R175). -/
  | pufPowerDone
  /-- PUF_READ_DONE (R175). -/
  | pufReadDone
  /-- PUF_DECODE_DONE (R175). -/
  | pufDecodeDone (ok : Bool) (errbits : BitVec 15) (bad : List (Fin 256))
  /-- PUF_COOL_DONE (R175). -/
  | pufCoolDone
  /-- UPDATE (R190). -/
  | vltUpdate (i : Initiator)
  /-- UPDATE_SIGS_VERIFIED (R190). -/
  | updateSigsVerified
  /-- UPDATE_COMMIT (R193). -/
  | updateCommit
  /-- ACCOUNT_KEY_INSTALL (R194). -/
  | accountKeyInstall
  /-- MINT (R196). -/
  | vltMint (i : Initiator)
  /-- OPEN (R204). -/
  | vltOpen (i : Initiator)
  /-- GETPUB (R197). -/
  | vltGetpub (i : Initiator)
  /-- HALLMARK (R199). -/
  | hallmark (i : Initiator)
  /-- REPORT (R199). -/
  | report (i : Initiator)
  /-- DESTROY (R197). -/
  | vltDestroy (i : Initiator)
  /-- DERIVE (R204). -/
  | vltDerive (i : Initiator)
  /-- AGREE (R204). -/
  | vltAgree (i : Initiator)
  /-- GETID (R204). -/
  | vltGetid (i : Initiator)
  /-- ENROLL (R204). -/
  | vltEnroll (i : Initiator)
  /-- VLT_SIDX (R203). -/
  | vltSidx (i : Initiator) (v : Word)
  /-- KEY_UNWRAP_DONE (R186). -/
  | keyUnwrapDone (r : Unwrap)
  /-- RNG_HEALTH_FAIL (R201). -/
  | rngHealthFail (apt : Bool)
  /-- RESEED_NOW (R202). -/
  | reseedNow (i : Initiator)
  /-- RESTART (R200). -/
  | rngRestart (i : Initiator)
  /-- DRBG_RESEED_DONE (R202). -/
  | drbgReseedDone
  /-- RNG_DATA_READ (R206). -/
  | rngDataRead (i : Initiator)
  /-- RNG_HSTAT_READ (R206). -/
  | rngHstatRead (i : Initiator)
  /-- AES_JOBCMD (R233). -/
  | aesJobcmd (i : Initiator) (n : Fin 4)
  /-- AES_JOB_START (R224). -/
  | aesJobStart (n : Fin 4) (host : List (Nat × Bytes))
  /-- AES_JOB_DONE (R216). -/
  | aesJobDone (n : Fin 4) (host : List (Nat × Bytes))
  /-- AES_PREEMPT (R226). -/
  | aesPreempt (n : Fin 4) (units : Nat) (host : List (Nat × Bytes))
  /-- AES_RESUME (R227). -/
  | aesResume (n : Fin 4) (host : List (Nat × Bytes))
  /-- AES_CHECK_MISMATCH (R228). -/
  | aesCheckMismatch (n : Fin 4) (units : Nat) (host : List (Nat × Bytes))
  /-- AES_CLRKEY (R212). -/
  | aesClrkey (i : Initiator) (n : Fin 4) (units : Nat) (host : List (Nat × Bytes))
  /-- HSH_JOBCMD (R256). -/
  | hshJobcmd (i : Initiator) (n : Fin 2)
  /-- HSH_JOB_START (R240). -/
  | hshJobStart (n : Fin 2) (host : List (Nat × Bytes))
  /-- HSH_JOB_DONE (R238). -/
  | hshJobDone (n : Fin 2) (host : List (Nat × Bytes))
  /-- HSH_PREEMPT (R239). -/
  | hshPreempt (n : Fin 2) (units : Nat) (host : List (Nat × Bytes))
  /-- HSH_CHECK_MISMATCH (R236). -/
  | hshCheckMismatch (n : Fin 2) (w : HashWork) (units : Nat) (host : List (Nat × Bytes))
  /-- HSH_CLRKEY (R237). -/
  | hshClrkey (i : Initiator) (n : Fin 2) (units : Nat) (host : List (Nat × Bytes))
  /-- LMS_JOBCMD (R250). -/
  | lmsJobcmd (i : Initiator)
  /-- LMS_SIGN_START (R246). -/
  | lmsSignStart
  /-- LMS_ADVANCE_DONE (R246). -/
  | lmsAdvanceDone (k : Fin 256)
  /-- LMS_SIGN_DONE (R250). -/
  | lmsSignDone
  /-- LMS_KSEL (R257). -/
  | lmsKsel (i : Initiator) (v : Word)
  /-- LMS_SEALCMD (R251). -/
  | lmsSealcmd (i : Initiator) (v : Word)
  /-- SEAL_START (R252). -/
  | sealStart
  /-- SEAL_TREE_DONE (R253). -/
  | sealTreeDone
  /-- SEAL_SIGNED (R252). -/
  | sealSigned
  /-- SEAL_DELIVERED (R252). -/
  | sealDelivered
  /-- BNE_JOBCMD (R272). -/
  | bneJobcmd (i : Initiator) (n : Fin 4)
  /-- BNE_JOB_START (R271). -/
  | bneJobStart (n : Fin 4) (ecc : EccFind)
  /-- BNE_JOB_DONE (R272). -/
  | bneJobDone (n : Fin 4) (host : List (Nat × Bytes))
  /-- BNE_CHECK_MISMATCH (R275). -/
  | bneCheckMismatch (n : Fin 4)
  /-- BNE_LIMIT_EXPIRY (R264). -/
  | bneLimitExpiry (n : Fin 4)
  /-- BNE_CLRKEY (R270). -/
  | bneClrkey (i : Initiator) (n : Fin 4)
  /-- BN_END (R262). -/
  | bnEnd (l : Fin 4)
  /-- BN_FAIL (R262). -/
  | bnFail (l : Fin 4)
  /-- BN_JMP (R262). -/
  | bnJmp (l : Fin 4)
  /-- BN_BR (R262). -/
  | bnBr (l : Fin 4)
  /-- BN_CALL (R262). -/
  | bnCall (l : Fin 4)
  /-- BN_RET (R262). -/
  | bnRet (l : Fin 4)
  /-- CSET (R262). -/
  | cset (l : Fin 4)
  /-- CLOOP (R262). -/
  | cloop (l : Fin 4)
  /-- SETLEN (R262). -/
  | setlen (l : Fin 4)
  /-- MODSET (R262). -/
  | modset (l : Fin 4)
  /-- BN_MOV (R262). -/
  | bnMov (l : Fin 4)
  /-- LDC (R262). -/
  | ldc (l : Fin 4)
  /-- GET (R262). -/
  | bnGet (l : Fin 4) (host : List (Nat × Bytes))
  /-- PUT (R262). -/
  | bnPut (l : Fin 4)
  /-- KLOAD (R262). -/
  | kload (l : Fin 4)
  /-- RAND (R262). -/
  | bnRand (l : Fin 4)
  /-- MMUL (R262). -/
  | mmul (l : Fin 4)
  /-- MADD (R262). -/
  | madd (l : Fin 4)
  /-- MSUB (R262). -/
  | msub (l : Fin 4)
  /-- MINV (R262). -/
  | minv (l : Fin 4)
  /-- BN_CMP (R262). -/
  | bnCmp (l : Fin 4)
  /-- BN_ADD (R262). -/
  | bnAdd (l : Fin 4)
  /-- BN_SUB (R262). -/
  | bnSub (l : Fin 4)
  /-- BN_SHL (R262). -/
  | bnShl (l : Fin 4)
  /-- BN_SHR (R262). -/
  | bnShr (l : Fin 4)
  /-- BTST (R262). -/
  | btst (l : Fin 4)
  /-- CSWAP (R262). -/
  | cswap (l : Fin 4)
  /-- WIPE (R262). -/
  | wipe (l : Fin 4)
  /-- QSET (R262). -/
  | qset (l : Fin 4)
  /-- NTT (R266). -/
  | ntt (l : Fin 4)
  /-- INTT (R266). -/
  | intt (l : Fin 4)
  /-- PMUL (R266). -/
  | pmul (l : Fin 4)
  /-- PADD (R262). -/
  | padd (l : Fin 4)
  /-- PSUB (R262). -/
  | psub (l : Fin 4)
  /-- PMAP (R267). -/
  | pmap (l : Fin 4)
  /-- PSAMP (R267). -/
  | psamp (l : Fin 4)
  /-- PGET (R267). -/
  | pget (l : Fin 4) (host : List (Nat × Bytes))
  /-- PPUT (R267). -/
  | pput (l : Fin 4)
  /-- PFMT (R267). -/
  | pfmt (l : Fin 4)
  /-- HINIT (R262). -/
  | hinit (l : Fin 4)
  /-- HABS (R262). -/
  | habs (l : Fin 4)
  /-- HABSI (R262). -/
  | habsi (l : Fin 4) (host : List (Nat × Bytes))
  /-- HMSG (R262). -/
  | hmsg (l : Fin 4) (host : List (Nat × Bytes))
  /-- HSQZ (R262). -/
  | hsqz (l : Fin 4)
  /-- BNE_WSDATA_READ (R279). -/
  | bneWsdataRead (i : Initiator) (n : Fin 4)
  /-- BNC_SDATA_WRITE (R280). -/
  | bncSdataWrite (i : Initiator) (v : Word)
  /-- BNC_CRCCMD (R280). -/
  | bncCrccmd (i : Initiator) (v : Word)
  /-- BNC_CRC_DONE (R280). -/
  | bncCrcDone
  /-- NOP (R316). -/
  | nopOp (h : Head)
  /-- FENCE (R316). -/
  | fence (h : Head)
  /-- WFE (R295). -/
  | wfe (h : Head)
  /-- WFE_RELEASE (R295). -/
  | wfeRelease (c : CoreId)
  /-- RET (R316). -/
  | retOp (h : Head)
  /-- TRAP (R316). -/
  | trap (h : Head) (n : BitVec 8)
  /-- CALL (R316). -/
  | callOp (h : Head) (rel : Field)
  /-- CALLR (R316). -/
  | callr (h : Head) (r : Gpr)
  /-- JMP (R316). -/
  | jmp (h : Head) (rel : Field)
  /-- JMPR (R316). -/
  | jmpr (h : Head) (r : Gpr)
  /-- BCC (R316). -/
  | bcc (h : Head) (cc : Fin 16) (rel : Field)
  /-- CBCC (R316). -/
  | cbcc (h : Head) (wide : Bool) (cc : Fin 16) (d r : Gpr) (rel : BitVec 16)
  /-- CBICC (R316). -/
  | cbicc (h : Head) (wide : Bool) (cc : Fin 16) (d : Gpr) (imm : Word) (rel : BitVec 16)
  /-- GATE_CALL (R286). -/
  | gateCall (h : Head) (g : BitVec 16)
  /-- GATE_RETURN (R287). -/
  | gateReturn (h : Head)
  /-- ERET (R291). -/
  | eret (h : Head) (cross : Bool)
  /-- MFS (R322). -/
  | mfs (h : Head) (d : Gpr) (n : BitVec 8)
  /-- MTS (R322). -/
  | mts (h : Head) (n : BitVec 8) (r : Gpr)
  /-- DIVU (R318). -/
  | divu (h : Head) (d r : Gpr)
  /-- DIVS (R318). -/
  | divs (h : Head) (d r : Gpr)
  /-- REMU (R318). -/
  | remu (h : Head) (d r : Gpr)
  /-- REMS (R318). -/
  | rems (h : Head) (d r : Gpr)
  /-- STWI (R319). -/
  | stwi (h : Head) (wide : Bool) (r : Gpr) (disp : Word) (imm : BitVec 16)
  /-- SEXTB (R317). -/
  | sextb (h : Head) (d r : Gpr)
  /-- SEXTH (R317). -/
  | sexth (h : Head) (d r : Gpr)
  /-- ZEXTB (R317). -/
  | zextb (h : Head) (d r : Gpr)
  /-- ZEXTH (R317). -/
  | zexth (h : Head) (d r : Gpr)
  /-- CLZ (R317). -/
  | clz (h : Head) (d r : Gpr)
  /-- BSWAP (R317). -/
  | bswap (h : Head) (wide : Bool) (d r : Gpr)
  /-- SETCC (R317). -/
  | setcc (h : Head) (cc : Fin 16) (d : Gpr)
  /-- CSELCC (R317). -/
  | cselcc (h : Head) (wide : Bool) (cc : Fin 16) (d r : Gpr)
  /-- ADD (R317). -/
  | addOp (h : Head) (wide : Bool) (d : Gpr) (src : Src)
  /-- ADC (R317). -/
  | adcOp (h : Head) (wide : Bool) (d : Gpr) (src : Src)
  /-- SUB (R317). -/
  | subOp (h : Head) (wide : Bool) (d : Gpr) (src : Src)
  /-- SBC (R317). -/
  | sbcOp (h : Head) (wide : Bool) (d : Gpr) (src : Src)
  /-- AND (R317). -/
  | andOp (h : Head) (wide : Bool) (d : Gpr) (src : Src)
  /-- OR (R317). -/
  | orOp (h : Head) (wide : Bool) (d : Gpr) (src : Src)
  /-- XOR (R317). -/
  | xorOp (h : Head) (wide : Bool) (d : Gpr) (src : Src)
  /-- CMP (R317). -/
  | cmpOp (h : Head) (wide : Bool) (d : Gpr) (src : Src)
  /-- TST (R317). -/
  | tstOp (h : Head) (wide : Bool) (d : Gpr) (src : Src)
  /-- MOV (R317). -/
  | movOp (h : Head) (wide : Bool) (d : Gpr) (src : Src)
  /-- SHL (R317). -/
  | shlOp (h : Head) (wide : Bool) (d : Gpr) (n : Count)
  /-- SHR (R317). -/
  | shrOp (h : Head) (wide : Bool) (d : Gpr) (n : Count)
  /-- SAR (R317). -/
  | sarOp (h : Head) (wide : Bool) (d : Gpr) (n : Count)
  /-- ROR (R317). -/
  | rorOp (h : Head) (wide : Bool) (d : Gpr) (n : Count)
  /-- MUL (R317). -/
  | mulOp (h : Head) (d r : Gpr)
  /-- MULHU (R317). -/
  | mulhuOp (h : Head) (d r : Gpr)
  /-- LDB (R319). -/
  | ldb (h : Head) (d r : Gpr) (disp : Field) (b : BankEvent)
  /-- LDBS (R319). -/
  | ldbs (h : Head) (d r : Gpr) (disp : Field) (b : BankEvent)
  /-- LDH (R319). -/
  | ldh (h : Head) (d r : Gpr) (disp : Field) (b : BankEvent)
  /-- LDHS (R319). -/
  | ldhs (h : Head) (d r : Gpr) (disp : Field) (b : BankEvent)
  /-- LDW (R319). -/
  | ldw (h : Head) (wide : Bool) (d r : Gpr) (disp : Field) (b : BankEvent)
  /-- STB (R319). -/
  | stb (h : Head) (d r : Gpr) (disp : Field) (b : BankEvent)
  /-- STH (R319). -/
  | sth (h : Head) (d r : Gpr) (disp : Field) (b : BankEvent)
  /-- STW (R319). -/
  | stw (h : Head) (wide : Bool) (d r : Gpr) (disp : Field)
  /-- ATOMIC_SWAP (R320). -/
  | atomicSwap (h : Head) (wide : Bool) (d r : Gpr) (disp : Field) (b : BankEvent)
  /-- ATOMIC_ADD (R320). -/
  | atomicAdd (h : Head) (wide : Bool) (d : Gpr) (imm : Option (BitVec 16)) (r : Gpr) (disp : Field) (b : BankEvent)
  /-- LDPC (R319). -/
  | ldpc (h : Head) (wide : Bool) (d : Gpr) (rel : Word) (b : BankEvent)
  /-- LEA (R319). -/
  | lea (h : Head) (d r : Gpr) (disp : Word)
  /-- LEAPC (R319). -/
  | leapc (h : Head) (d : Gpr) (rel : Word)
  /-- PUSH (R319). -/
  | push (h : Head) (wide : Bool) (r : Gpr)
  /-- POP (R319). -/
  | pop (h : Head) (wide : Bool) (d : Gpr) (b : BankEvent)
  /-- VCMD (R329). -/
  | vcmd (h : Head) (d r : Gpr)
  /-- AJOB (R329). -/
  | ajob (h : Head) (d r : Gpr)
  /-- HJOB (R329). -/
  | hjob (h : Head) (d r : Gpr)
  /-- LSIGN (R329). -/
  | lsign (h : Head) (d r : Gpr)
  /-- CP2_SEAL (R329). -/
  | cp2Seal (h : Head) (d r : Gpr)
  /-- BJOB (R329). -/
  | bjob (h : Head) (d r : Gpr)
  /-- WAIT (R328). -/
  | tickWait (h : Head) (cp : Fin 4) (d r : Gpr)
  /-- POLL (R328). -/
  | tickPoll (h : Head) (cp : Fin 4) (d r : Gpr)
  /-- TICKET_DONE (R327). -/
  | ticketDone
  /-- SNAP (R330). -/
  | cpSnap (h : Head) (d r : Gpr)
  /-- SNAPW (R330). -/
  | snapw (h : Head) (d r : Gpr)
  /-- PRESET (R330). -/
  | cpPreset (h : Head) (d r : Gpr) (target : BitVec 8)
  /-- PRESETW (R330). -/
  | presetw (h : Head) (d r : Gpr)
  /-- CP5_PUSH (R331). -/
  | cp5Push (h : Head) (d r : Gpr)
  /-- PUSHL (R331). -/
  | pushl (h : Head) (d r : Gpr)
  /-- REWIND (R331). -/
  | rewind (h : Head) (r : Gpr)
  /-- CP5_POP (R331). -/
  | cp5Pop (h : Head) (d r : Gpr)
  /-- POPW (R331). -/
  | popw (h : Head) (d r : Gpr)
  /-- LEVEL (R331). -/
  | tillLevel (h : Head) (d r : Gpr)
  /-- EXCEPTION_ENTRY (R289). -/
  | exceptionEntry (c : CoreId) (e : ExcEvent)
  /-- INTERRUPT_ENTRY (R293). -/
  | interruptEntry (c : CoreId)
  /-- LOCKSTEP_MISMATCH (R298). -/
  | lockstepMismatch
  /-- AC1_CTRL_EN (R301). -/
  | ac1CtrlEn (i : Initiator) (en : Bool)
  /-- CORE_GDATA_WRITE (R302). -/
  | coreGdataWrite (i : Initiator) (c : Fin 2) (v : Word)
  /-- CORE_GSET (R302). -/
  | coreGset (i : Initiator) (c : Fin 2) (v : Word)
  /-- CORE_CYC_READ (R302). -/
  | coreCycRead (i : Initiator) (c : CoreId)
  /-- MCC_CLAIM (R304). -/
  | mccClaim (i : Initiator)
  /-- MCC_DONE (R304). -/
  | mccDone (i : Initiator) (v : Word)
  /-- MCC_SWDB_SET (R304). -/
  | mccSwdbSet (i : Initiator) (v : Word)
  /-- MCC_WDKICK (R304). -/
  | mccWdkick (i : Initiator) (v : Word)
  /-- METROLOGY_WATCHDOG_WARN (R304). -/
  | metrologyWatchdogWarn
  /-- WDR_M (R511). -/
  | wdrM
  /-- MCC_LOAD_DONE (R511). -/
  | mccLoadDone
  /-- BT_VISIT_START (R345). -/
  | btVisitStart
  /-- BT_COPY_DONE (R345). -/
  | btCopyDone (corr : List (Fin 64))
  /-- BT_TEST_DONE (R348). -/
  | btTestDone (fails : Bool)
  /-- BT_RESTORE_DONE (R345). -/
  | btRestoreDone
  /-- BT_SPARE_TEST (R349). -/
  | btSpareTest (failing : List (Fin 32))
  /-- WITHDRAW (R351). -/
  | bankWithdraw (i : Initiator) (bank : Fin 32)
  /-- RETURN (R352). -/
  | bankReturn (i : Initiator) (bank : Fin 32) (failing : List (Fin 1024)) (spareFails : Nat)
  /-- BANK_CLEAR_DONE (R340). -/
  | bankClearDone
  /-- CHN_ENABLE (R357). -/
  | chnEnable (i : Initiator) (n : Fin 64) (cfg : Word)
  /-- CHN_DISABLE (R372). -/
  | chnDisable (i : Initiator) (n : Fin 64)
  /-- DB_SQTAIL (R362). -/
  | dbSqtail (i : Initiator) (n : Fin 64) (v : Word)
  /-- DB_CQHEAD (R363). -/
  | dbCqhead (i : Initiator) (n : Fin 64) (v : Word)
  /-- DESC_FETCH (R364). -/
  | descFetch (n : Fin 64) (k : Nat)
  /-- DESC_ARRIVE (R366). -/
  | descArrive (n : Fin 64) (d : DmaData)
  /-- COMPLETION_WRITE (R367). -/
  | completionWrite (coll : Option Bool)
  /-- CQ_COAL_TIMEOUT (R368). -/
  | cqCoalTimeout (n : Fin 64)
  /-- TOKEN_REFILL (R370). -/
  | tokenRefill (n : Fin 64)
  /-- ABORT (R372). -/
  | chnAbort (i : Initiator) (n : Fin 64)
  /-- CHAN_NOP (R361). -/
  | chanNop (n : Fin 64)
  /-- COPY (R374). -/
  | chanCopy (n : Fin 64) (data : Bytes)
  /-- TILL_READ (R375). -/
  | tillRead (n : Fin 64)
  /-- TILL_READ_TIMEOUT (R375). -/
  | tillReadTimeout (n : Fin 64)
  /-- TILL_WRITE (R376). -/
  | tillWrite (n : Fin 64) (d : DmaData)
  /-- DMA_TIMEOUT (R356). -/
  | dmaTimeout (n : Fin 64) (k : Nat) (got : Bytes)
  /-- DMA_READ_ERROR (R356). -/
  | dmaReadError (n : Fin 64) (k : Nat) (e : ReadError) (got : Bytes)
  /-- TILL_ENABLE (R377). -/
  | tillEnable (i : Initiator) (t : Fin 128) (cfg : Word)
  /-- TILL_DISABLE (R384). -/
  | tillDisable (i : Initiator) (t : Fin 128)
  /-- FLUSH (R383). -/
  | tillFlush (i : Initiator) (t : Fin 128)
  /-- TILL_STALE (R381). -/
  | tillStale (t : Fin 128)
  /-- TILL_PTRERR (R382). -/
  | tillPtrerr (t : Fin 128)
  /-- CRST_N_RISE (R388). -/
  | crstNRise
  /-- MODE_SELECT (R388). -/
  | modeSelect (cdat1 : Bool)
  /-- CRST_N_FALL (R388). -/
  | crstNFall
  /-- ATR (R390). -/
  | atr (inRange : Bool)
  /-- PPS (R391). -/
  | pps (m : Bytes)
  /-- WRITE_BUF (R395). -/
  | writeBuf (m : PortCmd)
  /-- READ_BUF (R395). -/
  | readBuf (m : PortCmd)
  /-- SUBMIT (R397). -/
  | cpSubmit (m : PortCmd)
  /-- REAP (R397). -/
  | cpReap (m : PortCmd)
  /-- STATUS (R398). -/
  | cpStatus (m : PortCmd)
  /-- SET_PASSWORD (R400). -/
  | setPassword (m : PortCmd)
  /-- CLEAR_PASSWORD (R400). -/
  | clearPassword (m : PortCmd)
  /-- UNLOCK (R400). -/
  | cpUnlock (m : PortCmd)
  /-- LOCK_PORT (R399). -/
  | lockPort (m : PortCmd)
  /-- FORCE_ERASE (R402). -/
  | forceErase (m : PortCmd)
  /-- PERSIST_DONE (R404). -/
  | persistDone
  /-- IDENTIFY (R409). -/
  | cbIdentify (f : CardFrame) (line : BitVec 128)
  /-- ASSIGN (R408). -/
  | cbAssign (f : CardFrame)
  /-- CB_RELEASE (R408). -/
  | cbRelease (f : CardFrame)
  /-- SWITCH (R410). -/
  | cbSwitch (f : CardFrame)
  /-- CHECK (R410). -/
  | cbCheck (f : CardFrame)
  /-- SWITCH_TIMEOUT (R410). -/
  | switchTimeout
  /-- CB_SLEEP (R411). -/
  | cbSleep (f : CardFrame)
  /-- CB_WAKE (R411). -/
  | cbWake (f : CardFrame)
  /-- FRAME_GAP_TIMEOUT (R406). -/
  | frameGapTimeout
  /-- PERST_N_FALL (R415). -/
  | perstNFall
  /-- PERST_N_RISE (R414). -/
  | perstNRise
  /-- FLR (R415). -/
  | flr
  /-- PCIE_LINK_UP (R414). -/
  | pcieLinkUp (width : Fin 3) (speed : Fin 4)
  /-- PCIE_LINK_DOWN (R415). -/
  | pcieLinkDown
  /-- D3HOT_ENTRY (R415). -/
  | d3hotEntry
  /-- BUS_MASTER_ENABLE (R413). -/
  | busMasterEnable
  /-- HIF_H2D_WRITE (R419). -/
  | hifH2dWrite (v : Word)
  /-- FAB_TRAIN (R423). -/
  | fabTrain (i : Option Initiator) (p : Fin 4)
  /-- FAB_DOWN (R423). -/
  | fabDown (i : Initiator) (p : Fin 4)
  /-- REKEY (R423). -/
  | rekey (i : Initiator) (p : Fin 4)
  /-- LINK_TRAINED (R423). -/
  | linkTrained (p : Fin 4)
  /-- OFFER (R430). -/
  | hskOffer (p : Fin 4) (m : Bytes)
  /-- INIT (R430). -/
  | hskInit (p : Fin 4) (m : Bytes)
  /-- REPLY (R430). -/
  | hskReply (p : Fin 4) (m : Bytes)
  /-- CONFIRM (R430). -/
  | hskConfirm (p : Fin 4) (m : Bytes)
  /-- HSK_CHECKS_DONE (R431). -/
  | hskChecksDone (p : Fin 4)
  /-- HSK_TIMEOUT (R423). -/
  | hskTimeout (p : Fin 4)
  /-- BLOCK_LOCK_LOST (R423). -/
  | blockLockLost (p : Fin 4)
  /-- KEEPALIVE_MISS (R423). -/
  | keepaliveMiss (p : Fin 4)
  /-- HOLDOFF_EXPIRY (R423). -/
  | holdoffExpiry (p : Fin 4)
  /-- KEEPALIVE_SEND (R436). -/
  | keepaliveSend (p : Fin 4)
  /-- ACK_SEND (R433). -/
  | ackSend (p : Fin 4)
  /-- FRAME_RECEIVE (R433). -/
  | frameReceive (p : Fin 4) (wire : Bytes)
  /-- CTRL_FRAME (R434). -/
  | ctrlFrame (p : Fin 4) (wire : Bytes)
  /-- REPLAY_TIMEOUT (R434). -/
  | replayTimeout (p : Fin 4)
  /-- CREDIT_STALL (R435). -/
  | creditStall (p : Fin 4)
  /-- FAB_LANE_MISMATCH (R429). -/
  | fabLaneMismatch (p : Fin 4) (ok : Bool)
  /-- DISCOVERY (R438). -/
  | discovery (p : Fin 4)
  /-- AGENT (R455). -/
  | agent (p : Fin 4)
  /-- ROUTED_FORWARD (R441). -/
  | routedForward (p : Fin 4)
  /-- FORWARDED_INTAKE (R446). -/
  | forwardedIntake (p : Fin 4)
  /-- TXN_REQ (R449). -/
  | txnReq (p : Fin 4)
  /-- TXN_RSP (R448). -/
  | txnRsp (p : Fin 4)
  /-- NOTIFY (R445). -/
  | notify (p : Fin 4)
  /-- UNREACH (R443). -/
  | unreach (p : Fin 4)
  /-- TXN_TIMEOUT (R448). -/
  | txnTimeout (k : Nat)
  /-- DEDUP_EXPIRE (R449). -/
  | dedupExpire (k : Nat)
  /-- LEASE_EXPIRE (R451). -/
  | leaseExpire (k : Nat)
  /-- FRT_ADDR_WRITE (R440). -/
  | frtAddrWrite (i : Initiator) (v : Word)
  /-- LEASE_READ (R450). -/
  | leaseRead
  /-- STAGE (R450). -/
  | frtStage
  /-- COMMIT (R452). -/
  | frtCommit
  /-- DISPOSE (R452). -/
  | frtDispose
  /-- RELEASE (R450). -/
  | frtRelease
  /-- REMOTE_QUERY (R450). -/
  | remoteQuery
  /-- SEND (R454). -/
  | clrSend (n : Fin 64) (d : DmaData)
  /-- CLEAR (R453). -/
  | clrClear (n : Fin 64)
  /-- QUERY (R454). -/
  | clrQuery (n : Fin 64)
  /-- NVC_READ (R484). -/
  | nvcRead (i : Initiator) (e : EccFind)
  /-- IMG_ERASE (R484). -/
  | imgErase (i : Initiator)
  /-- IMG_WRITE (R484). -/
  | imgWrite (i : Initiator)
  /-- IMG_CLOSE (R484). -/
  | imgClose (i : Initiator)
  /-- PB_READ (R467). -/
  | pbRead (i : Initiator)
  /-- PB_WRITE (R467). -/
  | pbWrite (i : Initiator)
  /-- PB_FLUSH (R467). -/
  | pbFlush (i : Initiator)
  /-- SCRUB (R484). -/
  | scrub (i : Initiator)
  /-- SCRUB_PERIOD (R471). -/
  | scrubPeriod (finds : List FlashFind)
  /-- NV_PROGRAM_DONE (R461). -/
  | nvProgramDone (bankB : Bool) (ok : Bool)
  /-- NV_ERASE_DONE (R469). -/
  | nvEraseDone (bankB : Bool) (pass : Bool)
  /-- ERASE_SUSPEND (R461). -/
  | eraseSuspend (bankB : Bool)
  /-- SECTOR_RECLAIM (R466). -/
  | sectorReclaim (r : Nat) (copyB : Bool)
  /-- NVK_READ (R486). -/
  | nvkRead (i : Initiator) (k : Fin 256)
  /-- INC (R474). -/
  | nvkInc (i : Initiator) (k : Fin 256)
  /-- SET (R475). -/
  | nvkSet (i : Initiator) (k : Fin 256)
  /-- COUNTER_HALF_SWITCH (R477). -/
  | counterHalfSwitch (j : Fin 32)
  /-- DAYBOOK_BEGIN (R480). -/
  | daybookBegin
  /-- DAYBOOK_COMMIT (R480). -/
  | daybookCommit
  /-- ASSAY_PORT_WRITE (R483). -/
  | assayPortWrite
  /-- ASSAY_PORT_READ (R483). -/
  | assayPortRead
  /-- VMAIN_GLITCH (R490). -/
  | vmainGlitch (e : Excursion)
  /-- CORE_RAIL_GLITCH (R487). -/
  | coreRailGlitch
  /-- XTAL_WINDOW (R489). -/
  | xtalWindow (count : BitVec 16)
  /-- TEMP_SAMPLE (R488). -/
  | tempSample (t : BitVec 16)
  /-- LIGHT_SAMPLE (R487). -/
  | lightSample (n : Fin 16) (lux : Nat)
  /-- SHIELD_MISMATCH (R487). -/
  | shieldMismatch (l0 l1 : Bool)
  /-- MESH_MISMATCH (R487). -/
  | meshMismatch (differs : Bool)
  /-- LID_SWITCH_SAMPLE (R487). -/
  | lidSwitchSample (isOpen : Bool)
  /-- CASE_SAMPLE (R487). -/
  | caseSample (n : Fin 2) (isOpen : Bool)
  /-- LOOP_SAMPLE (R491). -/
  | loopSample (n : Fin 4) (level : Bool)
  /-- EVIDENCE_BURN_DONE (R504). -/
  | evidenceBurnDone
  /-- TMP_RELEASE (R499). -/
  | tmpRelease (i : Initiator)
  /-- L2HOLD_EXPIRY (R499). -/
  | l2holdExpiry
  /-- ZEROIZE_BURN_DONE (R502). -/
  | zeroizeBurnDone
  /-- ZEROIZE_ERASE_DONE (R502). -/
  | zeroizeEraseDone
  /-- ZEROIZE_DONE (R502). -/
  | zeroizeDone
  /-- POR (R510). -/
  | por
  /-- HUR (R534). -/
  | hur
  /-- TMR (R500). -/
  | tmr
  /-- SUPERVISOR_WATCHDOG_WARN (R539). -/
  | supervisorWatchdogWarn
  /-- WDR_S (R512). -/
  | wdrS
  /-- SYS_WDKICK (R539). -/
  | sysWdkick (i : Initiator) (v : Word)
  /-- SWR (R512). -/
  | swr (i : Initiator) (v : Word)
  /-- PIN_RESET (R569). -/
  | pinReset
  /-- PLL_LOCK_LOST (R539). -/
  | pllLockLost
  /-- BOOT_RAILS (R514). -/
  | bootRails (ok : Bool) (count : BitVec 16)
  /-- BOOT_SELFTEST (R514). -/
  | bootSelftest (fails : List (Fin 256))
  /-- BOOT_LIFECYCLE (R522). -/
  | bootLifecycle
  /-- BOOT_NV_RECOVERY (R482). -/
  | bootNvRecovery
  /-- BOOT_IMAGE_SELECT (R515). -/
  | bootImageSelect
  /-- BOOT_RESTORE (R514). -/
  | bootRestore
  /-- HAND_OVER (R299). -/
  | handOver
  /-- ROM_IMG_ERASE (R517). -/
  | romImgErase (d : DmaData)
  /-- ROM_IMG_WRITE (R517). -/
  | romImgWrite (d : DmaData)
  /-- ROM_IMG_CLOSE (R517). -/
  | romImgClose (d : DmaData)
  /-- ROM_UPDATE (R517). -/
  | romUpdate (d : DmaData)
  /-- ROM_TRANSITION (R517). -/
  | romTransition (d : DmaData)
  /-- ROM_RESTART (R517). -/
  | romRestart
  /-- TRANSITION (R521). -/
  | lcsTransition (i : Initiator)
  /-- LIFECYCLE_RESTART (R521). -/
  | lifecycleRestart
  /-- PMU_RUN (R523). -/
  | pmuRun (i : Initiator)
  /-- PMU_DOZE (R523). -/
  | pmuDoze (i : Initiator)
  /-- PMU_SLEEP (R524). -/
  | pmuSleep (i : Initiator)
  /-- SLEEP_ENTER (R524). -/
  | sleepEnter
  /-- PMU_ABORT (R524). -/
  | pmuAbort (i : Initiator)
  /-- PMU_OFF (R528). -/
  | pmuOff (i : Initiator)
  /-- IDLE_ENTRY (R523). -/
  | idleEntry
  /-- WAKE_TIMER (R526). -/
  | wakeTimer
  /-- WAKE (R527). -/
  | pmuWake
  /-- HU_WRITE_READY (R529). -/
  | huWriteReady (mv : BitVec 16)
  /-- HU_BELOW_THRESHOLD (R529). -/
  | huBelowThreshold (mv : BitVec 16)
  /-- HU_CAP_TEST (R530). -/
  | huCapTest
  /-- POWER_FAIL (R531). -/
  | powerFail
  /-- WINDOW_COMPLETE (R534). -/
  | windowComplete
  /-- VMAIN_RETURN (R534). -/
  | vmainReturn
  /-- LSW_ORDER (R535). -/
  | lswOrder (i : Initiator) (v : Word)
  /-- PMU_LSWREQ (R536). -/
  | pmuLswreq (i : Initiator) (v : Word)
  /-- LSW_MAXON_EXPIRY (R536). -/
  | lswMaxonExpiry (n : Fin 4)
  /-- LSW_TRIP (R537). -/
  | lswTrip (n : Option (Fin 4))
  /-- LSW_POL_WRITE (R536). -/
  | lswPolWrite (i : Initiator) (n : Fin 4) (v : Word)
  /-- VBAT_APPLIED (R559). -/
  | vbatApplied
  /-- VBAT_LOSS (R559). -/
  | vbatLoss
  /-- VLOAD_LOSS (R538). -/
  | vloadLoss
  /-- VLOAD_RETURN (R538). -/
  | vloadReturn
  /-- CVCC_LOSS (R561). -/
  | cvccLoss
  /-- CVCC_RETURN (R388). -/
  | cvccReturn
  /-- RAIL_FAULT (R540). -/
  | railFault
  /-- ASPM_STATE_CHANGE (R417). -/
  | aspmStateChange (l1 : Bool)
  /-- D3HOT_EXIT (R415). -/
  | d3hotExit
  /-- BUS_MASTER_DISABLE (R413). -/
  | busMasterDisable
  /-- HU_CHARGE_COMPLETE (R529). -/
  | huChargeComplete (c : Option (BitVec 16))
  /-- HU_CAP_TEST_DONE (R530). -/
  | huCapTestDone (fall : BitVec 16)
  /-- WTX_REQUEST (R393). -/
  | wtxRequest
  /-- FAB_CREDIT_WRITE (R438). -/
  | fabCreditWrite (i : Initiator) (p : Fin 4) (v : Word)
  deriving DecidableEq, Repr

end Sys2Proof
end

