-- ==== Sys2Proof/Config.lean ====
section
/-! DEFINITION. What an implementation of the JQ-4200 fixes, and the free values: constants without a body, so that nothing
can be proved of a value the manual leaves open. -/

namespace Sys2Proof

/-- The device serial, byte by byte (per part). -/
opaque Config.serialByte : Nat → Byte

/-- The contents of the boot ROM (R27), which the manual does not give. -/
opaque Config.bootRom : Nat → Byte

/-- The secret that a region of the PUF array yields under an enrolment (R171): region 0 is S, 1 is I. -/
opaque Config.pufSecret : Nat → Nat → BitVec 256

/-- The vendor's public keys in the boot ROM (R178): 96 bytes of the P-384 key, then 1,952 of the ML-DSA-65 key. -/
opaque Config.vendorKey : Nat → Byte

/-- The vendor region of the sequence memory, slot by slot (R260). -/
opaque Config.vendorSeq : Nat → Word

/-- BNC_VVER of the part (R280). -/
opaque Config.bncVver : Word

/-- The PCI-SIG vendor identifier in the OTP fuses (R412). -/
opaque Config.vendorId : BitVec 16

/-- Whether an image of a partition verifies under the public material of an anchor (R19): the manual gives no image format. -/
opaque Config.imageOk : (part : Nat) → (anchor : Bytes) → (image : Bytes) → Bool

/-- What an image's header gives: 0 the entry address, 1 the stack top, 2 the version, 3 the address it is copied to (R299). -/
opaque Config.imageField : Nat → Bytes → Word

/-- The bytes that the loader of MC puts into its RAMs for an assay image: instruction RAM from 0, data RAM from 0x20000 (R300). -/
opaque Config.assayRam : Bytes → Nat → Byte

/-- A free value of `w` bits: the n-th value that the manual leaves open in a run. -/
opaque Config.free : (w : Nat) → Nat → BitVec w

end Sys2Proof
end

