-- ==== Sys2Proof/Machine/State.lean ====
section
/-! DEFINITION. The state of the JQ-4200 as plain data, the faults and refusals of a step, and the state after reset. -/

namespace Sys2Proof.Machine

open Sys2Proof

/-- A step that stops the machine. -/
inductive Fault where
  /-- Raised by no command of this model: every row of the table has an effect. Safe. -/
  | none
  deriving DecidableEq, Repr

/-- A command the model gives no meaning. -/
inductive Refusal where
  /-- Raised by the dispatch for a row without a meaning yet. Safe. -/
  | notModelled (mnemonic : String)
  deriving DecidableEq, Repr

/-- What the module gives to the outside, or to an initiator that has no register of its own to hold an answer. -/
inductive Msg where
  /-- An MSI-X message on a vector (R56). -/
  | msix (vector : Nat)
  /-- A frame sent on a fabric port (R425, R430). -/
  | fabTx (port : Nat) (bs : Bytes)
  /-- The data of a host memory read (R32). -/
  | hostData (ws : List Word)
  /-- Bytes written to host memory as a bus master (R354). -/
  | hostWrite (addr : Nat) (bs : Bytes)
  /-- The Completer Abort of a host memory read (R32). -/
  | completerAbort
  /-- The value a page read returns to an initiator that is not a core (R36). -/
  | value (w : Word)
  /-- Bytes the sensor port clocks out on a chip select, in an SPI mode (R138). -/
  | spi (cs : Nat) (mode : Nat) (bs : Bytes)
  /-- What the module sends on the contact port: the ATR, a PPS reply, a response with its status words, or a frame (R390 to R411). -/
  | contact (bs : Bytes)
  /-- A refusal told to the initiator (R15). -/
  | refused (i : Initiator)
  deriving DecidableEq, Repr

/-- The event router (R52 to R58): the events in service on AC0, AC1 and MC, the MSI-X pending bits, the messages
sent so far, oldest first, and the notifications the fabric has yet to send, each an event and an address. -/
structure Router where
  svc0 : List Nat
  svc1 : List Nat
  svcM : List Nat
  pba : BitVec 64
  sent : List Msg
  notes : List (Nat × Nat)
  deriving DecidableEq, Repr

/-- The open-drain outputs EVT_N, WAKE_N and CLKREQ_N (R57, R417): true where the pin is driven low. -/
structure Pins where
  evtN : Bool
  wakeN : Bool
  clkreqN : Bool
  deriving DecidableEq, Repr

/-- The PCIe function and link (R414 to R419). The MSI-X table is kept by DWORD of BAR2. -/
structure Pcie where
  perst : Bool
  linkUp : Bool
  d3hot : Bool
  l1 : Bool
  width : Nat
  speed : Nat
  bme : Bool
  msixEn : Bool
  fmask : Bool
  clkPm : Bool
  msixTab : Sparse Word
  deriving DecidableEq, Repr

/-- How a core stands (R292, R295, R301). -/
inductive RunState where
  | held | running | waiting | halted
  deriving DecidableEq, Repr

/-- A store in a store buffer (R296): the address, the bytes, and the domain it was checked under. -/
structure SbEntry where
  addr : Nat
  bytes : Bytes
  dom : Nat
  deriving DecidableEq, Repr

/-- A ticket of a core's ticket table (R326): the domain that took it, the number of its job, and its status once it is done. -/
structure Ticket where
  dom : Nat
  id : Nat
  status : Option Byte
  deriving DecidableEq, Repr

/-- A Narent core (R281, R282, R286, R296, R326). General registers are listed where they are not 0; the gate stack
holds word w of entry e at 4e + w. -/
structure Core where
  run : RunState
  g : Sparse Word
  pc : Word
  psw : Word
  epc : Word
  epsw : Word
  ecause : Word
  eaddr : Word
  vbar : Word
  scratch0 : Word
  scratch1 : Word
  tickH : Word
  gst : Sparse Word
  gdepth : Nat
  sbuf : List SbEntry
  tickets : Sparse (Option Ticket)
  deriving DecidableEq, Repr

/-- The MPU and gate tables (R284, R286, R303): region word w (base, limit, attributes) of region r of domain d at
3 (16 d + r) + w; a stack top of core c for domain d at 64 c + d; gate word w (entry, configuration, callers low and
high) of gate g at 4 g + w. -/
structure Mpu where
  rgn : Sparse Word
  stk : Sparse Word
  gate : Sparse Word
  deriving DecidableEq, Repr

/-- The memories: the SRAM banks by core address, the words whose error is beyond correction, the private RAMs of MC,
the clearing of the banks under way, and whether the boot ROM still runs on AC0 (R27). -/
structure Mem where
  sram : Sparse Byte
  poison : List Nat
  iram : Sparse Byte
  dram : Sparse Byte
  rom : Bool
  deriving DecidableEq, Repr

/-- The metrology controller's tables (R304): enable and level of each event for MC, and the device tick at which its
watchdog was last restarted. -/
structure Mcc where
  evt : Sparse Word
  kickAt : Nat
  deriving DecidableEq, Repr

/-- A fetched descriptor (R359, R364): its channel, its ring index and its 64 bytes. -/
structure Desc where
  ch : Nat
  idx : Nat
  raw : Bytes
  deriving DecidableEq, Repr

/-- A descriptor passed to its unit (R366): `begun` once the unit has taken it up, `at` the device tick of that. -/
structure ActOp where
  d : Desc
  begun : Bool
  at_ : Nat
  deriving DecidableEq, Repr

/-- A completion waiting to be written (R360, R367): channel, tag, whether its descriptor was ordered, status and
bytes 4 to 15. -/
structure Cpl where
  ch : Nat
  tag : Nat
  order : Bool
  status : Nat
  body : Bytes
  deriving DecidableEq, Repr

/-- The ring state of a command channel that no register shows (R357, R364 to R373). Heads, tails and the phase are in
the doorbell page's registers. `toRead` counts the descriptors of the fetch under way. -/
structure Chan where
  release : Nat
  toRead : Nat
  fetched : List Desc
  active : List ActOp
  tokens : Nat
  counted : Nat
  countedAt : Nat
  halted : Bool
  cqwait : Bool
  disabling : Bool
  discard : Bool
  deriving DecidableEq, Repr

/-- A committed packet of a till (R378). -/
structure Packet where
  seq : Nat
  words : List DWord
  deriving DecidableEq, Repr

/-- Who opened a till's open packet (R387). -/
inductive Opener where
  | hw | chan | ac0 | ac1 | mc
  deriving DecidableEq, Repr

/-- A till (R377 to R384): its committed packets, oldest first, the open packet and its opener, reserved words, the next
packet number, the last word taken, and its flags; `since` is the device tick the STALE time counts from. -/
structure Till where
  packets : List Packet
  open_ : List DWord
  opener : Option Opener
  resv : Nat
  next : Nat
  last : DWord
  stale : Bool
  discard : Option Opener
  disabling : Bool
  since : Nat
  deriving DecidableEq, Repr

/-- Where an intake frame came from (R63, R446): a channel with the descriptor's tag, or a fabric port with the origin's
address, transaction number and epoch, and the hops left. -/
inductive FrameSrc where
  | chan (n : Nat) (tag : Nat)
  | fabric (port : Nat) (origin : Nat) (txid : Nat) (epoch : Nat) (ttl : Nat)
  deriving DecidableEq, Repr

/-- A frame presented for admission (R63, R65); `data` holds the frame where it did not come by address. -/
structure FrameReq where
  src : FrameSrc
  dom : Nat
  profile : Nat
  len : Nat
  recEn : Bool
  noFwd : Bool
  frameAddr : Nat
  recAddr : Nat
  recLen : Nat
  data : Option Bytes
  deriving DecidableEq, Repr

/-- How far an admitted frame has come (R68): waiting for its account, holding it with candidates to unwrap, keys loaded,
verified and waiting for the ledger, or ready to commit. -/
inductive FrameStage where
  | waitGate | keys | loaded | ledger | commit
  deriving DecidableEq, Repr

/-- A candidate key of a frame (R90): which entry, and the unwrapped key once KUW has given it. -/
structure Cand where
  entry : Nat
  key : Bytes
  deriving DecidableEq, Repr

/-- An admitted frame in the pipeline (R65 to R99). -/
structure Frame where
  req : FrameReq
  bytes : Bytes
  prof : List Word
  till : Option Nat
  stage : FrameStage
  acct : Nat
  v : Nat
  seq : Nat
  check : Bool
  toUnwrap : List Nat
  cands : List Cand
  lane : Option Nat
  plain : Bytes
  status : Nat
  promoted : Bool
  suspect : Bool
  gap : Bool
  totals : List (Nat × Nat)
  rtc : Nat
  count : Nat
  head : Bytes
  deriving DecidableEq, Repr

/-- A checkpoint page captured and being programmed (R102): the page, the tick at which it was dirtied, and its 256 bytes. -/
structure CkptJob where
  page : Nat
  since : Nat
  bytes : Bytes
  deriving DecidableEq, Repr

/-- The account intake (R63 to R107). `owner` and `staging` are the owner tables by bucket; `heads` the local bucket table
(account + 1, or 0); `dirty` the dirty pages with the tick each was dirtied, earliest first; `first` the pages queued
before all others; `cmd` an account command waiting at the gate; `rr` the place of the
source admitted last (R545). -/
structure Intake where
  reqs : List FrameReq
  frames : List Frame
  owner : Sparse Word
  staging : Sparse Word
  heads : Sparse Nat
  cmd : Option (Nat × Nat)
  dirty : List (Nat × Nat)
  first : List Nat
  ckpt : Option CkptJob
  closed : Bool
  rr : Nat
  deriving DecidableEq, Repr

/-- The life-cycle OTP (R518): SEALED, SCRAPPED, how many ROUND bits are programmed, and the OWN bits. -/
structure Otp where
  sealed_ : Bool
  scrapped : Bool
  round : Nat
  own : List Nat
  deriving DecidableEq, Repr

/-- A tally (R108, R117, R121): its share, the accumulators as integer times 2^48 plus fraction (ERR: times 2^16), and
its update count. -/
structure Tally where
  share : Nat
  pos : Nat
  neg : Nat
  err : Nat
  upd : Nat
  deriving DecidableEq, Repr

/-- The update in the tally ALU (R120): the tally, its share, the slot values it read, whether one of them was stale, and
whether EN is cleared once it ends (R124). -/
structure AluUpd where
  n : Nat
  share : Nat
  b : Nat
  c : Nat
  d : Nat
  stale : Bool
  off : Bool
  deriving DecidableEq, Repr

/-- The tallies, the ALU, the tally served last, the carry of each page's pending preset (R127), the mains cycles taken
(R118), the coefficients (R111) and whether a table CRC runs (R116). -/
structure TalSt where
  tallies : Sparse Tally
  alu : Option AluUpd
  last : Nat
  carry : Sparse Nat
  mainsTaken : Nat
  coef : Sparse Word
  crcBusy : Bool
  deriving DecidableEq, Repr

/-- A sample slot (R134 to R136): value and timestamp, tag, its flags, and the value its tallies have taken (R118). -/
structure Slot where
  value : Nat
  ts : Nat
  tag : Nat
  written : Bool
  fault : Bool
  runfail : Bool
  taken : Option Nat
  deriving DecidableEq, Repr

/-- A value staged by a STORE step (R139): the slot, the step, and the value, or a fault. -/
structure Staged where
  slot : Nat
  step : Nat
  val : Option Nat
  deriving DecidableEq, Repr

/-- The sample slots and the sensor sequencer (R137 to R141): the running program's step, staged values and held selects. -/
structure SnsSt where
  slots : Sparse Slot
  running : Bool
  step : Nat
  staged : List Staged
  cs : List Nat
  deriving DecidableEq, Repr

/-- The axes' hidden state (R147 to R152): the phase of the RTC and of network time, the part of a second a slew has
counted, the tick of the last accepted MAINS edge, and the high words captured by low-word reads. -/
structure AxsSt where
  rtcPhase : Nat
  netPhase : Nat
  rtcSub : Nat
  netSub : Nat
  lastEdge : Option Nat
  latch : Sparse Word
  deriving DecidableEq, Repr

/-- A posting of the current burst (R160): its number, and the round it joined in. -/
structure Due where
  p : Nat
  round : Nat
  deriving DecidableEq, Repr

/-- A capture requested by a CLOSE action (R162, R167). -/
structure CapReq where
  id : Nat
  posting : Nat
  set : Nat
  axis : Nat
  cmp : Nat
  late : Bool
  missed : Nat
  room : Nat
  deriving DecidableEq, Repr

/-- A closing record in the closing store (R166). -/
structure Closing where
  id : Nat
  set : Nat
  bytes : Bytes
  deriving DecidableEq, Repr

/-- The posting calendar (R154 to R168): the posting RAM by 8 p + word, the burst, whether it has started a CLOSE, the
captures requested, the closing store, and the number of the next closing. -/
structure CalSt where
  post : Sparse Word
  burst : List Due
  round : Nat
  closing : Bool
  caps : List CapReq
  store : List Closing
  next : Nat
  deriving DecidableEq, Repr

/-- A seal request (R251): the profile, the posting (0xFFFF for a direct one), whether it fired late and its compare
value, the closing it carries, and the domain that asked. -/
structure SealReq where
  profile : Nat
  posting : Nat
  late : Bool
  cmp : Nat
  closing : Option Nat
  deriving DecidableEq, Repr

/-- The load switches (R535 to R537): the tick at which each last opened, and at which each was last closed. -/
structure LswSt where
  openedAt : Sparse Nat
  closedAt : Sparse Nat
  deriving DecidableEq, Repr

/-- The power states (R523). -/
inductive PMode where
  | run | idle | doze | sleep | off
  deriving DecidableEq, Repr

/-- The supplies and the power state (R523 to R534): VMAIN good and present; whether the service window is open, the tick at which
it opened, whether the reserve was write-ready then, the checkpoints it may still write, whether CKPT_DONE may follow them,
whether it has been written, and whether VMAIN has come back; whether SLEEP is being entered or left, the calendar's wake
timer, and the microseconds asleep; and the codes of the resets that wait (R500, R512). -/
structure Pmu where
  mode : PMode
  vmain : Bool
  window : Bool
  winAt : Nat
  winOk : Bool
  ckpts : Nat
  whole : Bool
  ckptDone : Bool
  back : Bool
  entering : Bool
  waking : Bool
  wakeAt : Option Nat
  slept : Nat
  due : List Nat
  deriving DecidableEq, Repr

/-- A programmed flash page (R458, R463): its 256 data bytes and its tag; an unlisted page is erased. -/
structure FPage where
  data : Bytes
  tag : Bytes
  deriving DecidableEq, Repr

/-- An NV counter (R472): the last base record of the active half, the unary count, and the base slots used. -/
structure Ctr where
  base : Nat
  u : Nat
  uoff : Nat
  slots : Nat
  deriving DecidableEq, Repr

/-- A counter group (R477): the sequence number of its active half, and whether that is half B. -/
structure CtrGroup where
  gseq : Nat
  halfB : Bool
  deriving DecidableEq, Repr

/-- Who asked for NV work (R461, R480): an NVC command, an NVK command on a counter, the assay port, the page buffers, or a
transaction of a source of R479 with its reference. -/
inductive NvSrc where
  | nvc
  | nvk (k : Nat)
  | assay
  | pb
  | txn (source ref : Nat)
  deriving DecidableEq, Repr

/-- One program (R458): a page of a layer with its PFLAGS, an image page in its place, a counter's unary bit, a base record,
or a page of a protected region whose contents the owning block holds. -/
inductive NvWrite where
  | page (r lid flags : Nat) (data : Bytes)
  | image (p : Nat) (f : FPage)
  | unary (k : Nat)
  | base (k v : Nat)
  | held (r : Nat) (copyB : Bool)
  deriving DecidableEq, Repr

/-- NV work under way (R461, R480): the programs still to do; `source` is 0 outside transactions, `txn` 0 before BEGIN. -/
structure NvTask where
  src : NvSrc
  source : Nat
  info : Nat
  txn : Nat
  todo : List NvWrite
  sets : List (Nat × Nat)
  failed : Bool
  deriving DecidableEq, Repr

/-- An erase (R469): the sector, the attempt, and whether an NVC command started it. -/
structure EraseJob where
  sector : Nat
  n : Nat
  cmd : Bool
  deriving DecidableEq, Repr

/-- The NV store (R458 to R483). What survives every reset: pages, uncorrectable pages, region sequence numbers, erase
counts, retired sectors, counters, groups, bindings (slot + 1), committed transactions, the next transaction, daybook and
ledger positions, whether a CKPT_DONE follows the newest START, whether a START exists, and sectors whose erase was cut off.
What does not: tasks, erases, finished transactions with their status, page buffers (least recently written first), a READ
that waits for its bank, an assay command, NVWP_N, and whether the recovery writes of boot step 6 wait for the hold-up reserve. -/
structure NvSt where
  pages : Sparse FPage
  bad : List Nat
  seqs : Sparse Nat
  ecount : Sparse Nat
  retired : List Nat
  ctr : Sparse Ctr
  grp : Sparse CtrGroup
  bound : Sparse Nat
  committed : List Nat
  txn : Nat
  dseq : Nat
  lpos : Sparse Nat
  clean : Bool
  started : Bool
  cut : List Nat
  tasks : List NvTask
  erases : List EraseJob
  done : List (NvSrc × Nat)
  bufs : List (Nat × Bytes)
  readWait : Option Initiator
  assayBusy : Bool
  wp : Bool
  owed : Bool
  deriving DecidableEq, Repr

/-- The background tester (R345, R349): the next region of its cycle (1024 bank + region), and whether the test of the
spares is due. -/
structure BtSt where
  next : Nat
  sparesDue : Bool
  deriving DecidableEq, Repr

/-- Who submitted a job or a vault command (R204, R213, R326): a register of the unit's page, a core by the number of the job and
the address of its block, or a channel by the tag of its descriptor. -/
inductive JobSrc where
  | page
  | cp (c : CoreId) (t : Nat) (addr : Nat)
  | chan (n : Nat) (tag : Nat)
  deriving DecidableEq, Repr

/-- A key of the vault with the fields of its header (R178). -/
structure KeyRec where
  ktype : Nat
  origin : Nat
  auth : Nat
  attr : Nat
  keyId : Nat
  nvctr : Nat
  param : Nat
  mat : Bytes
  deriving DecidableEq, Repr

/-- A slot (R178, R179): its generation, its key, whether it is BAD, and the copy that holds its newest record. -/
structure VSlot where
  gen : Nat
  key : Option KeyRec
  bad : Bool
  copyB : Bool
  deriving DecidableEq, Repr

/-- A session entry (R181, R183). -/
structure Sess where
  gen : Nat
  key : Option KeyRec
  deriving DecidableEq, Repr

/-- The states of the reconstruction that last (R175). -/
inductive PufState where
  | idle | power | read | decode | cool | done | failed | unenrolled
  deriving DecidableEq, Repr

/-- The helper data (R171): the enrolment it belongs to, whether copies A and B have a valid CRC, and whether the region S
part is still there. -/
structure Helper where
  enrol : Nat
  okA : Bool
  okB : Bool
  regionS : Bool
  deriving DecidableEq, Repr

/-- A vault command in the shared queue (R204). -/
structure VReq where
  src : JobSrc
  dom : Nat
  op : Nat
  args : List Nat
  buf : Nat
  obuf : Nat
  olen : Nat
  deriving DecidableEq, Repr

/-- What the vault command in progress waits for: the signatures of a message; the gate of an account; or a transaction,
with the slots it puts in place, the event cause, the handle and the output; or that of an account key. -/
inductive VWork where
  | sigs (msg : Bytes)
  | gate (msg entry : Bytes)
  | slots (put : List (Nat × VSlot)) (cause : Nat) (result : Nat) (out : Bytes)
  | acct (msg : Bytes) (pair : Bytes)
  deriving DecidableEq, Repr

/-- The vault command in progress. -/
structure VJob where
  req : VReq
  work : VWork
  deriving DecidableEq, Repr

/-- The vault (R170 to R206). `hold` is the account whose gate it holds, `refs` numbers its transactions, and `rngStart`
says that the start-up test of the noise source runs. -/
structure VltSt where
  puf : PufState
  attempt : Nat
  helper : Option Helper
  rootS : Bool
  rootI : Bool
  slots : Sparse VSlot
  sess : Sparse Sess
  queue : List VReq
  job : Option VJob
  hold : Option Nat
  refs : Nat
  rngStart : Bool
  deriving DecidableEq, Repr

/-- A working key of a lane (R210, R237, R268): the handle, the fields the lane reports, and the key. -/
structure LKey where
  handle : Nat
  ktype : Nat
  attr : Nat
  acct : Bool
  mat : Bytes
  deriving DecidableEq, Repr

/-- A lane that asks KUW for a key (R185). -/
inductive KeyDest where
  | aes (n : Nat) | hsh (n : Nat) | bne (n : Nat)
  deriving DecidableEq, Repr

/-- A job waiting at a lane (R213, R240, R271): class 0 CHAN, 1 OWNER, 2 D0, 4 ASSAY. -/
structure Job where
  src : JobSrc
  dom : Nat
  cls : Nat
  blk : Bytes
  deriving DecidableEq, Repr

/-- A job that runs or is suspended (R224 to R227): the data bytes done, those done when it last began to run, its token,
its message's context, and whether its key is there. -/
structure RunJob where
  job : Job
  pos : Nat
  began : Nat
  token : Nat
  ctx : Bytes
  ready : Bool
  deriving DecidableEq, Repr

/-- A cipher or hash lane (R210, R224, R240): its queue in arrival order, its suspended jobs, the running job, the working
key, and a CLRKEY that waits for a boundary. -/
structure Lane where
  queue : List Job
  susp : List RunJob
  cur : Option RunJob
  key : Option LKey
  clr : Bool
  deriving DecidableEq, Repr

/-- A workspace register with its tag (R258, R259): its 128 words as one number. -/
structure WReg where
  val : Nat
  written : Bool
  secret : Bool
  dom : Nat
  deriving DecidableEq, Repr

/-- The private hash unit (R262): the mode, what it has absorbed, the SHAKE bytes taken, and whether that is secret. -/
structure HUnit where
  mode : Nat
  msg : Bytes
  out : Nat
  secret : Bool
  deriving DecidableEq, Repr

/-- The job of a big-number lane and its sequencer (R260 to R264): the slot to execute, the return stack, counters, flags,
length, modulus, ring, packing format, hash unit, the output bytes written, the cycles it has taken, and its status once it has
ended. -/
structure BRun where
  job : Job
  ready : Bool
  pc : Nat
  stack : List Nat
  ctr : List Nat
  z : Bool
  c : Bool
  n : Nat
  m : Option Nat
  ring : Nat
  fmt : Nat
  hash : Option HUnit
  out : Nat
  cyc : Nat
  status : Option Nat
  deriving DecidableEq, Repr

/-- A big-number lane (R258, R268, R271). -/
structure BLane where
  queue : List Job
  cur : Option BRun
  key : Option LKey
  regs : Sparse WReg
  clr : Bool
  deriving DecidableEq, Repr

/-- A sign request of the LMS sequencer (R248, R250): its source, domain and job block. -/
structure LReq where
  src : JobSrc
  dom : Nat
  blk : Bytes
  deriving DecidableEq, Repr

/-- The private state of an LMS key (R246, R247): the counter, next, limit, and an advance under way. -/
structure LmsKey where
  c : Nat
  next : Nat
  limit : Nat
  adv : Bool
  deriving DecidableEq, Repr

/-- The sign request in progress: its request, its message, and the index assigned. -/
structure LRun where
  req : LReq
  slot : Nat
  msg : Bytes
  idx : Option Nat
  deriving DecidableEq, Repr

/-- The capture of an account for a seal (R253): the 50 bytes of its leaf. -/
structure SealCap where
  acct : Nat
  leaf : Bytes
  deriving DecidableEq, Repr

/-- The seal in progress (R252): its request, the profile's words, the failing status, captures, ticks, root, number and
signature. -/
structure SealRun where
  req : SealReq
  cfg : Word
  acct : Word
  key : Word
  resv : Nat
  status : Nat
  caps : List SealCap
  tickA : Nat
  tickB : Nat
  root : Option Bytes
  no : Nat
  header : Bytes
  sig : Option Bytes
  deriving DecidableEq, Repr

/-- The lanes and the LMS sequencer: the requests that wait for KUW, the token counters, the user region of the sequence
memory, and the sign requests. -/
structure LanesSt where
  kuw : List (KeyDest × Nat × Nat)
  aes : Sparse Lane
  hsh : Sparse Lane
  bne : Sparse BLane
  aesTok : Nat
  hshTok : Nat
  seq : Sparse Word
  bncCrc : Option Nat
  lmsQ : List LReq
  lmsRun : Option LRun
  lmsKeys : Sparse LmsKey
  sealing : Option SealRun
  deriving DecidableEq, Repr

/-- The states of a fabric port (R423). -/
inductive LState where
  | disabled | detect | hsk | active | holdoff
  deriving DecidableEq, Repr

/-- A LINK or ROUTED frame without its link fields (R425, R426): KIND, MSG, ASG, DST, SRC, TTL and its payload. -/
structure FMsg where
  kind : Nat
  msg : Nat
  asg : Bool
  dst : Nat
  src : Nat
  ttl : Nat
  body : Bytes
  deriving DecidableEq, Repr

/-- A frame that waits to be sent; a SEND names its channel and tag, to complete when the frame is sent (R454). -/
structure FTx where
  m : FMsg
  note : Option (Nat × Nat)
  deriving DecidableEq, Repr

/-- A frame in a port's receive buffer; `here` once routing has found that it is for this device (R441). -/
structure FRx where
  m : FMsg
  units : Nat
  here : Bool
  deriving DecidableEq, Repr

/-- A handshake (R430): both OFFERs, the ephemeral ECDH scalar and ML-KEM seed, the handles of their session entries, INIT and
REPLY, T2, the message to be checked, the own message sent last, and the timeouts so far. -/
structure Hsk where
  own : Bytes
  peer : Option Bytes
  scalar : Nat
  seed : Bytes
  eph : List Nat
  init : Bytes
  reply : Bytes
  t2 : Bytes
  todo : Bool
  sent : Bytes
  tries : Nat
  deriving DecidableEq, Repr

/-- A fabric port (R423 to R438): its state and role in the handshake, the handle of the link key, both frame counters, the next
SEQ and E, the replay buffer, the frames that wait, credits to use (reliable and best effort), the partner's figures and the credits to return, retransmission rounds,
the ticks of tag failures, the receive buffer, a pending acknowledgement and NAK, and whether a stall has been reported. `heard`
says that a protected frame has been received. -/
structure FPort where
  st : LState
  initiator : Bool
  heard : Bool
  hsk : Option Hsk
  handle : Nat
  tx : Nat
  last : Nat
  seq : Nat
  exp : Nat
  replay : List (Nat × FMsg)
  queue : List FTx
  rel : Nat
  be : Nat
  pRel : Nat
  pBe : Nat
  retRel : Nat
  retBe : Nat
  rounds : Nat
  fails : List Nat
  rx : List FRx
  ackDue : Bool
  nak : Bool
  stalled : Bool
  deriving DecidableEq, Repr

/-- What a transaction is for: a forwarded frame's descriptor with the frame's sequence, a clearing step, a QUERY descriptor, or nothing that waits. -/
inductive TxUse where
  | intake (n tag seq : Nat)
  | clear (n tag : Nat)
  | query (n tag : Nat)
  | none
  deriving DecidableEq, Repr

/-- An outstanding transaction (R448): its TXID, destination, MSG, payload, purpose and resends so far. -/
structure FTxn where
  txid : Nat
  dst : Nat
  msg : Nat
  body : Bytes
  use : TxUse
  tries : Nat
  deriving DecidableEq, Repr

/-- An entry of the dedup cache (R449): in progress, or with its response and the tick of it. -/
structure Dedup where
  src : Nat
  txid : Nat
  resp : Option Bytes
  at_ : Nat
  deriving DecidableEq, Repr

/-- A remote operation that waits for its account's gate (R450); `wire` where it came over the fabric. -/
structure FOp where
  wire : Bool
  src : Nat
  txid : Nat
  epoch : Nat
  dom : Nat
  op : Nat
  arg : Nat
  body : Bytes
  deriving DecidableEq, Repr

/-- A lease (R451): its number, meter address, account and expiry tick, and the staged record where this device is T. -/
structure Lease where
  num : Nat
  addr : Bytes
  acct : Nat
  staged : Option Bytes
  till : Nat
  deriving DecidableEq, Repr

/-- A clearing transaction (R453): its descriptor, devices and accounts, the step under way (1 to 4), the leases and the record. -/
structure FClear where
  n : Nat
  tag : Nat
  srcDev : Nat
  srcAcct : Nat
  dstDev : Nat
  dstAcct : Nat
  ms : Nat
  phase : Nat
  leaseS : Nat
  leaseT : Nat
  record : Bytes
  deriving DecidableEq, Repr

/-- The fabric (R422 to R457): the ports, transactions, dedup cache, operations at the gate, leases and clearings, the TXID counter
(none before it starts), the broadcast counter, the last counter kept of each node (+ 1), and whether a foreign epoch has been reported
since the last swap. -/
structure FabSt where
  ports : Sparse FPort
  txns : List FTxn
  dedup : List Dedup
  ops : List FOp
  leases : List Lease
  clears : List FClear
  txid : Option Nat
  bctr : Nat
  bseen : Sparse Nat
  epSeen : Bool
  deriving DecidableEq, Repr

/-- The lock record (R399), which the NV store keeps: the hash of a password held, FAILS, PSEQ and PSTAT. -/
structure LockRec where
  hash : Option Bytes
  fails : Nat
  pseq : Nat
  pstat : Nat
  deriving DecidableEq, Repr

/-- A persistent command that runs (R400, R403, R404): its code and data, its final status, the lock record that its transaction
writes, whether that is the second transaction of a matching UNLOCK, and whether the host still waits for the answer. -/
structure CptJob where
  code : Nat
  data : Bytes
  status : Nat
  next : LockRec
  second : Bool
  asked : Bool
  deriving DecidableEq, Repr

/-- The contact port (R388 to R411): the levels of CRST_N and of its supply, whether it chooses its mode, whether it won the last
arbitration, the tick of a SWITCH that waits for CHECK, the tick of the last password failure, the hint of the last
BUSY_RETRY, the persistent command, the lock record, and the numbers of its transactions. -/
structure CptSt where
  crst : Bool
  power : Bool
  choosing : Bool
  armed : Bool
  swAt : Option Nat
  failAt : Nat
  retry : Nat
  job : Option CptJob
  lockRec : LockRec
  refs : Nat
  deriving DecidableEq, Repr

/-- An evidence bit being burned (R495, R504): the source of the event and its applied level, whose further actions wait. -/
structure EvBurn where
  src : Nat
  level : Nat
  deriving DecidableEq, Repr

/-- An entry of the tamper log (R505): the source, the level, the merged events, whether it was detected in OFF, and the RTC axis
at its first event. -/
structure TLog where
  src : Nat
  level : Nat
  count : Nat
  off : Bool
  rtc : Nat
  deriving DecidableEq, Repr

/-- The states of zeroization that last (R502). -/
inductive ZState where
  | idle | burn | erase | tail
  deriving DecidableEq, Repr

/-- The tamper unit (R487 to R507): the start of each filter's window in µs, the evidence bits to burn, the tick of the last level-2
event and the sources of those since the halt began, zeroization and its VBAT latch, the evidence counters of the OTP, the log,
newest first, and the registers of the wire loops. -/
structure TmpSt where
  start : Sparse Nat
  burns : List EvBurn
  since : Nat
  l2src : List Nat
  zero : ZState
  zpend : Bool
  evid : Sparse Nat
  log : List TLog
  lfsr : Sparse Nat
  deriving DecidableEq, Repr

/-- A transition record of the system records (R521): the code of the state it leaves and OP, the state it leads to, the authority's
counter and its new value, the anchor that a CLAIM carries across, and whether its OTP bits are burned. -/
structure LcsRec where
  op : Nat
  target : Nat
  ctr : Option (Nat × Nat)
  anchor : List (Nat × KeyRec)
  burned : Bool
  deriving DecidableEq, Repr

/-- The boot ROM and the loader of MC (R514 to R517): the steps to come, the reset code, ROM service and the words its mailbox has
taken, the tick of rails good, the flags of the hand-over block, whether the path is that of a wake, the supervisor's entry, stack
top and version, the tick at which the supervisor watchdog was last restarted, whether the loader of MC runs, and whether a lockstep mismatch caused its run. -/
structure BootSt where
  steps : List Nat
  code : Nat
  rom : Bool
  mail : List Word
  rails : Nat
  flags : Nat
  warm : Bool
  entry : Word
  stack : Word
  version : Word
  kickAt : Nat
  loading : Bool
  lockstep : Bool
  deriving DecidableEq, Repr

/-- The end of a core's job that has yet to reach the banks (R327): the core, the job's number, the block's address, the completion's
offset, the job's domain, the status and bytes 4 to 15. -/
structure TickEnd where
  core : CoreId
  id : Nat
  block : Nat
  off : Nat
  dom : Nat
  status : Nat
  body : Bytes
  deriving DecidableEq, Repr


/-- The state. `regs` holds the page registers by 4096 page + offset, each listed where it differs from its reset value;
`shadow` the inverted copies of the RWS registers, listed where they differ from the inverse of the reset value. `fresh`
is the model's own counter of free values taken so far. `out` holds what was given to the outside, oldest first. -/
structure State where
  pending : List Instr
  regs : Sparse Word
  shadow : Sparse Word
  tick : Nat
  fresh : Nat
  out : List Msg
  router : Router
  pins : Pins
  pcie : Pcie
  ac0 : Core
  ac1 : Core
  mc : Core
  mpu : Mpu
  mem : Mem
  mcc : Mcc
  enOff : List Nat
  chans : Sparse Chan
  cplq : List Cpl
  tills : Sparse Till
  intake : Intake
  otp : Otp
  held : List Msg
  tal : TalSt
  sns : SnsSt
  axs : AxsSt
  cal : CalSt
  seals : List SealReq
  lsw : LswSt
  pmu : Pmu
  nv : NvSt
  bt : BtSt
  vlt : VltSt
  lanes : LanesSt
  fab : FabSt
  cpt : CptSt
  tmp : TmpSt
  lcs : Option LcsRec
  boot : BootSt
  tickq : List TickEnd
  deriving DecidableEq, Repr

/-- A core in reset (R299, R301). -/
def Core.zero : Core :=
  { run := .held, g := [], pc := 0#32, psw := 0#32, epc := 0#32, epsw := 0#32, ecause := 0#32, eaddr := 0#32,
    vbar := 0#32, scratch0 := 0#32, scratch1 := 0#32, tickH := 0#32, gst := [], gdepth := 0, sbuf := [], tickets := [] }

/-- The state after reset: AC0 runs the boot ROM in D0, AC1 and MC are held, and every register and table is at its
reset value. -/
def State.reset : State :=
  { pending := [], regs := [], shadow := [], tick := 0, fresh := 0, out := [],
    router := { svc0 := [], svc1 := [], svcM := [], pba := 0#64, sent := [], notes := [] },
    pins := { evtN := false, wakeN := false, clkreqN := true },
    pcie := { perst := true, linkUp := false, d3hot := false, l1 := false, width := 0, speed := 0, bme := false,
              msixEn := false, fmask := false, clkPm := false, msixTab := [] },
    ac0 := { Core.zero with run := .running }, ac1 := Core.zero, mc := { Core.zero with psw := 0x00010000#32 },
    mpu := { rgn := [], stk := [], gate := [] },
    mem := { sram := [], poison := [], iram := [], dram := [], rom := true },
    mcc := { evt := [], kickAt := 0 },
    enOff := [],
    chans := [],
    cplq := [],
    tills := [],
    intake := { reqs := [], frames := [], owner := [], staging := [], heads := [], cmd := none, dirty := [], first := [], ckpt := none, closed := false, rr := 67 },
    otp := { sealed_ := false, scrapped := false, round := 0, own := [] },
    held := [],
    tal := { tallies := [], alu := none, last := 255, carry := [], mainsTaken := 0, coef := [], crcBusy := false },
    sns := { slots := [], running := false, step := 0, staged := [], cs := [] },
    axs := { rtcPhase := 0, netPhase := 0, rtcSub := 0, netSub := 0, lastEdge := none, latch := [] },
    cal := { post := [], burst := [], round := 0, closing := false, caps := [], store := [], next := 0 },
    seals := [],
    lsw := { openedAt := [], closedAt := [] },
    pmu := { mode := .run, vmain := true, window := false, winAt := 0, winOk := false, ckpts := 0, whole := false, ckptDone := false, back := false, entering := false, waking := false, wakeAt := none, slept := 0, due := [] },
    nv := { pages := [], bad := [], seqs := [], ecount := [], retired := [], ctr := [], grp := [], bound := [], committed := [], txn := 1, dseq := 0, lpos := [], clean := false, started := false, cut := [], tasks := [], erases := [], done := [], bufs := [], readWait := none, assayBusy := false, wp := false, owed := false },
    bt := { next := 0, sparesDue := false },
    vlt := { puf := .idle, attempt := 0, helper := none, rootS := false, rootI := false, slots := [], sess := [], queue := [], job := none, hold := none, refs := 0, rngStart := true },
    lanes := { kuw := [], aes := [], hsh := [], bne := [], aesTok := 1, hshTok := 1, seq := [], bncCrc := none, lmsQ := [], lmsRun := none, lmsKeys := [], sealing := none },
    fab := { ports := [], txns := [], dedup := [], ops := [], leases := [], clears := [], txid := none, bctr := 0, bseen := [], epSeen := false },
    cpt := { crst := false, power := false, choosing := false, armed := false, swAt := none, failAt := 0, retry := 0, job := none, lockRec := { hash := none, fails := 0, pseq := 0, pstat := 0 }, refs := 0 },
    tmp := { start := [], burns := [], since := 0, l2src := [], zero := .idle, zpend := false, evid := [], log := [], lfsr := [] },
    lcs := none,
    boot := { steps := [1, 2, 3, 4, 5, 6, 7, 8, 9], code := 1, rom := false, mail := [], rails := 0, flags := 0, warm := false, entry := 0#32, stack := 0#32, version := 0#32, kickAt := 0, loading := false, lockstep := false },
    tickq := [] }

end Sys2Proof.Machine
end

