-- ==== Sys2Proof/Machine/Regs.lean ====
section
/-! DEFINITION. The register map: one row per register of the block-specific tables of the manual (R75 to R542), with its
place, its access code (R36), its reset value and the bits a write can change (R39); the page map (R34); and the address of
each register by name. -/

namespace Sys2Proof.Machine

open Sys2Proof

/-- The access codes of R36. -/
inductive Code where
  | rw | ro | wo | w1c | w1s | rwl | rws | rwm
  deriving DecidableEq, Repr

/-- A row of a page's register table: the first page and how many pages hold it, the offset of its first instance, how many
instances and their distance, its code, its reset value and the bits that are not reserved. -/
structure RegRow where
  page : Nat
  pages : Nat
  off : Nat
  count : Nat
  stride : Nat
  code : Code
  reset : Word
  mask : Word
  deriving DecidableEq, Repr

/-- Who owns a page (R34). -/
inductive PageOwner where
  | d0 | d1 | assigned | doorbell | host
  deriving DecidableEq, Repr

/-- A row of the page map (R34) with the fields of CAPS its chapter gives. -/
structure PageRow where
  page : Nat
  pages : Nat
  typeCode : Nat
  owner : PageOwner
  errEvent : Nat
  engine : Bool
  lanes : Nat
  evtBase : Nat
  evtStride : Nat
  rwsRegs : Nat
  ctrlBlock : Nat
  deriving DecidableEq, Repr

/-- Rows of the register map, part 0. -/
def regRows0 : List RegRow := [
  ⟨0x3, 1, 0x80, 1, 4, .ro, 0x0#32, 0xFFFFFFFF#32⟩,
  ⟨0x3, 1, 0x84, 1, 4, .ro, 0x0#32, 0xFFFFFFFF#32⟩,
  ⟨0x3, 1, 0x88, 1, 4, .wo, 0x0#32, 0x3FF#32⟩,
  ⟨0x3, 1, 0x8C, 1, 4, .wo, 0x0#32, 0x3FF#32⟩,
  ⟨0x3, 1, 0x90, 1, 4, .rwl, 0x0#32, 0x1#32⟩,
  ⟨0x3, 1, 0x94, 1, 4, .rwl, 0xFFFF#32, 0xFFFF#32⟩,
  ⟨0x3, 1, 0x100, 32, 4, .ro, 0x0#32, 0xFFFFFFFF#32⟩,
  ⟨0x3, 1, 0x180, 1, 4, .w1s, 0x0#32, 0xFFFF#32⟩,
  ⟨0x3, 1, 0x184, 1, 4, .w1c, 0x0#32, 0xFFFF#32⟩,
  ⟨0x3, 1, 0x1C0, 4, 4, .ro, 0x0#32, 0xFFFFFFFF#32⟩,
  ⟨0x3, 1, 0x800, 512, 4, .rwl, 0x0#32, 0xFFFFFFFF#32⟩,
  ⟨0x19, 1, 0x80, 1, 4, .ro, 0x0#32, 0xFFFFFFFF#32⟩,
  ⟨0x19, 1, 0x800, 32, 64, .rwl, 0x0#32, 0xF0FF0000#32⟩,
  ⟨0x19, 1, 0x804, 32, 64, .rwl, 0x0#32, 0xFFFFE000#32⟩,
  ⟨0x19, 1, 0x808, 32, 64, .rwl, 0x0#32, 0xFFFFFF00#32⟩,
  ⟨0x19, 1, 0x80C, 32, 64, .rwl, 0x0#32, 0xFF800000#32⟩,
  ⟨0x19, 1, 0x810, 32, 64, .rwl, 0x0#32, 0xF0FFFFFF#32⟩,
  ⟨0x19, 1, 0x818, 32, 64, .rwl, 0x0#32, 0xF0FFFFFF#32⟩,
  ⟨0x19, 1, 0x820, 32, 64, .rwl, 0x0#32, 0xF0FFFFFF#32⟩,
  ⟨0x19, 1, 0x828, 32, 64, .rwl, 0x0#32, 0xF0FFFFFF#32⟩,
  ⟨0x19, 1, 0x814, 32, 64, .rwl, 0x0#32, 0xFFFFFFFF#32⟩,
  ⟨0x19, 1, 0x81C, 32, 64, .rwl, 0x0#32, 0xFFFFFFFF#32⟩,
  ⟨0x19, 1, 0x824, 32, 64, .rwl, 0x0#32, 0xFFFFFFFF#32⟩,
  ⟨0x19, 1, 0x82C, 32, 64, .rwl, 0x0#32, 0xFFFFFFFF#32⟩,
  ⟨0x19, 1, 0x830, 32, 64, .rwl, 0x0#32, 0x8000007F#32⟩,
  ⟨0x1A, 1, 0x80, 1, 4, .rwl, 0x0#32, 0x1#32⟩,
  ⟨0x1A, 1, 0x84, 1, 4, .ro, 0x0#32, 0xFFFFFFFF#32⟩,
  ⟨0x1A, 1, 0x88, 1, 4, .ro, 0x0#32, 0xFFFFFFFF#32⟩,
  ⟨0x1A, 1, 0x8C, 1, 4, .rw, 0x0#32, 0xFFFFFFFF#32⟩,
  ⟨0x1A, 1, 0x90, 1, 4, .rw, 0x0#32, 0xC000FFFF#32⟩]

/-- Rows of the register map, part 1. -/
def regRows1 : List RegRow := [
  ⟨0x1A, 1, 0x94, 1, 4, .rw, 0x0#32, 0x80FF#32⟩,
  ⟨0x1A, 1, 0x98, 1, 4, .w1s, 0x0#32, 0x1#32⟩,
  ⟨0x1A, 1, 0x9C, 1, 4, .rw, 0x0#32, 0x7FF#32⟩,
  ⟨0x1A, 1, 0xA0, 1, 4, .ro, 0x0#32, 0xFFFFFFFF#32⟩,
  ⟨0x1A, 1, 0xA4, 1, 4, .rw, 0x0#32, 0xFFFFFFFF#32⟩,
  ⟨0x1A, 1, 0xA8, 1, 4, .rw, 0x0#32, 0xFFFFFFFF#32⟩,
  ⟨0x1A, 1, 0xAC, 1, 4, .ro, 0x0#32, 0xFFFFFFFF#32⟩,
  ⟨0x18, 1, 0x80, 1, 4, .rwl, 0x0#32, 0xFF#32⟩,
  ⟨0x18, 1, 0x84, 1, 4, .rwl, 0xA20#32, 0xFF3F#32⟩,
  ⟨0x18, 1, 0x88, 1, 4, .rwl, 0x40#32, 0xFFFF#32⟩,
  ⟨0x18, 1, 0x8C, 1, 4, .rw, 0x10#32, 0xFFFF#32⟩,
  ⟨0x18, 1, 0x90, 1, 4, .ro, 0x0#32, 0xFFFFFFFF#32⟩,
  ⟨0x18, 1, 0x94, 1, 4, .ro, 0x0#32, 0xFFFFFFFF#32⟩,
  ⟨0x18, 1, 0x98, 1, 4, .wo, 0x0#32, 0xF00003FF#32⟩,
  ⟨0x18, 1, 0x9C, 1, 4, .ro, 0x0#32, 0xFFFFFFFF#32⟩,
  ⟨0x18, 1, 0xA0, 4, 4, .rw, 0x0#32, 0xFFFFFFFF#32⟩,
  ⟨0x18, 1, 0x100, 32, 4, .ro, 0x0#32, 0xFFFFFFFF#32⟩,
  ⟨0x18, 1, 0x180, 10, 4, .ro, 0x0#32, 0xFFFFFFFF#32⟩,
  ⟨0x20, 4, 0x80, 1, 4, .rwm, 0x0#32, 0x3F#32⟩,
  ⟨0x20, 4, 0x84, 1, 4, .ro, 0x0#32, 0xFFFFFFFF#32⟩,
  ⟨0x20, 4, 0x88, 3, 4, .ro, 0x0#32, 0xFFFFFFFF#32⟩,
  ⟨0x20, 4, 0x94, 2, 4, .ro, 0x0#32, 0xFFFFFFFF#32⟩,
  ⟨0x20, 4, 0x9C, 3, 4, .ro, 0x0#32, 0xFFFFFFFF#32⟩,
  ⟨0x20, 4, 0xA8, 2, 4, .ro, 0x0#32, 0xFFFFFFFF#32⟩,
  ⟨0x20, 4, 0xB0, 3, 4, .ro, 0x0#32, 0xFFFFFFFF#32⟩,
  ⟨0x20, 4, 0xBC, 1, 4, .ro, 0x0#32, 0xFFFFFFFF#32⟩,
  ⟨0x20, 4, 0xC0, 2, 4, .ro, 0x0#32, 0xFFFFFFFF#32⟩,
  ⟨0x20, 4, 0xC8, 1, 4, .ro, 0x0#32, 0xFFFFFFFF#32⟩,
  ⟨0x20, 4, 0xCC, 1, 4, .ro, 0x0#32, 0xFFFFFFFF#32⟩,
  ⟨0x20, 4, 0xD0, 1, 4, .rwm, 0x0#32, 0x33F#32⟩]

/-- Rows of the register map, part 2. -/
def regRows2 : List RegRow := [
  ⟨0x20, 4, 0xD4, 1, 4, .ro, 0x0#32, 0xFFFFFFFF#32⟩,
  ⟨0x20, 4, 0xD8, 3, 4, .rwm, 0x0#32, 0xFFFFFFFF#32⟩,
  ⟨0x20, 4, 0xE4, 3, 4, .ro, 0x0#32, 0xFFFFFFFF#32⟩,
  ⟨0x20, 1, 0xF0, 1, 4, .ro, 0x0#32, 0xFFFFFFFF#32⟩,
  ⟨0x20, 4, 0x100, 64, 16, .rwm, 0x0#32, 0xE0FFBF00#32⟩,
  ⟨0x20, 4, 0x104, 64, 16, .rwm, 0x0#32, 0xFFFFFF#32⟩,
  ⟨0x20, 4, 0x108, 64, 16, .rwm, 0x0#32, 0x7F7F#32⟩,
  ⟨0x20, 4, 0x10C, 64, 16, .rwm, 0x0#32, 0xFFFFFFFF#32⟩,
  ⟨0x20, 4, 0x500, 64, 4, .ro, 0x0#32, 0xFFFFFFFF#32⟩,
  ⟨0x20, 4, 0x600, 64, 4, .w1c, 0x0#32, 0x3F#32⟩,
  ⟨0x20, 4, 0x700, 64, 4, .rwm, 0x0#32, 0x3F#32⟩,
  ⟨0x20, 4, 0x800, 64, 4, .ro, 0x0#32, 0xFFFFFFFF#32⟩,
  ⟨0x20, 4, 0x900, 64, 4, .w1s, 0x0#32, 0x3F#32⟩,
  ⟨0x24, 1, 0x80, 1, 4, .rwm, 0x0#32, 0x80001FFF#32⟩,
  ⟨0x24, 1, 0x84, 1, 4, .rwm, 0x0#32, 0xFFFFFFFF#32⟩,
  ⟨0x24, 1, 0x88, 1, 4, .rwm, 0x0#32, 0x3F#32⟩,
  ⟨0x24, 1, 0x8C, 1, 4, .ro, 0x0#32, 0xFFFFFFFF#32⟩,
  ⟨0x24, 1, 0x100, 64, 8, .rwm, 0x0#32, 0x9F00FFFF#32⟩,
  ⟨0x24, 1, 0x104, 64, 8, .rwm, 0x0#32, 0xFFFFFFFF#32⟩,
  ⟨0x26, 1, 0x80, 1, 4, .w1c, 0x0#32, 0xFFFFFFFF#32⟩,
  ⟨0x26, 1, 0x84, 1, 4, .ro, 0x0#32, 0xFFFFFFFF#32⟩,
  ⟨0x26, 1, 0x100, 32, 4, .rwm, 0x0#32, 0xF8000000#32⟩,
  ⟨0x26, 1, 0x200, 32, 4, .ro, 0x0#32, 0xFFFFFFFF#32⟩,
  ⟨0x26, 1, 0x300, 32, 4, .ro, 0x0#32, 0xFFFFFFFF#32⟩,
  ⟨0x26, 1, 0x400, 32, 4, .rwm, 0x0#32, 0xFFFFFFFF#32⟩,
  ⟨0x27, 1, 0x80, 1, 4, .rwm, 0x27#32, 0xFF#32⟩,
  ⟨0x27, 1, 0x84, 1, 4, .rwm, 0x3E8#32, 0xFFFFF#32⟩,
  ⟨0x27, 1, 0x88, 1, 4, .ro, 0x0#32, 0xFFFFFFFF#32⟩,
  ⟨0x27, 1, 0x8C, 1, 4, .ro, 0x0#32, 0xFFFFFFFF#32⟩,
  ⟨0x27, 1, 0x90, 1, 4, .rwm, 0x0#32, 0xFF#32⟩]

/-- Rows of the register map, part 3. -/
def regRows3 : List RegRow := [
  ⟨0x27, 1, 0x94, 2, 4, .ro, 0x0#32, 0xFFFFFFFF#32⟩,
  ⟨0x27, 1, 0x9C, 2, 4, .ro, 0x0#32, 0xFFFFFFFF#32⟩,
  ⟨0x27, 1, 0xA4, 1, 4, .ro, 0x0#32, 0xFFFFFFFF#32⟩,
  ⟨0x27, 1, 0xA8, 2, 4, .rwm, 0x0#32, 0xFFFFFFFF#32⟩,
  ⟨0x27, 1, 0xB0, 1, 4, .rwm, 0x0#32, 0xFF#32⟩,
  ⟨0x27, 1, 0xB4, 1, 4, .ro, 0x0#32, 0xFFFFFFFF#32⟩,
  ⟨0x27, 1, 0xE0, 8, 4, .ro, 0x0#32, 0xFFFFFFFF#32⟩,
  ⟨0x27, 1, 0x100, 64, 4, .rwm, 0x0#32, 0xFFFFFFFF#32⟩,
  ⟨0x27, 1, 0x200, 64, 4, .ro, 0x0#32, 0xFFFFFFFF#32⟩,
  ⟨0x27, 1, 0x400, 256, 4, .rwm, 0x0#32, 0xFFFFFFFF#32⟩,
  ⟨0x27, 1, 0x800, 256, 4, .rwm, 0x0#32, 0xF3FFFFFF#32⟩,
  ⟨0x27, 1, 0xC00, 256, 4, .ro, 0x0#32, 0xFFFFFFFF#32⟩,
  ⟨0x25, 1, 0x80, 1, 4, .rwm, 0x0#32, 0xF8000FFF#32⟩,
  ⟨0x25, 1, 0x84, 1, 4, .ro, 0x0#32, 0xFFFFFFFF#32⟩,
  ⟨0x25, 1, 0x88, 1, 4, .rwm, 0x0#32, 0x80007FFF#32⟩,
  ⟨0x25, 1, 0x8C, 1, 4, .rwm, 0x0#32, 0xFFFFFFFF#32⟩,
  ⟨0x25, 1, 0x90, 1, 4, .ro, 0x0#32, 0xFFFFFFFF#32⟩,
  ⟨0x25, 1, 0x94, 1, 4, .rwm, 0x0#32, 0xFFFF#32⟩,
  ⟨0x25, 1, 0x98, 1, 4, .ro, 0x0#32, 0xFFFFFFFF#32⟩,
  ⟨0x25, 1, 0x9C, 1, 4, .ro, 0x4000000#32, 0xFFFFFFFF#32⟩,
  ⟨0x25, 1, 0xA0, 1, 4, .w1c, 0x0#32, 0xFFFFFFFF#32⟩,
  ⟨0x25, 1, 0xA8, 1, 4, .rwm, 0x0#32, 0xFFFFFFFF#32⟩,
  ⟨0x25, 1, 0xB0, 2, 4, .ro, 0x0#32, 0xFFFFFFFF#32⟩,
  ⟨0x25, 1, 0xB8, 1, 4, .w1s, 0x0#32, 0xFFFFFFFF#32⟩,
  ⟨0x25, 1, 0xC0, 1, 4, .rwm, 0x0#32, 0x3FF#32⟩,
  ⟨0x25, 1, 0xC4, 1, 4, .ro, 0x0#32, 0xFFFFFFFF#32⟩,
  ⟨0x25, 1, 0xC8, 2, 4, .ro, 0x0#32, 0xFFFFFFFF#32⟩,
  ⟨0x25, 1, 0x400, 128, 4, .rwm, 0x0#32, 0xFFFFFFFF#32⟩,
  ⟨0x25, 1, 0x600, 16, 4, .rwm, 0x0#32, 0x8000007F#32⟩,
  ⟨0x28, 1, 0x80, 2, 4, .ro, 0x0#32, 0xFFFFFFFF#32⟩]

/-- Rows of the register map, part 4. -/
def regRows4 : List RegRow := [
  ⟨0x28, 1, 0x88, 2, 4, .rwm, 0x0#32, 0xFFFFFFFF#32⟩,
  ⟨0x28, 1, 0x90, 1, 4, .rwm, 0x0#32, 0x40000000#32⟩,
  ⟨0x28, 1, 0x94, 1, 4, .rwm, 0x0#32, 0xFFFFFFFF#32⟩,
  ⟨0x28, 1, 0xA0, 2, 4, .ro, 0x0#32, 0xFFFFFFFF#32⟩,
  ⟨0x28, 1, 0xA8, 2, 4, .rwm, 0x0#32, 0xFFFFFFFF#32⟩,
  ⟨0x28, 1, 0xB0, 1, 4, .rwm, 0x0#32, 0x40000000#32⟩,
  ⟨0x28, 1, 0xB4, 1, 4, .rwm, 0x0#32, 0x80000000#32⟩,
  ⟨0x28, 1, 0xB8, 1, 4, .ro, 0x0#32, 0xFFFFFFFF#32⟩,
  ⟨0x28, 1, 0xC0, 2, 4, .ro, 0x0#32, 0xFFFFFFFF#32⟩,
  ⟨0x28, 1, 0xC8, 2, 4, .rwm, 0x0#32, 0xFFFFFFFF#32⟩,
  ⟨0x28, 1, 0xD0, 1, 4, .rwm, 0x0#32, 0x40000000#32⟩,
  ⟨0x28, 1, 0xD4, 1, 4, .rwm, 0x0#32, 0xFFFFFFFF#32⟩,
  ⟨0x28, 1, 0xE0, 1, 4, .ro, 0x0#32, 0xFFFFFFFF#32⟩,
  ⟨0x5, 1, 0x80, 1, 4, .wo, 0x0#32, 0xFF000000#32⟩,
  ⟨0x5, 1, 0x84, 1, 4, .ro, 0x0#32, 0xFFFFFFFF#32⟩,
  ⟨0x5, 1, 0x88, 4, 4, .rw, 0x0#32, 0xFFFFFFFF#32⟩,
  ⟨0x5, 1, 0x98, 1, 4, .rw, 0x0#32, 0xFFFFFFFF#32⟩,
  ⟨0x5, 1, 0x9C, 1, 4, .rw, 0x0#32, 0xFFFFFFFF#32⟩,
  ⟨0x5, 1, 0xA0, 1, 4, .rw, 0x0#32, 0xFFFF#32⟩,
  ⟨0x5, 1, 0xA4, 1, 4, .ro, 0x0#32, 0xFFFFFFFF#32⟩,
  ⟨0x5, 1, 0xA8, 1, 4, .ro, 0x0#32, 0xFFFFFFFF#32⟩,
  ⟨0x5, 1, 0xAC, 1, 4, .ro, 0x0#32, 0xFFFFFFFF#32⟩,
  ⟨0x5, 1, 0xB0, 1, 4, .ro, 0x0#32, 0xFFFFFFFF#32⟩,
  ⟨0x5, 1, 0xB4, 1, 4, .ro, 0x0#32, 0xFFFFFFFF#32⟩,
  ⟨0x5, 1, 0xB8, 1, 4, .ro, 0x0#32, 0xFFFFFFFF#32⟩,
  ⟨0x5, 1, 0xC0, 1, 4, .rw, 0x0#32, 0xFF#32⟩,
  ⟨0x5, 1, 0xC4, 6, 4, .ro, 0x0#32, 0xFFFFFFFF#32⟩,
  ⟨0x5, 1, 0xE0, 2, 4, .ro, 0x0#32, 0xFFFFFFFF#32⟩,
  ⟨0x5, 1, 0x100, 8, 4, .ro, 0x0#32, 0xFFFFFFFF#32⟩,
  ⟨0xC, 1, 0x80, 1, 4, .rwl, 0x2#32, 0xF#32⟩]

/-- Rows of the register map, part 5. -/
def regRows5 : List RegRow := [
  ⟨0xC, 1, 0x84, 1, 4, .ro, 0x0#32, 0xFFFFFFFF#32⟩,
  ⟨0xC, 1, 0x88, 1, 4, .ro, 0x0#32, 0xFFFFFFFF#32⟩,
  ⟨0xC, 1, 0x8C, 1, 4, .ro, 0x0#32, 0xFFFFFFFF#32⟩,
  ⟨0xC, 1, 0x90, 1, 4, .ro, 0x0#32, 0xFFFFFFFF#32⟩,
  ⟨0xC, 1, 0x94, 1, 4, .ro, 0x0#32, 0xFFFFFFFF#32⟩,
  ⟨0x6, 1, 0x80, 1, 4, .rwl, 0x0#32, 0x1#32⟩,
  ⟨0x6, 1, 0x84, 1, 4, .rwl, 0x100000#32, 0xFFFFFF#32⟩,
  ⟨0x6, 1, 0x88, 1, 4, .rwl, 0x29#32, 0xFFFF#32⟩,
  ⟨0x6, 1, 0x8C, 1, 4, .rwl, 0x31B#32, 0xFFFF#32⟩,
  ⟨0x6, 1, 0x90, 1, 4, .ro, 0x0#32, 0xFFFFFFFF#32⟩,
  ⟨0x6, 1, 0x94, 1, 4, .ro, 0x0#32, 0xFFFFFFFF#32⟩,
  ⟨0x6, 1, 0x98, 1, 4, .ro, 0x0#32, 0xFFFFFFFF#32⟩,
  ⟨0x6, 1, 0x9C, 1, 4, .ro, 0x0#32, 0xFFFFFFFF#32⟩,
  ⟨0x8, 4, 0x80, 1, 4, .rwl, 0x81010203#32, 0x83030303#32⟩,
  ⟨0x8, 4, 0x84, 1, 4, .rw, 0x0#32, 0xFFFFFFFF#32⟩,
  ⟨0x8, 4, 0x88, 1, 4, .wo, 0x0#32, 0x80000000#32⟩,
  ⟨0x8, 4, 0x8C, 1, 4, .ro, 0x0#32, 0xFFFFFFFF#32⟩,
  ⟨0x8, 4, 0x90, 1, 4, .ro, 0x0#32, 0xFFFFFFFF#32⟩,
  ⟨0x8, 4, 0x94, 1, 4, .ro, 0x0#32, 0xFFFFFFFF#32⟩,
  ⟨0x8, 4, 0x98, 1, 4, .ro, 0x0#32, 0xFFFFFFFF#32⟩,
  ⟨0x8, 4, 0x9C, 1, 4, .ro, 0x0#32, 0xFFFFFFFF#32⟩,
  ⟨0x8, 4, 0xA0, 1, 4, .ro, 0x0#32, 0xFFFFFFFF#32⟩,
  ⟨0x8, 4, 0xA4, 1, 4, .ro, 0x0#32, 0xFFFFFFFF#32⟩,
  ⟨0x8, 4, 0xA8, 1, 4, .ro, 0x0#32, 0xFFFFFFFF#32⟩,
  ⟨0x8, 4, 0xAC, 1, 4, .ro, 0x0#32, 0xFFFFFFFF#32⟩,
  ⟨0x8, 4, 0xB0, 1, 4, .ro, 0x0#32, 0xFFFFFFFF#32⟩,
  ⟨0x8, 4, 0xB4, 1, 4, .ro, 0x0#32, 0xFFFFFFFF#32⟩,
  ⟨0x8, 4, 0xB8, 1, 4, .ro, 0x0#32, 0xFFFFFFFF#32⟩,
  ⟨0xD, 2, 0x80, 1, 4, .rwl, 0xE0221123#32, 0xE0333333#32⟩,
  ⟨0xD, 2, 0x84, 1, 4, .rw, 0x0#32, 0xFFFFFFFF#32⟩]

/-- Rows of the register map, part 6. -/
def regRows6 : List RegRow := [
  ⟨0xD, 2, 0x88, 1, 4, .wo, 0x0#32, 0x80000000#32⟩,
  ⟨0xD, 2, 0x8C, 1, 4, .ro, 0x0#32, 0xFFFFFFFF#32⟩,
  ⟨0xD, 2, 0x90, 1, 4, .ro, 0x0#32, 0xFFFFFFFF#32⟩,
  ⟨0xD, 2, 0x94, 1, 4, .ro, 0x0#32, 0xFFFFFFFF#32⟩,
  ⟨0xD, 2, 0x98, 1, 4, .ro, 0x0#32, 0xFFFFFFFF#32⟩,
  ⟨0xD, 2, 0x9C, 1, 4, .ro, 0x0#32, 0xFFFFFFFF#32⟩,
  ⟨0xD, 2, 0xA0, 1, 4, .ro, 0x0#32, 0xFFFFFFFF#32⟩,
  ⟨0xD, 2, 0xA4, 1, 4, .ro, 0x0#32, 0xFFFFFFFF#32⟩,
  ⟨0xD, 2, 0xA8, 1, 4, .ro, 0x0#32, 0xFFFFFFFF#32⟩,
  ⟨0xD, 2, 0xAC, 1, 4, .ro, 0x0#32, 0xFFFFFFFF#32⟩,
  ⟨0xD, 2, 0xB0, 1, 4, .ro, 0x0#32, 0xFFFFFFFF#32⟩,
  ⟨0xD, 2, 0xB4, 1, 4, .ro, 0x0#32, 0xFFFFFFFF#32⟩,
  ⟨0xF, 1, 0x80, 1, 4, .rwl, 0x10#32, 0xFF#32⟩,
  ⟨0xF, 1, 0x84, 1, 4, .rw, 0x0#32, 0xFFFFFFFF#32⟩,
  ⟨0xF, 1, 0x88, 1, 4, .wo, 0x0#32, 0x80000000#32⟩,
  ⟨0xF, 1, 0x8C, 1, 4, .ro, 0x0#32, 0xFFFFFFFF#32⟩,
  ⟨0xF, 1, 0x90, 2, 4, .ro, 0x0#32, 0xFFFFFFFF#32⟩,
  ⟨0xF, 1, 0x98, 1, 4, .ro, 0x0#32, 0xFFFFFFFF#32⟩,
  ⟨0xF, 1, 0x9C, 1, 4, .wo, 0x0#32, 0x8000000F#32⟩,
  ⟨0xF, 1, 0xA0, 1, 4, .ro, 0x0#32, 0xFFFFFFFF#32⟩,
  ⟨0xF, 1, 0xA4, 2, 4, .ro, 0x0#32, 0xFFFFFFFF#32⟩,
  ⟨0xF, 1, 0xAC, 1, 4, .rw, 0x0#32, 0xFF#32⟩,
  ⟨0xF, 1, 0xB0, 2, 4, .ro, 0x0#32, 0xFFFFFFFF#32⟩,
  ⟨0xF, 1, 0xB8, 2, 4, .ro, 0x0#32, 0xFFFFFFFF#32⟩,
  ⟨0xF, 1, 0xC0, 1, 4, .ro, 0x0#32, 0xFFFFFFFF#32⟩,
  ⟨0xF, 1, 0xC4, 1, 4, .ro, 0x0#32, 0xFFFFFFFF#32⟩,
  ⟨0xF, 1, 0x400, 16, 16, .rw, 0x0#32, 0xEF00007F#32⟩,
  ⟨0xF, 1, 0x404, 16, 16, .rw, 0x0#32, 0x7FF03FF#32⟩,
  ⟨0xF, 1, 0x408, 16, 16, .rw, 0x0#32, 0xFFFFFFFF#32⟩,
  ⟨0x10, 4, 0x80, 1, 4, .rwl, 0x81010203#32, 0x83030303#32⟩]

/-- Rows of the register map, part 7. -/
def regRows7 : List RegRow := [
  ⟨0x10, 4, 0x84, 1, 4, .rw, 0x0#32, 0xFFFFFFFF#32⟩,
  ⟨0x10, 4, 0x88, 1, 4, .wo, 0x0#32, 0x80000000#32⟩,
  ⟨0x10, 4, 0x8C, 1, 4, .ro, 0x0#32, 0xFFFFFFFF#32⟩,
  ⟨0x10, 4, 0x90, 1, 4, .ro, 0x0#32, 0xFFFFFFFF#32⟩,
  ⟨0x10, 4, 0x94, 1, 4, .ro, 0x0#32, 0xFFFFFFFF#32⟩,
  ⟨0x10, 4, 0x98, 1, 4, .ro, 0x0#32, 0xFFFFFFFF#32⟩,
  ⟨0x10, 4, 0x9C, 1, 4, .ro, 0x0#32, 0xFFFFFFFF#32⟩,
  ⟨0x10, 4, 0xA0, 1, 4, .ro, 0x0#32, 0xFFFFFFFF#32⟩,
  ⟨0x10, 4, 0xA4, 1, 4, .ro, 0x0#32, 0xFFFFFFFF#32⟩,
  ⟨0x10, 4, 0xA8, 1, 4, .rwl, 0x4000000#32, 0xFFFFFFFF#32⟩,
  ⟨0x10, 4, 0xAC, 1, 4, .ro, 0x0#32, 0xFFFFFFFF#32⟩,
  ⟨0x10, 4, 0xB0, 1, 4, .ro, 0x0#32, 0xFFFFFFFF#32⟩,
  ⟨0x10, 4, 0xB4, 1, 4, .ro, 0x0#32, 0xFFFFFFFF#32⟩,
  ⟨0x10, 4, 0xB8, 1, 4, .ro, 0x0#32, 0xFFFFFFFF#32⟩,
  ⟨0x10, 4, 0xC0, 1, 4, .rw, 0x0#32, 0x80000FFF#32⟩,
  ⟨0x10, 4, 0xC4, 1, 4, .ro, 0x0#32, 0xFFFFFFFF#32⟩,
  ⟨0x10, 4, 0x100, 16, 4, .ro, 0x0#32, 0xFFFFFFFF#32⟩,
  ⟨0x14, 1, 0x80, 1, 4, .rw, 0x0#32, 0x80001FFF#32⟩,
  ⟨0x14, 1, 0x84, 1, 4, .rw, 0x0#32, 0xFFFFFFFF#32⟩,
  ⟨0x14, 1, 0x88, 1, 4, .ro, 0x0#32, 0xFFFFFFFF#32⟩,
  ⟨0x14, 1, 0x8C, 1, 4, .rw, 0x0#32, 0x1#32⟩,
  ⟨0x14, 1, 0x90, 1, 4, .ro, 0x0#32, 0xFFFFFFFF#32⟩,
  ⟨0x14, 1, 0x94, 1, 4, .ro, 0x0#32, 0xFFFFFFFF#32⟩,
  ⟨0x14, 1, 0x98, 1, 4, .ro, 0x0#32, 0xFFFFFFFF#32⟩,
  ⟨0x60, 2, 0x80, 1, 4, .rwl, 0x0#32, 0xFFFFFFFF#32⟩,
  ⟨0x60, 2, 0x84, 1, 4, .ro, 0x0#32, 0xFFFFFFFF#32⟩,
  ⟨0x60, 2, 0x88, 1, 4, .ro, 0x0#32, 0xFFFFFFFF#32⟩,
  ⟨0x60, 2, 0x8C, 1, 4, .ro, 0x0#32, 0xFFFFFFFF#32⟩,
  ⟨0x60, 2, 0x90, 1, 4, .ro, 0x0#32, 0xFFFFFFFF#32⟩,
  ⟨0x60, 2, 0x94, 1, 4, .ro, 0x0#32, 0xFFFFFFFF#32⟩]

/-- Rows of the register map, part 8. -/
def regRows8 : List RegRow := [
  ⟨0x60, 2, 0x98, 1, 4, .ro, 0x0#32, 0xFFFFFFFF#32⟩,
  ⟨0x60, 2, 0x9C, 1, 4, .rw, 0x0#32, 0x307#32⟩,
  ⟨0x60, 2, 0xA0, 1, 4, .rw, 0x0#32, 0xFFFFFFFF#32⟩,
  ⟨0x60, 2, 0xA4, 1, 4, .rw, 0x0#32, 0xF#32⟩,
  ⟨0x60, 2, 0xA8, 1, 4, .ro, 0x0#32, 0xFFFFFFFF#32⟩,
  ⟨0x60, 2, 0xAC, 1, 4, .ro, 0x0#32, 0xFFFFFFFF#32⟩,
  ⟨0x60, 2, 0xB0, 2, 4, .ro, 0x0#32, 0xFFFFFFFF#32⟩,
  ⟨0x63, 1, 0x80, 1, 4, .rw, 0x0#32, 0x803F000F#32⟩,
  ⟨0x63, 1, 0x84, 1, 4, .rwl, 0x0#32, 0xFFFFFF00#32⟩,
  ⟨0x63, 1, 0x88, 1, 4, .rwl, 0x0#32, 0xFFFFFF00#32⟩,
  ⟨0x63, 1, 0x8C, 1, 4, .rwl, 0x0#32, 0x80000007#32⟩,
  ⟨0x63, 1, 0x90, 1, 4, .rw, 0x0#32, 0x7F#32⟩,
  ⟨0x63, 1, 0x94, 1, 4, .rwl, 0x0#32, 0xFFFFFFF8#32⟩,
  ⟨0x63, 1, 0x98, 1, 4, .rw, 0x0#32, 0x3F#32⟩,
  ⟨0x63, 1, 0x9C, 1, 4, .rwl, 0x0#32, 0xFFFFFFFF#32⟩,
  ⟨0x63, 1, 0xA0, 1, 4, .rwl, 0x0#32, 0x803F0000#32⟩,
  ⟨0x63, 1, 0xA4, 2, 4, .rwl, 0x0#32, 0xFFFFFFFF#32⟩,
  ⟨0x63, 1, 0xAC, 1, 4, .ro, 0x0#32, 0xFFFFFFFF#32⟩,
  ⟨0x63, 1, 0xB0, 1, 4, .ro, 0x0#32, 0xFFFFFFFF#32⟩,
  ⟨0x29, 1, 0x80, 1, 4, .ro, 0x0#32, 0xFFFFFFFF#32⟩,
  ⟨0x29, 1, 0x84, 8, 4, .ro, 0x0#32, 0xFFFFFFFF#32⟩,
  ⟨0x29, 1, 0xC0, 1, 4, .rwm, 0x0#32, 0x800003FF#32⟩,
  ⟨0x29, 1, 0xC4, 1, 4, .rwm, 0x0#32, 0x9F#32⟩,
  ⟨0x29, 1, 0xC8, 1, 4, .ro, 0x0#32, 0xFFFFFFFF#32⟩,
  ⟨0x29, 1, 0xCC, 1, 4, .rwm, 0x0#32, 0x3FF#32⟩,
  ⟨0x29, 1, 0xD0, 1, 4, .rwm, 0x0#32, 0xFFFF#32⟩,
  ⟨0x29, 1, 0xD4, 1, 4, .w1c, 0x0#32, 0xFFFF#32⟩,
  ⟨0x29, 1, 0xE0, 1, 4, .rwm, 0x0#32, 0x8FFFFFFF#32⟩,
  ⟨0x29, 1, 0xE4, 1, 4, .rwm, 0x0#32, 0xFFFFFFFF#32⟩,
  ⟨0x29, 1, 0xE8, 1, 4, .ro, 0x0#32, 0xFFFFFFFF#32⟩]

/-- Rows of the register map, part 9. -/
def regRows9 : List RegRow := [
  ⟨0x29, 1, 0xEC, 2, 4, .ro, 0x0#32, 0xFFFFFFFF#32⟩,
  ⟨0x29, 1, 0x100, 4, 8, .rwm, 0x0#32, 0xFFFFFF01#32⟩,
  ⟨0x29, 1, 0x104, 4, 8, .rwm, 0x0#32, 0xFFFFFF03#32⟩,
  ⟨0x58, 1, 0x80, 1, 4, .rwl, 0x800003E8#32, 0x8000FFFF#32⟩,
  ⟨0x58, 1, 0x84, 1, 4, .ro, 0x0#32, 0xFFFFFFFF#32⟩,
  ⟨0x58, 1, 0x88, 1, 4, .ro, 0x0#32, 0xFFFFFFFF#32⟩,
  ⟨0x58, 1, 0x8C, 1, 4, .rwl, 0x0#32, 0xFFFFFFFF#32⟩,
  ⟨0x58, 1, 0x90, 1, 4, .ro, 0x0#32, 0xFFFFFFFF#32⟩,
  ⟨0x58, 1, 0x94, 1, 4, .ro, 0x0#32, 0xFFFFFFFF#32⟩,
  ⟨0x58, 1, 0x98, 1, 4, .ro, 0x0#32, 0xFFFFFFFF#32⟩,
  ⟨0x58, 1, 0x9C, 1, 4, .ro, 0x0#32, 0xFFFFFFFF#32⟩,
  ⟨0x58, 1, 0xA0, 1, 4, .ro, 0x0#32, 0xFFFFFFFF#32⟩,
  ⟨0x58, 1, 0xA4, 1, 4, .ro, 0x0#32, 0xFFFFFFFF#32⟩,
  ⟨0x58, 1, 0xA8, 1, 4, .ro, 0x0#32, 0xFFFFFFFF#32⟩,
  ⟨0x58, 1, 0xAC, 1, 4, .ro, 0xFFFFFFFF#32, 0xFFFFFFFF#32⟩,
  ⟨0x58, 1, 0xB0, 1, 4, .wo, 0x0#32, 0xF000001F#32⟩,
  ⟨0x58, 1, 0xB4, 1, 4, .ro, 0x0#32, 0xFFFFFFFF#32⟩,
  ⟨0x58, 1, 0xB8, 1, 4, .ro, 0x0#32, 0xFFFFFFFF#32⟩,
  ⟨0x58, 1, 0xC0, 32, 4, .ro, 0x0#32, 0xFFFFFFFF#32⟩,
  ⟨0x100, 64, 0x0, 1, 4, .rw, 0x0#32, 0xFFF#32⟩,
  ⟨0x100, 64, 0x4, 1, 4, .rw, 0x0#32, 0xFFF#32⟩,
  ⟨0x100, 64, 0x8, 1, 4, .ro, 0x0#32, 0xFFFFFFFF#32⟩,
  ⟨0x100, 64, 0xC, 1, 4, .ro, 0x1000#32, 0xFFFFFFFF#32⟩,
  ⟨0x100, 64, 0x10, 1, 4, .ro, 0x0#32, 0xFFFFFFFF#32⟩,
  ⟨0x100, 64, 0x14, 1, 4, .w1c, 0x0#32, 0xF#32⟩,
  ⟨0x100, 64, 0x18, 1, 4, .rw, 0x0#32, 0xF#32⟩,
  ⟨0x100, 64, 0x1C, 1, 4, .ro, 0x0#32, 0xFFFFFFFF#32⟩,
  ⟨0x100, 64, 0x20, 1, 4, .w1c, 0x0#32, 0xC0000000#32⟩,
  ⟨0x30, 1, 0x80, 1, 4, .wo, 0x0#32, 0xF000003F#32⟩,
  ⟨0x30, 1, 0x84, 1, 4, .ro, 0x0#32, 0xFFFFFFFF#32⟩]

/-- Rows of the register map, part 10. -/
def regRows10 : List RegRow := [
  ⟨0x30, 1, 0x88, 1, 4, .ro, 0x0#32, 0xFFFFFFFF#32⟩,
  ⟨0x30, 1, 0x8C, 2, 4, .ro, 0x0#32, 0xFFFFFFFF#32⟩,
  ⟨0x30, 1, 0x100, 64, 32, .rw, 0x0#32, 0xF03FFF00#32⟩,
  ⟨0x30, 1, 0x104, 64, 32, .rw, 0x0#32, 0xFFFFFFFF#32⟩,
  ⟨0x30, 1, 0x108, 64, 32, .rw, 0x0#32, 0xFFFFFFFF#32⟩,
  ⟨0x30, 1, 0x10C, 64, 32, .rw, 0x0#32, 0xFFFFFFFF#32⟩,
  ⟨0x30, 1, 0x110, 64, 32, .rw, 0x0#32, 0xFFFFFFFF#32⟩,
  ⟨0x30, 1, 0x114, 64, 32, .rw, 0x1#32, 0xFFFF00FF#32⟩,
  ⟨0x30, 1, 0x118, 64, 32, .rw, 0x0#32, 0xFFFFFFFF#32⟩,
  ⟨0x30, 1, 0x11C, 64, 32, .ro, 0x0#32, 0xFFFFFFFF#32⟩,
  ⟨0x30, 1, 0xA00, 64, 4, .w1c, 0x0#32, 0xF#32⟩,
  ⟨0x30, 1, 0xB00, 64, 4, .rw, 0x0#32, 0xF#32⟩,
  ⟨0x30, 1, 0xC00, 64, 4, .ro, 0x0#32, 0xFFFFFFFF#32⟩,
  ⟨0x30, 1, 0xD00, 64, 4, .w1s, 0x0#32, 0xF#32⟩,
  ⟨0x31, 1, 0x80, 1, 4, .rwl, 0x20#32, 0x3F#32⟩,
  ⟨0x31, 1, 0x84, 1, 4, .w1c, 0x0#32, 0xC0000000#32⟩,
  ⟨0x31, 1, 0x88, 2, 4, .ro, 0x0#32, 0xFFFFFFFF#32⟩,
  ⟨0x31, 1, 0x90, 1, 4, .ro, 0x0#32, 0xFFFFFFFF#32⟩,
  ⟨0x31, 1, 0x100, 16, 32, .rwl, 0x0#32, 0xFFFFF000#32⟩,
  ⟨0x31, 1, 0x104, 16, 32, .rwl, 0x0#32, 0xFFFFFFFF#32⟩,
  ⟨0x31, 1, 0x108, 16, 32, .rwl, 0x0#32, 0xFFFFF000#32⟩,
  ⟨0x31, 1, 0x10C, 16, 32, .rwl, 0x0#32, 0xFFFFFFFF#32⟩,
  ⟨0x31, 1, 0x110, 16, 32, .rwl, 0x0#32, 0x80000003#32⟩,
  ⟨0x31, 1, 0x114, 16, 32, .rwl, 0x0#32, 0xFFFFFFFF#32⟩,
  ⟨0x31, 1, 0x118, 16, 32, .rwl, 0x0#32, 0xFFFFFFFF#32⟩,
  ⟨0x32, 2, 0x80, 1, 4, .rw, 0x0#32, 0xF000003F#32⟩,
  ⟨0x32, 2, 0x84, 1, 4, .ro, 0x0#32, 0xFFFFFFFF#32⟩,
  ⟨0x32, 2, 0x88, 1, 4, .ro, 0x0#32, 0xFFFFFFFF#32⟩,
  ⟨0x32, 2, 0x100, 64, 16, .rw, 0x0#32, 0xFFFFFFFF#32⟩,
  ⟨0x32, 2, 0x104, 64, 16, .rw, 0x0#32, 0x3FF07FF#32⟩]

/-- Rows of the register map, part 11. -/
def regRows11 : List RegRow := [
  ⟨0x32, 2, 0x108, 64, 16, .ro, 0x0#32, 0xFFFFFFFF#32⟩,
  ⟨0x32, 2, 0x10C, 64, 16, .ro, 0x0#32, 0xFFFFFFFF#32⟩,
  ⟨0x32, 2, 0x500, 64, 4, .ro, 0x0#32, 0xFFFFFFFF#32⟩,
  ⟨0x32, 2, 0x600, 64, 4, .w1c, 0x0#32, 0x7F#32⟩,
  ⟨0x32, 2, 0x700, 64, 4, .rw, 0x0#32, 0x7F#32⟩,
  ⟨0x32, 2, 0x800, 64, 4, .ro, 0x0#32, 0xFFFFFFFF#32⟩,
  ⟨0x32, 2, 0x900, 64, 4, .w1s, 0x0#32, 0x7F#32⟩,
  ⟨0x38, 1, 0x80, 1, 4, .rwl, 0x7#32, 0xF#32⟩,
  ⟨0x38, 1, 0x84, 1, 4, .rw, 0x0#32, 0x1#32⟩,
  ⟨0x38, 1, 0x88, 1, 4, .rwl, 0x0#32, 0xFFFFFFFF#32⟩,
  ⟨0x38, 1, 0x8C, 1, 4, .ro, 0x0#32, 0xFFFFFFFF#32⟩,
  ⟨0x38, 1, 0x90, 1, 4, .ro, 0x0#32, 0xFFFFFFFF#32⟩,
  ⟨0x38, 1, 0x94, 1, 4, .ro, 0x0#32, 0xFFFFFFFF#32⟩,
  ⟨0x38, 1, 0x98, 1, 4, .ro, 0x0#32, 0xFFFFFFFF#32⟩,
  ⟨0x38, 1, 0x9C, 1, 4, .ro, 0x0#32, 0xFFFFFFFF#32⟩,
  ⟨0x38, 1, 0xA0, 1, 4, .ro, 0x0#32, 0xFFFFFFFF#32⟩,
  ⟨0x39, 1, 0x80, 1, 4, .rwl, 0x0#32, 0x3F#32⟩,
  ⟨0x39, 1, 0x84, 1, 4, .rw, 0x0#32, 0x1#32⟩,
  ⟨0x39, 1, 0x88, 1, 4, .ro, 0x0#32, 0xFFFFFFFF#32⟩,
  ⟨0x39, 1, 0x8C, 1, 4, .ro, 0x0#32, 0xFFFFFFFF#32⟩,
  ⟨0x39, 1, 0x90, 1, 4, .rw, 0x0#32, 0xFFFFFFFF#32⟩,
  ⟨0x39, 1, 0x94, 1, 4, .ro, 0x0#32, 0xFFFFFFFF#32⟩,
  ⟨0x39, 1, 0x98, 1, 4, .ro, 0x0#32, 0xFFFFFFFF#32⟩,
  ⟨0x39, 1, 0x9C, 1, 4, .ro, 0x0#32, 0xFFFFFFFF#32⟩,
  ⟨0x140, 1, 0x80, 1, 4, .ro, 0x0#32, 0xFFFFFFFF#32⟩,
  ⟨0x140, 1, 0x84, 1, 4, .rw, 0x0#32, 0xFFFFFFFF#32⟩,
  ⟨0x140, 1, 0x88, 1, 4, .ro, 0x0#32, 0xFFFFFFFF#32⟩,
  ⟨0x140, 1, 0x8C, 2, 4, .ro, 0x0#32, 0xFFFFFFFF#32⟩,
  ⟨0x140, 1, 0xA0, 4, 4, .ro, 0x0#32, 0xFFFFFFFF#32⟩,
  ⟨0x140, 1, 0xB0, 1, 4, .ro, 0x0#32, 0xFFFFFFFF#32⟩]

/-- Rows of the register map, part 12. -/
def regRows12 : List RegRow := [
  ⟨0x140, 1, 0xC0, 8, 4, .ro, 0x0#32, 0xFFFFFFFF#32⟩,
  ⟨0x40, 4, 0x80, 1, 4, .rwl, 0x800C8#32, 0xE0FFFFFF#32⟩,
  ⟨0x40, 4, 0x84, 1, 4, .rwl, 0x1000300#32, 0x3FF03FF#32⟩,
  ⟨0x40, 4, 0x88, 1, 4, .wo, 0x0#32, 0xF0000000#32⟩,
  ⟨0x40, 4, 0x8C, 1, 4, .ro, 0x0#32, 0xFFFFFFFF#32⟩,
  ⟨0x40, 4, 0x90, 4, 4, .ro, 0x0#32, 0xFFFFFFFF#32⟩,
  ⟨0x40, 4, 0xA0, 1, 4, .ro, 0x0#32, 0xFFFFFFFF#32⟩,
  ⟨0x40, 4, 0xA4, 1, 4, .ro, 0x0#32, 0xFFFFFFFF#32⟩,
  ⟨0x40, 4, 0xA8, 1, 4, .ro, 0x0#32, 0xFFFFFFFF#32⟩,
  ⟨0x40, 4, 0xAC, 1, 4, .ro, 0x0#32, 0xFFFFFFFF#32⟩,
  ⟨0x40, 4, 0xB0, 1, 4, .ro, 0x0#32, 0xFFFFFFFF#32⟩,
  ⟨0x40, 4, 0xB4, 1, 4, .ro, 0x0#32, 0xFFFFFFFF#32⟩,
  ⟨0x40, 4, 0xB8, 1, 4, .ro, 0x0#32, 0xFFFFFFFF#32⟩,
  ⟨0x40, 4, 0xBC, 2, 4, .ro, 0x0#32, 0xFFFFFFFF#32⟩,
  ⟨0x40, 4, 0xC4, 1, 4, .ro, 0x0#32, 0xFFFFFFFF#32⟩,
  ⟨0x40, 4, 0xC8, 1, 4, .ro, 0x0#32, 0xFFFFFFFF#32⟩,
  ⟨0x44, 1, 0x80, 1, 4, .rwl, 0x100000#32, 0xE0FF0000#32⟩,
  ⟨0x44, 1, 0x84, 1, 4, .rw, 0x0#32, 0x8000FFFF#32⟩,
  ⟨0x44, 1, 0x88, 2, 4, .rwl, 0x0#32, 0xFFFFFFFF#32⟩,
  ⟨0x44, 1, 0x90, 1, 4, .rwl, 0x0#32, 0xFFFFFFFF#32⟩,
  ⟨0x44, 1, 0x94, 1, 4, .rwl, 0x0#32, 0xFFFF#32⟩,
  ⟨0x44, 1, 0x98, 1, 4, .rwl, 0x0#32, 0x8000007F#32⟩,
  ⟨0x44, 1, 0x9C, 1, 4, .rwl, 0x1F43203#32, 0xFFFFFF0F#32⟩,
  ⟨0x44, 1, 0xA0, 1, 4, .ro, 0x0#32, 0xFFFFFFFF#32⟩,
  ⟨0x44, 1, 0xA4, 1, 4, .ro, 0x0#32, 0xFFFFFFFF#32⟩,
  ⟨0x44, 1, 0xA8, 1, 4, .ro, 0x0#32, 0xFFFFFFFF#32⟩,
  ⟨0x44, 1, 0xAC, 1, 4, .ro, 0x0#32, 0xFFFFFFFF#32⟩,
  ⟨0x44, 1, 0xB0, 1, 4, .ro, 0x0#32, 0xFFFFFFFF#32⟩,
  ⟨0x44, 1, 0xB4, 1, 4, .ro, 0x0#32, 0xFFFFFFFF#32⟩,
  ⟨0x44, 1, 0xB8, 1, 4, .ro, 0x0#32, 0xFFFFFFFF#32⟩]

/-- Rows of the register map, part 13. -/
def regRows13 : List RegRow := [
  ⟨0x44, 1, 0xBC, 1, 4, .ro, 0x0#32, 0xFFFFFFFF#32⟩,
  ⟨0x44, 1, 0xC0, 1, 4, .rw, 0x0#32, 0xFFFF#32⟩,
  ⟨0x44, 1, 0xC4, 1, 4, .rw, 0x0#32, 0xFFFF#32⟩,
  ⟨0x44, 1, 0x100, 16, 4, .rw, 0x0#32, 0xB3010000#32⟩,
  ⟨0x48, 1, 0x80, 1, 4, .wo, 0x0#32, 0xFF000000#32⟩,
  ⟨0x48, 1, 0x84, 1, 4, .ro, 0x0#32, 0xFFFFFFFF#32⟩,
  ⟨0x48, 1, 0x88, 2, 4, .rw, 0x0#32, 0xFFFFFFFF#32⟩,
  ⟨0x48, 1, 0x90, 1, 4, .rw, 0x0#32, 0xFFFFFFFF#32⟩,
  ⟨0x48, 1, 0x94, 1, 4, .ro, 0x0#32, 0xFFFFFFFF#32⟩,
  ⟨0x48, 1, 0x98, 1, 4, .ro, 0x0#32, 0xFFFFFFFF#32⟩,
  ⟨0x48, 1, 0x9C, 1, 4, .ro, 0x0#32, 0xFFFFFFFF#32⟩,
  ⟨0x48, 1, 0xA0, 1, 4, .rwl, 0x80000018#32, 0x8000FFFF#32⟩,
  ⟨0x48, 1, 0xA4, 1, 4, .ro, 0x0#32, 0xFFFFFFFF#32⟩,
  ⟨0x48, 1, 0xA8, 1, 4, .ro, 0x0#32, 0xFFFFFFFF#32⟩,
  ⟨0x48, 1, 0xAC, 1, 4, .rwl, 0x15F90#32, 0x1FFFF#32⟩,
  ⟨0x48, 1, 0xB0, 1, 4, .ro, 0x0#32, 0xFFFFFFFF#32⟩,
  ⟨0x48, 1, 0xB4, 1, 4, .ro, 0x0#32, 0xFFFFFFFF#32⟩,
  ⟨0x48, 1, 0xB8, 1, 4, .ro, 0x0#32, 0xFFFFFFFF#32⟩,
  ⟨0x48, 1, 0xBC, 1, 4, .ro, 0x0#32, 0xFFFFFFFF#32⟩,
  ⟨0x48, 1, 0xC0, 1, 4, .ro, 0x0#32, 0xFFFFFFFF#32⟩,
  ⟨0x48, 1, 0xC4, 1, 4, .ro, 0x0#32, 0xFFFFFFFF#32⟩,
  ⟨0x49, 1, 0x80, 1, 4, .wo, 0x0#32, 0xF00000FF#32⟩,
  ⟨0x49, 1, 0x84, 1, 4, .ro, 0x0#32, 0xFFFFFFFF#32⟩,
  ⟨0x49, 1, 0x88, 2, 4, .rw, 0x0#32, 0xFFFFFFFF#32⟩,
  ⟨0x49, 1, 0x90, 2, 4, .ro, 0x0#32, 0xFFFFFFFF#32⟩,
  ⟨0x49, 1, 0x98, 1, 4, .ro, 0x0#32, 0xFFFFFFFF#32⟩,
  ⟨0x49, 1, 0x100, 8, 4, .ro, 0x0#32, 0xFFFFFFFF#32⟩,
  ⟨0x50, 1, 0x80, 1, 4, .rws, 0x492292#32, 0xFFFFFFFF#32⟩,
  ⟨0x50, 1, 0x84, 1, 4, .rws, 0x492492#32, 0xFFFFFFFF#32⟩,
  ⟨0x50, 1, 0x88, 1, 4, .rws, 0xDB492#32, 0xFFFFFFFF#32⟩]

/-- Rows of the register map, part 14. -/
def regRows14 : List RegRow := [
  ⟨0x50, 1, 0x8C, 1, 4, .rws, 0x18000#32, 0x3FFFF#32⟩,
  ⟨0x50, 1, 0x90, 1, 4, .rws, 0x32#32, 0xFF#32⟩,
  ⟨0x50, 1, 0x94, 1, 4, .rws, 0x64D3#32, 0xFFFF#32⟩,
  ⟨0x50, 1, 0x98, 1, 4, .rws, 0x14#32, 0xFF#32⟩,
  ⟨0x50, 1, 0x9C, 1, 4, .rws, 0x64#32, 0xFFFF#32⟩,
  ⟨0x50, 1, 0xA0, 1, 4, .wo, 0x0#32, 0xF0000000#32⟩,
  ⟨0x50, 1, 0xA4, 1, 4, .ro, 0x0#32, 0xFFFFFFFF#32⟩,
  ⟨0x50, 1, 0xA8, 1, 4, .ro, 0x0#32, 0xFFFFFFFF#32⟩,
  ⟨0x50, 1, 0xAC, 1, 4, .ro, 0x0#32, 0xFFFFFFFF#32⟩,
  ⟨0x50, 1, 0xB0, 1, 4, .ro, 0x0#32, 0xFFFFFFFF#32⟩,
  ⟨0x50, 1, 0xB4, 1, 4, .ro, 0x0#32, 0xFFFFFFFF#32⟩,
  ⟨0x50, 1, 0x100, 21, 4, .rwl, 0x10000#32, 0xFFFFFF#32⟩,
  ⟨0x50, 1, 0x180, 1, 4, .w1c, 0x0#32, 0xFFFFFFFF#32⟩,
  ⟨0x50, 1, 0x188, 1, 4, .rw, 0xFFFFFFFF#32, 0xFFFFFFFF#32⟩,
  ⟨0x50, 1, 0x190, 2, 4, .ro, 0x0#32, 0xFFFFFFFF#32⟩,
  ⟨0x50, 1, 0x198, 1, 4, .w1s, 0x0#32, 0xFFFFFFFF#32⟩,
  ⟨0x50, 1, 0x1A0, 4, 4, .ro, 0x0#32, 0xFFFFFFFF#32⟩,
  ⟨0x50, 1, 0x1B0, 1, 4, .rw, 0x0#32, 0x7#32⟩,
  ⟨0x50, 1, 0x1B4, 1, 4, .ro, 0x0#32, 0xFFFFFFFF#32⟩,
  ⟨0x50, 1, 0x1B8, 1, 4, .ro, 0x0#32, 0xFFFFFFFF#32⟩,
  ⟨0x51, 1, 0x80, 1, 4, .ro, 0x0#32, 0xFFFFFFFF#32⟩,
  ⟨0x51, 1, 0x84, 1, 4, .rws, 0x1B#32, 0xFFFFFF#32⟩,
  ⟨0x51, 1, 0x88, 1, 4, .rws, 0x0#32, 0x3#32⟩,
  ⟨0x51, 1, 0x90, 4, 4, .rws, 0x1#32, 0xC0007FFF#32⟩,
  ⟨0x51, 1, 0xA0, 8, 4, .rwl, 0x10000#32, 0xFFFFFF#32⟩,
  ⟨0x51, 1, 0xC0, 1, 4, .ro, 0x0#32, 0xFFFFFFFF#32⟩,
  ⟨0x51, 1, 0xC4, 1, 4, .ro, 0x0#32, 0xFFFFFFFF#32⟩,
  ⟨0x51, 1, 0xC8, 1, 4, .ro, 0x0#32, 0xFFFFFFFF#32⟩,
  ⟨0x51, 1, 0xCC, 1, 4, .ro, 0x0#32, 0xFFFFFFFF#32⟩,
  ⟨0x0, 1, 0x80, 1, 4, .ro, 0x0#32, 0xFFFFFFFF#32⟩]

/-- Rows of the register map, part 15. -/
def regRows15 : List RegRow := [
  ⟨0x0, 1, 0x84, 1, 4, .wo, 0x0#32, 0xFFFFFFFF#32⟩,
  ⟨0x0, 1, 0x88, 1, 4, .rwl, 0x0#32, 0x8FFFFFFF#32⟩,
  ⟨0x0, 1, 0x8C, 1, 4, .wo, 0x0#32, 0xFFFFFFFF#32⟩,
  ⟨0x0, 1, 0x90, 1, 4, .rwl, 0x0#32, 0x1#32⟩,
  ⟨0x0, 1, 0x94, 1, 4, .ro, 0x0#32, 0xFFFFFFFF#32⟩,
  ⟨0x0, 1, 0x98, 1, 4, .ro, 0x0#32, 0xFFFFFFFF#32⟩,
  ⟨0x0, 1, 0x9C, 1, 4, .ro, 0x0#32, 0xFFFFFFFF#32⟩,
  ⟨0x0, 1, 0xA0, 4, 4, .ro, 0x0#32, 0xFFFFFFFF#32⟩,
  ⟨0x0, 1, 0xB0, 8, 4, .ro, 0x0#32, 0xFFFFFFFF#32⟩,
  ⟨0x0, 1, 0xD0, 1, 4, .ro, 0x42000001#32, 0xFFFFFFFF#32⟩,
  ⟨0x1, 1, 0x80, 1, 4, .ro, 0x0#32, 0xFFFFFFFF#32⟩,
  ⟨0x1, 1, 0x84, 1, 4, .wo, 0x0#32, 0xF0000000#32⟩,
  ⟨0x1, 1, 0x88, 1, 4, .ro, 0x0#32, 0xFFFFFFFF#32⟩,
  ⟨0x1, 1, 0x8C, 1, 4, .rwl, 0x0#32, 0x7#32⟩,
  ⟨0x1, 1, 0x90, 2, 4, .rw, 0x0#32, 0xFFFFFFFF#32⟩,
  ⟨0x1, 1, 0x98, 1, 4, .ro, 0x0#32, 0xFFFFFFFF#32⟩,
  ⟨0x1, 1, 0x9C, 1, 4, .ro, 0x0#32, 0xFFFFFFFF#32⟩,
  ⟨0x1, 1, 0xA0, 1, 4, .ro, 0x3E8#32, 0xFFFFFFFF#32⟩,
  ⟨0x1, 1, 0xA4, 1, 4, .ro, 0xE10#32, 0xFFFFFFFF#32⟩,
  ⟨0x1, 1, 0xA8, 1, 4, .rwl, 0x80000018#32, 0x800000FF#32⟩,
  ⟨0x1, 1, 0xAC, 1, 4, .ro, 0x0#32, 0xFFFFFFFF#32⟩,
  ⟨0x1, 1, 0xB0, 1, 4, .ro, 0x0#32, 0xFFFFFFFF#32⟩,
  ⟨0x1, 1, 0xB4, 1, 4, .wo, 0x0#32, 0x3F0000FF#32⟩,
  ⟨0x1, 1, 0xB8, 1, 4, .ro, 0x0#32, 0xFFFFFFFF#32⟩,
  ⟨0x4, 1, 0x80, 1, 4, .ro, 0x0#32, 0xFFFFFFFF#32⟩,
  ⟨0x4, 1, 0x84, 1, 4, .wo, 0x0#32, 0xF0000000#32⟩,
  ⟨0x4, 1, 0x88, 1, 4, .ro, 0x0#32, 0xFFFFFFFF#32⟩,
  ⟨0x4, 1, 0x8C, 1, 4, .rw, 0x0#32, 0xFFFFFFFF#32⟩,
  ⟨0x4, 1, 0x90, 1, 4, .rw, 0x0#32, 0xFFFF#32⟩,
  ⟨0x4, 1, 0x94, 1, 4, .ro, 0x0#32, 0xFFFFFFFF#32⟩]

/-- Rows of the register map, part 16. -/
def regRows16 : List RegRow := [
  ⟨0x4, 1, 0x98, 1, 4, .ro, 0x0#32, 0xFFFFFFFF#32⟩,
  ⟨0x4, 1, 0x9C, 1, 4, .ro, 0x0#32, 0xFFFFFFFF#32⟩,
  ⟨0x4, 1, 0xA0, 1, 4, .ro, 0x0#32, 0xFFFFFFFF#32⟩,
  ⟨0x2, 1, 0x80, 1, 4, .rwm, 0x0#32, 0x0#32⟩,
  ⟨0x2, 1, 0x84, 1, 4, .ro, 0x0#32, 0xFFFFFFFF#32⟩,
  ⟨0x2, 1, 0x88, 1, 4, .ro, 0x0#32, 0xFFFFFFFF#32⟩,
  ⟨0x2, 1, 0x8C, 1, 4, .ro, 0x0#32, 0xFFFFFFFF#32⟩,
  ⟨0x2, 1, 0x90, 4, 4, .rwm, 0x0#32, 0xE0FFFFFF#32⟩,
  ⟨0x2, 1, 0xA0, 4, 4, .ro, 0x0#32, 0xFFFFFFFF#32⟩,
  ⟨0x50, 1, 0x18C, 1, 4, .rw, 0x1#32, 0x1#32⟩,
  ⟨0x25, 1, 0xA4, 1, 4, .w1c, 0x0#32, 0x7FFFFFFF#32⟩,
  ⟨0x25, 1, 0xAC, 1, 4, .rwm, 0x0#32, 0x7FFFFFFF#32⟩,
  ⟨0x25, 1, 0xBC, 1, 4, .w1s, 0x0#32, 0x7FFFFFFF#32⟩,
  ⟨0x50, 1, 0x174, 1, 4, .rwl, 0x10000#32, 0xFFFFFF#32⟩,
  ⟨0x50, 1, 0x184, 1, 4, .w1c, 0x0#32, 0x1#32⟩,
  ⟨0x50, 1, 0x19C, 1, 4, .w1s, 0x0#32, 0x1#32⟩]

/-- The register map. -/
def regRows : List RegRow :=
  regRows0 ++ regRows1 ++ regRows2 ++ regRows3 ++ regRows4 ++ regRows5 ++ regRows6 ++ regRows7 ++ regRows8 ++ regRows9 ++ regRows10 ++ regRows11 ++ regRows12 ++ regRows13 ++ regRows14 ++ regRows15 ++ regRows16

/-- The page map (R34). -/
def pageRows : List PageRow := [
  ⟨0x0, 1, 0x1, .d0, 63, false, 0, 0, 0, 0, 0x0⟩,
  ⟨0x1, 1, 0x2, .d0, 63, false, 0, 8, 0, 0, 0x0⟩,
  ⟨0x2, 1, 0x3, .d1, 62, false, 0, 16, 0, 0, 0x0⟩,
  ⟨0x3, 1, 0x4, .d0, 63, false, 0, 992, 0, 0, 0x0⟩,
  ⟨0x4, 1, 0x5, .d0, 191, false, 0, 144, 0, 0, 0x0⟩,
  ⟨0x5, 1, 0x6, .d0, 191, false, 0, 128, 0, 0, 0x0⟩,
  ⟨0x6, 1, 0x7, .d0, 191, true, 0, 152, 0, 0, 0x300⟩,
  ⟨0x8, 4, 0x10, .assigned, 255, true, 1, 192, 4, 0, 0x100⟩,
  ⟨0xC, 1, 0x11, .d0, 255, true, 1, 208, 0, 0, 0x0⟩,
  ⟨0xD, 2, 0x12, .assigned, 255, true, 1, 212, 4, 0, 0x100⟩,
  ⟨0xF, 1, 0x13, .assigned, 255, true, 1, 220, 0, 0, 0x0⟩,
  ⟨0x10, 4, 0x14, .assigned, 255, true, 1, 224, 4, 0, 0x100⟩,
  ⟨0x14, 1, 0x15, .assigned, 255, true, 0, 240, 0, 0, 0x0⟩,
  ⟨0x18, 1, 0x20, .assigned, 255, true, 0, 244, 0, 0, 0x0⟩,
  ⟨0x19, 1, 0x21, .assigned, 255, false, 0, 255, 0, 0, 0x0⟩,
  ⟨0x1A, 1, 0x22, .assigned, 255, false, 0, 250, 0, 0, 0x0⟩,
  ⟨0x20, 4, 0x30, .d1, 62, true, 64, 256, 64, 0, 0x0⟩,
  ⟨0x24, 1, 0x31, .d1, 62, true, 0, 62, 0, 0, 0x0⟩,
  ⟨0x25, 1, 0x32, .d1, 62, false, 0, 512, 0, 0, 0x0⟩,
  ⟨0x26, 1, 0x33, .d1, 62, false, 0, 62, 0, 0, 0x0⟩,
  ⟨0x27, 1, 0x34, .d1, 62, true, 0, 62, 0, 0, 0x100⟩,
  ⟨0x28, 1, 0x35, .d1, 62, false, 0, 575, 0, 0, 0x0⟩,
  ⟨0x29, 1, 0x36, .d1, 62, false, 0, 970, 0, 0, 0x0⟩,
  ⟨0x30, 1, 0x40, .d0, 959, false, 64, 576, 0, 0, 0x0⟩,
  ⟨0x31, 1, 0x41, .d0, 959, false, 0, 907, 0, 0, 0x0⟩,
  ⟨0x32, 2, 0x42, .assigned, 991, false, 64, 640, 64, 0, 0x0⟩,
  ⟨0x38, 1, 0x48, .d0, 959, false, 0, 900, 0, 0, 0x0⟩,
  ⟨0x39, 1, 0x49, .d0, 959, false, 0, 896, 0, 0, 0x0⟩,
  ⟨0x40, 4, 0x50, .assigned, 831, true, 1, 768, 8, 0, 0x0⟩,
  ⟨0x44, 1, 0x51, .assigned, 831, false, 0, 800, 0, 0, 0x0⟩,
  ⟨0x48, 1, 0x58, .d0, 895, true, 0, 832, 0, 0, 0x0⟩,
  ⟨0x49, 1, 0x59, .d0, 895, false, 0, 895, 0, 0, 0x0⟩,
  ⟨0x50, 1, 0x60, .d0, 127, false, 0, 64, 0, 8, 0x0⟩,
  ⟨0x51, 1, 0x61, .d0, 127, false, 0, 127, 0, 6, 0x0⟩,
  ⟨0x58, 1, 0x68, .d0, 991, false, 0, 960, 0, 0, 0x0⟩,
  ⟨0x60, 2, 0x70, .d0, 991, false, 0, 968, 1, 0, 0x0⟩,
  ⟨0x63, 1, 0x71, .d0, 991, false, 0, 991, 0, 0, 0x0⟩,
  ⟨0x100, 64, 0x0, .doorbell, 576, false, 0, 576, 1, 0, 0x0⟩,
  ⟨0x140, 1, 0x4A, .host, 959, false, 0, 959, 0, 0, 0x0⟩]

/-- The address of EVR_CLAIM0. -/
abbrev Reg.EVR_CLAIM0 : Nat := 0x3080
/-- The address of EVR_CLAIM1. -/
abbrev Reg.EVR_CLAIM1 : Nat := 0x3084
/-- The address of EVR_DONE0. -/
abbrev Reg.EVR_DONE0 : Nat := 0x3088
/-- The address of EVR_DONE1. -/
abbrev Reg.EVR_DONE1 : Nat := 0x308C
/-- The address of EVR_EVTN. -/
abbrev Reg.EVR_EVTN : Nat := 0x3090
/-- The address of EVR_FABDST. -/
abbrev Reg.EVR_FABDST : Nat := 0x3094
/-- The address of EVR_ASSERT, its first instance. -/
abbrev Reg.EVR_ASSERT : Nat := 0x3100
/-- The address of EVR_SWDB_SET. -/
abbrev Reg.EVR_SWDB_SET : Nat := 0x3180
/-- The address of EVR_SWDB. -/
abbrev Reg.EVR_SWDB : Nat := 0x3184
/-- The address of EVR_PGERR, its first instance. -/
abbrev Reg.EVR_PGERR : Nat := 0x31C0
/-- The address of EVR_ROUTE, its first instance. -/
abbrev Reg.EVR_ROUTE : Nat := 0x3800
/-- The address of FPR_INUSE. -/
abbrev Reg.FPR_INUSE : Nat := 0x19080
/-- The address of FPR_PCTL, its first instance. -/
abbrev Reg.FPR_PCTL : Nat := 0x19800
/-- The address of FPR_FLDA, its first instance. -/
abbrev Reg.FPR_FLDA : Nat := 0x19804
/-- The address of FPR_FLDB, its first instance. -/
abbrev Reg.FPR_FLDB : Nat := 0x19808
/-- The address of FPR_FLDC, its first instance. -/
abbrev Reg.FPR_FLDC : Nat := 0x1980C
/-- The address of FPR_TOTA0, its first instance. -/
abbrev Reg.FPR_TOTA0 : Nat := 0x19810
/-- The address of FPR_TOTA1, its first instance. -/
abbrev Reg.FPR_TOTA1 : Nat := 0x19818
/-- The address of FPR_TOTA2, its first instance. -/
abbrev Reg.FPR_TOTA2 : Nat := 0x19820
/-- The address of FPR_TOTA3, its first instance. -/
abbrev Reg.FPR_TOTA3 : Nat := 0x19828
/-- The address of FPR_TOTB0, its first instance. -/
abbrev Reg.FPR_TOTB0 : Nat := 0x19814
/-- The address of FPR_TOTB1, its first instance. -/
abbrev Reg.FPR_TOTB1 : Nat := 0x1981C
/-- The address of FPR_TOTB2, its first instance. -/
abbrev Reg.FPR_TOTB2 : Nat := 0x19824
/-- The address of FPR_TOTB3, its first instance. -/
abbrev Reg.FPR_TOTB3 : Nat := 0x1982C
/-- The address of FPR_DLV, its first instance. -/
abbrev Reg.FPR_DLV : Nat := 0x19830
/-- The address of DIR_CFG. -/
abbrev Reg.DIR_CFG : Nat := 0x1A080
/-- The address of DIR_SELF. -/
abbrev Reg.DIR_SELF : Nat := 0x1A084
/-- The address of DIR_EPOCH. -/
abbrev Reg.DIR_EPOCH : Nat := 0x1A088
/-- The address of DIR_SEPOCH. -/
abbrev Reg.DIR_SEPOCH : Nat := 0x1A08C
/-- The address of DIR_IDX. -/
abbrev Reg.DIR_IDX : Nat := 0x1A090
/-- The address of DIR_DATA. -/
abbrev Reg.DIR_DATA : Nat := 0x1A094
/-- The address of DIR_SWAP. -/
abbrev Reg.DIR_SWAP : Nat := 0x1A098
/-- The address of DIR_LIDX. -/
abbrev Reg.DIR_LIDX : Nat := 0x1A09C
/-- The address of DIR_LDATA. -/
abbrev Reg.DIR_LDATA : Nat := 0x1A0A0
/-- The address of DIR_HASHA. -/
abbrev Reg.DIR_HASHA : Nat := 0x1A0A4
/-- The address of DIR_HASHB. -/
abbrev Reg.DIR_HASHB : Nat := 0x1A0A8
/-- The address of DIR_HASH. -/
abbrev Reg.DIR_HASH : Nat := 0x1A0AC
/-- The address of ACC_CFG. -/
abbrev Reg.ACC_CFG : Nat := 0x18080
/-- The address of ACC_CKPT. -/
abbrev Reg.ACC_CKPT : Nat := 0x18084
/-- The address of ACC_GAP. -/
abbrev Reg.ACC_GAP : Nat := 0x18088
/-- The address of ACC_AUTHTHR. -/
abbrev Reg.ACC_AUTHTHR : Nat := 0x1808C
/-- The address of ACC_DIRTY. -/
abbrev Reg.ACC_DIRTY : Nat := 0x18090
/-- The address of ACC_NACC. -/
abbrev Reg.ACC_NACC : Nat := 0x18094
/-- The address of ACC_CMD. -/
abbrev Reg.ACC_CMD : Nat := 0x18098
/-- The address of ACC_CMDSTAT. -/
abbrev Reg.ACC_CMDSTAT : Nat := 0x1809C
/-- The address of ACC_ARG, its first instance. -/
abbrev Reg.ACC_ARG : Nat := 0x180A0
/-- The address of ACC_SNAP, its first instance. -/
abbrev Reg.ACC_SNAP : Nat := 0x18100
/-- The address of ACC_CNT, its first instance. -/
abbrev Reg.ACC_CNT : Nat := 0x18180
/-- The address of TAL_SNAPCMD, its first instance. -/
abbrev Reg.TAL_SNAPCMD : Nat := 0x20080
/-- The address of TAL_SNAPSTAT, its first instance. -/
abbrev Reg.TAL_SNAPSTAT : Nat := 0x20084
/-- The address of TAL_SNAP_POS, its first instance. -/
abbrev Reg.TAL_SNAP_POS : Nat := 0x20088
/-- The address of TAL_SNAP_POSF, its first instance. -/
abbrev Reg.TAL_SNAP_POSF : Nat := 0x20094
/-- The address of TAL_SNAP_NEG, its first instance. -/
abbrev Reg.TAL_SNAP_NEG : Nat := 0x2009C
/-- The address of TAL_SNAP_NEGF, its first instance. -/
abbrev Reg.TAL_SNAP_NEGF : Nat := 0x200A8
/-- The address of TAL_SNAP_ERR, its first instance. -/
abbrev Reg.TAL_SNAP_ERR : Nat := 0x200B0
/-- The address of TAL_SNAP_ERRF, its first instance. -/
abbrev Reg.TAL_SNAP_ERRF : Nat := 0x200BC
/-- The address of TAL_SNAP_TICK, its first instance. -/
abbrev Reg.TAL_SNAP_TICK : Nat := 0x200C0
/-- The address of TAL_SNAP_STS, its first instance. -/
abbrev Reg.TAL_SNAP_STS : Nat := 0x200C8
/-- The address of TAL_SNAP_UPD, its first instance. -/
abbrev Reg.TAL_SNAP_UPD : Nat := 0x200CC
/-- The address of TAL_PRECMD, its first instance. -/
abbrev Reg.TAL_PRECMD : Nat := 0x200D0
/-- The address of TAL_PRESTAT, its first instance. -/
abbrev Reg.TAL_PRESTAT : Nat := 0x200D4
/-- The address of TAL_PREVAL, its first instance. -/
abbrev Reg.TAL_PREVAL : Nat := 0x200D8
/-- The address of TAL_CARRY, its first instance. -/
abbrev Reg.TAL_CARRY : Nat := 0x200E4
/-- The address of TAL_ALU. -/
abbrev Reg.TAL_ALU : Nat := 0x200F0
/-- The address of TAL_CFG, its first instance. -/
abbrev Reg.TAL_CFG : Nat := 0x20100
/-- The address of TAL_SRC, its first instance. -/
abbrev Reg.TAL_SRC : Nat := 0x20104
/-- The address of TAL_TBL, its first instance. -/
abbrev Reg.TAL_TBL : Nat := 0x20108
/-- The address of TAL_SCALE, its first instance. -/
abbrev Reg.TAL_SCALE : Nat := 0x2010C
/-- The address of TAL_STS, its first instance. -/
abbrev Reg.TAL_STS : Nat := 0x20500
/-- The address of TAL_EVRAW, its first instance. -/
abbrev Reg.TAL_EVRAW : Nat := 0x20600
/-- The address of TAL_EVEN, its first instance. -/
abbrev Reg.TAL_EVEN : Nat := 0x20700
/-- The address of TAL_EVPEND, its first instance. -/
abbrev Reg.TAL_EVPEND : Nat := 0x20800
/-- The address of TAL_EVSET, its first instance. -/
abbrev Reg.TAL_EVSET : Nat := 0x20900
/-- The address of TCO_CIDX. -/
abbrev Reg.TCO_CIDX : Nat := 0x24080
/-- The address of TCO_CDATA. -/
abbrev Reg.TCO_CDATA : Nat := 0x24084
/-- The address of TCO_CRCSEL. -/
abbrev Reg.TCO_CRCSEL : Nat := 0x24088
/-- The address of TCO_CRC. -/
abbrev Reg.TCO_CRC : Nat := 0x2408C
/-- The address of TCO_THDR, its first instance. -/
abbrev Reg.TCO_THDR : Nat := 0x24100
/-- The address of TCO_TX0, its first instance. -/
abbrev Reg.TCO_TX0 : Nat := 0x24104
/-- The address of PLS_OVR. -/
abbrev Reg.PLS_OVR : Nat := 0x26080
/-- The address of PLS_LEVEL. -/
abbrev Reg.PLS_LEVEL : Nat := 0x26084
/-- The address of PLS_CFG, its first instance. -/
abbrev Reg.PLS_CFG : Nat := 0x26100
/-- The address of PLS_COUNT, its first instance. -/
abbrev Reg.PLS_COUNT : Nat := 0x26200
/-- The address of PLS_TAKEN, its first instance. -/
abbrev Reg.PLS_TAKEN : Nat := 0x26300
/-- The address of PLS_OFFCNT, its first instance. -/
abbrev Reg.PLS_OFFCNT : Nat := 0x26400
/-- The address of SNS_SPICFG. -/
abbrev Reg.SNS_SPICFG : Nat := 0x27080
/-- The address of SNS_PERIOD. -/
abbrev Reg.SNS_PERIOD : Nat := 0x27084
/-- The address of SNS_SEQSTAT. -/
abbrev Reg.SNS_SEQSTAT : Nat := 0x27088
/-- The address of SNS_RUNS. -/
abbrev Reg.SNS_RUNS : Nat := 0x2708C
/-- The address of SNS_SIDX. -/
abbrev Reg.SNS_SIDX : Nat := 0x27090
/-- The address of SNS_CVAL, its first instance. -/
abbrev Reg.SNS_CVAL : Nat := 0x27094
/-- The address of SNS_CTS, its first instance. -/
abbrev Reg.SNS_CTS : Nat := 0x2709C
/-- The address of SNS_CTAG. -/
abbrev Reg.SNS_CTAG : Nat := 0x270A4
/-- The address of SNS_WVAL, its first instance. -/
abbrev Reg.SNS_WVAL : Nat := 0x270A8
/-- The address of SNS_WCMD. -/
abbrev Reg.SNS_WCMD : Nat := 0x270B0
/-- The address of SNS_REFCNT. -/
abbrev Reg.SNS_REFCNT : Nat := 0x270B4
/-- The address of SNS_FRESH, its first instance. -/
abbrev Reg.SNS_FRESH : Nat := 0x270E0
/-- The address of SNS_TXBUF, its first instance. -/
abbrev Reg.SNS_TXBUF : Nat := 0x27100
/-- The address of SNS_RXBUF, its first instance. -/
abbrev Reg.SNS_RXBUF : Nat := 0x27200
/-- The address of SNS_STEP, its first instance. -/
abbrev Reg.SNS_STEP : Nat := 0x27400
/-- The address of SNS_SLOTCFG, its first instance. -/
abbrev Reg.SNS_SLOTCFG : Nat := 0x27800
/-- The address of SNS_SVAL, its first instance. -/
abbrev Reg.SNS_SVAL : Nat := 0x27C00
/-- The address of CAL_CMD. -/
abbrev Reg.CAL_CMD : Nat := 0x25080
/-- The address of CAL_CMDSTAT. -/
abbrev Reg.CAL_CMDSTAT : Nat := 0x25084
/-- The address of CAL_PIDX. -/
abbrev Reg.CAL_PIDX : Nat := 0x25088
/-- The address of CAL_PDATA. -/
abbrev Reg.CAL_PDATA : Nat := 0x2508C
/-- The address of CAL_NARMED. -/
abbrev Reg.CAL_NARMED : Nat := 0x25090
/-- The address of CAL_LATMAX. -/
abbrev Reg.CAL_LATMAX : Nat := 0x25094
/-- The address of CAL_LATE. -/
abbrev Reg.CAL_LATE : Nat := 0x25098
/-- The address of CAL_CSTORE. -/
abbrev Reg.CAL_CSTORE : Nat := 0x2509C
/-- The address of CAL_LRAW. -/
abbrev Reg.CAL_LRAW : Nat := 0x250A0
/-- The address of CAL_LEN. -/
abbrev Reg.CAL_LEN : Nat := 0x250A8
/-- The address of CAL_LPEND, its first instance. -/
abbrev Reg.CAL_LPEND : Nat := 0x250B0
/-- The address of CAL_LSET. -/
abbrev Reg.CAL_LSET : Nat := 0x250B8
/-- The address of CAL_PEEKAX. -/
abbrev Reg.CAL_PEEKAX : Nat := 0x250C0
/-- The address of CAL_PEEK. -/
abbrev Reg.CAL_PEEK : Nat := 0x250C4
/-- The address of CAL_PEEKCMP, its first instance. -/
abbrev Reg.CAL_PEEKCMP : Nat := 0x250C8
/-- The address of CAL_SETMASK, its first instance. -/
abbrev Reg.CAL_SETMASK : Nat := 0x25400
/-- The address of CAL_SETCFG, its first instance. -/
abbrev Reg.CAL_SETCFG : Nat := 0x25600
/-- The address of AXS_RTC, its first instance. -/
abbrev Reg.AXS_RTC : Nat := 0x28080
/-- The address of AXS_RTCSET, its first instance. -/
abbrev Reg.AXS_RTCSET : Nat := 0x28088
/-- The address of AXS_RTCCMD. -/
abbrev Reg.AXS_RTCCMD : Nat := 0x28090
/-- The address of AXS_RTCSLEW. -/
abbrev Reg.AXS_RTCSLEW : Nat := 0x28094
/-- The address of AXS_MAINS, its first instance. -/
abbrev Reg.AXS_MAINS : Nat := 0x280A0
/-- The address of AXS_MSET, its first instance. -/
abbrev Reg.AXS_MSET : Nat := 0x280A8
/-- The address of AXS_MCMD. -/
abbrev Reg.AXS_MCMD : Nat := 0x280B0
/-- The address of AXS_MCFG. -/
abbrev Reg.AXS_MCFG : Nat := 0x280B4
/-- The address of AXS_MPER. -/
abbrev Reg.AXS_MPER : Nat := 0x280B8
/-- The address of AXS_NET, its first instance. -/
abbrev Reg.AXS_NET : Nat := 0x280C0
/-- The address of AXS_NSET, its first instance. -/
abbrev Reg.AXS_NSET : Nat := 0x280C8
/-- The address of AXS_NCMD. -/
abbrev Reg.AXS_NCMD : Nat := 0x280D0
/-- The address of AXS_NSLEW. -/
abbrev Reg.AXS_NSLEW : Nat := 0x280D4
/-- The address of AXS_REFUSE. -/
abbrev Reg.AXS_REFUSE : Nat := 0x280E0
/-- The address of VLT_CMD. -/
abbrev Reg.VLT_CMD : Nat := 0x5080
/-- The address of VLT_CMDSTAT. -/
abbrev Reg.VLT_CMDSTAT : Nat := 0x5084
/-- The address of VLT_ARG, its first instance. -/
abbrev Reg.VLT_ARG : Nat := 0x5088
/-- The address of VLT_BUF. -/
abbrev Reg.VLT_BUF : Nat := 0x5098
/-- The address of VLT_OBUF. -/
abbrev Reg.VLT_OBUF : Nat := 0x509C
/-- The address of VLT_OLEN. -/
abbrev Reg.VLT_OLEN : Nat := 0x50A0
/-- The address of VLT_RESULT. -/
abbrev Reg.VLT_RESULT : Nat := 0x50A4
/-- The address of VLT_OUTLEN. -/
abbrev Reg.VLT_OUTLEN : Nat := 0x50A8
/-- The address of VLT_REJECT. -/
abbrev Reg.VLT_REJECT : Nat := 0x50AC
/-- The address of VLT_PUFSTAT. -/
abbrev Reg.VLT_PUFSTAT : Nat := 0x50B0
/-- The address of VLT_ROOTSTAT. -/
abbrev Reg.VLT_ROOTSTAT : Nat := 0x50B4
/-- The address of VLT_NSLOTS. -/
abbrev Reg.VLT_NSLOTS : Nat := 0x50B8
/-- The address of VLT_SIDX. -/
abbrev Reg.VLT_SIDX : Nat := 0x50C0
/-- The address of VLT_SINFO, its first instance. -/
abbrev Reg.VLT_SINFO : Nat := 0x50C4
/-- The address of VLT_SESSMAP, its first instance. -/
abbrev Reg.VLT_SESSMAP : Nat := 0x50E0
/-- The address of VLT_SBAD, its first instance. -/
abbrev Reg.VLT_SBAD : Nat := 0x5100
/-- The address of KUW_CFG. -/
abbrev Reg.KUW_CFG : Nat := 0xC080
/-- The address of KUW_QDEPTH. -/
abbrev Reg.KUW_QDEPTH : Nat := 0xC084
/-- The address of KUW_CNT. -/
abbrev Reg.KUW_CNT : Nat := 0xC088
/-- The address of KUW_ICVFAIL. -/
abbrev Reg.KUW_ICVFAIL : Nat := 0xC08C
/-- The address of KUW_TAGFAIL. -/
abbrev Reg.KUW_TAGFAIL : Nat := 0xC090
/-- The address of KUW_DENY. -/
abbrev Reg.KUW_DENY : Nat := 0xC094
/-- The address of RNG_CFG. -/
abbrev Reg.RNG_CFG : Nat := 0x6080
/-- The address of RNG_RESEED. -/
abbrev Reg.RNG_RESEED : Nat := 0x6084
/-- The address of RNG_RCTCUT. -/
abbrev Reg.RNG_RCTCUT : Nat := 0x6088
/-- The address of RNG_APTCUT. -/
abbrev Reg.RNG_APTCUT : Nat := 0x608C
/-- The address of RNG_DATA. -/
abbrev Reg.RNG_DATA : Nat := 0x6090
/-- The address of RNG_HSTAT. -/
abbrev Reg.RNG_HSTAT : Nat := 0x6094
/-- The address of RNG_FAILS. -/
abbrev Reg.RNG_FAILS : Nat := 0x6098
/-- The address of RNG_REQS. -/
abbrev Reg.RNG_REQS : Nat := 0x609C
/-- The address of AES_CFG, its first instance. -/
abbrev Reg.AES_CFG : Nat := 0x8080
/-- The address of AES_JOBADDR, its first instance. -/
abbrev Reg.AES_JOBADDR : Nat := 0x8084
/-- The address of AES_JOBCMD, its first instance. -/
abbrev Reg.AES_JOBCMD : Nat := 0x8088
/-- The address of AES_JOBSTAT, its first instance. -/
abbrev Reg.AES_JOBSTAT : Nat := 0x808C
/-- The address of AES_JOBDONE, its first instance. -/
abbrev Reg.AES_JOBDONE : Nat := 0x8090
/-- The address of AES_JOBTOKEN, its first instance. -/
abbrev Reg.AES_JOBTOKEN : Nat := 0x8094
/-- The address of AES_KEYSTAT, its first instance. -/
abbrev Reg.AES_KEYSTAT : Nat := 0x8098
/-- The address of AES_KEYHDL, its first instance. -/
abbrev Reg.AES_KEYHDL : Nat := 0x809C
/-- The address of AES_QDEPTH, its first instance. -/
abbrev Reg.AES_QDEPTH : Nat := 0x80A0
/-- The address of AES_CURRENT, its first instance. -/
abbrev Reg.AES_CURRENT : Nat := 0x80A4
/-- The address of AES_BLOCKS, its first instance. -/
abbrev Reg.AES_BLOCKS : Nat := 0x80A8
/-- The address of AES_CHKFAIL, its first instance. -/
abbrev Reg.AES_CHKFAIL : Nat := 0x80AC
/-- The address of AES_PREEMPT, its first instance. -/
abbrev Reg.AES_PREEMPT : Nat := 0x80B0
/-- The address of AES_EXHAUST, its first instance. -/
abbrev Reg.AES_EXHAUST : Nat := 0x80B4
/-- The address of AES_FAULTINFO, its first instance. -/
abbrev Reg.AES_FAULTINFO : Nat := 0x80B8
/-- The address of HSH_CFG, its first instance. -/
abbrev Reg.HSH_CFG : Nat := 0xD080
/-- The address of HSH_JOBADDR, its first instance. -/
abbrev Reg.HSH_JOBADDR : Nat := 0xD084
/-- The address of HSH_JOBCMD, its first instance. -/
abbrev Reg.HSH_JOBCMD : Nat := 0xD088
/-- The address of HSH_JOBSTAT, its first instance. -/
abbrev Reg.HSH_JOBSTAT : Nat := 0xD08C
/-- The address of HSH_JOBDONE, its first instance. -/
abbrev Reg.HSH_JOBDONE : Nat := 0xD090
/-- The address of HSH_JOBTOKEN, its first instance. -/
abbrev Reg.HSH_JOBTOKEN : Nat := 0xD094
/-- The address of HSH_KEYSTAT, its first instance. -/
abbrev Reg.HSH_KEYSTAT : Nat := 0xD098
/-- The address of HSH_KEYHDL, its first instance. -/
abbrev Reg.HSH_KEYHDL : Nat := 0xD09C
/-- The address of HSH_QDEPTH, its first instance. -/
abbrev Reg.HSH_QDEPTH : Nat := 0xD0A0
/-- The address of HSH_CURRENT, its first instance. -/
abbrev Reg.HSH_CURRENT : Nat := 0xD0A4
/-- The address of HSH_BLOCKS, its first instance. -/
abbrev Reg.HSH_BLOCKS : Nat := 0xD0A8
/-- The address of HSH_CHKFAIL, its first instance. -/
abbrev Reg.HSH_CHKFAIL : Nat := 0xD0AC
/-- The address of HSH_PREEMPT, its first instance. -/
abbrev Reg.HSH_PREEMPT : Nat := 0xD0B0
/-- The address of HSH_FAULTINFO, its first instance. -/
abbrev Reg.HSH_FAULTINFO : Nat := 0xD0B4
/-- The address of LMS_CFG. -/
abbrev Reg.LMS_CFG : Nat := 0xF080
/-- The address of LMS_JOBADDR. -/
abbrev Reg.LMS_JOBADDR : Nat := 0xF084
/-- The address of LMS_JOBCMD. -/
abbrev Reg.LMS_JOBCMD : Nat := 0xF088
/-- The address of LMS_JOBSTAT. -/
abbrev Reg.LMS_JOBSTAT : Nat := 0xF08C
/-- The address of LMS_JOBIDX, its first instance. -/
abbrev Reg.LMS_JOBIDX : Nat := 0xF090
/-- The address of LMS_SIGLEN. -/
abbrev Reg.LMS_SIGLEN : Nat := 0xF098
/-- The address of LMS_SEALCMD. -/
abbrev Reg.LMS_SEALCMD : Nat := 0xF09C
/-- The address of LMS_SEALSTAT. -/
abbrev Reg.LMS_SEALSTAT : Nat := 0xF0A0
/-- The address of LMS_SEALNO, its first instance. -/
abbrev Reg.LMS_SEALNO : Nat := 0xF0A4
/-- The address of LMS_KSEL. -/
abbrev Reg.LMS_KSEL : Nat := 0xF0AC
/-- The address of LMS_KNEXT, its first instance. -/
abbrev Reg.LMS_KNEXT : Nat := 0xF0B0
/-- The address of LMS_KLIMIT, its first instance. -/
abbrev Reg.LMS_KLIMIT : Nat := 0xF0B8
/-- The address of LMS_KSTAT. -/
abbrev Reg.LMS_KSTAT : Nat := 0xF0C0
/-- The address of LMS_BURNED. -/
abbrev Reg.LMS_BURNED : Nat := 0xF0C4
/-- The address of LMS_SPCFG, its first instance. -/
abbrev Reg.LMS_SPCFG : Nat := 0xF400
/-- The address of LMS_SPACCT, its first instance. -/
abbrev Reg.LMS_SPACCT : Nat := 0xF404
/-- The address of LMS_SPKEY, its first instance. -/
abbrev Reg.LMS_SPKEY : Nat := 0xF408
/-- The address of BNE_CFG, its first instance. -/
abbrev Reg.BNE_CFG : Nat := 0x10080
/-- The address of BNE_JOBADDR, its first instance. -/
abbrev Reg.BNE_JOBADDR : Nat := 0x10084
/-- The address of BNE_JOBCMD, its first instance. -/
abbrev Reg.BNE_JOBCMD : Nat := 0x10088
/-- The address of BNE_JOBSTAT, its first instance. -/
abbrev Reg.BNE_JOBSTAT : Nat := 0x1008C
/-- The address of BNE_JOBDONE, its first instance. -/
abbrev Reg.BNE_JOBDONE : Nat := 0x10090
/-- The address of BNE_JOBRESULT, its first instance. -/
abbrev Reg.BNE_JOBRESULT : Nat := 0x10094
/-- The address of BNE_KEYSTAT, its first instance. -/
abbrev Reg.BNE_KEYSTAT : Nat := 0x10098
/-- The address of BNE_KEYHDL, its first instance. -/
abbrev Reg.BNE_KEYHDL : Nat := 0x1009C
/-- The address of BNE_QDEPTH, its first instance. -/
abbrev Reg.BNE_QDEPTH : Nat := 0x100A0
/-- The address of BNE_CURRENT, its first instance. -/
abbrev Reg.BNE_CURRENT : Nat := 0x100A4
/-- The address of BNE_LIMIT, its first instance. -/
abbrev Reg.BNE_LIMIT : Nat := 0x100A8
/-- The address of BNE_LASTCYC, its first instance. -/
abbrev Reg.BNE_LASTCYC : Nat := 0x100AC
/-- The address of BNE_OPS, its first instance. -/
abbrev Reg.BNE_OPS : Nat := 0x100B0
/-- The address of BNE_CHKFAIL, its first instance. -/
abbrev Reg.BNE_CHKFAIL : Nat := 0x100B4
/-- The address of BNE_FAULTINFO, its first instance. -/
abbrev Reg.BNE_FAULTINFO : Nat := 0x100B8
/-- The address of BNE_WSIDX, its first instance. -/
abbrev Reg.BNE_WSIDX : Nat := 0x100C0
/-- The address of BNE_WSDATA, its first instance. -/
abbrev Reg.BNE_WSDATA : Nat := 0x100C4
/-- The address of BNE_REGTAG, its first instance. -/
abbrev Reg.BNE_REGTAG : Nat := 0x10100
/-- The address of BNC_SIDX. -/
abbrev Reg.BNC_SIDX : Nat := 0x14080
/-- The address of BNC_SDATA. -/
abbrev Reg.BNC_SDATA : Nat := 0x14084
/-- The address of BNC_VVER. -/
abbrev Reg.BNC_VVER : Nat := 0x14088
/-- The address of BNC_CRCCMD. -/
abbrev Reg.BNC_CRCCMD : Nat := 0x1408C
/-- The address of BNC_CRC. -/
abbrev Reg.BNC_CRC : Nat := 0x14090
/-- The address of BNC_ECC. -/
abbrev Reg.BNC_ECC : Nat := 0x14094
/-- The address of BNC_USERRUN. -/
abbrev Reg.BNC_USERRUN : Nat := 0x14098
/-- The address of CORE_ENTRY, its first instance. -/
abbrev Reg.CORE_ENTRY : Nat := 0x60080
/-- The address of CORE_PC, its first instance. -/
abbrev Reg.CORE_PC : Nat := 0x60084
/-- The address of CORE_PSW, its first instance. -/
abbrev Reg.CORE_PSW : Nat := 0x60088
/-- The address of CORE_LASTEXC, its first instance. -/
abbrev Reg.CORE_LASTEXC : Nat := 0x6008C
/-- The address of CORE_LASTADDR, its first instance. -/
abbrev Reg.CORE_LASTADDR : Nat := 0x60090
/-- The address of CORE_SBUF, its first instance. -/
abbrev Reg.CORE_SBUF : Nat := 0x60094
/-- The address of CORE_GDEPTH, its first instance. -/
abbrev Reg.CORE_GDEPTH : Nat := 0x60098
/-- The address of CORE_GIDX, its first instance. -/
abbrev Reg.CORE_GIDX : Nat := 0x6009C
/-- The address of CORE_GDATA, its first instance. -/
abbrev Reg.CORE_GDATA : Nat := 0x600A0
/-- The address of CORE_GSET, its first instance. -/
abbrev Reg.CORE_GSET : Nat := 0x600A4
/-- The address of CORE_CHKCNT, its first instance. -/
abbrev Reg.CORE_CHKCNT : Nat := 0x600A8
/-- The address of CORE_EXCCNT, its first instance. -/
abbrev Reg.CORE_EXCCNT : Nat := 0x600AC
/-- The address of CORE_CYC, its first instance. -/
abbrev Reg.CORE_CYC : Nat := 0x600B0
/-- The address of MPU_DIDX. -/
abbrev Reg.MPU_DIDX : Nat := 0x63080
/-- The address of MPU_RBASE. -/
abbrev Reg.MPU_RBASE : Nat := 0x63084
/-- The address of MPU_RLIMIT. -/
abbrev Reg.MPU_RLIMIT : Nat := 0x63088
/-- The address of MPU_RATTR. -/
abbrev Reg.MPU_RATTR : Nat := 0x6308C
/-- The address of MPU_SIDX. -/
abbrev Reg.MPU_SIDX : Nat := 0x63090
/-- The address of MPU_STK. -/
abbrev Reg.MPU_STK : Nat := 0x63094
/-- The address of MPU_GIDX. -/
abbrev Reg.MPU_GIDX : Nat := 0x63098
/-- The address of MPU_GENTRY. -/
abbrev Reg.MPU_GENTRY : Nat := 0x6309C
/-- The address of MPU_GCFG. -/
abbrev Reg.MPU_GCFG : Nat := 0x630A0
/-- The address of MPU_GCALL, its first instance. -/
abbrev Reg.MPU_GCALL : Nat := 0x630A4
/-- The address of MPU_REFUSE. -/
abbrev Reg.MPU_REFUSE : Nat := 0x630AC
/-- The address of MPU_GFAULT. -/
abbrev Reg.MPU_GFAULT : Nat := 0x630B0
/-- The address of MCC_IMGSTAT. -/
abbrev Reg.MCC_IMGSTAT : Nat := 0x29080
/-- The address of MCC_IMGID, its first instance. -/
abbrev Reg.MCC_IMGID : Nat := 0x29084
/-- The address of MCC_EIDX. -/
abbrev Reg.MCC_EIDX : Nat := 0x290C0
/-- The address of MCC_EDATA. -/
abbrev Reg.MCC_EDATA : Nat := 0x290C4
/-- The address of MCC_CLAIM. -/
abbrev Reg.MCC_CLAIM : Nat := 0x290C8
/-- The address of MCC_DONE. -/
abbrev Reg.MCC_DONE : Nat := 0x290CC
/-- The address of MCC_SWDB_SET. -/
abbrev Reg.MCC_SWDB_SET : Nat := 0x290D0
/-- The address of MCC_SWDB. -/
abbrev Reg.MCC_SWDB : Nat := 0x290D4
/-- The address of MCC_WDCFG. -/
abbrev Reg.MCC_WDCFG : Nat := 0x290E0
/-- The address of MCC_WDKICK. -/
abbrev Reg.MCC_WDKICK : Nat := 0x290E4
/-- The address of MCC_LSCNT. -/
abbrev Reg.MCC_LSCNT : Nat := 0x290E8
/-- The address of MCC_CYC, its first instance. -/
abbrev Reg.MCC_CYC : Nat := 0x290EC
/-- The address of MCC_WBASE, its first instance. -/
abbrev Reg.MCC_WBASE : Nat := 0x29100
/-- The address of MCC_WLIM, its first instance. -/
abbrev Reg.MCC_WLIM : Nat := 0x29104
/-- The address of MEM_BTCFG. -/
abbrev Reg.MEM_BTCFG : Nat := 0x58080
/-- The address of MEM_BTSTAT. -/
abbrev Reg.MEM_BTSTAT : Nat := 0x58084
/-- The address of MEM_BTCYCLES. -/
abbrev Reg.MEM_BTCYCLES : Nat := 0x58088
/-- The address of MEM_BTSKIP. -/
abbrev Reg.MEM_BTSKIP : Nat := 0x5808C
/-- The address of MEM_BTFAIL. -/
abbrev Reg.MEM_BTFAIL : Nat := 0x58090
/-- The address of MEM_ECCSTAT. -/
abbrev Reg.MEM_ECCSTAT : Nat := 0x58094
/-- The address of MEM_ECCADDR. -/
abbrev Reg.MEM_ECCADDR : Nat := 0x58098
/-- The address of MEM_ECCINIT. -/
abbrev Reg.MEM_ECCINIT : Nat := 0x5809C
/-- The address of MEM_COLL. -/
abbrev Reg.MEM_COLL : Nat := 0x580A0
/-- The address of MEM_COLLADDR. -/
abbrev Reg.MEM_COLLADDR : Nat := 0x580A4
/-- The address of MEM_CLEARING. -/
abbrev Reg.MEM_CLEARING : Nat := 0x580A8
/-- The address of MEM_SERVICE. -/
abbrev Reg.MEM_SERVICE : Nat := 0x580AC
/-- The address of MEM_BCMD. -/
abbrev Reg.MEM_BCMD : Nat := 0x580B0
/-- The address of MEM_BCMDSTAT. -/
abbrev Reg.MEM_BCMDSTAT : Nat := 0x580B4
/-- The address of MEM_RETAIN. -/
abbrev Reg.MEM_RETAIN : Nat := 0x580B8
/-- The address of MEM_REPAIR, its first instance. -/
abbrev Reg.MEM_REPAIR : Nat := 0x580C0
/-- The address of DB_SQTAIL, its first instance. -/
abbrev Reg.DB_SQTAIL : Nat := 0x100000
/-- The address of DB_CQHEAD, its first instance. -/
abbrev Reg.DB_CQHEAD : Nat := 0x100004
/-- The address of DB_SQHEAD, its first instance. -/
abbrev Reg.DB_SQHEAD : Nat := 0x100008
/-- The address of DB_CQTAIL, its first instance. -/
abbrev Reg.DB_CQTAIL : Nat := 0x10000C
/-- The address of DB_STAT, its first instance. -/
abbrev Reg.DB_STAT : Nat := 0x100010
/-- The address of DB_EVRAW, its first instance. -/
abbrev Reg.DB_EVRAW : Nat := 0x100014
/-- The address of DB_EVEN, its first instance. -/
abbrev Reg.DB_EVEN : Nat := 0x100018
/-- The address of DB_EVPEND, its first instance. -/
abbrev Reg.DB_EVPEND : Nat := 0x10001C
/-- The address of DB_ERRINFO, its first instance. -/
abbrev Reg.DB_ERRINFO : Nat := 0x100020
/-- The address of CHN_CMD. -/
abbrev Reg.CHN_CMD : Nat := 0x30080
/-- The address of CHN_CMDSTAT. -/
abbrev Reg.CHN_CMDSTAT : Nat := 0x30084
/-- The address of CHN_HALTINFO. -/
abbrev Reg.CHN_HALTINFO : Nat := 0x30088
/-- The address of CHN_ENMAP, its first instance. -/
abbrev Reg.CHN_ENMAP : Nat := 0x3008C
/-- The address of CHN_CFG, its first instance. -/
abbrev Reg.CHN_CFG : Nat := 0x30100
/-- The address of CHN_SQBASE0, its first instance. -/
abbrev Reg.CHN_SQBASE0 : Nat := 0x30104
/-- The address of CHN_SQBASE1, its first instance. -/
abbrev Reg.CHN_SQBASE1 : Nat := 0x30108
/-- The address of CHN_CQBASE0, its first instance. -/
abbrev Reg.CHN_CQBASE0 : Nat := 0x3010C
/-- The address of CHN_CQBASE1, its first instance. -/
abbrev Reg.CHN_CQBASE1 : Nat := 0x30110
/-- The address of CHN_COAL, its first instance. -/
abbrev Reg.CHN_COAL : Nat := 0x30114
/-- The address of CHN_TBKT, its first instance. -/
abbrev Reg.CHN_TBKT : Nat := 0x30118
/-- The address of CHN_STAT, its first instance. -/
abbrev Reg.CHN_STAT : Nat := 0x3011C
/-- The address of CHN_EVRAW, its first instance. -/
abbrev Reg.CHN_EVRAW : Nat := 0x30A00
/-- The address of CHN_EVEN, its first instance. -/
abbrev Reg.CHN_EVEN : Nat := 0x30B00
/-- The address of CHN_EVPEND, its first instance. -/
abbrev Reg.CHN_EVPEND : Nat := 0x30C00
/-- The address of CHN_EVSET, its first instance. -/
abbrev Reg.CHN_EVSET : Nat := 0x30D00
/-- The address of DMA_CFG. -/
abbrev Reg.DMA_CFG : Nat := 0x31080
/-- The address of DMA_XERR. -/
abbrev Reg.DMA_XERR : Nat := 0x31084
/-- The address of DMA_XADDR, its first instance. -/
abbrev Reg.DMA_XADDR : Nat := 0x31088
/-- The address of DMA_REFUSE. -/
abbrev Reg.DMA_REFUSE : Nat := 0x31090
/-- The address of DMA_WBASE0, its first instance. -/
abbrev Reg.DMA_WBASE0 : Nat := 0x31100
/-- The address of DMA_WBASE1, its first instance. -/
abbrev Reg.DMA_WBASE1 : Nat := 0x31104
/-- The address of DMA_WLIM0, its first instance. -/
abbrev Reg.DMA_WLIM0 : Nat := 0x31108
/-- The address of DMA_WLIM1, its first instance. -/
abbrev Reg.DMA_WLIM1 : Nat := 0x3110C
/-- The address of DMA_WATTR, its first instance. -/
abbrev Reg.DMA_WATTR : Nat := 0x31110
/-- The address of DMA_WDOM0, its first instance. -/
abbrev Reg.DMA_WDOM0 : Nat := 0x31114
/-- The address of DMA_WDOM1, its first instance. -/
abbrev Reg.DMA_WDOM1 : Nat := 0x31118
/-- The address of TIL_CMD, its first instance. -/
abbrev Reg.TIL_CMD : Nat := 0x32080
/-- The address of TIL_CMDSTAT, its first instance. -/
abbrev Reg.TIL_CMDSTAT : Nat := 0x32084
/-- The address of TIL_LOST, its first instance. -/
abbrev Reg.TIL_LOST : Nat := 0x32088
/-- The address of TIL_CFG, its first instance. -/
abbrev Reg.TIL_CFG : Nat := 0x32100
/-- The address of TIL_MEM, its first instance. -/
abbrev Reg.TIL_MEM : Nat := 0x32104
/-- The address of TIL_LEVEL, its first instance. -/
abbrev Reg.TIL_LEVEL : Nat := 0x32108
/-- The address of TIL_STAT, its first instance. -/
abbrev Reg.TIL_STAT : Nat := 0x3210C
/-- The address of TIL_RSEQ, its first instance. -/
abbrev Reg.TIL_RSEQ : Nat := 0x32500
/-- The address of TIL_EVRAW, its first instance. -/
abbrev Reg.TIL_EVRAW : Nat := 0x32600
/-- The address of TIL_EVEN, its first instance. -/
abbrev Reg.TIL_EVEN : Nat := 0x32700
/-- The address of TIL_EVPEND, its first instance. -/
abbrev Reg.TIL_EVPEND : Nat := 0x32800
/-- The address of TIL_EVSET, its first instance. -/
abbrev Reg.TIL_EVSET : Nat := 0x32900
/-- The address of CPT_CFG. -/
abbrev Reg.CPT_CFG : Nat := 0x38080
/-- The address of CPT_READY. -/
abbrev Reg.CPT_READY : Nat := 0x38084
/-- The address of CPT_WIN. -/
abbrev Reg.CPT_WIN : Nat := 0x38088
/-- The address of CPT_STAT. -/
abbrev Reg.CPT_STAT : Nat := 0x3808C
/-- The address of CPT_PSEQ. -/
abbrev Reg.CPT_PSEQ : Nat := 0x38090
/-- The address of CPT_DELAY. -/
abbrev Reg.CPT_DELAY : Nat := 0x38094
/-- The address of CPT_ERRCNT. -/
abbrev Reg.CPT_ERRCNT : Nat := 0x38098
/-- The address of CPT_CMDCNT. -/
abbrev Reg.CPT_CMDCNT : Nat := 0x3809C
/-- The address of CPT_LASTCMD. -/
abbrev Reg.CPT_LASTCMD : Nat := 0x380A0
/-- The address of PCI_CFG. -/
abbrev Reg.PCI_CFG : Nat := 0x39080
/-- The address of PCI_READY. -/
abbrev Reg.PCI_READY : Nat := 0x39084
/-- The address of PCI_STAT. -/
abbrev Reg.PCI_STAT : Nat := 0x39088
/-- The address of PCI_IDS. -/
abbrev Reg.PCI_IDS : Nat := 0x3908C
/-- The address of PCI_D2H. -/
abbrev Reg.PCI_D2H : Nat := 0x39090
/-- The address of PCI_H2D. -/
abbrev Reg.PCI_H2D : Nat := 0x39094
/-- The address of PCI_LINKDN. -/
abbrev Reg.PCI_LINKDN : Nat := 0x39098
/-- The address of PCI_AER. -/
abbrev Reg.PCI_AER : Nat := 0x3909C
/-- The address of HIF_STAT. -/
abbrev Reg.HIF_STAT : Nat := 0x140080
/-- The address of HIF_H2D. -/
abbrev Reg.HIF_H2D : Nat := 0x140084
/-- The address of HIF_D2H. -/
abbrev Reg.HIF_D2H : Nat := 0x140088
/-- The address of HIF_CHMAP, its first instance. -/
abbrev Reg.HIF_CHMAP : Nat := 0x14008C
/-- The address of HIF_SERIAL, its first instance. -/
abbrev Reg.HIF_SERIAL : Nat := 0x1400A0
/-- The address of HIF_IMGSTAT. -/
abbrev Reg.HIF_IMGSTAT : Nat := 0x1400B0
/-- The address of HIF_IMGID, its first instance. -/
abbrev Reg.HIF_IMGID : Nat := 0x1400C0
/-- The address of FAB_CFG, its first instance. -/
abbrev Reg.FAB_CFG : Nat := 0x40080
/-- The address of FAB_CREDIT, its first instance. -/
abbrev Reg.FAB_CREDIT : Nat := 0x40084
/-- The address of FAB_CMD, its first instance. -/
abbrev Reg.FAB_CMD : Nat := 0x40088
/-- The address of FAB_LINK, its first instance. -/
abbrev Reg.FAB_LINK : Nat := 0x4008C
/-- The address of FAB_PSERIAL, its first instance. -/
abbrev Reg.FAB_PSERIAL : Nat := 0x40090
/-- The address of FAB_SEQ, its first instance. -/
abbrev Reg.FAB_SEQ : Nat := 0x400A0
/-- The address of FAB_RBUF, its first instance. -/
abbrev Reg.FAB_RBUF : Nat := 0x400A4
/-- The address of FAB_CRAVAIL, its first instance. -/
abbrev Reg.FAB_CRAVAIL : Nat := 0x400A8
/-- The address of FAB_TXCNT, its first instance. -/
abbrev Reg.FAB_TXCNT : Nat := 0x400AC
/-- The address of FAB_RXCNT, its first instance. -/
abbrev Reg.FAB_RXCNT : Nat := 0x400B0
/-- The address of FAB_ERRCNT, its first instance. -/
abbrev Reg.FAB_ERRCNT : Nat := 0x400B4
/-- The address of FAB_HSKERR, its first instance. -/
abbrev Reg.FAB_HSKERR : Nat := 0x400B8
/-- The address of FAB_NCTR, its first instance. -/
abbrev Reg.FAB_NCTR : Nat := 0x400BC
/-- The address of FAB_KEYHDL, its first instance. -/
abbrev Reg.FAB_KEYHDL : Nat := 0x400C4
/-- The address of FAB_CHKFAIL, its first instance. -/
abbrev Reg.FAB_CHKFAIL : Nat := 0x400C8
/-- The address of FRT_CFG. -/
abbrev Reg.FRT_CFG : Nat := 0x44080
/-- The address of FRT_ADDR. -/
abbrev Reg.FRT_ADDR : Nat := 0x44084
/-- The address of FRT_FABID, its first instance. -/
abbrev Reg.FRT_FABID : Nat := 0x44088
/-- The address of FRT_CRED. -/
abbrev Reg.FRT_CRED : Nat := 0x44090
/-- The address of FRT_CREDLEN. -/
abbrev Reg.FRT_CREDLEN : Nat := 0x44094
/-- The address of FRT_AGENT. -/
abbrev Reg.FRT_AGENT : Nat := 0x44098
/-- The address of FRT_TXCFG. -/
abbrev Reg.FRT_TXCFG : Nat := 0x4409C
/-- The address of FRT_DEDUP. -/
abbrev Reg.FRT_DEDUP : Nat := 0x440A0
/-- The address of FRT_TXOUT. -/
abbrev Reg.FRT_TXOUT : Nat := 0x440A4
/-- The address of FRT_LEASES. -/
abbrev Reg.FRT_LEASES : Nat := 0x440A8
/-- The address of FRT_NOTIFY. -/
abbrev Reg.FRT_NOTIFY : Nat := 0x440AC
/-- The address of FRT_EPSKEW. -/
abbrev Reg.FRT_EPSKEW : Nat := 0x440B0
/-- The address of FRT_UNREACH. -/
abbrev Reg.FRT_UNREACH : Nat := 0x440B4
/-- The address of FRT_TTLDROP. -/
abbrev Reg.FRT_TTLDROP : Nat := 0x440B8
/-- The address of FRT_AGDROP. -/
abbrev Reg.FRT_AGDROP : Nat := 0x440BC
/-- The address of FRT_RINGDIR. -/
abbrev Reg.FRT_RINGDIR : Nat := 0x440C0
/-- The address of FRT_RINGPRES. -/
abbrev Reg.FRT_RINGPRES : Nat := 0x440C4
/-- The address of FRT_ROUTE, its first instance. -/
abbrev Reg.FRT_ROUTE : Nat := 0x44100
/-- The address of NVC_CMD. -/
abbrev Reg.NVC_CMD : Nat := 0x48080
/-- The address of NVC_CMDSTAT. -/
abbrev Reg.NVC_CMDSTAT : Nat := 0x48084
/-- The address of NVC_ARG, its first instance. -/
abbrev Reg.NVC_ARG : Nat := 0x48088
/-- The address of NVC_BUF. -/
abbrev Reg.NVC_BUF : Nat := 0x48090
/-- The address of NVC_BANKSTAT. -/
abbrev Reg.NVC_BANKSTAT : Nat := 0x48094
/-- The address of NVC_ECC. -/
abbrev Reg.NVC_ECC : Nat := 0x48098
/-- The address of NVC_ECCADDR. -/
abbrev Reg.NVC_ECCADDR : Nat := 0x4809C
/-- The address of NVC_SCRUB. -/
abbrev Reg.NVC_SCRUB : Nat := 0x480A0
/-- The address of NVC_SCRUBSTAT. -/
abbrev Reg.NVC_SCRUBSTAT : Nat := 0x480A4
/-- The address of NVC_WEAR. -/
abbrev Reg.NVC_WEAR : Nat := 0x480A8
/-- The address of NVC_WEARTHR. -/
abbrev Reg.NVC_WEARTHR : Nat := 0x480AC
/-- The address of NVC_RECOV. -/
abbrev Reg.NVC_RECOV : Nat := 0x480B0
/-- The address of NVC_DBSTAT. -/
abbrev Reg.NVC_DBSTAT : Nat := 0x480B4
/-- The address of NVC_REFUSE. -/
abbrev Reg.NVC_REFUSE : Nat := 0x480B8
/-- The address of NVC_PBSTAT. -/
abbrev Reg.NVC_PBSTAT : Nat := 0x480BC
/-- The address of NVC_SEALPTR. -/
abbrev Reg.NVC_SEALPTR : Nat := 0x480C0
/-- The address of NVC_RETIRED. -/
abbrev Reg.NVC_RETIRED : Nat := 0x480C4
/-- The address of NVK_CMD. -/
abbrev Reg.NVK_CMD : Nat := 0x49080
/-- The address of NVK_CMDSTAT. -/
abbrev Reg.NVK_CMDSTAT : Nat := 0x49084
/-- The address of NVK_ARG, its first instance. -/
abbrev Reg.NVK_ARG : Nat := 0x49088
/-- The address of NVK_VAL, its first instance. -/
abbrev Reg.NVK_VAL : Nat := 0x49090
/-- The address of NVK_INFO. -/
abbrev Reg.NVK_INFO : Nat := 0x49098
/-- The address of NVK_BOUND, its first instance. -/
abbrev Reg.NVK_BOUND : Nat := 0x49100
/-- The address of TMP_LEVEL0. -/
abbrev Reg.TMP_LEVEL0 : Nat := 0x50080
/-- The address of TMP_LEVEL1. -/
abbrev Reg.TMP_LEVEL1 : Nat := 0x50084
/-- The address of TMP_LEVEL2. -/
abbrev Reg.TMP_LEVEL2 : Nat := 0x50088
/-- The address of TMP_LEVEL3. -/
abbrev Reg.TMP_LEVEL3 : Nat := 0x5008C
/-- The address of TMP_LIGHT. -/
abbrev Reg.TMP_LIGHT : Nat := 0x50090
/-- The address of TMP_TEMPLIM. -/
abbrev Reg.TMP_TEMPLIM : Nat := 0x50094
/-- The address of TMP_XTALTOL. -/
abbrev Reg.TMP_XTALTOL : Nat := 0x50098
/-- The address of TMP_L2HOLD. -/
abbrev Reg.TMP_L2HOLD : Nat := 0x5009C
/-- The address of TMP_CMD. -/
abbrev Reg.TMP_CMD : Nat := 0x500A0
/-- The address of TMP_CMDSTAT. -/
abbrev Reg.TMP_CMDSTAT : Nat := 0x500A4
/-- The address of TMP_TEMP. -/
abbrev Reg.TMP_TEMP : Nat := 0x500A8
/-- The address of TMP_XTAL. -/
abbrev Reg.TMP_XTAL : Nat := 0x500AC
/-- The address of TMP_RAWSTAT. -/
abbrev Reg.TMP_RAWSTAT : Nat := 0x500B0
/-- The address of TMP_FILTCNT. -/
abbrev Reg.TMP_FILTCNT : Nat := 0x500B4
/-- The address of TMP_FILT, its first instance. -/
abbrev Reg.TMP_FILT : Nat := 0x50100
/-- The address of TMP_EVRAW. -/
abbrev Reg.TMP_EVRAW : Nat := 0x50180
/-- The address of TMP_EVEN. -/
abbrev Reg.TMP_EVEN : Nat := 0x50188
/-- The address of TMP_EVPEND, its first instance. -/
abbrev Reg.TMP_EVPEND : Nat := 0x50190
/-- The address of TMP_EVSET. -/
abbrev Reg.TMP_EVSET : Nat := 0x50198
/-- The address of TMP_EVID, its first instance. -/
abbrev Reg.TMP_EVID : Nat := 0x501A0
/-- The address of TMP_LOGIDX. -/
abbrev Reg.TMP_LOGIDX : Nat := 0x501B0
/-- The address of TMP_LOGDATA0. -/
abbrev Reg.TMP_LOGDATA0 : Nat := 0x501B4
/-- The address of TMP_LOGDATA1. -/
abbrev Reg.TMP_LOGDATA1 : Nat := 0x501B8
/-- The address of SHD_SHIELD. -/
abbrev Reg.SHD_SHIELD : Nat := 0x51080
/-- The address of SHD_OFFLVL. -/
abbrev Reg.SHD_OFFLVL : Nat := 0x51084
/-- The address of SHD_CASECFG. -/
abbrev Reg.SHD_CASECFG : Nat := 0x51088
/-- The address of SHD_LOOPCFG, its first instance. -/
abbrev Reg.SHD_LOOPCFG : Nat := 0x51090
/-- The address of SHD_FILT, its first instance. -/
abbrev Reg.SHD_FILT : Nat := 0x510A0
/-- The address of SHD_OFFLATCH0. -/
abbrev Reg.SHD_OFFLATCH0 : Nat := 0x510C0
/-- The address of SHD_OFFLATCH1. -/
abbrev Reg.SHD_OFFLATCH1 : Nat := 0x510C4
/-- The address of SHD_RAW. -/
abbrev Reg.SHD_RAW : Nat := 0x510C8
/-- The address of SHD_LOOPERR. -/
abbrev Reg.SHD_LOOPERR : Nat := 0x510CC
/-- The address of SYS_RSTCAUSE. -/
abbrev Reg.SYS_RSTCAUSE : Nat := 0x80
/-- The address of SYS_SWR. -/
abbrev Reg.SYS_SWR : Nat := 0x84
/-- The address of SYS_WDCFG. -/
abbrev Reg.SYS_WDCFG : Nat := 0x88
/-- The address of SYS_WDKICK. -/
abbrev Reg.SYS_WDKICK : Nat := 0x8C
/-- The address of SYS_CLKCFG. -/
abbrev Reg.SYS_CLKCFG : Nat := 0x90
/-- The address of SYS_BOOTTIME. -/
abbrev Reg.SYS_BOOTTIME : Nat := 0x94
/-- The address of SYS_IMGSEL. -/
abbrev Reg.SYS_IMGSEL : Nat := 0x98
/-- The address of SYS_BOOTFAIL. -/
abbrev Reg.SYS_BOOTFAIL : Nat := 0x9C
/-- The address of SYS_SERIAL, its first instance. -/
abbrev Reg.SYS_SERIAL : Nat := 0xA0
/-- The address of SYS_SUPHASH, its first instance. -/
abbrev Reg.SYS_SUPHASH : Nat := 0xB0
/-- The address of SYS_PRODID. -/
abbrev Reg.SYS_PRODID : Nat := 0xD0
/-- The address of PMU_STATE. -/
abbrev Reg.PMU_STATE : Nat := 0x1080
/-- The address of PMU_CMD. -/
abbrev Reg.PMU_CMD : Nat := 0x1084
/-- The address of PMU_CMDSTAT. -/
abbrev Reg.PMU_CMDSTAT : Nat := 0x1088
/-- The address of PMU_WAKECFG. -/
abbrev Reg.PMU_WAKECFG : Nat := 0x108C
/-- The address of PMU_WAKETIME, its first instance. -/
abbrev Reg.PMU_WAKETIME : Nat := 0x1090
/-- The address of PMU_WAKESRC. -/
abbrev Reg.PMU_WAKESRC : Nat := 0x1098
/-- The address of PMU_HUSTAT. -/
abbrev Reg.PMU_HUSTAT : Nat := 0x109C
/-- The address of PMU_HUCAP. -/
abbrev Reg.PMU_HUCAP : Nat := 0x10A0
/-- The address of PMU_HUTHR. -/
abbrev Reg.PMU_HUTHR : Nat := 0x10A4
/-- The address of PMU_HUCFG. -/
abbrev Reg.PMU_HUCFG : Nat := 0x10A8
/-- The address of PMU_RAILS. -/
abbrev Reg.PMU_RAILS : Nat := 0x10AC
/-- The address of PMU_WINSTAT. -/
abbrev Reg.PMU_WINSTAT : Nat := 0x10B0
/-- The address of PMU_LSWREQ. -/
abbrev Reg.PMU_LSWREQ : Nat := 0x10B4
/-- The address of PMU_LSWSTAT. -/
abbrev Reg.PMU_LSWSTAT : Nat := 0x10B8
/-- The address of LCS_STATE. -/
abbrev Reg.LCS_STATE : Nat := 0x4080
/-- The address of LCS_CMD. -/
abbrev Reg.LCS_CMD : Nat := 0x4084
/-- The address of LCS_CMDSTAT. -/
abbrev Reg.LCS_CMDSTAT : Nat := 0x4088
/-- The address of LCS_BUF. -/
abbrev Reg.LCS_BUF : Nat := 0x408C
/-- The address of LCS_LEN. -/
abbrev Reg.LCS_LEN : Nat := 0x4090
/-- The address of LCS_REJECT. -/
abbrev Reg.LCS_REJECT : Nat := 0x4094
/-- The address of LCS_OTP0. -/
abbrev Reg.LCS_OTP0 : Nat := 0x4098
/-- The address of LCS_OTP1. -/
abbrev Reg.LCS_OTP1 : Nat := 0x409C
/-- The address of LCS_DBG. -/
abbrev Reg.LCS_DBG : Nat := 0x40A0
/-- The address of LSW_ORDER. -/
abbrev Reg.LSW_ORDER : Nat := 0x2080
/-- The address of LSW_ASTAT. -/
abbrev Reg.LSW_ASTAT : Nat := 0x2084
/-- The address of LSW_STAT. -/
abbrev Reg.LSW_STAT : Nat := 0x2088
/-- The address of LSW_TRIPS. -/
abbrev Reg.LSW_TRIPS : Nat := 0x208C
/-- The address of LSW_POL, its first instance. -/
abbrev Reg.LSW_POL : Nat := 0x2090
/-- The address of LSW_CUR, its first instance. -/
abbrev Reg.LSW_CUR : Nat := 0x20A0
/-- The address of TMP_EVEN1. -/
abbrev Reg.TMP_EVEN1 : Nat := 0x5018C
/-- The address of CAL_LRAW1. -/
abbrev Reg.CAL_LRAW1 : Nat := 0x250A4
/-- The address of CAL_LEN1. -/
abbrev Reg.CAL_LEN1 : Nat := 0x250AC
/-- The address of CAL_LSET1. -/
abbrev Reg.CAL_LSET1 : Nat := 0x250BC
/-- The address of TMP_FILT29. -/
abbrev Reg.TMP_FILT29 : Nat := 0x50174
/-- The address of TMP_EVRAW1. -/
abbrev Reg.TMP_EVRAW1 : Nat := 0x50184
/-- The address of TMP_EVSET1. -/
abbrev Reg.TMP_EVSET1 : Nat := 0x5019C
/-- The offset of ID in the common header (R40). -/
abbrev Off.ID : Nat := 0x0
/-- The offset of CAPS in the common header (R40). -/
abbrev Off.CAPS : Nat := 0x4
/-- The offset of CTRL in the common header (R40). -/
abbrev Off.CTRL : Nat := 0x8
/-- The offset of STAT in the common header (R40). -/
abbrev Off.STAT : Nat := 0xC
/-- The offset of EVT_RAW in the common header (R40). -/
abbrev Off.EVT_RAW : Nat := 0x10
/-- The offset of EVT_EN in the common header (R40). -/
abbrev Off.EVT_EN : Nat := 0x14
/-- The offset of EVT_PEND in the common header (R40). -/
abbrev Off.EVT_PEND : Nat := 0x18
/-- The offset of EVT_SET in the common header (R40). -/
abbrev Off.EVT_SET : Nat := 0x1C
/-- The offset of LOCK in the common header (R40). -/
abbrev Off.LOCK : Nat := 0x20
/-- The offset of OWNER in the common header (R40). -/
abbrev Off.OWNER : Nat := 0x24
/-- The offset of SHADOW_STAT in the common header (R40). -/
abbrev Off.SHADOW_STAT : Nat := 0x28
/-- The offset of ERRINFO in the common header (R40). -/
abbrev Off.ERRINFO : Nat := 0x2C

end Sys2Proof.Machine
end

