-- ==== Sys2Proof/Machine/Ops.lean ====
section
/-! DEFINITION. The operations the meanings share: sparse maps, fields of words, page registers with their access checks
(R12 to R15, R36 to R51), events and their routing (R52 to R58), and taking and leaving an exception (R288 to R292). -/

namespace Sys2Proof.Machine

open Sys2Proof

/-! ### Sparse maps -/

/-- The value of key `a`, or `d` where it is not listed. -/
def mget {α : Type} (d : α) : Sparse α → Nat → α
  | [], _ => d
  | (k, v) :: m, a => if k = a then v else mget d m a

/-- The map without key `a`. -/
def merase {α : Type} : Sparse α → Nat → Sparse α
  | [], _ => []
  | (k, v) :: m, a => if k = a then merase m a else (k, v) :: merase m a

/-- The map with an entry for a key it does not hold, in its place. -/
def minsert {α : Type} : Sparse α → Nat → α → Sparse α
  | [], a, v => [(a, v)]
  | (k, w) :: m, a, v => if a < k then (a, v) :: (k, w) :: m else (k, w) :: minsert m a v

/-- The map with key `a` at `v`, where `d` is what the key reads as unlisted: writing `d` removes the entry. -/
def mset {α : Type} [DecidableEq α] (d : α) (m : Sparse α) (a : Nat) (v : α) : Sparse α :=
  if v = d then merase m a else minsert (merase m a) a v

/-- The canonical form of a map whose key `k` reads as `d k` where it is not listed: keys strictly rising, and no entry
equal to what it would read as unlisted. -/
def mwf {α : Type} [DecidableEq α] (d : Nat → α) : Sparse α → Bool
  | [] => true
  | [(k, v)] => decide (v ≠ d k)
  | (k, v) :: (k', v') :: m => decide (v ≠ d k) && decide (k < k') && mwf d ((k', v') :: m)

/-- The canonical form of the memories: every byte that nothing has written reads 0 and is not listed. -/
def Memory.wf (m : Mem) : Bool := mwf (fun _ => 0#8) m.sram && mwf (fun _ => 0#8) m.iram && mwf (fun _ => 0#8) m.dram

/-- Put a number into a rising list without repeats. -/
def linsert (a : Nat) : List Nat → List Nat
  | [] => [a]
  | b :: l => if a < b then a :: b :: l else if a = b then b :: l else b :: linsert a l

/-- Take a number out of a list. -/
def lerase (a : Nat) : List Nat → List Nat
  | [] => []
  | b :: l => if a = b then lerase a l else b :: lerase a l

/-- Whether a number is in a list. -/
def lmem (a : Nat) : List Nat → Bool
  | [] => false
  | b :: l => if a = b then true else lmem a l

/-! ### Fields of words -/

/-- A word of a number, modulo 2^32. -/
def word (n : Nat) : Word := BitVec.ofNat 32 n

/-- Field [hi:lo] of a word. -/
def fld (w : Word) (hi lo : Nat) : Nat := (w.toNat / 2 ^ lo) % 2 ^ (hi + 1 - lo)

/-- The mask of bits [hi:lo]. -/
def maskOf (hi lo : Nat) : Word := BitVec.ofNat 32 (2 ^ (hi + 1) - 2 ^ lo)

/-- The word with field [hi:lo] at `v`. -/
def setFld (w : Word) (hi lo v : Nat) : Word :=
  (w &&& ~~~ (maskOf hi lo)) ||| (BitVec.ofNat 32 (v * 2 ^ lo) &&& maskOf hi lo)

/-- Bit `k` of a word. -/
def bit (w : Word) (k : Nat) : Bool := w.toNat / 2 ^ k % 2 == 1

/-- The word with bit `k` at `b`. -/
def setBit (w : Word) (k : Nat) (b : Bool) : Word :=
  if b then w ||| BitVec.ofNat 32 (2 ^ k) else w &&& ~~~ (BitVec.ofNat 32 (2 ^ k))

/-- 1 or 0. -/
def b2n (b : Bool) : Nat := if b then 1 else 0

/-- The little-endian number of bytes (R1). -/
def leNat : Bytes → Nat
  | [] => 0
  | b :: bs => b.toNat + 256 * leNat bs

/-- A number in `n` bytes, least significant first (R1). -/
def leBytes : Nat → Nat → Bytes
  | 0, _ => []
  | n + 1, v => BitVec.ofNat 8 v :: leBytes n (v / 256)

/-- The big-endian number of bytes. -/
def beNat (bs : Bytes) : Nat := bs.foldl (fun a b => 256 * a + b.toNat) 0

/-- A number in `n` bytes, most significant first. -/
def beBytes (n v : Nat) : Bytes := (leBytes n v).reverse

/-- Sign-extension of the low `n` bits of `v` to a word. -/
def sext (n v : Nat) : Word :=
  let x := v % 2 ^ n
  if x < 2 ^ (n - 1) then word x else word (2 ^ 32 - 2 ^ n + x)

/-! ### Registers -/

/-- The row of the page map for a page. -/
def pageRow? (page : Nat) : Option PageRow :=
  pageRows.find? fun p => p.page ≤ page && page < p.page + p.pages

/-- The row of the register map for an offset of a page. -/
def regRow? (page off : Nat) : Option RegRow :=
  regRows.find? fun r => r.page ≤ page && page < r.page + r.pages && r.off ≤ off &&
    (off - r.off) % r.stride == 0 && (off - r.off) / r.stride < r.count

/-- A page that begins with the common header (R35). -/
def hasHeader (page : Nat) : Bool := page < 0x100 || page == 0x140

/-- CAPS of a page: LANES, ENGINE, SHADOW and EVT_BASE (R40). -/
def capsOf (p : PageRow) (page : Nat) : Word :=
  word (p.lanes * 0x10000 + b2n p.engine * 0x8000 + b2n (decide (0 < p.rwsRegs)) * 0x4000 +
    (p.evtBase + p.evtStride * (page - p.page)))

/-- The reset value of a register of the common header (R40); CTRL.EN of page 0x60 reads 1 (R301). -/
def headerReset (page off : Nat) : Word :=
  match pageRow? page with
  | none => 0#32
  | some p =>
    if off = 0 then word (p.typeCode * 0x10000 + (page - p.page) * 0x100 + 1)
    else if off = 4 then capsOf p page
    else if off = 8 then (if page = 0x60 then 1#32 else 0#32)
    else if off = 0x14 then 0x40000000#32
    else if off = 0x24 then (if p.owner = .d1 then 1#32 else 0#32)
    else 0#32

/-- What a register reads after reset (R40 and the register tables). -/
def resetVal (a : Nat) : Word :=
  if hasHeader (a / 4096) && a % 4096 < 0x80 then headerReset (a / 4096) (a % 4096)
  else match regRow? (a / 4096) (a % 4096) with
    | some r => r.reset
    | none => 0#32

/-- The one home of a register that two addresses name: the event registers of a doorbell page are those of CHN (R362). -/
def canon (a : Nat) : Nat :=
  let page := a / 4096
  if 0x100 ≤ page && page < 0x140 then
    let n := page - 0x100
    if a % 4096 = 0x14 then Reg.CHN_EVRAW + 4 * n
    else if a % 4096 = 0x18 then Reg.CHN_EVEN + 4 * n
    else if a % 4096 = 0x1C then Reg.CHN_EVPEND + 4 * n
    else a
  else a

/-- The value held at a register address. -/
def rd (s : State) (a : Nat) : Word := mget (resetVal a) s.regs a

/-- The state with a register at a value. -/
def wr (s : State) (a : Nat) (v : Word) : State := { s with regs := mset (resetVal a) s.regs a v }

/-- The state with a function applied to a register. -/
def upd (s : State) (a : Nat) (f : Word → Word) : State := wr s a (f (rd s a))

/-- A field of a register set. -/
def wrFld (s : State) (a hi lo v : Nat) : State := upd s a fun w => setFld w hi lo v

/-- A bit of a register set or cleared. -/
def wrBit (s : State) (a k : Nat) (b : Bool) : State := upd s a fun w => setBit w k b

/-- A saturating counter field [hi:lo] stepped by one. -/
def bumpSat (s : State) (a hi lo : Nat) : State :=
  upd s a fun w => if fld w hi lo + 1 < 2 ^ (hi + 1 - lo) then setFld w hi lo (fld w hi lo + 1) else w

/-- A counter of a whole register stepped by one, modulo 2^32. -/
def bumpMod (s : State) (a : Nat) : State := upd s a fun w => w + 1#32

/-- The address of a header register of a page. -/
def hdr (page off : Nat) : Nat := page * 4096 + off

/-- Raise bit `k` of a page's EVT_RAW. -/
def raise (s : State) (page k : Nat) : State := wrBit s (hdr page Off.EVT_RAW) k true

/-- Give a message to the outside. -/
def emit (s : State) (m : Msg) : State := { s with out := s.out ++ [m] }

/-- A copy of an RWS register's shadow (R50). -/
def shadowOf (s : State) (a : Nat) : Word := mget (~~~ (resetVal a)) s.shadow a

/-- What a block sees of an RWS register: its reset value while it mismatches its shadow (R50). -/
def eff (s : State) (a : Nat) : Word := if shadowOf s a = ~~~ (rd s a) then rd s a else resetVal a

/-- The place of an RWS register in its page's order (R508, R509). -/
def rwsIndex (a : Nat) : Nat :=
  if a < Reg.SHD_OFFLVL then (a - Reg.TMP_LEVEL0) / 4
  else if a = Reg.SHD_OFFLVL then 0
  else if a = Reg.SHD_CASECFG then 1
  else 2 + (a - Reg.SHD_LOOPCFG) / 4

/-! ### Ownership and access errors -/

/-- The domain that owns a page (R12, R34). A doorbell page is held by the domain its channel is bound to. -/
def pageDomain (s : State) (page : Nat) : Nat :=
  match pageRow? page with
  | none => 0
  | some p =>
    match p.owner with
    | .d0 => 0
    | .d1 => 1
    | .assigned => fld (rd s (hdr page Off.OWNER)) 5 0
    | .doorbell => fld (rd s (Reg.CHN_CFG + 32 * (page - 0x100))) 21 16
    | .host => 0

/-- PSW.DOMAIN of a core. -/
def domOf (c : Core) : Nat := fld c.psw 21 16

/-- The domain tag of an initiator (R11); the host has none. -/
def tagOf (s : State) : Initiator → Option Nat
  | .ac0 => some (domOf s.ac0)
  | .ac1 => some (domOf s.ac1)
  | .mc => some 1
  | .tally => some 1
  | .cal => some 1
  | .intake => some (pageDomain s 0x18)
  | .fab p => some (pageDomain s (0x40 + p.val))
  | .dma n => some (fld (rd s (Reg.CHN_CFG + 32 * n.val)) 21 16)
  | .pcie => none
  | .cport => none
  | .debug => some 0

/-- The initiator code of ERRINFO.INIT (R51). -/
def initCode : Initiator → Nat
  | .ac0 => 0 | .ac1 => 1 | .mc => 2 | .tally => 3 | .cal => 4 | .intake => 5
  | .fab p => 6 + p.val
  | .dma _ => 10 | .pcie => 11 | .cport => 12 | .debug => 13

/-- Whether the host makes the access. -/
def isHost : Initiator → Bool
  | .pcie => true
  | .cport => true
  | _ => false

/-- Whether a page lets an initiator read (R12). -/
def mayRead (s : State) (i : Initiator) (page : Nat) : Bool :=
  match pageRow? page with
  | none => false
  | some p =>
    match p.owner, tagOf s i with
    | .host, t => t.isNone
    | .d0, some t => t == 0 || decide (i = .mc)
    | .d1, some _ => true
    | .doorbell, some t => t == pageDomain s page
    | .doorbell, none => true
    | .assigned, some t => t == pageDomain s page || t == 0 || (pageDomain s page == 0 && decide (i = .mc))
    | _, none => false

/-- Whether a page lets an initiator write at an offset (R12, R13); a page under reassignment refuses all but the write
of OWNER that R49 discards (R48). -/
def mayWrite (s : State) (i : Initiator) (page off : Nat) : Bool :=
  match pageRow? page with
  | none => false
  | some p =>
    match p.owner, tagOf s i with
    | .host, t => t.isNone
    | .d0, some t => t == 0
    | .d1, some _ => decide (i = .mc)
    | .doorbell, some t => t == pageDomain s page
    | .doorbell, none => true
    | .assigned, some t =>
      if off = Off.OWNER then t == 0
      else t == pageDomain s page && !bit (rd s (hdr page Off.OWNER)) 31
    | _, none => false

/-- Where a page records its access errors. -/
def errReg (page : Nat) : Nat := if hasHeader page then hdr page Off.ERRINFO else hdr page 0x20

/-- Record an access error in a page's ERRINFO (R51), with its event cause: LOCK_ERR for kind 4, else ACCESS_ERR; on a
doorbell page the cause is DBERR (R363). -/
def noteErr (s : State) (i : Initiator) (page off kind : Nat) (write : Bool) : State :=
  let a := errReg page
  let w := rd s a
  let s1 :=
    if bit w 31 then wrBit s a 30 true
    else wr s a (word (0x80000000 + ((tagOf s i).getD 0) * 0x1000000 + initCode i * 0x100000 + kind * 0x10000 +
      b2n write * 0x8000 + (off / 4 % 1024) * 4))
  if hasHeader page then raise s1 page (if kind = 4 then 29 else 31)
  else wrBit s1 (Reg.CHN_EVRAW + 4 * (page - 0x100)) 2 true

/-- The page's LOCK bit. -/
def locked (s : State) (page : Nat) : Bool := bit (rd s (hdr page Off.LOCK)) 0

/-- Bits of CTRL that a write can change on a page. -/
def ctrlMask (p : PageRow) : Word := if p.engine then 7#32 else 0#32

/-- The code and the writable bits of a register, header registers among them; none at a reserved offset (R38). -/
def codeOf (page off : Nat) : Option (Code × Word) :=
  if hasHeader page && off < 0x80 then
    match pageRow? page with
    | none => none
    | some p =>
      if off = 0 || off = 4 || off = 0xC || off = 0x18 || off = 0x28 then some (.ro, 0#32)
      else if off = 8 then some (.rw, ctrlMask p)
      else if off = 0x10 then some (.w1c, 0xFFFFFFFF#32)
      else if off = 0x14 then some (.rw, 0xBFFFFFFF#32)
      else if off = 0x1C then some (.w1s, 0x1FFFFFFF#32)
      else if off = 0x20 then some (.w1s, 1#32)
      else if off = 0x24 then some ((if p.owner = .assigned then .rw else .ro), 0x3F#32)
      else if off = 0x2C then some (.w1c, 0xC0000000#32)
      else none
  else match regRow? page off with
    | some r => some (r.code, r.mask)
    | none => none

/-- The register that a write to a set register sets bits in (R45, R46); other registers set their own. -/
def setTarget (a : Nat) : Nat :=
  let page := a / 4096
  let off := a % 4096
  if hasHeader page && off = 0x1C then hdr page 0x10
  else if 0x20 ≤ page && page < 0x24 && 0x900 ≤ off && off < 0xA00 then a - 0x300
  else if 0x32 ≤ page && page < 0x34 && 0x900 ≤ off && off < 0xA00 then a - 0x300
  else if page = 0x30 && 0xD00 ≤ off && off < 0xE00 then a - 0x300
  else if page = 0x50 && 0x198 ≤ off && off < 0x1A0 then a - 0x18
  else if page = 0x25 && 0xB8 ≤ off && off < 0xC0 then a - 0x18
  else if a = Reg.EVR_SWDB_SET then Reg.EVR_SWDB
  else a

/-- Store into a register by its access code, for an access that ownership permits (R36 to R39, R47). -/
def storeReg (s : State) (i : Initiator) (a : Nat) (v : Word) : State :=
  let page := a / 4096
  let off := a % 4096
  match codeOf page off with
  | none => noteErr s i page off 3 true
  | some (code, mask) =>
    let old := rd s a
    let new := (old &&& ~~~ mask) ||| (v &&& mask)
    match code with
    | .rw => wr s a new
    | .rwm => wr s a new
    | .wo => wr s a (v &&& mask)
    | .ro => noteErr s i page off (if off = Off.OWNER && hasHeader page then 5 else 6) true
    | .w1c => wr s a (old &&& ~~~ (v &&& mask))
    | .w1s => upd s (setTarget a) fun w => w ||| (v &&& mask)
    | .rwl => if locked s page then noteErr s i page off 4 true else wr s a new
    | .rws =>
      if locked s page then noteErr s i page off 4 true
      else
        let s1 := { wr s a new with shadow := mset (~~~ (resetVal a)) s.shadow a (~~~ new) }
        wrBit s1 (hdr page Off.SHADOW_STAT) (rwsIndex a) false

/-- The outcome of an access at a page: performed, or refused with an ERRINFO KIND (R15), or outside the map (R34). -/
inductive Verdict where
  | ok | domain | width | nopage
  deriving DecidableEq, Repr

/-- Whether an initiator's address map holds a page (R27, R30, R34): the host reaches the doorbell pages and HIF alone, and nobody
else reaches HIF. -/
def reaches (i : Initiator) (page : Nat) : Bool :=
  match pageRow? page with
  | none => false
  | some p =>
    match p.owner with
    | .host => isHost i
    | .doorbell => true
    | _ => !isHost i

/-- The checks a page makes before a write is performed (R12, R34, R37). -/
def writeVerdict (s : State) (i : Initiator) (a : Nat) : Verdict :=
  if !reaches i (a / 4096) then .nopage
  else if a % 4 ≠ 0 then .width
  else if mayWrite s i (a / 4096) (a % 4096) then .ok else .domain

/-- The checks a page makes before a read is performed (R12, R34, R37). -/
def readVerdict (s : State) (i : Initiator) (a : Nat) : Verdict :=
  if !reaches i (a / 4096) then .nopage
  else if a % 4 ≠ 0 then .width
  else if mayRead s i (a / 4096) then .ok else .domain

/-! ### Work of the blocks -/

/-- Whether a block takes new work: enabled, not quiescing, in service, not under reassignment and not in self-test
(R41 to R43, R48). -/
def accepting (s : State) (page : Nat) : Bool :=
  let c := rd s (hdr page Off.CTRL)
  bit c 0 && !bit c 1 && !bit c 2 && !bit (rd s (hdr page Off.STAT)) 5 && !bit (rd s (hdr page Off.OWNER)) 31 && !lmem page s.enOff

/-- Whether a block is enabled (R41). -/
def enabled (s : State) (page : Nat) : Bool := bit (rd s (hdr page Off.CTRL)) 0

/-! ### Events -/

/-- A row of the event allocation (R52): `count` events from `ev` on, driven by bits from `bit0` on of a raw and an
enable register. -/
structure EventRow where
  ev : Nat
  count : Nat
  raw : Nat
  en : Nat
  bit0 : Nat
  deriving DecidableEq, Repr

/-- An event row of the common header of a page. -/
def hdrRow (ev count page bit0 : Nat) : EventRow := ⟨ev, count, hdr page 0x10, hdr page 0x14, bit0⟩

/-- The events that page causes drive, in the order of their chapters (R203 to R542). -/
def eventRows : List EventRow :=
  [hdrRow 0 3 0x00 0, hdrRow 3 1 0x29 1, hdrRow 8 6 0x01 0, hdrRow 16 9 0x02 0, hdrRow 128 7 0x05 0, hdrRow 144 2 0x04 0,
   hdrRow 152 4 0x06 0, hdrRow 192 4 0x08 0, hdrRow 196 4 0x09 0, hdrRow 200 4 0x0A 0, hdrRow 204 4 0x0B 0,
   hdrRow 208 4 0x0C 0, hdrRow 212 4 0x0D 0, hdrRow 216 4 0x0E 0, hdrRow 220 4 0x0F 0, hdrRow 224 4 0x10 0,
   hdrRow 228 4 0x11 0, hdrRow 232 4 0x12 0, hdrRow 236 4 0x13 0, hdrRow 240 4 0x14 0, hdrRow 244 6 0x18 0,
   hdrRow 250 2 0x1A 0] ++
  [hdrRow 768 8 0x40 0, hdrRow 776 8 0x41 0, hdrRow 784 8 0x42 0, hdrRow 792 8 0x43 0, hdrRow 800 7 0x44 0,
   hdrRow 832 11 0x48 0, hdrRow 896 4 0x39 0, hdrRow 900 7 0x38 0, hdrRow 907 1 0x31 0, hdrRow 960 5 0x58 0,
   hdrRow 970 1 0x29 0, ⟨64, 32, Reg.TMP_EVRAW, Reg.TMP_EVEN, 0⟩, ⟨96, 1, Reg.TMP_EVRAW + 4, Reg.TMP_EVEN + 4, 0⟩,
   ⟨512, 32, Reg.CAL_LRAW, Reg.CAL_LEN, 0⟩, ⟨544, 31, Reg.CAL_LRAW + 4, Reg.CAL_LEN + 4, 0⟩]

/-- The pages whose errors a page-error event reports (R34, R53). -/
def errPages (ev : Nat) : List Nat :=
  (pageRows.filter fun p => p.errEvent == ev && !decide (p.owner = .doorbell)).flatMap fun p => (List.range p.pages).map (p.page + ·)

/-- EVT_PEND of a page. -/
def evtPend (s : State) (page : Nat) : Word := rd s (hdr page 0x10) &&& rd s (hdr page 0x14)

/-- Whether an event is asserted (R46, R52, R53, R577). -/
def asserted (s : State) (ev : Nat) : Bool :=
  if 256 ≤ ev && ev < 512 then
    let a := Reg.TAL_EVRAW + (ev - 256) / 64 * 4096 + (ev - 256) % 64 * 4
    (rd s a &&& rd s (a + 0x100)) != 0#32
  else if 576 ≤ ev && ev < 640 then
    (rd s (Reg.CHN_EVRAW + 4 * (ev - 576)) &&& rd s (Reg.CHN_EVEN + 4 * (ev - 576))) != 0#32
  else if 640 ≤ ev && ev < 768 then
    let a := Reg.TIL_EVRAW + (ev - 640) / 64 * 4096 + (ev - 640) % 64 * 4
    (rd s a &&& rd s (a + 0x100)) != 0#32
  else if ev = 575 then
    (evtPend s 0x25 &&& 0x1FFFFFFF#32) != 0#32 || (evtPend s 0x28 &&& 0x1FFFFFFF#32) != 0#32
  else if ev = 968 then (evtPend s 0x60 &&& 3#32) != 0#32
  else if ev = 969 then (evtPend s 0x61 &&& 3#32) != 0#32
  else if 992 ≤ ev && ev < 1008 then bit (rd s Reg.EVR_SWDB) (ev - 992)
  else if 1008 ≤ ev && ev < 1024 then bit (rd s Reg.MCC_SWDB) (ev - 1008)
  else
    (eventRows.any fun r => r.ev ≤ ev && ev < r.ev + r.count && bit (rd s r.raw &&& rd s r.en) (r.bit0 + (ev - r.ev))) ||
    (errPages ev).any fun p => (evtPend s p &&& 0xA0000000#32) != 0#32

/-- The route entry of an event (R58), of a word of EVR_ROUTE. -/
def routeOf (w : Word) (ev : Nat) : Word := if ev % 2 = 0 then w &&& 0xFFFF#32 else w >>> 16

/-- The address of the EVR_ROUTE word of an event. -/
def routeReg (ev : Nat) : Nat := Reg.EVR_ROUTE + 4 * (ev / 2)

/-- Whether an MSI-X vector is masked: its vector control word resets to 1 (R416). -/
def vecMasked (p : Pcie) (v : Nat) : Bool := bit (mget 1#32 p.msixTab (4 * v + 3)) 0

/-- Whether messages may be sent at all (R416). -/
def msixOpen (p : Pcie) : Bool := p.msixEn && !p.fmask && p.bme

/-- Send a vector's message, or set its pending bit where it cannot be sent (R56, R416). -/
def sendVec (p : Pcie) (r : Router) (v : Nat) : Router :=
  if msixOpen p && !vecMasked p v then { r with sent := r.sent ++ [.msix v] }
  else { r with pba := r.pba ||| BitVec.ofNat 64 (2 ^ v) }

/-- Deliver one event by its route entry, given whether it was asserted and how it was routed before (R56, R58). -/
def deliver (p : Pcie) (dst : Word) (r : Router) (ev : Nat) (was now : Bool) (e0 e1 : Word) : Router :=
  let r1 :=
    if now && bit e1 13 && !(was && bit e0 13 && fld e0 12 7 == fld e1 12 7) then sendVec p r (fld e1 12 7) else r
  if now && bit e1 15 && !(was && bit e0 15) then { r1 with notes := r1.notes ++ [(ev, fld dst 15 0)] } else r1

/-- Deliver both events of a word of EVR_ROUTE. -/
def deliverWord (s0 s1 : State) (r : Router) (a : Nat) : Router :=
  let ev := (a - Reg.EVR_ROUTE) / 2
  let w0 := rd s0 a
  let w1 := rd s1 a
  let dst := rd s1 Reg.EVR_FABDST
  let r1 := deliver s1.pcie dst r ev (asserted s0 ev) (asserted s1 ev) (routeOf w0 ev) (routeOf w1 ev)
  deliver s1.pcie dst r1 (ev + 1) (asserted s0 (ev + 1)) (asserted s1 (ev + 1)) (routeOf w0 (ev + 1)) (routeOf w1 (ev + 1))

/-- The EVR_ROUTE words that route anything: those listed. -/
def routedWords (m : Sparse Word) : List Nat :=
  (m.filter fun kv => kv.1 % 4 == 0 && Reg.EVR_ROUTE ≤ kv.1 && kv.1 < Reg.EVR_ROUTE + 0x800).map (·.1)

/-- Whether EVT_N is driven low (R57). -/
def evtN (s : State) : Bool :=
  bit (rd s Reg.EVR_EVTN) 0 &&
  (routedWords s.regs).any fun a =>
    let ev := (a - Reg.EVR_ROUTE) / 2
    (asserted s ev && bit (routeOf (rd s a) ev) 14) || (asserted s (ev + 1) && bit (routeOf (rd s a) (ev + 1)) 14)

/-- Whether CLKREQ_N is driven low (R417). -/
def clkreqLow (s : State) : Bool := s.pmu.vmain && !(s.pcie.clkPm && s.pcie.l1)

/-- Whether WAKE_N is driven low (R417). -/
def wakeLow (s : State) : Bool :=
  bit (rd s Reg.PCI_CFG) 5 && !s.pcie.linkUp &&
    (routedWords s.regs).any fun a =>
      let ev := (a - Reg.EVR_ROUTE) / 2
      (asserted s ev && bit (routeOf (rd s a) ev) 13) || (asserted s (ev + 1) && bit (routeOf (rd s a) (ev + 1)) 13)

/-- The open-drain outputs a state drives (R57, R417). -/
def pinsOf (s : State) : Pins := { evtN := evtN s, wakeN := wakeLow s, clkreqN := clkreqLow s }

/-- The router and the outputs after a command: what the change of the events and routes sends (R56 to R58), and the pins that follow them.
Only these two change. -/
def settle (s0 s1 : State) : State :=
  { s1 with router := (routedWords s1.regs).foldl (deliverWord s0 s1) s1.router, pins := pinsOf s1 }

/-- Where a command that turns `s` into `t` leaves the block: it settles, and the queue is the one the command was given. -/
def landed (s t : State) : State := { settle s t with pending := s.pending }

/-- The outcome of a command that turns `s` into `t`. -/
def finish (s t : State) : Host.Outcome State Fault Refusal := .next (landed s t)

/-- The candidates a core may claim: asserted, routed to it and not in service, with their levels. -/
def claimable (s : State) (n : Nat) : List (Nat × Nat) :=
  let svc := if n = 0 then s.router.svc0 else s.router.svc1
  ((routedWords s.regs).flatMap fun a =>
    let ev := (a - Reg.EVR_ROUTE) / 2
    [(ev, routeOf (rd s a) ev), (ev + 1, routeOf (rd s a) (ev + 1))]).filterMap fun (ev, e) =>
      if fld e 6 5 == n + 1 && asserted s ev && !lmem ev svc then some (ev, fld e 4 0) else none

/-- The candidates of MC, over its own table (R54, R304). -/
def claimableMc (s : State) : List (Nat × Nat) :=
  s.mcc.evt.filterMap fun (ev, w) =>
    if bit w 7 && asserted s ev && !lmem ev s.router.svcM then some (ev, fld w 4 0) else none

/-- The candidates of a core. -/
def claimableOf (s : State) : CoreId → List (Nat × Nat)
  | .ac0 => claimable s 0
  | .ac1 => claimable s 1
  | .mc => claimableMc s

/-- The highest level, and among equal levels the lowest event (R55). -/
def bestClaim : List (Nat × Nat) → Option (Nat × Nat)
  | [] => none
  | (e, l) :: rest =>
    match bestClaim rest with
    | none => some (e, l)
    | some (e', l') => if l' > l || (l' == l && e' < e) then some (e', l') else some (e, l)

/-! ### The device -/

/-- A fresh free value's number, and the state with the counter advanced. -/
def fresh (s : State) : Nat × State := (s.fresh, { s with fresh := s.fresh + 1 })

end Sys2Proof.Machine
end

