-- ==== Sys2Proof/Machine/Hashes.lean ====
section
/-! DEFINITION. The hash functions of the manual's standards (R4): SHA-256, SHA-384 and SHA-512 (FIPS 180-4), SHA3-256,
SHA3-512, SHAKE128 and SHAKE256 (FIPS 202), HMAC (FIPS 198-1), and the CRCs. Strings are in the standards' byte order (R2). -/

namespace Sys2Proof.Machine

open Sys2Proof

/-- The round constants of SHA-256. -/
def sha256K : List Word :=
  [0x428A2F98#32, 0x71374491#32, 0xB5C0FBCF#32, 0xE9B5DBA5#32, 0x3956C25B#32, 0x59F111F1#32, 0x923F82A4#32, 0xAB1C5ED5#32, 0xD807AA98#32, 0x12835B01#32, 0x243185BE#32, 0x550C7DC3#32, 0x72BE5D74#32, 0x80DEB1FE#32, 0x9BDC06A7#32, 0xC19BF174#32, 0xE49B69C1#32, 0xEFBE4786#32, 0xFC19DC6#32, 0x240CA1CC#32, 0x2DE92C6F#32, 0x4A7484AA#32, 0x5CB0A9DC#32, 0x76F988DA#32, 0x983E5152#32, 0xA831C66D#32, 0xB00327C8#32, 0xBF597FC7#32, 0xC6E00BF3#32, 0xD5A79147#32, 0x6CA6351#32, 0x14292967#32] ++
  [0x27B70A85#32, 0x2E1B2138#32, 0x4D2C6DFC#32, 0x53380D13#32, 0x650A7354#32, 0x766A0ABB#32, 0x81C2C92E#32, 0x92722C85#32, 0xA2BFE8A1#32, 0xA81A664B#32, 0xC24B8B70#32, 0xC76C51A3#32, 0xD192E819#32, 0xD6990624#32, 0xF40E3585#32, 0x106AA070#32, 0x19A4C116#32, 0x1E376C08#32, 0x2748774C#32, 0x34B0BCB5#32, 0x391C0CB3#32, 0x4ED8AA4A#32, 0x5B9CCA4F#32, 0x682E6FF3#32, 0x748F82EE#32, 0x78A5636F#32, 0x84C87814#32, 0x8CC70208#32, 0x90BEFFFA#32, 0xA4506CEB#32, 0xBEF9A3F7#32, 0xC67178F2#32]

/-- The initial hash value of SHA-256. -/
def sha256H : List Word :=
  [0x6A09E667#32, 0xBB67AE85#32, 0x3C6EF372#32, 0xA54FF53A#32, 0x510E527F#32, 0x9B05688C#32, 0x1F83D9AB#32, 0x5BE0CD19#32]

/-- The round constants of SHA-384 and SHA-512. -/
def sha512K : List DWord :=
  [0x428A2F98D728AE22#64, 0x7137449123EF65CD#64, 0xB5C0FBCFEC4D3B2F#64, 0xE9B5DBA58189DBBC#64, 0x3956C25BF348B538#64, 0x59F111F1B605D019#64, 0x923F82A4AF194F9B#64, 0xAB1C5ED5DA6D8118#64, 0xD807AA98A3030242#64, 0x12835B0145706FBE#64, 0x243185BE4EE4B28C#64, 0x550C7DC3D5FFB4E2#64, 0x72BE5D74F27B896F#64, 0x80DEB1FE3B1696B1#64, 0x9BDC06A725C71235#64, 0xC19BF174CF692694#64, 0xE49B69C19EF14AD2#64, 0xEFBE4786384F25E3#64, 0xFC19DC68B8CD5B5#64, 0x240CA1CC77AC9C65#64] ++
  [0x2DE92C6F592B0275#64, 0x4A7484AA6EA6E483#64, 0x5CB0A9DCBD41FBD4#64, 0x76F988DA831153B5#64, 0x983E5152EE66DFAB#64, 0xA831C66D2DB43210#64, 0xB00327C898FB213F#64, 0xBF597FC7BEEF0EE4#64, 0xC6E00BF33DA88FC2#64, 0xD5A79147930AA725#64, 0x6CA6351E003826F#64, 0x142929670A0E6E70#64, 0x27B70A8546D22FFC#64, 0x2E1B21385C26C926#64, 0x4D2C6DFC5AC42AED#64, 0x53380D139D95B3DF#64, 0x650A73548BAF63DE#64, 0x766A0ABB3C77B2A8#64, 0x81C2C92E47EDAEE6#64, 0x92722C851482353B#64] ++
  [0xA2BFE8A14CF10364#64, 0xA81A664BBC423001#64, 0xC24B8B70D0F89791#64, 0xC76C51A30654BE30#64, 0xD192E819D6EF5218#64, 0xD69906245565A910#64, 0xF40E35855771202A#64, 0x106AA07032BBD1B8#64, 0x19A4C116B8D2D0C8#64, 0x1E376C085141AB53#64, 0x2748774CDF8EEB99#64, 0x34B0BCB5E19B48A8#64, 0x391C0CB3C5C95A63#64, 0x4ED8AA4AE3418ACB#64, 0x5B9CCA4F7763E373#64, 0x682E6FF3D6B2B8A3#64, 0x748F82EE5DEFB2FC#64, 0x78A5636F43172F60#64, 0x84C87814A1F0AB72#64, 0x8CC702081A6439EC#64] ++
  [0x90BEFFFA23631E28#64, 0xA4506CEBDE82BDE9#64, 0xBEF9A3F7B2C67915#64, 0xC67178F2E372532B#64, 0xCA273ECEEA26619C#64, 0xD186B8C721C0C207#64, 0xEADA7DD6CDE0EB1E#64, 0xF57D4F7FEE6ED178#64, 0x6F067AA72176FBA#64, 0xA637DC5A2C898A6#64, 0x113F9804BEF90DAE#64, 0x1B710B35131C471B#64, 0x28DB77F523047D84#64, 0x32CAAB7B40C72493#64, 0x3C9EBE0A15C9BEBC#64, 0x431D67C49C100D4C#64, 0x4CC5D4BECB3E42B6#64, 0x597F299CFC657E2A#64, 0x5FCB6FAB3AD6FAEC#64, 0x6C44198C4A475817#64]

/-- The initial hash value of SHA-512. -/
def sha512H : List DWord :=
  [0x6A09E667F3BCC908#64, 0xBB67AE8584CAA73B#64, 0x3C6EF372FE94F82B#64, 0xA54FF53A5F1D36F1#64, 0x510E527FADE682D1#64, 0x9B05688C2B3E6C1F#64, 0x1F83D9ABFB41BD6B#64, 0x5BE0CD19137E2179#64]

/-- The initial hash value of SHA-384. -/
def sha384H : List DWord :=
  [0xCBBB9D5DC1059ED8#64, 0x629A292A367CD507#64, 0x9159015A3070DD17#64, 0x152FECD8F70E5939#64, 0x67332667FFC00B31#64, 0x8EB44A8768581511#64, 0xDB0C2E0D64F98FA7#64, 0x47B5481DBEFA4FA4#64]

/-- The round constants of Keccak-f[1600]. -/
def keccakRC : List DWord :=
  [0x1#64, 0x8082#64, 0x800000000000808A#64, 0x8000000080008000#64, 0x808B#64, 0x80000001#64, 0x8000000080008081#64, 0x8000000000008009#64, 0x8A#64, 0x88#64, 0x80008009#64, 0x8000000A#64, 0x8000808B#64, 0x800000000000008B#64, 0x8000000000008089#64, 0x8000000000008003#64, 0x8000000000008002#64, 0x8000000000000080#64, 0x800A#64, 0x800000008000000A#64, 0x8000000080008081#64, 0x8000000000008080#64, 0x80000001#64, 0x8000000080008008#64]

/-- A list cut into pieces of `n`, `fuel` of them at most. -/
def pieces {α : Type} (n : Nat) : Nat → List α → List (List α)
  | 0, _ => []
  | fuel + 1, l => if l.isEmpty then [] else l.take n :: pieces n fuel (l.drop n)

/-- The bytes of a 32-bit word, most significant first. -/
def wordBe (w : Word) : Bytes := beBytes 4 w.toNat

/-- `n` zero bytes. -/
def zeros (n : Nat) : Bytes := List.replicate n 0#8

/-- A byte of a number. -/
def byte (n : Nat) : Byte := BitVec.ofNat 8 n

/-- The bytewise exclusive or of two strings, as long as the shorter. -/
def xorBytes (a b : Bytes) : Bytes := List.zipWith (· ^^^ ·) a b

/-! ### SHA-2 -/

/-- The padding of SHA-256 for a message of `n` bytes. -/
def sha256Pad (n : Nat) : Bytes := 0x80#8 :: (zeros ((119 - n % 64) % 64) ++ beBytes 8 (8 * n))

/-- One step of the message schedule, kept as the last 16 words, oldest first. -/
def sha256Next (w : List Word) : Word :=
  let a := w.getD 1 0#32
  let b := w.getD 14 0#32
  (b.rotateRight 17 ^^^ b.rotateRight 19 ^^^ (b >>> 10)) + w.getD 9 0#32 +
    (a.rotateRight 7 ^^^ a.rotateRight 18 ^^^ (a >>> 3)) + w.getD 0 0#32

/-- The rounds over the constants, with the schedule window. -/
def sha256Rounds : List Word → List Word → Word × Word × Word × Word × Word × Word × Word × Word →
    Word × Word × Word × Word × Word × Word × Word × Word
  | [], _, r => r
  | k :: ks, w, (a, b, c, d, e, f, g, h) =>
    let t1 := h + (e.rotateRight 6 ^^^ e.rotateRight 11 ^^^ e.rotateRight 25) + ((e &&& f) ^^^ (~~~ e &&& g)) + k + w.getD 0 0#32
    let t2 := (a.rotateRight 2 ^^^ a.rotateRight 13 ^^^ a.rotateRight 22) + ((a &&& b) ^^^ (a &&& c) ^^^ (b &&& c))
    sha256Rounds ks (w.drop 1 ++ [sha256Next w]) (t1 + t2, a, b, c, d + t1, e, f, g)

/-- The compression of one 64-byte block. -/
def sha256Block (hs : List Word) (blk : Bytes) : List Word :=
  let w := (pieces 4 16 blk).map fun p => BitVec.ofNat 32 (beNat p)
  let g := fun i => hs.getD i 0#32
  match sha256Rounds sha256K w (g 0, g 1, g 2, g 3, g 4, g 5, g 6, g 7) with
  | (a, b, c, d, e, f, g', h) => [g 0 + a, g 1 + b, g 2 + c, g 3 + d, g 4 + e, g 5 + f, g 6 + g', g 7 + h]

/-- SHA-256. -/
def sha256 (m : Bytes) : Bytes :=
  let p := m ++ sha256Pad m.length
  ((pieces 64 (p.length / 64) p).foldl sha256Block sha256H).flatMap wordBe

/-- The padding of SHA-384 and SHA-512. -/
def sha512Pad (n : Nat) : Bytes := 0x80#8 :: (zeros ((239 - n % 128) % 128) ++ beBytes 16 (8 * n))

/-- One step of the message schedule of SHA-512. -/
def sha512Next (w : List DWord) : DWord :=
  let a := w.getD 1 0#64
  let b := w.getD 14 0#64
  (b.rotateRight 19 ^^^ b.rotateRight 61 ^^^ (b >>> 6)) + w.getD 9 0#64 +
    (a.rotateRight 1 ^^^ a.rotateRight 8 ^^^ (a >>> 7)) + w.getD 0 0#64

/-- The rounds of SHA-512. -/
def sha512Rounds : List DWord → List DWord → DWord × DWord × DWord × DWord × DWord × DWord × DWord × DWord →
    DWord × DWord × DWord × DWord × DWord × DWord × DWord × DWord
  | [], _, r => r
  | k :: ks, w, (a, b, c, d, e, f, g, h) =>
    let t1 := h + (e.rotateRight 14 ^^^ e.rotateRight 18 ^^^ e.rotateRight 41) + ((e &&& f) ^^^ (~~~ e &&& g)) + k + w.getD 0 0#64
    let t2 := (a.rotateRight 28 ^^^ a.rotateRight 34 ^^^ a.rotateRight 39) + ((a &&& b) ^^^ (a &&& c) ^^^ (b &&& c))
    sha512Rounds ks (w.drop 1 ++ [sha512Next w]) (t1 + t2, a, b, c, d + t1, e, f, g)

/-- The compression of one 128-byte block. -/
def sha512Block (hs : List DWord) (blk : Bytes) : List DWord :=
  let w := (pieces 8 16 blk).map fun p => BitVec.ofNat 64 (beNat p)
  let g := fun i => hs.getD i 0#64
  match sha512Rounds sha512K w (g 0, g 1, g 2, g 3, g 4, g 5, g 6, g 7) with
  | (a, b, c, d, e, f, g', h) => [g 0 + a, g 1 + b, g 2 + c, g 3 + d, g 4 + e, g 5 + f, g 6 + g', g 7 + h]

/-- The chain of SHA-512 from an initial value. -/
def sha512From (iv : List DWord) (m : Bytes) : Bytes :=
  let p := m ++ sha512Pad m.length
  ((pieces 128 (p.length / 128) p).foldl sha512Block iv).flatMap fun w => beBytes 8 w.toNat

/-- SHA-512. -/
def sha512 (m : Bytes) : Bytes := sha512From sha512H m

/-- SHA-384. -/
def sha384 (m : Bytes) : Bytes := (sha512From sha384H m).take 48

/-! ### Keccak -/

/-- A lane of the state, at x + 5 y. -/
def kLane (a : List DWord) (x y : Nat) : DWord := a.getD (x % 5 + 5 * (y % 5)) 0#64

/-- The rotation offsets of rho, at x + 5 y. -/
def keccakRot : List Nat := [0, 1, 62, 28, 27, 36, 44, 6, 55, 20, 3, 10, 43, 25, 39, 41, 45, 15, 21, 8, 18, 2, 61, 56, 14]

/-- One round of Keccak-f[1600]. -/
def keccakRound (a : List DWord) (rc : DWord) : List DWord :=
  let c := (List.range 5).map fun x => kLane a x 0 ^^^ kLane a x 1 ^^^ kLane a x 2 ^^^ kLane a x 3 ^^^ kLane a x 4
  let d := (List.range 5).map fun x => c.getD ((x + 4) % 5) 0#64 ^^^ (c.getD ((x + 1) % 5) 0#64).rotateLeft 1
  let t := (List.range 25).map fun i => (a.getD i 0#64 ^^^ d.getD (i % 5) 0#64).rotateLeft (keccakRot.getD i 0)
  -- pi: B[y, 2x + 3y] = t[x, y], so B[X, Y] comes from x = X + 3 Y, y = X
  let b := (List.range 25).map fun i => kLane t (i % 5 + 3 * (i / 5)) (i % 5)
  (List.range 25).map fun i =>
    let v := kLane b (i % 5) (i / 5) ^^^ (~~~ (kLane b (i % 5 + 1) (i / 5)) &&& kLane b (i % 5 + 2) (i / 5))
    if i = 0 then v ^^^ rc else v

/-- Keccak-f[1600]. -/
def keccakF (a : List DWord) : List DWord := keccakRC.foldl keccakRound a

/-- A block of bytes xored into the state. -/
def keccakAbsorb (a : List DWord) (blk : Bytes) : List DWord :=
  keccakF ((List.range 25).map fun i => a.getD i 0#64 ^^^ BitVec.ofNat 64 (leNat ((blk.drop (8 * i)).take 8)))

/-- The padded message of a sponge with rate `r` bytes and domain byte `dom`. -/
def keccakPad (r : Nat) (dom : Byte) (m : Bytes) : Bytes :=
  let q := r - m.length % r
  m ++ (if q = 1 then [dom ||| 0x80#8] else dom :: (zeros (q - 2) ++ [0x80#8]))

/-- The bytes of the rate part of a state. -/
def keccakOut (r : Nat) (a : List DWord) : Bytes := (a.flatMap fun w => leBytes 8 w.toNat).take r

/-- The output blocks of a sponge, `n` of them. -/
def keccakSqueeze (r : Nat) : Nat → List DWord → Bytes
  | 0, _ => []
  | n + 1, a => keccakOut r a ++ keccakSqueeze r n (keccakF a)

/-- The sponge: `n` bytes of output of a message. -/
def sponge (r : Nat) (dom : Byte) (m : Bytes) (n : Nat) : Bytes :=
  let p := keccakPad r dom m
  let a := (pieces r (p.length / r) p).foldl keccakAbsorb (List.replicate 25 0#64)
  (keccakSqueeze r (n / r + 1) a).take n

/-- SHA3-256. -/
def sha3_256 (m : Bytes) : Bytes := sponge 136 6#8 m 32
/-- SHA3-512. -/
def sha3_512 (m : Bytes) : Bytes := sponge 72 6#8 m 64
/-- SHAKE128. -/
def shake128 (m : Bytes) (n : Nat) : Bytes := sponge 168 0x1F#8 m n
/-- SHAKE256. -/
def shake256 (m : Bytes) (n : Nat) : Bytes := sponge 136 0x1F#8 m n

/-! ### HMAC, key derivation and CRCs -/

/-- HMAC with a hash of block size `b`. -/
def hmacWith (hash : Bytes → Bytes) (b : Nat) (key m : Bytes) : Bytes :=
  let k0 := if b < key.length then hash key else key
  let k := k0 ++ zeros (b - k0.length)
  hash (k.map (· ^^^ 0x5C#8) ++ hash (k.map (· ^^^ 0x36#8) ++ m))

/-- HMAC-SHA-256. -/
def hmac256 (key m : Bytes) : Bytes := hmacWith sha256 64 key m

/-- A reflected CRC step over the 8 bits of a byte. -/
def crcBits (poly : Nat) : Nat → Nat → Nat
  | 0, c => c
  | n + 1, c => crcBits poly n (if c % 2 = 1 then Nat.xor (c / 2) poly else c / 2)

/-- CRC-32 of IEEE 802.3. -/
def crc32 (bs : Bytes) : Word :=
  BitVec.ofNat 32 (Nat.xor 0xFFFFFFFF (bs.foldl (fun c b => crcBits 0xEDB88320 8 (Nat.xor c b.toNat)) 0xFFFFFFFF))

/-- A CRC-16 step over the 8 bits of a byte, polynomial 0x1021. -/
def crc16Bits : Nat → Nat → Nat
  | 0, c => c
  | n + 1, c => crc16Bits n (if c / 0x8000 % 2 = 1 then Nat.xor (c * 2 % 0x10000) 0x1021 else c * 2 % 0x10000)

/-- CRC-16 of R463. -/
def crc16 (bs : Bytes) : Nat := bs.foldl (fun c b => crc16Bits 8 (Nat.xor c (b.toNat * 256))) 0xFFFF

end Sys2Proof.Machine
end

