-- ==== Sys2Proof/Machine/Ciphers.lean ====
section
/-! DEFINITION. AES (FIPS 197), its modes (SP 800-38A to 38D) and the key wrap of RFC 3394, over byte strings. -/

namespace Sys2Proof.Machine

open Sys2Proof

/-- The substitution table of AES. -/
def sboxT : List Byte :=
  [0x63#8, 0x7C#8, 0x77#8, 0x7B#8, 0xF2#8, 0x6B#8, 0x6F#8, 0xC5#8, 0x30#8, 0x1#8, 0x67#8, 0x2B#8, 0xFE#8, 0xD7#8, 0xAB#8, 0x76#8, 0xCA#8, 0x82#8, 0xC9#8, 0x7D#8, 0xFA#8, 0x59#8, 0x47#8, 0xF0#8, 0xAD#8, 0xD4#8, 0xA2#8, 0xAF#8, 0x9C#8, 0xA4#8, 0x72#8, 0xC0#8] ++
  [0xB7#8, 0xFD#8, 0x93#8, 0x26#8, 0x36#8, 0x3F#8, 0xF7#8, 0xCC#8, 0x34#8, 0xA5#8, 0xE5#8, 0xF1#8, 0x71#8, 0xD8#8, 0x31#8, 0x15#8, 0x4#8, 0xC7#8, 0x23#8, 0xC3#8, 0x18#8, 0x96#8, 0x5#8, 0x9A#8, 0x7#8, 0x12#8, 0x80#8, 0xE2#8, 0xEB#8, 0x27#8, 0xB2#8, 0x75#8] ++
  [0x9#8, 0x83#8, 0x2C#8, 0x1A#8, 0x1B#8, 0x6E#8, 0x5A#8, 0xA0#8, 0x52#8, 0x3B#8, 0xD6#8, 0xB3#8, 0x29#8, 0xE3#8, 0x2F#8, 0x84#8, 0x53#8, 0xD1#8, 0x0#8, 0xED#8, 0x20#8, 0xFC#8, 0xB1#8, 0x5B#8, 0x6A#8, 0xCB#8, 0xBE#8, 0x39#8, 0x4A#8, 0x4C#8, 0x58#8, 0xCF#8] ++
  [0xD0#8, 0xEF#8, 0xAA#8, 0xFB#8, 0x43#8, 0x4D#8, 0x33#8, 0x85#8, 0x45#8, 0xF9#8, 0x2#8, 0x7F#8, 0x50#8, 0x3C#8, 0x9F#8, 0xA8#8, 0x51#8, 0xA3#8, 0x40#8, 0x8F#8, 0x92#8, 0x9D#8, 0x38#8, 0xF5#8, 0xBC#8, 0xB6#8, 0xDA#8, 0x21#8, 0x10#8, 0xFF#8, 0xF3#8, 0xD2#8] ++
  [0xCD#8, 0xC#8, 0x13#8, 0xEC#8, 0x5F#8, 0x97#8, 0x44#8, 0x17#8, 0xC4#8, 0xA7#8, 0x7E#8, 0x3D#8, 0x64#8, 0x5D#8, 0x19#8, 0x73#8, 0x60#8, 0x81#8, 0x4F#8, 0xDC#8, 0x22#8, 0x2A#8, 0x90#8, 0x88#8, 0x46#8, 0xEE#8, 0xB8#8, 0x14#8, 0xDE#8, 0x5E#8, 0xB#8, 0xDB#8] ++
  [0xE0#8, 0x32#8, 0x3A#8, 0xA#8, 0x49#8, 0x6#8, 0x24#8, 0x5C#8, 0xC2#8, 0xD3#8, 0xAC#8, 0x62#8, 0x91#8, 0x95#8, 0xE4#8, 0x79#8, 0xE7#8, 0xC8#8, 0x37#8, 0x6D#8, 0x8D#8, 0xD5#8, 0x4E#8, 0xA9#8, 0x6C#8, 0x56#8, 0xF4#8, 0xEA#8, 0x65#8, 0x7A#8, 0xAE#8, 0x8#8] ++
  [0xBA#8, 0x78#8, 0x25#8, 0x2E#8, 0x1C#8, 0xA6#8, 0xB4#8, 0xC6#8, 0xE8#8, 0xDD#8, 0x74#8, 0x1F#8, 0x4B#8, 0xBD#8, 0x8B#8, 0x8A#8, 0x70#8, 0x3E#8, 0xB5#8, 0x66#8, 0x48#8, 0x3#8, 0xF6#8, 0xE#8, 0x61#8, 0x35#8, 0x57#8, 0xB9#8, 0x86#8, 0xC1#8, 0x1D#8, 0x9E#8] ++
  [0xE1#8, 0xF8#8, 0x98#8, 0x11#8, 0x69#8, 0xD9#8, 0x8E#8, 0x94#8, 0x9B#8, 0x1E#8, 0x87#8, 0xE9#8, 0xCE#8, 0x55#8, 0x28#8, 0xDF#8, 0x8C#8, 0xA1#8, 0x89#8, 0xD#8, 0xBF#8, 0xE6#8, 0x42#8, 0x68#8, 0x41#8, 0x99#8, 0x2D#8, 0xF#8, 0xB0#8, 0x54#8, 0xBB#8, 0x16#8]

/-- The inverse substitution table of AES. -/
def invSboxT : List Byte :=
  [0x52#8, 0x9#8, 0x6A#8, 0xD5#8, 0x30#8, 0x36#8, 0xA5#8, 0x38#8, 0xBF#8, 0x40#8, 0xA3#8, 0x9E#8, 0x81#8, 0xF3#8, 0xD7#8, 0xFB#8, 0x7C#8, 0xE3#8, 0x39#8, 0x82#8, 0x9B#8, 0x2F#8, 0xFF#8, 0x87#8, 0x34#8, 0x8E#8, 0x43#8, 0x44#8, 0xC4#8, 0xDE#8, 0xE9#8, 0xCB#8] ++
  [0x54#8, 0x7B#8, 0x94#8, 0x32#8, 0xA6#8, 0xC2#8, 0x23#8, 0x3D#8, 0xEE#8, 0x4C#8, 0x95#8, 0xB#8, 0x42#8, 0xFA#8, 0xC3#8, 0x4E#8, 0x8#8, 0x2E#8, 0xA1#8, 0x66#8, 0x28#8, 0xD9#8, 0x24#8, 0xB2#8, 0x76#8, 0x5B#8, 0xA2#8, 0x49#8, 0x6D#8, 0x8B#8, 0xD1#8, 0x25#8] ++
  [0x72#8, 0xF8#8, 0xF6#8, 0x64#8, 0x86#8, 0x68#8, 0x98#8, 0x16#8, 0xD4#8, 0xA4#8, 0x5C#8, 0xCC#8, 0x5D#8, 0x65#8, 0xB6#8, 0x92#8, 0x6C#8, 0x70#8, 0x48#8, 0x50#8, 0xFD#8, 0xED#8, 0xB9#8, 0xDA#8, 0x5E#8, 0x15#8, 0x46#8, 0x57#8, 0xA7#8, 0x8D#8, 0x9D#8, 0x84#8] ++
  [0x90#8, 0xD8#8, 0xAB#8, 0x0#8, 0x8C#8, 0xBC#8, 0xD3#8, 0xA#8, 0xF7#8, 0xE4#8, 0x58#8, 0x5#8, 0xB8#8, 0xB3#8, 0x45#8, 0x6#8, 0xD0#8, 0x2C#8, 0x1E#8, 0x8F#8, 0xCA#8, 0x3F#8, 0xF#8, 0x2#8, 0xC1#8, 0xAF#8, 0xBD#8, 0x3#8, 0x1#8, 0x13#8, 0x8A#8, 0x6B#8] ++
  [0x3A#8, 0x91#8, 0x11#8, 0x41#8, 0x4F#8, 0x67#8, 0xDC#8, 0xEA#8, 0x97#8, 0xF2#8, 0xCF#8, 0xCE#8, 0xF0#8, 0xB4#8, 0xE6#8, 0x73#8, 0x96#8, 0xAC#8, 0x74#8, 0x22#8, 0xE7#8, 0xAD#8, 0x35#8, 0x85#8, 0xE2#8, 0xF9#8, 0x37#8, 0xE8#8, 0x1C#8, 0x75#8, 0xDF#8, 0x6E#8] ++
  [0x47#8, 0xF1#8, 0x1A#8, 0x71#8, 0x1D#8, 0x29#8, 0xC5#8, 0x89#8, 0x6F#8, 0xB7#8, 0x62#8, 0xE#8, 0xAA#8, 0x18#8, 0xBE#8, 0x1B#8, 0xFC#8, 0x56#8, 0x3E#8, 0x4B#8, 0xC6#8, 0xD2#8, 0x79#8, 0x20#8, 0x9A#8, 0xDB#8, 0xC0#8, 0xFE#8, 0x78#8, 0xCD#8, 0x5A#8, 0xF4#8] ++
  [0x1F#8, 0xDD#8, 0xA8#8, 0x33#8, 0x88#8, 0x7#8, 0xC7#8, 0x31#8, 0xB1#8, 0x12#8, 0x10#8, 0x59#8, 0x27#8, 0x80#8, 0xEC#8, 0x5F#8, 0x60#8, 0x51#8, 0x7F#8, 0xA9#8, 0x19#8, 0xB5#8, 0x4A#8, 0xD#8, 0x2D#8, 0xE5#8, 0x7A#8, 0x9F#8, 0x93#8, 0xC9#8, 0x9C#8, 0xEF#8] ++
  [0xA0#8, 0xE0#8, 0x3B#8, 0x4D#8, 0xAE#8, 0x2A#8, 0xF5#8, 0xB0#8, 0xC8#8, 0xEB#8, 0xBB#8, 0x3C#8, 0x83#8, 0x53#8, 0x99#8, 0x61#8, 0x17#8, 0x2B#8, 0x4#8, 0x7E#8, 0xBA#8, 0x77#8, 0xD6#8, 0x26#8, 0xE1#8, 0x69#8, 0x14#8, 0x63#8, 0x55#8, 0x21#8, 0xC#8, 0x7D#8]

/-- SubBytes of a byte. -/
def sbox (b : Byte) : Byte := sboxT.getD b.toNat 0#8

/-- The inverse of SubBytes. -/
def invSbox (b : Byte) : Byte := invSboxT.getD b.toNat 0#8

/-- Multiplication by x in GF(2^8). -/
def xtime (b : Byte) : Byte := if b.toNat < 128 then b <<< 1 else (b <<< 1) ^^^ 0x1B#8

/-- Multiplication in GF(2^8) by a small constant. -/
def gfMul (c : Nat) (b : Byte) : Byte :=
  let b2 := xtime b
  let b4 := xtime b2
  let b8 := xtime b4
  (if c % 2 = 1 then b else 0#8) ^^^ (if c / 2 % 2 = 1 then b2 else 0#8) ^^^
    (if c / 4 % 2 = 1 then b4 else 0#8) ^^^ (if c / 8 % 2 = 1 then b8 else 0#8)

/-- The four bytes of the next word of the key schedule from the previous word. -/
def keyCore (nk i : Nat) (rc : Byte) (t : Bytes) : Bytes :=
  if i % nk = 0 then
    let r := (t.drop 1 ++ t.take 1).map sbox
    match r with
    | a :: rest => (a ^^^ rc) :: rest
    | [] => []
  else if nk = 8 && i % nk = 4 then t.map sbox
  else t

/-- The key schedule: words as byte strings, newest first. -/
def expandKey (nk : Nat) : Nat → Nat → Byte → List Bytes → List Bytes
  | 0, _, _, ws => ws
  | n + 1, i, rc, ws =>
    let w := xorBytes (ws.getD (nk - 1) []) (keyCore nk i rc (ws.getD 0 []))
    expandKey nk n (i + 1) (if i % nk = 0 then xtime rc else rc) (w :: ws)

/-- The round keys of a key of 16, 24 or 32 bytes. -/
def roundKeys (key : Bytes) : List Bytes :=
  let nk := key.length / 4
  let ws := (expandKey nk (4 * (nk + 7) - nk) nk 1#8 (pieces 4 nk key).reverse).reverse
  (pieces 4 (nk + 7) ws).map List.flatten

/-- ShiftRows, over column-major bytes. -/
def shiftRows (b : Bytes) : Bytes := (List.range 16).map fun i => b.getD ((i + 4 * (i % 4)) % 16) 0#8

/-- The inverse of ShiftRows. -/
def invShiftRows (b : Bytes) : Bytes := (List.range 16).map fun i => b.getD ((i + 16 - 4 * (i % 4)) % 16) 0#8

/-- A column multiplied by a circulant matrix given by its first row. -/
def mixColumn (m : List Nat) (c : Bytes) : Bytes :=
  (List.range 4).map fun r => (List.range 4).foldl (fun a k => a ^^^ gfMul (m.getD ((k + 4 - r) % 4) 0) (c.getD k 0#8)) 0#8

/-- MixColumns with a matrix. -/
def mixColumns (m : List Nat) (b : Bytes) : Bytes := (pieces 4 4 b).flatMap (mixColumn m)

/-- The middle rounds and the last round of the cipher. -/
def encRounds : List Bytes → Bytes → Bytes
  | [], b => b
  | [k], b => xorBytes (shiftRows (b.map sbox)) k
  | k :: ks, b => encRounds ks (xorBytes (mixColumns [2, 3, 1, 1] (shiftRows (b.map sbox))) k)

/-- The rounds of the inverse cipher, with the round keys from the last but one to the first. -/
def decRounds : List Bytes → Bytes → Bytes
  | [], b => b
  | [k], b => xorBytes ((invShiftRows b).map invSbox) k
  | k :: ks, b => decRounds ks (mixColumns [14, 11, 13, 9] (xorBytes ((invShiftRows b).map invSbox) k))

/-- The cipher on one block. -/
def aesEnc (key blk : Bytes) : Bytes :=
  match roundKeys key with
  | k0 :: ks => encRounds ks (xorBytes blk k0)
  | [] => blk

/-- The inverse cipher on one block. -/
def aesDec (key blk : Bytes) : Bytes :=
  match (roundKeys key).reverse with
  | k0 :: ks => decRounds ks (xorBytes blk k0)
  | [] => blk

/-- A string cut into blocks of 16 bytes. -/
def blocks16 (m : Bytes) : List Bytes := pieces 16 (m.length / 16 + 1) m

/-- ECB over whole blocks. -/
def ecbEnc (key m : Bytes) : Bytes := (blocks16 m).flatMap (aesEnc key)
/-- ECB inverse. -/
def ecbDec (key m : Bytes) : Bytes := (blocks16 m).flatMap (aesDec key)

/-- CBC over a list of blocks. -/
def cbcEncB (key : Bytes) : Bytes → List Bytes → Bytes
  | _, [] => []
  | iv, b :: bs => let c := aesEnc key (xorBytes b iv); c ++ cbcEncB key c bs
/-- CBC inverse over a list of blocks. -/
def cbcDecB (key : Bytes) : Bytes → List Bytes → Bytes
  | _, [] => []
  | iv, c :: cs => xorBytes (aesDec key c) iv ++ cbcDecB key c cs
/-- CBC. -/
def cbcEnc (key iv m : Bytes) : Bytes := cbcEncB key iv (blocks16 m)
/-- CBC inverse. -/
def cbcDec (key iv m : Bytes) : Bytes := cbcDecB key iv (blocks16 m)

/-- A counter block: the low `n` bytes, big-endian, stepped by `k`. -/
def ctrAdd (n k : Nat) (blk : Bytes) : Bytes :=
  blk.take (16 - n) ++ beBytes n (beNat (blk.drop (16 - n)) + k)

/-- Counter mode from a first counter block whose low `n` bytes count. -/
def ctrWith (n : Nat) (key ctr m : Bytes) : Bytes :=
  ((blocks16 m).zipIdx.flatMap fun (b, i) => xorBytes b (aesEnc key (ctrAdd n i ctr)))

/-- Doubling in GF(2^128) for CMAC. -/
def dbl128 (b : Bytes) : Bytes :=
  let n := beNat b * 2
  beBytes 16 (if 2 ^ 128 ≤ n then Nat.xor (n % 2 ^ 128) 0x87 else n)

/-- CMAC. -/
def cmac (key m : Bytes) : Bytes :=
  let k1 := dbl128 (aesEnc key (zeros 16))
  let nb := if m.length = 0 then 1 else (m.length + 15) / 16
  let last := m.drop (16 * (nb - 1))
  let fin := if last.length = 16 then xorBytes last k1 else xorBytes (last ++ [0x80#8] ++ zeros (15 - last.length)) (dbl128 k1)
  let x := (pieces 16 (nb - 1) m).foldl (fun x b => aesEnc key (xorBytes x b)) (zeros 16)
  aesEnc key (xorBytes x fin)

/-- Multiplication in GF(2^128) of GCM, over 128-bit numbers with bit 0 of the standard as the most significant. -/
def gmul128 (x : Nat) : Nat → Nat → Nat → Nat
  | 0, _, z => z
  | n + 1, v, z =>
    let z' := if x / 2 ^ n % 2 = 1 then Nat.xor z v else z
    gmul128 x n (if v % 2 = 1 then Nat.xor (v / 2) 0xE1000000000000000000000000000000 else v / 2) z'

/-- GHASH over padded strings. -/
def ghash (h : Nat) (m : Bytes) : Nat :=
  (pieces 16 (m.length / 16) m).foldl (fun y b => gmul128 (Nat.xor y (beNat b)) 128 h 0) 0

/-- A string padded with zeros to whole blocks. -/
def pad16 (m : Bytes) : Bytes := m ++ zeros ((16 - m.length % 16) % 16)

/-- The first counter block of GCM. -/
def gcmJ0 (key iv : Bytes) : Bytes :=
  if iv.length = 12 then iv ++ [0#8, 0#8, 0#8, 1#8]
  else beBytes 16 (ghash (beNat (aesEnc key (zeros 16))) (pad16 iv ++ zeros 8 ++ beBytes 8 (8 * iv.length)))

/-- The full GCM tag of additional data and ciphertext. -/
def gcmTag (key iv aad ct : Bytes) : Bytes :=
  let h := beNat (aesEnc key (zeros 16))
  let s := ghash h (pad16 aad ++ pad16 ct ++ beBytes 8 (8 * aad.length) ++ beBytes 8 (8 * ct.length))
  xorBytes (beBytes 16 s) (aesEnc key (gcmJ0 key iv))

/-- The counter part of GCM, its own inverse. -/
def gcmCrypt (key iv m : Bytes) : Bytes := ctrWith 4 key (ctrAdd 4 1 (gcmJ0 key iv)) m

/-- The CBC-MAC of CCM over the formatted blocks, and the tag mask (SP 800-38C). -/
def ccmTag (key nonce aad m : Bytes) (t : Nat) : Bytes :=
  let q := 15 - nonce.length
  let b0 := byte ((if aad.length = 0 then 0 else 64) + (t - 2) / 2 * 8 + (q - 1)) :: nonce ++ beBytes q m.length
  let a := if aad.length = 0 then [] else pad16 (beBytes 2 aad.length ++ aad)
  let x := (blocks16 (b0 ++ a ++ pad16 m)).foldl (fun x b => aesEnc key (xorBytes x b)) (zeros 16)
  (xorBytes x (aesEnc key (byte (q - 1) :: nonce ++ zeros q))).take t

/-- The counter part of CCM. -/
def ccmCrypt (key nonce m : Bytes) : Bytes :=
  let q := 15 - nonce.length
  ctrWith q key (byte (q - 1) :: nonce ++ beBytes q 1) m

/-! ### Key wrap -/

/-- One step of the unwrap of RFC 3394: step number `t`, half-block list index `i`. -/
def unwrapStep (kek : Bytes) (n t : Nat) (a : Bytes) (r : List Bytes) : Bytes × List Bytes :=
  let i := (t - 1) % n
  let b := aesDec kek (xorBytes a (beBytes 8 t) ++ r.getD i [])
  (b.take 8, r.set i (b.drop 8))

/-- The steps from `t` down to 1. -/
def unwrapFrom (kek : Bytes) (n : Nat) : Nat → Bytes → List Bytes → Bytes × List Bytes
  | 0, a, r => (a, r)
  | t + 1, a, r => let (a', r') := unwrapStep kek n (t + 1) a r; unwrapFrom kek n t a' r'

/-- The unwrap of RFC 3394: the key, or none when the integrity check fails. -/
def keyUnwrap (kek w : Bytes) : Option Bytes :=
  let n := w.length / 8 - 1
  let (a, r) := unwrapFrom kek n (6 * n) (w.take 8) (pieces 8 n (w.drop 8))
  if a = List.replicate 8 0xA6#8 then some r.flatten else none

/-- One step of the wrap. -/
def wrapStep (kek : Bytes) (n t : Nat) (a : Bytes) (r : List Bytes) : Bytes × List Bytes :=
  let i := (t - 1) % n
  let b := aesEnc kek (a ++ r.getD i [])
  (xorBytes (b.take 8) (beBytes 8 t), r.set i (b.drop 8))

/-- The wrap of RFC 3394. -/
def keyWrap (kek key : Bytes) : Bytes :=
  let n := key.length / 8
  let (a, r) := (List.range (6 * n)).foldl (fun (ar : Bytes × List Bytes) t => wrapStep kek n (t + 1) ar.1 ar.2)
    (List.replicate 8 0xA6#8, pieces 8 n key)
  a ++ r.flatten

end Sys2Proof.Machine
end

