-- ==== Sys2Proof/Machine/Operands.lean ====
section
/-! DEFINITION. The operand forms of the Narent instructions: register fields and pairs (R309), displacements and
immediates (R305, R310, R317), condition codes (R312), and the lengths of the forms (R305, R307). -/

namespace Sys2Proof.Machine

open Sys2Proof

/-- A general register. -/
def gget (k : Core) (r : Nat) : Word := mget 0#32 k.g r

/-- A core with a general register at a value. -/
def gset (k : Core) (r : Nat) (v : Word) : Core := { k with g := mset 0#32 k.g r v }

/-- The width of an operation: 64 bits under WIDE, else 32. -/
def widthOf (wide : Bool) : Nat := if wide then 64 else 32

/-- The value of a data register, or of the pair r, r + 1 under WIDE with the low half first (R309). -/
def dget (k : Core) (wide : Bool) (r : Nat) : Nat :=
  if wide then (gget k r).toNat + 2 ^ 32 * (gget k (r + 1)).toNat else (gget k r).toNat

/-- A core with a data register or pair at a value. -/
def dset (k : Core) (wide : Bool) (r : Nat) (v : Nat) : Core :=
  if wide then gset (gset k r (word v)) (r + 1) (word (v / 2 ^ 32)) else gset k r (word v)

/-- A register that WIDE makes a pair must be even (R308, R309). -/
def oddPair (wide : Bool) (r : Gpr) : Bool := wide && r.val % 2 == 1

/-- A field sign-extended to `w` bits, as a number below 2^w. -/
def fieldVal (w : Nat) : Field → Nat
  | .b1 v => (v.signExtend w).toNat
  | .b2 v => (v.signExtend w).toNat
  | .b4 v => (v.signExtend w).toNat

/-- The size of a field in bytes. -/
def fieldLen : Field → Nat
  | .b1 _ => 1
  | .b2 _ => 2
  | .b4 _ => 4

/-- A field as a 32-bit offset. -/
def fieldOff (f : Field) : Word := BitVec.ofNat 32 (fieldVal 32 f)

/-- The value of the second operand (R317). -/
def srcVal (k : Core) (wide : Bool) : Src → Nat
  | .reg s => dget k wide s.val
  | .imm v => fieldVal (widthOf wide) v

/-- The second operand is a pair with an odd number. -/
def srcOdd (wide : Bool) : Src → Bool
  | .reg s => oddPair wide s
  | .imm _ => false

/-- The bytes of the operand byte and the immediate of an arithmetic form. -/
def srcLen : Src → Nat
  | .reg _ => 1
  | .imm v => 1 + fieldLen v

/-- The count of a shift: bits [4:0], or [5:0] under WIDE, of the register; or the immediate (R317). -/
def countVal (k : Core) (wide : Bool) : Count → Nat
  | .reg s => (gget k s.val).toNat % widthOf wide
  | .imm v => v.toNat

/-- A shift count that R308 forbids. -/
def countBad (wide : Bool) : Count → Bool
  | .reg s => oddPair wide s
  | .imm v => decide (widthOf wide ≤ v.toNat)

/-- The bytes of the operand byte and the count. -/
def countLen : Count → Nat
  | .reg _ => 1
  | .imm _ => 2

/-- The bytes of the prefixes CHECK and WIDE. -/
def preLen (h : Head) (wide : Bool) : Nat := b2n h.check + b2n wide

/-- The effective address G[s] + sext(displacement), modulo 2^32 (R310). -/
def effAddr (k : Core) (s : Gpr) (d : Field) : Nat := (gget k s.val + fieldOff d).toNat

/-- Z, N, C and V of a PSW (R281). -/
def flagZ (psw : Word) : Bool := bit psw 31
/-- N. -/
def flagN (psw : Word) : Bool := bit psw 30
/-- C. -/
def flagC (psw : Word) : Bool := bit psw 29
/-- V. -/
def flagV (psw : Word) : Bool := bit psw 28

/-- The test of a condition code (R312); code 15 is reserved. -/
def condHolds (psw : Word) (cc : Nat) : Bool :=
  let z := flagZ psw
  let n := flagN psw
  let c := flagC psw
  let v := flagV psw
  match cc with
  | 0 => c
  | 1 => !c
  | 2 => c || z
  | 3 => !c && !z
  | 4 => n != v
  | 5 => n == v
  | 6 => z || n != v
  | 7 => !z && n == v
  | 8 => z
  | 9 => !z
  | 10 => n
  | 11 => !n
  | 12 => v
  | 13 => !v
  | 14 => true
  | _ => false

end Sys2Proof.Machine
end

