-- ==== Sys2Proof/Machine/Flags.lean ====
section
/-! DEFINITION. The results and flags of the arithmetic, logic, shift and divide instructions (R311, R317, R318), over
numbers of `w` bits. -/

namespace Sys2Proof.Machine

open Sys2Proof

/-- A result with the flags it sets; an absent flag keeps its value. -/
structure AluOut where
  res : Nat
  c : Option Bool
  v : Option Bool
  deriving DecidableEq, Repr

/-- The sign bit of a number of `w` bits. -/
def signBit (w n : Nat) : Bool := n / 2 ^ (w - 1) % 2 == 1

/-- The signed value of a number of `w` bits. -/
def signed (w n : Nat) : Int := if signBit w n then (n : Int) - (2 : Int) ^ w else (n : Int)

/-- The number of `w` bits of an integer. -/
def unsigned (w : Nat) (i : Int) : Nat := (i % (2 : Int) ^ w).toNat

/-- Whether an integer is outside the signed range of `w` bits. -/
def overflows (w : Nat) (i : Int) : Bool := decide (i < -((2 : Int) ^ (w - 1))) || decide ((2 : Int) ^ (w - 1) ≤ i)

/-- A PSW with Z and N from a result of `w` bits, and C and V where the result gives them (R311). -/
def setNZCV (psw : Word) (w : Nat) (o : AluOut) : Word :=
  let p := setBit (setBit psw 31 (o.res == 0)) 30 (signBit w o.res)
  let p := match o.c with | some c => setBit p 29 c | none => p
  match o.v with | some v => setBit p 28 v | none => p

/-- ADD and ADC. -/
def aluAdd (w a b c : Nat) : AluOut :=
  { res := (a + b + c) % 2 ^ w, c := some (decide (2 ^ w ≤ a + b + c)),
    v := some (overflows w (signed w a + signed w b + c)) }

/-- SUB, SBC and CMP: C is the borrow. -/
def aluSub (w a b c : Nat) : AluOut :=
  { res := (a + 2 ^ w + 2 ^ w - b - c) % 2 ^ w, c := some (decide (a < b + c)),
    v := some (overflows w (signed w a - signed w b - c)) }

/-- AND and TST. -/
def aluAnd (_w a b : Nat) : AluOut := { res := Nat.land a b, c := none, v := none }
/-- OR. -/
def aluOr (_w a b : Nat) : AluOut := { res := Nat.lor a b, c := none, v := none }
/-- XOR. -/
def aluXor (_w a b : Nat) : AluOut := { res := Nat.xor a b, c := none, v := none }

/-- The C flag of a shift by `n`: unchanged when the count is 0, else the bit given. -/
def shiftC (n : Nat) (b : Bool) : Option Bool := if n = 0 then none else some b

/-- SHL. -/
def aluShl (w a n : Nat) : AluOut :=
  { res := a * 2 ^ n % 2 ^ w, c := shiftC n (a / 2 ^ (w - n) % 2 == 1), v := none }
/-- SHR. -/
def aluShr (_w a n : Nat) : AluOut := { res := a / 2 ^ n, c := shiftC n (a / 2 ^ (n - 1) % 2 == 1), v := none }
/-- SAR. -/
def aluSar (w a n : Nat) : AluOut :=
  { res := unsigned w (signed w a / (2 : Int) ^ n), c := shiftC n (a / 2 ^ (n - 1) % 2 == 1), v := none }
/-- ROR: C is the bit moved into the sign position. -/
def aluRor (w a n : Nat) : AluOut :=
  { res := a / 2 ^ n + a % 2 ^ n * 2 ^ (w - n), c := shiftC n (a / 2 ^ (n - 1) % 2 == 1), v := none }

/-- MUL. -/
def aluMul (a b : Nat) : AluOut := { res := a * b % 2 ^ 32, c := none, v := none }
/-- MULHU. -/
def aluMulhu (a b : Nat) : AluOut := { res := a * b / 2 ^ 32, c := none, v := none }

/-- DIVU (R318). -/
def aluDivu (a b : Nat) : AluOut :=
  if b = 0 then { res := 0xFFFFFFFF, c := none, v := some true } else { res := a / b, c := none, v := some false }
/-- REMU (R318). -/
def aluRemu (a b : Nat) : AluOut :=
  if b = 0 then { res := a, c := none, v := some true } else { res := a % b, c := none, v := some false }
/-- DIVS (R318): the quotient rounds toward zero. -/
def aluDivs (a b : Nat) : AluOut :=
  if b = 0 then { res := 0xFFFFFFFF, c := none, v := some true }
  else if a = 0x80000000 && b = 0xFFFFFFFF then { res := 0x80000000, c := none, v := some true }
  else { res := unsigned 32 (Int.tdiv (signed 32 a) (signed 32 b)), c := none, v := some false }
/-- REMS (R318): the remainder has the sign of the dividend. -/
def aluRems (a b : Nat) : AluOut :=
  if b = 0 then { res := a, c := none, v := some true }
  else if a = 0x80000000 && b = 0xFFFFFFFF then { res := 0, c := none, v := some true }
  else { res := unsigned 32 (Int.tmod (signed 32 a) (signed 32 b)), c := none, v := some false }

/-- The number of leading zero bits of a word. -/
def clz32 (n : Nat) : Nat := if n = 0 then 32 else 31 - Nat.log2 n

/-- The `n` bytes of a number in reverse order. -/
def bswapNat (n v : Nat) : Nat := leNat (leBytes n v).reverse

end Sys2Proof.Machine
end

