-- ==== Sys2Proof/Machine/CoreOps.lean ====
section
/-! DEFINITION. What the cores share: the banks with their error marks (R333 to R339), store buffers (R296), the filters
of MPU and windows (R284), taking an exception (R288 to R290, R292) and returning from one (R291), and the frame of an
instruction. -/

namespace Sys2Proof.Machine

open Sys2Proof

/-- A core of the state. -/
def getCore (s : State) : CoreId → Core
  | .ac0 => s.ac0
  | .ac1 => s.ac1
  | .mc => s.mc

/-- The state with a core replaced. -/
def setCore (s : State) (c : CoreId) (k : Core) : State :=
  match c with
  | .ac0 => { s with ac0 := k }
  | .ac1 => { s with ac1 := k }
  | .mc => { s with mc := k }

/-- The initiator a core is. -/
def initOf : CoreId → Initiator
  | .ac0 => .ac0
  | .ac1 => .ac1
  | .mc => .mc

/-- The control page of an AC core (R302). -/
def corePage : CoreId → Option Nat
  | .ac0 => some 0x60
  | .ac1 => some 0x61
  | .mc => none

/-- COREID (R282). -/
def coreNo : CoreId → Nat
  | .ac0 => 0
  | .ac1 => 1
  | .mc => 2

/-! ### Banks -/

/-- Whether an address lies in the SRAM banks (R27). -/
def isSram (a : Nat) : Bool := decide (0x10000000 ≤ a) && decide (a < 0x10800000)

/-- Whether every byte of a range lies in the SRAM banks (R578). -/
def rangeSram (a n : Nat) : Bool := decide (0x10000000 ≤ a) && decide (a + n ≤ 0x10800000)

/-- The bank of an SRAM address. -/
def bankOf (a : Nat) : Nat := (a - 0x10000000) / 0x40000

/-- Whether a bank is in service (R351). -/
def bankUp (s : State) (b : Nat) : Bool := bit (rd s Reg.MEM_SERVICE) b

/-- Whether a bank is being cleared (R340). -/
def bankClearing (s : State) (b : Nat) : Bool := bit (rd s Reg.MEM_CLEARING) b

/-- A byte of the banks. -/
def sramByte (s : State) (a : Nat) : Byte := mget 0#8 s.mem.sram a

/-- `n` bytes of the banks from an address on. -/
def sramRead (s : State) (a n : Nat) : Bytes := (List.range n).map fun k => sramByte s (a + k)

/-- The words that a range of bytes touches. -/
def wordsOf (a n : Nat) : List Nat := if n = 0 then [] else (List.range ((a + n - 1) / 4 - a / 4 + 1)).map fun k => (a / 4 + k) * 4

/-- Whether a range touches a word whose error is beyond correction (R338). -/
def poisoned (s : State) (a n : Nat) : Bool := (wordsOf a n).any fun w => lmem w s.mem.poison

/-- Record an ECC error at a word (R337, R338): the counters, the address and the initiator, and the cause. -/
def noteEcc (s : State) (i : Initiator) (tester : Bool) (w : Nat) (uncorr : Bool) : State :=
  let s := if uncorr then bumpSat s Reg.MEM_ECCSTAT 31 16 else bumpSat s Reg.MEM_ECCSTAT 15 0
  let s := wr s Reg.MEM_ECCADDR (word (w / 4 * 4 + b2n uncorr))
  let s := wr s Reg.MEM_ECCINIT (word (((tagOf s i).getD 0) * 0x10000 + b2n tester * 16 + initCode i))
  raise s 0x58 (if uncorr then 1 else 0)

/-- What the banks find at a word when it is read: the outside's finding becomes an error mark (R337, R338). -/
def findEcc (s : State) (i : Initiator) (a : Nat) (e : EccFind) : State :=
  match e with
  | .clean => s
  | .corrected => if lmem (a / 4 * 4) s.mem.poison then s else noteEcc s i false a false
  | .uncorrectable => { s with mem := { s.mem with poison := linsert (a / 4 * 4) s.mem.poison } }

/-- A collision of the two ports of bank 0 on a word (R343); `ww` for two writes, `later` for the DMA port. -/
def noteColl (s : State) (a : Nat) (ww later : Bool) : State :=
  let s := if ww then bumpSat s Reg.MEM_COLL 31 16 else bumpSat s Reg.MEM_COLL 15 0
  let s := wr s Reg.MEM_COLLADDR (word (0x80000000 + b2n ww * 0x40000000 + b2n later * 0x20000000 + (a - 0x10000000) % 0x40000 / 4 * 4))
  raise s 0x58 2

/-- Whether a write of `n` bytes at `a` covers a whole word. -/
def coversWord (a n w : Nat) : Bool := decide (a ≤ w) && decide (w + 4 ≤ a + n)

/-- Bytes written into a byte map from an address on, where `keep` allows. -/
def putBytes (keep : Nat → Bool) : Sparse Byte → Nat → Bytes → Sparse Byte
  | m, _, [] => m
  | m, a, b :: bs => putBytes keep (if keep a then mset 0#8 m a b else m) (a + 1) bs

/-- A write to the banks (R336, R338, R339): whole words replace an error, and the part of a write that covers only some
bytes of a word with an uncorrectable error is discarded, counted and recorded by `note`. -/
def bankWriteBy (note : State → Nat → State) (s : State) (a : Nat) (bs : Bytes) : State :=
  let n := bs.length
  let bad := (wordsOf a n).filter fun w => lmem w s.mem.poison && !coversWord a n w
  let s1 := { s with mem := { s.mem with
    sram := putBytes (fun x => !lmem (x / 4 * 4) bad) s.mem.sram a bs,
    poison := s.mem.poison.filter fun w => !coversWord a n w } }
  bad.foldl note s1

/-- A write to the banks by an initiator. -/
def bankWrite (s : State) (i : Initiator) (a : Nat) (bs : Bytes) : State := bankWriteBy (fun s w => noteEcc s i false w true) s a bs

/-- An ECC error found by a lane or by the vault, which the INIT table of R51 does not list: its code is a free value. -/
def noteEccUnit (dom : Nat) (s : State) (w : Nat) : State :=
  let (k, s) := fresh s
  let s := bumpSat s Reg.MEM_ECCSTAT 31 16
  let s := wr s Reg.MEM_ECCADDR (word (w / 4 * 4 + 1))
  let s := wr s Reg.MEM_ECCINIT (word (dom * 0x10000 + (Config.free 4 k).toNat))
  raise s 0x58 1

/-- A write to the banks by a unit under a domain tag. -/
def unitWrite (s : State) (dom a : Nat) (bs : Bytes) : State := bankWriteBy (noteEccUnit dom) s a bs

/-- Whether every bank of a range is in service. -/
def banksUp (s : State) (a n : Nat) : Bool :=
  (List.range 32).all fun b => !(decide (bankOf a ≤ b) && decide (b ≤ bankOf (a + n - 1))) || bankUp s b

/-! ### Store buffers -/

/-- The depth of a core's store buffer (R296). -/
def sbDepth : CoreId → Nat
  | .mc => 4
  | _ => 8

/-- One buffered store reaches its bank. -/
def drainEntry (i : Initiator) (s : State) (e : SbEntry) : State := bankWrite s i e.addr e.bytes

/-- A core's store buffer drained in program order (R296). -/
def drain (s : State) (c : CoreId) : State :=
  let k := getCore s c
  setCore (k.sbuf.foldl (drainEntry (initOf c)) s) c { k with sbuf := [] }

/-- The oldest buffered store drained. -/
def drainOne (s : State) (c : CoreId) : State :=
  match (getCore s c).sbuf with
  | [] => s
  | e :: rest => setCore (drainEntry (initOf c) s e) c { getCore s c with sbuf := rest }

/-- A store enters the buffer; a full buffer first drains its oldest entry. -/
def enterStore (s : State) (c : CoreId) (e : SbEntry) : State :=
  let s := if (getCore s c).sbuf.length < sbDepth c then s else drainOne s c
  setCore s c { getCore s c with sbuf := (getCore s c).sbuf ++ [e] }

/-- A byte as a load of the core sees it: the youngest buffered store of it, else the bank (R296). -/
def seenByte (s : State) (buf : List SbEntry) (a : Nat) : Byte :=
  buf.foldl (fun b e => if e.addr ≤ a && a < e.addr + e.bytes.length then e.bytes.getD (a - e.addr) 0#8 else b) (sramByte s a)

/-- `n` bytes as a load of the core sees them. -/
def seenBytes (s : State) (c : CoreId) (a n : Nat) : Bytes :=
  (List.range n).map fun k => seenByte s (getCore s c).sbuf (a + k)

/-! ### Filters -/

/-- The kind of a memory access (R284). -/
inductive AccKind where
  | load | store | fetch | both
  deriving DecidableEq, Repr

/-- Whether an attribute word grants an access: bit 0 R, bit 1 W, bit 2 X. -/
def grants (attr : Word) : AccKind → Bool
  | .load => bit attr 0
  | .store => bit attr 1
  | .fetch => bit attr 2
  | .both => bit attr 0 && bit attr 1

/-- Whether a region of the MPU permits an access of `n` bytes (R284, R303). -/
def regionOk (s : State) (dom a n : Nat) (kd : AccKind) (r : Nat) : Bool :=
  let i := 3 * (16 * dom + r)
  let base := (mget 0#32 s.mpu.rgn i).toNat / 256 * 256
  let lim := (mget 0#32 s.mpu.rgn (i + 1)).toNat / 256 * 256
  let attr := mget 0#32 s.mpu.rgn (i + 2)
  bit attr 31 && decide (base ≤ lim) && decide (base ≤ a) && decide (a + n ≤ lim + 256) && grants attr kd

/-- Whether a window of MC permits an access of `n` bytes (R284, R304). -/
def windowOk (s : State) (a n : Nat) (kd : AccKind) (w : Nat) : Bool :=
  let base := rd s (Reg.MCC_WBASE + 8 * w)
  let lim := rd s (Reg.MCC_WLIM + 8 * w)
  bit base 0 && decide (base.toNat / 256 * 256 ≤ a) && decide (a + n ≤ lim.toNat / 256 * 256 + 256) && grants (lim &&& 3#32) kd

/-- Whether the core's own filter permits an access to the banks. -/
def filterOk (s : State) (c : CoreId) (a n : Nat) (kd : AccKind) : Bool :=
  match c with
  | .mc => (List.range 4).any (windowOk s a n kd)
  | _ => (List.range 16).any (regionOk s (domOf (getCore s c)) a n kd)

/-- A refusal by the MPU is counted for its core (R303). -/
def noteMpu (s : State) (c : CoreId) : State :=
  match c with
  | .ac0 => bumpSat s Reg.MPU_REFUSE 15 0
  | .ac1 => bumpSat s Reg.MPU_REFUSE 31 16
  | .mc => s

/-- Whether a core may fetch a byte (R27, R28, R284, R338). -/
def fetchOk (s : State) (c : CoreId) (a : Nat) : Bool :=
  match c with
  | .mc => decide (a < 0x40000) || (isSram a && filterOk s c a 1 .fetch && bankUp s (bankOf a) && !poisoned s a 1)
  | _ =>
    (decide (c = .ac0) && s.mem.rom && decide (a < 0x40000)) ||
    (isSram a && filterOk s c a 1 .fetch && bankUp s (bankOf a) && !poisoned s a 1)

/-- The first byte of an instruction whose fetch is refused (R308). -/
def fetchBad (s : State) (c : CoreId) (pc len : Nat) : Option Nat :=
  ((List.range len).map fun k => (pc + k) % 2 ^ 32).find? fun a => !fetchOk s c a

/-! ### Exceptions -/

/-- ECAUSE (R290). -/
def ecauseOf (int : Bool) (vec kind : Nat) (write checked : Bool) (dom : Nat) : Word :=
  word (b2n int * 0x80000000 + vec * 0x10000 + kind * 0x100 + b2n write * 0x80 + b2n checked * 0x40 + dom)

/-- A core as it enters an exception (R289): the saved registers, EXC set and IE clear, D0 with clear flags on an AC core,
and the PC at the vector. -/
def enterExc (c : CoreId) (k : Core) (vec : Nat) (epc eaddr cause : Word) : Core :=
  let p := setBit (setBit k.psw 1 true) 0 false
  let p := match c with
    | .mc => p
    | _ => setFld (setFld p 31 28 0) 21 16 0
  { k with epc := epc, eaddr := eaddr, ecause := cause, epsw := k.psw, psw := p,
           pc := (match c with | .mc => word (16 * vec) | _ => k.vbar + word (16 * vec)) }

/-- What the control page of an AC core records of an exception (R302). -/
def noteExc (s : State) (c : CoreId) (cause eaddr : Word) : State :=
  match corePage c with
  | none => s
  | some p =>
    wr (wr s (hdr p 0x8C) cause) (hdr p 0x90) eaddr

/-- A synchronous exception is counted on its AC core's page (R302). -/
def countExc (s : State) (c : CoreId) : State :=
  match corePage c with
  | none => s
  | some p => bumpSat s (hdr p 0xAC) 15 0

/-- The core stops (R292): HALTED, with cause HALT on an AC core's page. -/
def haltCore (s : State) (c : CoreId) : State :=
  let s := setCore s c { getCore s c with run := .halted }
  match corePage c with
  | none => s
  | some p => raise s p 1

/-- A synchronous exception is taken, or halts a core whose PSW.EXC is set (R288, R289, R292). -/
def takeExc (s : State) (h : Head) (vec : Nat) (epc eaddr : Word) (kind : Nat) (write : Bool) : State :=
  let k := getCore s h.core
  let cause := ecauseOf false vec kind write h.check (domOf k)
  let s := noteExc (countExc s h.core) h.core cause eaddr
  if bit k.psw 1 then haltCore s h.core
  else
    let s := drain s h.core
    setCore s h.core (enterExc h.core (getCore s h.core) vec epc eaddr cause)

/-- FETCH. -/
def excFetch (s : State) (h : Head) (a : Word) : State := takeExc s h 1 (getCore s h.core).pc a 0 false
/-- UNDEF. -/
def excUndef (s : State) (h : Head) : State := takeExc s h 2 (getCore s h.core).pc 0#32 0 false
/-- PRIV. -/
def excPriv (s : State) (h : Head) : State := takeExc s h 3 (getCore s h.core).pc 0#32 0 false
/-- GATE, counted in MPU_GFAULT (R303). -/
def excGate (s : State) (h : Head) (a : Word) : State :=
  let s := match h.core with
    | .ac0 => bumpSat s Reg.MPU_GFAULT 15 0
    | .ac1 => bumpSat s Reg.MPU_GFAULT 31 16
    | .mc => s
  takeExc s h 4 (getCore s h.core).pc a 0 false
/-- ALIGN. -/
def excAlign (s : State) (h : Head) (a : Nat) (write : Bool) : State := takeExc s h 5 (getCore s h.core).pc (word a) 0 write
/-- DATA. -/
def excData (s : State) (h : Head) (a : Nat) (kind : Nat) (write : Bool) : State :=
  takeExc s h 6 (getCore s h.core).pc (word a) kind write
/-- BUS. -/
def excBus (s : State) (h : Head) (a : Nat) (kind : Nat) (write : Bool) : State :=
  takeExc s h 7 (getCore s h.core).pc (word a) kind write
/-- ECC. -/
def excEcc (s : State) (h : Head) (a : Nat) : State := takeExc s h 8 (getCore s h.core).pc (word a) 0 false

/-- An exception return (R291): PC from EPC, PSW from EPSW with EXC clear, after the store buffer has drained; a domain
that the core may not enter raises GATE. -/
def excReturn (s : State) (h : Head) : State :=
  let k := getCore s h.core
  let bad := match h.core with
    | .mc => fld k.epsw 21 16 != 1
    | _ => fld k.epsw 21 16 == 1
  if bad then excGate s h 0xFFFFFFFF#32
  else
    let s := drain s h.core
    setCore s h.core { getCore s h.core with pc := k.epc, psw := setBit k.epsw 1 false }

/-! ### Instructions -/

/-- The page registers follow the last instruction retired (R302). -/
def noteRetired (s : State) (c : CoreId) (pc psw : Word) : State :=
  match corePage c with
  | none => s
  | some p => wr (wr s (hdr p 0x84) pc) (hdr p 0x88) psw

/-- An instruction retires: the core as it leaves it, with its PC. -/
def retire (s : State) (c : CoreId) (k : Core) (pc : Word) : State :=
  noteRetired (setCore s c { k with pc := pc }) c (getCore s c).pc k.psw

/-- The frame of an instruction of `len` bytes: nothing on a core that does not run; a FETCH exception where a byte of it
may not be fetched; else its body, given the core and the address of the next instruction. -/
def insn (s : State) (h : Head) (len : Nat) (body : Core → Word → State) : State :=
  let k := getCore s h.core
  if k.run ≠ .running then s
  else match fetchBad s h.core k.pc.toNat len with
    | some a => excFetch s h (word a)
    | none => body k (k.pc + word len)

/-- Whether a core could take an interrupt if IE were 1, and the highest level among the events (R293). -/
def irqLevel (s : State) (c : CoreId) : Option Nat :=
  let k := getCore s c
  match bestClaim (claimableOf s c) with
  | some (_, l) => if l > fld k.psw 12 8 && !bit k.psw 1 then some l else none
  | none => none

/-- Whether an AC core executes in an application domain (R283). -/
def inApp (c : CoreId) (k : Core) : Bool := decide (c ≠ .mc) && domOf k != 0

end Sys2Proof.Machine
end

