-- ==== Sys2Proof/Machine/Channels.lean ====
section
/-! DEFINITION. Guarded page accesses, the life-cycle code, and what the bus master and the command channels share: the DMA
filter (R354, R355), reads and writes (R356), and completions (R360, R367, R371 to R373). -/

namespace Sys2Proof.Machine

open Sys2Proof

/-! ### Life-cycle and page accesses -/

/-- The life-cycle code (R173, R518): 1 TEST, 2 SEALED, 3 OWNED, 4 RECALLED, 5 SCRAPPED. -/
def lcode (s : State) : Nat :=
  if s.otp.scrapped then 5
  else if !s.otp.sealed_ then 1
  else if lmem s.otp.round s.otp.own then 3
  else if s.otp.round = 0 then 2
  else 4

/-- The device serial (R2). -/
def serial : Bytes := (List.range 16).map Config.serialByte

/-- The core an initiator is. -/
def coreOf : Initiator → Option CoreId
  | .ac0 => some .ac0
  | .ac1 => some .ac1
  | .mc => some .mc
  | _ => none

/-- A refusal told to its initiator (R15): a core takes a DATA exception, or a BUS exception where the page does not
exist or the width is wrong; any other initiator is told so. -/
def tellRefused (s : State) (i : Initiator) (a : Nat) (bus : Bool) (kind : Nat) (write : Bool) : State :=
  match coreOf i with
  | some c => if bus then excBus s ⟨c, false⟩ (0x40000000 + a) kind write else excData s ⟨c, false⟩ (0x40000000 + a) kind write
  | none => emit s (.refused i)

/-- An access a page refuses (R12, R15, R34, R37). -/
def refuseAccess (s : State) (i : Initiator) (a : Nat) (v : Verdict) (write : Bool) : State :=
  match v with
  | .ok => s
  | .nopage => if isHost i then s else tellRefused s i a true 0 write
  | .width => tellRefused (noteErr s i (a / 4096) (a % 4096) 2 write) i a true 2 write
  | .domain => tellRefused (noteErr s i (a / 4096) (a % 4096) 1 write) i a false 1 write

/-- Accesses that are never made: the debug port is inert outside TEST (R11), and in SLEEP and OFF the clocks stand (R523). -/
def inert (s : State) (i : Initiator) : Bool :=
  (decide (i = .debug) && lcode s != 1) || decide (s.pmu.mode = .sleep) || decide (s.pmu.mode = .off)

/-- A write to a page register, performed only if the page permits it. -/
def guardW (s : State) (i : Initiator) (a : Nat) (k : State → State) : State :=
  if inert s i then s
  else match writeVerdict s i a with
    | .ok => k s
    | v => refuseAccess s i a v true

/-- A read of a page register, performed only if the page permits it. -/
def guardR (s : State) (i : Initiator) (a : Nat) (k : State → State) : State :=
  if inert s i then s
  else match readVerdict s i a with
    | .ok => k s
    | v => refuseAccess s i a v false

/-- The value of a page read given to an initiator that is not a core; a core's load takes it into a register itself. -/
def answer (s : State) (v : Word) : State := emit s (.value v)

/-! ### Bus mastering -/

/-- Whether a bus address names host memory (R354). -/
def isHostAddr (a : Nat) : Bool := decide (a < 2 ^ 63)

/-- The core address of a bus address in SRAM space. -/
def sramOf (a : Nat) : Nat := a % 2 ^ 32

/-- Whether a bus address and length name something a channel can reach at all (R29, R354). -/
def busOk (a n : Nat) : Bool :=
  if isHostAddr a then decide (a + n ≤ 2 ^ 63)
  else a / 2 ^ 32 % 2 ^ 31 == 0 && rangeSram (sramOf a) n

/-- The domain a channel is bound to. -/
def chanDom (s : State) (n : Nat) : Nat := fld (rd s (Reg.CHN_CFG + 32 * n)) 21 16

/-- Two words as a 64-bit number. -/
def rd64 (s : State) (a : Nat) : Nat := (rd s a).toNat + 2 ^ 32 * (rd s (a + 4)).toNat

/-- Whether window `w` of the DMA page permits an access for a domain (R355, R386). -/
def dmaWindowOk (s : State) (dom a n : Nat) (write : Bool) (w : Nat) : Bool :=
  let base := rd64 s (Reg.DMA_WBASE0 + 32 * w) / 4096 * 4096
  let lim := rd64 s (Reg.DMA_WLIM0 + 32 * w) / 4096 * 4096
  let attr := rd s (Reg.DMA_WATTR + 32 * w)
  let doms := rd s (Reg.DMA_WDOM0 + 32 * w + 4 * (dom / 32))
  bit attr 31 && decide (base ≤ lim) && decide (base ≤ a) && decide (a + n ≤ lim + 4096) &&
    bit attr (if write then 1 else 0) && bit doms (dom % 32)

/-- Whether the DMA filter permits an access for a domain. -/
def dmaFilter (s : State) (dom a n : Nat) (write : Bool) : Bool := (List.range 16).any (dmaWindowOk s dom a n write)

/-- The status codes of R60 that this part produces. -/
abbrev stOK : Nat := 0x00
abbrev stBUSY : Nat := 0x01
abbrev stDUP : Nat := 0x02
abbrev stREPLAY : Nat := 0x03
abbrev stAUTH : Nat := 0x04
abbrev stKEY : Nat := 0x05
abbrev stEXHAUST : Nat := 0x06
abbrev stTOTAL : Nat := 0x07
abbrev stFWD : Nat := 0x08
abbrev stLOCKED : Nat := 0x09
abbrev stTIMEOUT : Nat := 0x0A
abbrev stPARTNER : Nat := 0x0B
abbrev stABORT : Nat := 0x0C
abbrev stNORES : Nat := 0x0D
abbrev stPROT : Nat := 0x0E
abbrev stLANE : Nat := 0x0F
abbrev stSTALE : Nat := 0x10
abbrev stPROMO : Nat := 0x11
abbrev stGAP : Nat := 0x12
abbrev stNOTOWN : Nat := 0x13
abbrev stBADPROF : Nat := 0x14
abbrev stDOMAIN : Nat := 0x15

/-- The check of a bus-master access of a channel: OK, or DOMAIN_FAULT with the refusal counted where the filter made it
(R29, R351, R354, R355). -/
def dmaCheck (s : State) (n a len : Nat) (write : Bool) : State × Nat :=
  if !busOk a len then (s, stDOMAIN)
  else if !dmaFilter s (chanDom s n) a len write then (bumpSat s Reg.DMA_REFUSE 15 0, stDOMAIN)
  else if !isHostAddr a && len != 0 && !banksUp s (sramOf a) len then (s, stDOMAIN)
  else (s, stOK)

/-- A transfer error is recorded in DMA_XERR and raises XFER (R356, R386). -/
def noteXfer (s : State) (n a status : Nat) (write : Bool) (kind : Nat) : State :=
  let w := rd s Reg.DMA_XERR
  let s :=
    if bit w 31 then wrBit s Reg.DMA_XERR 30 true
    else
      let s := wr s Reg.DMA_XERR (word (0x80000000 + n * 0x1000000 + status * 0x10000 + b2n write * 0x8000 + kind))
      wr (wr s Reg.DMA_XADDR (word a)) (Reg.DMA_XADDR + 4) (word (a / 2 ^ 32))
  raise s 0x31 0

/-- The dynamic state of a channel that is not enabled. -/
def Chan.idle : Chan :=
  { release := 0, toRead := 0, fetched := [], active := [], tokens := 0, counted := 0, countedAt := 0, halted := false,
    cqwait := false, disabling := false, discard := false }

/-- A channel. -/
def getChan (s : State) (n : Nat) : Chan := mget Chan.idle s.chans n

/-- The state with a channel replaced. -/
def setChan (s : State) (n : Nat) (c : Chan) : State := { s with chans := mset Chan.idle s.chans n c }

/-- A bus-master write of a channel (R354 to R356): to SRAM at once; to host memory as a message, held while Bus Master
Enable is 0 (R413) and dropped after an interface reset (R373). Answers the status. -/
def dmaWrite (s : State) (n a : Nat) (bs : Bytes) : State × Nat :=
  match dmaCheck s n a bs.length true with
  | (s, 0) =>
    if isHostAddr a then
      if (getChan s n).discard then (s, stOK)
      else if s.pcie.bme then (emit s (.hostWrite a bs), stOK)
      else ({ s with held := s.held ++ [.hostWrite a bs] }, stOK)
    else (bankWrite s (.dma (BitVec.ofNat 6 n).toFin) (sramOf a) bs, stOK)
  | r => r

/-- A bus-master read of a channel: the bytes, or the status the descriptor ends with (R338, R355, R356). -/
def dmaRead (s : State) (n a len : Nat) (d : DmaData) : State × (Nat ⊕ Bytes) :=
  match dmaCheck s n a len false with
  | (s, 0) =>
    if isHostAddr a then
      match d with
      | .data bs => (s, .inr ((bs ++ zeros len).take len))
      | .timeout => (noteXfer s n a stTIMEOUT false 1, .inl stTIMEOUT)
      | .error e => (noteXfer s n a stDOMAIN false (match e with | .ur => 2 | .ca => 3 | .poisoned => 4), .inl stDOMAIN)
    else if poisoned s (sramOf a) len then
      (noteEcc s (.dma (BitVec.ofNat 6 n).toFin) false (sramOf a) true, .inl stLANE)
    else (s, .inr (sramRead s (sramOf a) len))
  | (s, st) => (s, .inl st)

/-! ### Channels -/

/-- Whether a channel configuration is one that EN can enable (R357). -/
def chanCfgOk (s : State) (n : Nat) (cfg : Word) : Bool :=
  let port := fld cfg 30 29
  port != 3 && (port != 2 || n == 62 || n == 63) && decide (4 ≤ fld cfg 15 12) && decide (fld cfg 15 12 ≤ 12) &&
    decide (4 ≤ fld cfg 11 8) && decide (fld cfg 11 8 ≤ 12) &&
    fld (rd s (Reg.CHN_SQBASE0 + 32 * n)) 11 0 == 0 && fld (rd s (Reg.CHN_CQBASE0 + 32 * n)) 11 0 == 0

/-- Whether a channel is enabled (R357). -/
def chanOn (s : State) (n : Nat) : Bool :=
  bit (rd s (Reg.CHN_CFG + 32 * n)) 31 && chanCfgOk s n (rd s (Reg.CHN_CFG + 32 * n))

/-- The address of a register of a channel's doorbell page. -/
def dbReg (n off : Nat) : Nat := hdr (0x100 + n) off

/-- The entries of a channel's submission ring. -/
def sqSize (s : State) (n : Nat) : Nat := 2 ^ fld (rd s (Reg.CHN_CFG + 32 * n)) 15 12
/-- The entries of a channel's completion ring. -/
def cqSize (s : State) (n : Nat) : Nat := 2 ^ fld (rd s (Reg.CHN_CFG + 32 * n)) 11 8
/-- The SQ tail, SQ head, CQ head and CQ tail of a channel, and the phase. -/
def sqTail (s : State) (n : Nat) : Nat := fld (rd s (dbReg n 0)) 11 0
/-- SQ head. -/
def sqHead (s : State) (n : Nat) : Nat := fld (rd s (dbReg n 8)) 11 0
/-- CQ head. -/
def cqHead (s : State) (n : Nat) : Nat := fld (rd s (dbReg n 4)) 11 0
/-- CQ tail. -/
def cqTail (s : State) (n : Nat) : Nat := fld (rd s (dbReg n 12)) 11 0

/-- The completions of a channel that wait to be written. -/
def cplOf (s : State) (n : Nat) : List Cpl := s.cplq.filter fun c => c.ch == n

/-- The outstanding descriptors of a channel: from fetch to the write of the completion (R364). -/
def outstanding (s : State) (n : Nat) : Nat :=
  let c := getChan s n
  c.toRead + c.fetched.length + c.active.length + (cplOf s n).length

/-- Clearing EN takes effect once nothing is outstanding (R372). -/
def chanSettle (s : State) (n : Nat) : State :=
  let c := getChan s n
  if c.disabling && outstanding s n == 0 then
    wrBit (setChan s n { c with disabling := false, halted := false, cqwait := false }) (Reg.CHN_CFG + 32 * n) 31 false
  else s

/-- A descriptor ends: its completion waits to be written (R367), or is discarded on a halted channel and after an
interface reset (R371, R373). -/
def chanDone (s : State) (n tag : Nat) (order : Bool) (status : Nat) (body : Bytes) : State :=
  let c := getChan s n
  if c.halted || c.discard then chanSettle s n
  else { s with cplq := s.cplq ++ [⟨n, tag, order, status, (body ++ zeros 12).take 12⟩] }

/-- TAG of a descriptor (R359). -/
def descTag (d : Desc) : Nat := leNat ((d.raw.drop 2).take 2)
/-- The operation code. -/
def descOp (d : Desc) : Nat := (d.raw.getD 0 0#8).toNat
/-- DFL.ORDER. -/
def descOrder (d : Desc) : Bool := (d.raw.getD 1 0#8).toNat % 2 == 1
/-- A little-endian field of a descriptor. -/
def descFld (d : Desc) (off n : Nat) : Nat := leNat ((d.raw.drop off).take n)
/-- Whether the bytes from `off` on, `n` of them, are all 0. -/
def descZero (d : Desc) (off n : Nat) : Bool := ((d.raw.drop off).take n).all (· == 0#8)
/-- The common header's reserved bits and bytes are 0 (R359). -/
def headerOk (d : Desc) : Bool := decide ((d.raw.getD 1 0#8).toNat < 2) && descZero d 4 12

/-- The first active operation that satisfies a test, taken out of the list. -/
def takeFirst {α : Type} (p : α → Bool) : List α → Option (α × List α)
  | [] => none
  | x :: xs => if p x then some (x, xs) else match takeFirst p xs with | some (y, ys) => some (y, x :: ys) | none => none

/-- End an active operation of a channel that satisfies a test: its completion. -/
def endActive (s : State) (n : Nat) (p : ActOp → Bool) (status : Nat) (body : Bytes) : State :=
  match takeFirst p (getChan s n).active with
  | none => s
  | some (o, rest) => chanDone (setChan s n { getChan s n with active := rest }) n (descTag o.d) (descOrder o.d) status body

/-- End the active operation with a tag and operation code. -/
def endByTag (s : State) (n tag : Nat) (status : Nat) (body : Bytes) : State :=
  endActive s n (fun o => descTag o.d == tag && o.begun) status body

/-- A calendar start pulse (R369). -/
def chanStart (s : State) (n : Nat) : State :=
  if chanOn s n then setChan s n { getChan s n with release := sqTail s n } else s

end Sys2Proof.Machine
end

