-- ==== Sys2Proof/Machine/Tallies.lean ====
section
/-! DEFINITION. The tallies: tables (R111 to R116), sources and shares (R117 to R119), the scheduler and the ALU (R120 to
R125), the snapshot latch (R126), presets (R127) and accumulator axes (R129); pulse counters (R130 to R132); and the check and
mark of slot writes (R119, R135, R136). -/

namespace Sys2Proof.Machine

open Sys2Proof

/-! ### Registers of a tally -/

/-- The page of a tally. -/
def talPage (n : Nat) : Nat := 0x20 + n / 64
/-- The address of TAL_CFG of a tally; SRC, TBL and SCALE follow it. -/
def talCfgReg (n : Nat) : Nat := Reg.TAL_CFG + n / 64 * 4096 + n % 64 * 16
/-- The address of TAL_STS of a tally. -/
def talStsReg (n : Nat) : Nat := Reg.TAL_STS + n / 64 * 4096 + n % 64 * 4
/-- The address of TAL_EVRAW of a tally. -/
def talEvReg (n : Nat) : Nat := Reg.TAL_EVRAW + n / 64 * 4096 + n % 64 * 4
/-- TAL_CFG. -/
def talCfg (s : State) (n : Nat) : Word := rd s (talCfgReg n)
/-- TAL_SRC. -/
def talSrc (s : State) (n : Nat) : Word := rd s (talCfgReg n + 4)
/-- TAL_TBL. -/
def talTbl (s : State) (n : Nat) : Word := rd s (talCfgReg n + 8)
/-- TAL_SCALE. -/
def talScale (s : State) (n : Nat) : Nat := (rd s (talCfgReg n + 12)).toNat
/-- Raise a cause of a tally (R142). -/
def talRaise (s : State) (n k : Nat) : State := wrBit s (talEvReg n) k true

/-- A tally after reset. -/
def Tally.zero : Tally := { share := 0, pos := 0, neg := 0, err := 0, upd := 0 }
/-- A tally. -/
def getTally (s : State) (n : Nat) : Tally := mget Tally.zero s.tal.tallies n
/-- The state with a tally replaced. -/
def setTally (s : State) (n : Nat) (t : Tally) : State := { s with tal := { s.tal with tallies := mset Tally.zero s.tal.tallies n t } }

/-- The source TAL_CFG names; none where ASRC is reserved or the counter number is above 31 (R142). -/
def talSource (cfg : Word) : Option TallySrc :=
  match fld cfg 30 29 with
  | 0 => if fld cfg 23 16 < 32 then some (.pulse (Fin.ofNat 32 (fld cfg 23 16))) else none
  | 1 => some (.slot (Fin.ofNat 256 (fld cfg 23 16)))
  | 2 => some .mains
  | _ => none

/-- An active tally (R117). -/
def talActive (s : State) (n : Nat) : Bool :=
  bit (talCfg s n) 31 && (talSource (talCfg s n)).isSome && enabled s (talPage n)

/-- The tally whose TAL_CFG an address is. -/
def talOfCfg (a : Nat) : Option Nat :=
  if 0x20 ≤ a / 4096 ∧ a / 4096 < 0x24 ∧ 0x100 ≤ a % 4096 ∧ a % 4096 < 0x500 ∧ a % 16 = 0 then
    some ((a / 4096 - 0x20) * 64 + (a % 4096 - 0x100) / 16)
  else none

/-- The active tallies, ascending: EN differs from its reset value, so the register is listed. -/
def activeTallies (s : State) : List Nat :=
  s.regs.filterMap fun kv =>
    match talOfCfg kv.1 with
    | some n => if talActive s n then some n else none
    | none => none

/-- The active users of a source. -/
def usersOf (s : State) (src : TallySrc) : List Nat :=
  (activeTallies s).filter fun n => decide (talSource (talCfg s n) = some src)

/-- Whether Ta reads slot D, Tb slot B and slot C (R113). -/
def readsD (s : State) (n : Nat) : Bool := decide (fld (talTbl s n) 14 8 ≤ 0x40)
/-- Slot B. -/
def readsB (s : State) (n : Nat) : Bool := decide (fld (talTbl s n) 6 0 ≤ 0x40)
/-- Slot C. -/
def readsC (s : State) (n : Nat) : Bool := readsB s n && bit (talCfg s n) 15
/-- The slots a tally reads. -/
def readSlots (s : State) (n : Nat) : List Nat :=
  (if readsB s n then [fld (talSrc s n) 23 16] else []) ++ (if readsC s n then [fld (talSrc s n) 15 8] else []) ++
    (if readsD s n then [fld (talSrc s n) 7 0] else [])

/-- PEND of TAL_STS. -/
def talPend (s : State) (n : Nat) : Bool := bit (rd s (talStsReg n)) 25
/-- Mark a tally pending, or unmark it. -/
def setPend (s : State) (n : Nat) (b : Bool) : State := wrBit s (talStsReg n) 25 b

/-! ### Tables -/

/-- The outcome of a lookup (R111, R112). -/
inductive Look where
  | val (y : Int)
  | range
  | table
  deriving DecidableEq, Repr

/-- A word as a signed number. -/
def sint (w : Word) : Int := w.toInt

/-- A coefficient of a table. -/
def coefOf (s : State) (k seg c : Nat) : Int := sint (mget 0#32 s.tal.coef (128 * k + 4 * seg + c))

/-- The cubic of a segment in Horner form (R112). -/
def horner (c0 c1 c2 c3 t : Int) : Look :=
  let p := c2 + Int.fdiv (c3 * t) 65536
  let p := c1 + Int.fdiv (p * t) 65536
  let y := c0 + Int.fdiv (p * t) 65536
  if y < -2147483648 ∨ 2147483647 < y then .table else .val y

/-- A lookup of x in a table (R111, R112, R114). -/
def lookup (s : State) (k : Nat) (x : Int) : Look :=
  let th := rd s (Reg.TCO_THDR + 8 * k)
  let sh := fld th 28 24
  if !bit th 31 || sh < 4 || 27 < sh then .table
  else
    let d := x - sint (rd s (Reg.TCO_TX0 + 8 * k))
    if d < 0 ∨ (32 * 2 ^ sh : Int) ≤ d then .range
    else
      let seg := d.toNat / 2 ^ sh
      let r := d.toNat % 2 ^ sh
      let t := if 16 ≤ sh then r / 2 ^ (sh - 16) else r * 2 ^ (16 - sh)
      horner (coefOf s k seg 0) (coefOf s k seg 1) (coefOf s k seg 2) (coefOf s k seg 3) (t : Int)

/-- A source selector applied to a slot value (R113). -/
def selLookup (s : State) (sel v : Nat) : Look :=
  let x := sint (word v)
  if sel < 0x40 then lookup s sel x
  else if sel = 0x40 then .val x
  else if sel = 0x41 then .val 65536
  else .table

/-- The words a table's CRC runs over (R116). -/
def tableBytes (s : State) (k : Nat) : Bytes :=
  leBytes 4 (rd s (Reg.TCO_THDR + 8 * k)).toNat ++ leBytes 4 (rd s (Reg.TCO_TX0 + 8 * k)).toNat ++
    (List.range 128).flatMap fun j => leBytes 4 (mget 0#32 s.tal.coef (128 * k + j)).toNat

/-! ### Accumulators -/

/-- Which accumulator. -/
inductive Acc where
  | pos | neg | err
  deriving DecidableEq, Repr

/-- The fraction bits of an accumulator (R109). -/
def Acc.frac : Acc → Nat
  | .err => 16
  | _ => 48

/-- The SAT flag of an accumulator in TAL_STS. -/
def Acc.sat : Acc → Nat
  | .pos => 31
  | .neg => 30
  | .err => 29

/-- An accumulator of a tally. -/
def Tally.acc (t : Tally) : Acc → Nat
  | .pos => t.pos
  | .neg => t.neg
  | .err => t.err

/-- The tally with an accumulator at a value. -/
def Tally.setAcc (t : Tally) (k : Acc) (v : Nat) : Tally :=
  match k with
  | .pos => { t with pos := v }
  | .neg => { t with neg := v }
  | .err => { t with err := v }

/-- The largest value of an accumulator: the integer part and the fraction all ones (R125). -/
def accMax (k : Acc) : Nat := 2 ^ (96 + k.frac) - 1

/-- The accumulator axis of a tally (R129): bits [63 + k:k] of the integer part, saturated. -/
def tallyAxis (s : State) (n : Nat) (neg : Bool) : Nat :=
  let k := min 32 (fld (talCfg s n) 13 8)
  let v := (if neg then (getTally s n).neg else (getTally s n).pos) / 2 ^ 48
  min (2 ^ 64 - 1) (v / 2 ^ k)

/-- The tally and the accumulator of the pending preset of a page (R127). -/
def presetOf (s : State) (p : Nat) : Option (Nat × Acc) :=
  let w := rd s (Reg.TAL_PRESTAT + 4096 * p)
  if bit w 31 then
    some (64 * p + fld w 5 0, match fld w 9 8 with | 0 => .pos | 1 => .neg | _ => .err)
  else none

/-- An increment of an accumulator (R125), which a pending preset of it also sums into its carry (R127). -/
def accAdd (s : State) (n : Nat) (k : Acc) (v : Nat) : State :=
  let s :=
    if presetOf s (n / 64) = some (n, k) then
      { s with tal := { s.tal with carry := mset 0 s.tal.carry (n / 64) (mget 0 s.tal.carry (n / 64) + v) } }
    else s
  if bit (rd s (talStsReg n)) k.sat then s
  else
    let x := (getTally s n).acc k + v
    if 2 ^ (96 + k.frac) ≤ x then
      talRaise (wrBit (setTally s n ((getTally s n).setAcc k (accMax k))) (talStsReg n) k.sat true) n 0
    else setTally s n ((getTally s n).setAcc k x)

/-! ### Slots -/

/-- A slot that nothing has written since reset. -/
def Slot.zero : Slot := { value := 0, ts := 0, tag := 0, written := false, fault := false, runfail := false, taken := none }
/-- A sample slot. -/
def getSlot (s : State) (k : Nat) : Slot := mget Slot.zero s.sns.slots k
/-- The state with a slot replaced. -/
def setSlot (s : State) (k : Nat) (x : Slot) : State := { s with sns := { s.sns with slots := mset Slot.zero s.sns.slots k x } }
/-- SNS_SLOTCFG. -/
def slotCfg (s : State) (k : Nat) : Word := rd s (Reg.SNS_SLOTCFG + 4 * k)

/-- Whether a slot is fresh now (R136). -/
def slotFresh (s : State) (k : Nat) : Bool :=
  let x := getSlot s k
  let c := slotCfg s k
  let u := if bit c 28 then 1000000 else 1000
  x.written && !x.fault && (fld c 15 0 == 0 || decide (s.tick < x.ts + fld c 15 0 * u))

/-- A writer of slots (R134): the sequencer's STORE step, the intake's account, or MC. -/
inductive SlotWriter where
  | seq (step : Nat)
  | acct (a : Nat)
  | mc
  deriving DecidableEq, Repr

/-- The source tag of a writer. -/
def SlotWriter.tag : SlotWriter → Nat
  | .seq n => 0x4000 + n
  | .acct a => 0x8000 + a
  | .mc => 0xC000

/-- Whether a slot accepts a writer (R135). -/
def slotAccepts (s : State) (k : Nat) (w : SlotWriter) : Bool :=
  let c := slotCfg s k
  bit c 31 &&
    match w with
    | .mc => true
    | .seq _ => fld c 30 29 == 1
    | .acct a => fld c 30 29 == 2 && fld c 25 16 == a

/-- Mark the tallies that read a slot pending (R119). -/
def markReaders (s : State) (k : Nat) : State :=
  (activeTallies s).foldl (fun s n => if lmem k (readSlots s n) then setPend s n true else s) s

/-- A refused slot write is counted, with cause REFUSED (R135). -/
def slotRefused (s : State) : State := raise (bumpSat s Reg.SNS_REFCNT 15 0) 0x27 2

/-- A write of a slot (R118, R119, R135, R140): a value, or a fault that changes neither value nor timestamp. -/
def slotWrite (s : State) (k : Nat) (w : SlotWriter) (val : Option Nat) : State × Bool :=
  if !slotAccepts s k w then (slotRefused s, false)
  else
    let x := getSlot s k
    match val with
    | none => (setSlot s k { x with fault := true }, true)
    | some v =>
      let x' : Slot := { value := v, ts := s.tick, tag := w.tag, written := true, fault := false, runfail := false,
                         taken := (match x.taken with | some t => some t | none => some v) }
      (markReaders (setSlot s k x') k, true)

/-! ### Pulse counters -/

/-- Whether the supplies leave the device unpowered for R132: VMAIN absent, or OFF. -/
def unpowered (s : State) : Bool := !s.pmu.vmain || decide (s.pmu.mode = .off)

/-- PULSE_EDGE: a qualified edge of a pulse input (R131, R132, R144). -/
def doPulseEdge (k : Fin 32) (rising : Bool) (s : State) : State :=
  let s := wrBit s Reg.PLS_LEVEL k.val rising
  let cfg := rd s (Reg.PLS_CFG + 4 * k.val)
  let counts := bit cfg 31 && (match fld cfg 30 29 with | 0 => rising | 1 => !rising | 2 => true | _ => false)
  if !counts then s
  else if rd s (Reg.PLS_COUNT + 4 * k.val) - rd s (Reg.PLS_TAKEN + 4 * k.val) = 0xFFFFFFFF#32 then
    let s := raise (wrBit s Reg.PLS_OVR k.val true) 0x26 0
    (usersOf s (.pulse k)).foldl (fun s n => talRaise s n 5) s
  else
    let s := bumpMod s (Reg.PLS_COUNT + 4 * k.val)
    if unpowered s then bumpMod s (Reg.PLS_OFFCNT + 4 * k.val) else s

/-! ### Sources -/

/-- The mains-cycle count (R148). -/
def mainsCount (s : State) : Nat := rd64 s Reg.AXS_MAINS

/-- The delta of a source (R118). -/
def srcDelta (s : State) : TallySrc → Nat
  | .pulse k => (rd s (Reg.PLS_COUNT + 4 * k.val) - rd s (Reg.PLS_TAKEN + 4 * k.val)).toNat
  | .slot k =>
    match (getSlot s k.val).taken with
    | some t => ((getSlot s k.val).value + 2 ^ 64 - t) % 2 ^ 64
    | none => 0
  | .mains => (mainsCount s + 2 ^ 64 - s.tal.mainsTaken) % 2 ^ 64

/-- The source's taken mark advanced to where the source stands. -/
def takeSource (s : State) : TallySrc → State
  | .pulse k => wr s (Reg.PLS_TAKEN + 4 * k.val) (rd s (Reg.PLS_COUNT + 4 * k.val))
  | .slot k => setSlot s k.val { getSlot s k.val with taken := some (getSlot s k.val).value }
  | .mains => { s with tal := { s.tal with mainsTaken := mainsCount s } }

/-- Whether a tally's page is quiesced, by CTRL.QUIESCE or by a self-test (R43, R117). -/
def pageQuiesced (s : State) (page : Nat) : Bool :=
  bit (rd s (hdr page Off.CTRL)) 1 || bit (rd s (hdr page Off.CTRL)) 2

/-- Add a delta to the share of a tally. -/
def addShare (d : Nat) (s : State) (n : Nat) : State :=
  setPend (setTally s n { getTally s n with share := (getTally s n).share + d }) n true

/-- The share an update in the ALU holds of a tally. -/
def inAlu (s : State) (n : Nat) : Nat :=
  match s.tal.alu with
  | some u => if u.n = n then u.share else 0
  | none => 0

/-- Whether the ALU is out of service (R123). -/
def aluOos (s : State) : Bool := bit (rd s Reg.TAL_ALU) 31

/-- SOURCE_CONSUME (R117, R118, R123). -/
def doSourceConsume (src : TallySrc) (s : State) : State :=
  let us := usersOf s src
  let d := srcDelta s src
  if us.isEmpty || aluOos s || us.any (fun n => pageQuiesced s (talPage n)) || d == 0 then s
  else
    match src with
    | .slot _ =>
      if 2 ^ 32 - 1 < d then us.foldl (fun s n => talRaise s n 2) (takeSource s src)
      else if us.any fun n => decide (2 ^ 32 - 1 < (getTally s n).share + inAlu s n + d) then s
      else us.foldl (addShare d) (takeSource s src)
    | _ =>
      if us.any fun n => decide (2 ^ 32 - 1 < (getTally s n).share + inAlu s n + d) then s
      else us.foldl (addShare d) (takeSource s src)

/-! ### The scheduler and the ALU -/

/-- Words of the posting RAM (R154): PCTL, CMP and INC. -/
def postWord (s : State) (p w : Nat) : Word := mget 0#32 s.cal.post (8 * p + w)
/-- Whether a posting is armed. -/
def postArmed (s : State) (p : Nat) : Bool := bit (postWord s p 0) 31
/-- Its axis code. -/
def postAxis (s : State) (p : Nat) : Nat := fld (postWord s p 0) 25 16
/-- Its compare value. -/
def postCmp (s : State) (p : Nat) : Nat := (postWord s p 1).toNat + 2 ^ 32 * (postWord s p 2).toNat
/-- Its increment. -/
def postInc (s : State) (p : Nat) : Nat := (postWord s p 3).toNat + 2 ^ 32 * (postWord s p 4).toNat

/-- The armed postings: ARMED is 1, so PCTL is listed. -/
def armedPostings (s : State) : List Nat :=
  s.cal.post.filterMap fun kv => if kv.1 % 8 = 0 && bit kv.2 31 then some (kv.1 / 8) else none

/-- The value of an axis (R146). -/
def axisValue (s : State) (code : Nat) : Nat :=
  if code = 0 then rd64 s Reg.AXS_RTC
  else if code = 1 then mainsCount s
  else if code = 2 then rd64 s Reg.AXS_NET
  else if 0x200 ≤ code && code < 0x300 then tallyAxis s (code - 0x200) false
  else if 0x300 ≤ code && code < 0x400 then tallyAxis s (code - 0x300) true
  else 0

/-- Whether the scheduler is held for a closing (R162): a burst has started one, or a posting of a tally axis is due. -/
def schedHeld (s : State) : Bool :=
  s.cal.closing || (armedPostings s).any fun p =>
    decide (0x200 ≤ postAxis s p) && decide (postCmp s p ≤ axisValue s (postAxis s p))

/-- The pending tallies, ascending. -/
def pendingTallies (s : State) : List Nat := (activeTallies s).filter (talPend s)

/-- The next pending tally after the one served last, round the ring (R120). -/
def nextTally (s : State) : Option Nat :=
  match (pendingTallies s).find? fun n => decide (s.tal.last < n) with
  | some n => some n
  | none => (pendingTallies s).head?

/-- TALLY_DISPATCH (R120, R122, R136): the next pending tally's share is taken and its slots are read. -/
def doTallyDispatch (s : State) : State :=
  if s.tal.alu.isSome || aluOos s || bit (rd s (hdr 0x20 Off.CTRL)) 2 || schedHeld s then s
  else match nextTally s with
    | none => s
    | some n =>
      let u : AluUpd :=
        { n := n, share := (getTally s n).share, b := (getSlot s (fld (talSrc s n) 23 16)).value,
          c := (getSlot s (fld (talSrc s n) 15 8)).value, d := (getSlot s (fld (talSrc s n) 7 0)).value,
          stale := (readSlots s n).any fun k => !slotFresh s k, off := false }
      let s := setPend (setTally s n { getTally s n with share := 0 }) n false
      { s with tal := { s.tal with alu := some u, last := n } }

/-- STALE, RANGE and TABLE of TAL_STS. -/
def setFlags (s : State) (n : Nat) (stale range table : Bool) : State :=
  upd s (talStsReg n) fun w => setBit (setBit (setBit w 28 stale) 27 range) 26 table

/-- An update with A > 0 that goes to ERR (R121). -/
def divert (s : State) (n a : Nat) : State := if a = 0 then s else accAdd (talRaise s n 1) n .err a

/-- Forming P and adding it (R108, R121). -/
def formP (s : State) (u : AluUpd) (a : Nat) : State :=
  let ta := fld (talTbl s u.n) 14 8
  let tb := fld (talTbl s u.n) 6 0
  let lb := selLookup s tb u.b
  let lc := if bit (talCfg s u.n) 15 then selLookup s tb u.c else .val 0
  let ld := selLookup s ta u.d
  match lb, lc, ld with
  | .val yb, .val yc, .val yd =>
    let s := setFlags s u.n false false false
    let p : Int := (a : Int) * yd * (yb - yc)
    if 0 < p then accAdd s u.n .pos p.toNat
    else if p < 0 then accAdd s u.n .neg (-p).toNat
    else s
  | _, _, _ =>
    let ls := [lb, lc, ld]
    divert (setFlags s u.n false (ls.any fun l => decide (l = .range)) (ls.any fun l => decide (l = .table))) u.n a

/-- Clearing EN takes effect at the update boundary (R124). -/
def aluDone (s : State) (u : AluUpd) : State :=
  let s := { s with tal := { s.tal with alu := none } }
  if u.off then wrBit s (talCfgReg u.n) 31 false else s

/-- TALLY_UPDATE_COMMIT: an update ends (R121), after `mism` mismatches of the datapaths (R123). -/
def doTallyUpdateCommit (mism : Fin 3) (s : State) : State :=
  match s.tal.alu with
  | none => s
  | some u =>
    let s := if 0 < mism.val then bumpSat s Reg.TAL_ALU 15 0 else s
    let s := if 1 < mism.val then bumpSat s Reg.TAL_ALU 15 0 else s
    if 1 < mism.val then
      let s := talRaise (wrBit s Reg.TAL_ALU 31 true) u.n 4
      let t := getTally s u.n
      aluDone (setPend (setTally s u.n { t with share := t.share + u.share }) u.n true) u
    else
      let a := u.share * talScale s u.n
      let s := if u.stale then divert (setFlags s u.n true false false) u.n a else formP s u a
      let t := getTally s u.n
      let s := if a = 0 then s else setTally s u.n { t with upd := (t.upd + 1) % 2 ^ 32 }
      aluDone s u

/-! ### Snapshot and preset -/

/-- TAL_STS as it reads: the flags, PRESET_PEND and the low bits of the update count (R142). -/
def talSts (s : State) (n : Nat) : Word :=
  let w := setFld (rd s (talStsReg n)) 15 0 ((getTally s n).upd % 65536)
  setBit w 24 (match presetOf s (n / 64) with | some (m, _) => m == n | none => false)

/-- Whether the ALU holds an update of a tally: it is not at an update boundary. -/
def aluHolds (s : State) (n : Nat) : Bool :=
  match s.tal.alu with
  | some u => u.n == n
  | none => false

/-- A number into successive words. -/
def wrWords (s : State) (a : Nat) : Nat → Nat → State
  | 0, _ => s
  | n + 1, v => wrWords (wr s a (word v)) (a + 4) n (v / 2 ^ 32)

/-- Start a snapshot of a tally on its page (R126). -/
def snapStart (s : State) (p m : Nat) : State :=
  wr (wr s (Reg.TAL_SNAPCMD + 4096 * p) (word m)) (Reg.TAL_SNAPSTAT + 4096 * p) (word (0x40000000 + m))

/-- TAL_SNAPCMD: a write of the snapshot command (R126). -/
def doTalSnapcmd (i : Initiator) (p : Fin 4) (v : Word) (s : State) : State :=
  let a := Reg.TAL_SNAPCMD + 4096 * p.val
  guardW s i a fun s =>
    if bit (rd s (Reg.TAL_SNAPSTAT + 4096 * p.val)) 30 then noteErr s i (0x20 + p.val) (a % 4096) 4 true
    else if bit v 31 then snapStart s p.val (fld v 5 0)
    else wr s a (v &&& 0x3F#32)

/-- SNAPSHOT_CAPTURE: the latch captures at the tally's update boundary (R126). -/
def doSnapshotCapture (p : Fin 4) (s : State) : State :=
  let b := 4096 * p.val
  let st := rd s (Reg.TAL_SNAPSTAT + b)
  let n := 64 * p.val + fld st 5 0
  if !bit st 30 || aluHolds s n then s
  else
    let t := getTally s n
    let sts := talSts s n
    let s := wrWords (wrWords s (Reg.TAL_SNAP_POS + b) 3 (t.pos / 2 ^ 48)) (Reg.TAL_SNAP_POSF + b) 2 (t.pos % 2 ^ 48)
    let s := wrWords (wrWords s (Reg.TAL_SNAP_NEG + b) 3 (t.neg / 2 ^ 48)) (Reg.TAL_SNAP_NEGF + b) 2 (t.neg % 2 ^ 48)
    let s := wrWords (wrWords s (Reg.TAL_SNAP_ERR + b) 3 (t.err / 2 ^ 16)) (Reg.TAL_SNAP_ERRF + b) 1 (t.err % 2 ^ 16)
    let s := wrWords (wr s (Reg.TAL_SNAP_STS + b) sts) (Reg.TAL_SNAP_TICK + b) 2 s.tick
    wr (wr s (Reg.TAL_SNAP_UPD + b) (word t.upd)) (Reg.TAL_SNAPSTAT + b) (word (0x80000000 + fld st 5 0))

/-- Start a preset of an accumulator of a tally on its page (R127); TARGET 3 names no accumulator and starts none. -/
def presetStart (s : State) (p m target : Nat) : State :=
  let s := wr s (Reg.TAL_PRECMD + 4096 * p) (word (target * 256 + m))
  if target = 3 then s
  else
    let s := wr s (Reg.TAL_PRESTAT + 4096 * p) (word (0x80000000 + target * 256 + m))
    { s with tal := { s.tal with carry := mset 0 s.tal.carry p 0 } }

/-- TAL_PRECMD: a write of the preset command (R127). -/
def doTalPrecmd (i : Initiator) (p : Fin 4) (v : Word) (s : State) : State :=
  let a := Reg.TAL_PRECMD + 4096 * p.val
  guardW s i a fun s =>
    if bit (rd s (Reg.TAL_PRESTAT + 4096 * p.val)) 31 then noteErr s i (0x20 + p.val) (a % 4096) 4 true
    else if bit v 31 then presetStart s p.val (fld v 5 0) (fld v 9 8)
    else wr s a (v &&& 0x33F#32)

/-- PRESET_APPLY: at the tally's update boundary the preset applies, after the snapshot and the closings that fall on the
same boundary (R127, R128); a backward move of an axis raises BACKWARD (R153). -/
def doPresetApply (p : Fin 4) (s : State) : State :=
  match presetOf s p.val with
  | none => s
  | some (n, k) =>
    let snap := rd s (Reg.TAL_SNAPSTAT + 4096 * p.val)
    if aluHolds s n || (bit snap 30 && fld snap 5 0 == n % 64) || s.cal.closing then s
    else
      let carry := mget 0 s.tal.carry p.val
      let val := ((rd s (Reg.TAL_PREVAL + 4096 * p.val)).toNat + 2 ^ 32 * (rd s (Reg.TAL_PREVAL + 4096 * p.val + 4)).toNat +
        2 ^ 64 * (rd s (Reg.TAL_PREVAL + 4096 * p.val + 8)).toNat) * 2 ^ k.frac + carry
      let old := tallyAxis s n (decide (k = .neg))
      let s :=
        if 2 ^ (96 + k.frac) ≤ val then
          talRaise (wrBit (setTally s n ((getTally s n).setAcc k (accMax k))) (talStsReg n) k.sat true) n 0
        else wrBit (setTally s n ((getTally s n).setAcc k val)) (talStsReg n) k.sat false
      let s := if k ≠ .err ∧ tallyAxis s n (decide (k = .neg)) < old then raise s 0x28 0 else s
      let s := wrWords s (Reg.TAL_CARRY + 4096 * p.val) 3 (carry / 2 ^ k.frac)
      let s := wrBit (talRaise s n 3) (Reg.TAL_PRESTAT + 4096 * p.val) 31 false
      { s with tal := { s.tal with carry := mset 0 s.tal.carry p.val 0 } }

/-- A write of TAL_CFG, TAL_SRC, TAL_TBL or TAL_SCALE (R124): while EN is 1, a write that changes anything but EN is
discarded; clearing EN takes effect at the update boundary. -/
def talCfgWrite (s : State) (i : Initiator) (a : Nat) (v : Word) : State :=
  let c := a / 16 * 16
  let m := (codeOf (a / 4096) (a % 4096)).elim 0#32 (·.2)
  let new := v &&& m
  if !bit (rd s c) 31 then wr s a new
  else if a ≠ c then (if new = rd s a then s else noteErr s i (a / 4096) (a % 4096) 4 true)
  else if setBit new 31 true ≠ setBit (rd s a) 31 true then noteErr s i (a / 4096) (a % 4096) 4 true
  else match s.tal.alu, talOfCfg c with
    | some u, some n => if u.n = n then { s with tal := { s.tal with alu := some { u with off := !bit v 31 } } } else wr s a new
    | _, _ => wr s a new

/-! ### TCO -/

/-- TCO_CRCSEL: a write of a table number starts its CRC (R116). -/
def doTcoCrcsel (i : Initiator) (v : Word) (s : State) : State :=
  guardW s i Reg.TCO_CRCSEL fun s =>
    let s := wr s Reg.TCO_CRCSEL (v &&& 0x3F#32)
    { s with tal := { s.tal with crcBusy := true } }

/-- TCO_CRC_DONE: the CRC of the selected table completes (R116). -/
def doTcoCrcDone (s : State) : State :=
  if !s.tal.crcBusy then s
  else
    let s := wr s Reg.TCO_CRC (crc32 (tableBytes s (fld (rd s Reg.TCO_CRCSEL) 5 0)))
    { s with tal := { s.tal with crcBusy := false } }

/-- An index register with AUTOINC steps after an access to its data register (R582); `mask` holds the index bits. -/
def autoinc (s : State) (a : Nat) (bits : Nat) : State :=
  if bit (rd s a) 31 then wrFld s a (bits - 1) 0 (fld (rd s a) (bits - 1) 0 + 1) else s

/-- TCO_CDATA_WRITE: a write of a coefficient (R115), after which the index steps (R582). -/
def doTcoCdataWrite (i : Initiator) (v : Word) (s : State) : State :=
  guardW s i Reg.TCO_CDATA fun s =>
    let idx := fld (rd s Reg.TCO_CIDX) 12 0
    let s :=
      if bit (rd s (Reg.TCO_THDR + 8 * (idx / 128))) 31 then noteErr s i 0x24 (Reg.TCO_CDATA % 4096) 4 true
      else { s with tal := { s.tal with coef := mset 0#32 s.tal.coef idx v } }
    autoinc s Reg.TCO_CIDX 13

/-- A read of TCO_CDATA: the coefficient at the index, which then steps. -/
def tcoDataRead (s : State) : Word × State :=
  (mget 0#32 s.tal.coef (fld (rd s Reg.TCO_CIDX) 12 0), autoinc s Reg.TCO_CIDX 13)

/-- A write of TCO_THDR or TCO_TX0 (R115). -/
def tcoTableWrite (s : State) (i : Initiator) (a : Nat) (v : Word) : State :=
  let th := a / 8 * 8
  let new := if a = th then v &&& 0x9F00FFFF#32 else v
  if !bit (rd s th) 31 then wr s a new
  else if a ≠ th then noteErr s i (a / 4096) (a % 4096) 4 true
  else if bit new 31 && new ≠ rd s a then noteErr s i (a / 4096) (a % 4096) 4 true
  else wr s a new

/-! ### The commands -/

/-- PULSE_EDGE (R131). -/
def execPulseEdge (k : Fin 32) (rising : Bool) (s : State) : Host.Outcome State Fault Refusal := finish s (doPulseEdge k rising s)

/-- SOURCE_CONSUME (R117). -/
def execSourceConsume (src : TallySrc) (s : State) : Host.Outcome State Fault Refusal := finish s (doSourceConsume src s)

/-- TALLY_DISPATCH (R120). -/
def execTallyDispatch (s : State) : Host.Outcome State Fault Refusal := finish s (doTallyDispatch s)

/-- TALLY_UPDATE_COMMIT (R121). -/
def execTallyUpdateCommit (mism : Fin 3) (s : State) : Host.Outcome State Fault Refusal := finish s (doTallyUpdateCommit mism s)

/-- TAL_SNAPCMD (R126). -/
def execTalSnapcmd (i : Initiator) (p : Fin 4) (v : Word) (s : State) : Host.Outcome State Fault Refusal := finish s (doTalSnapcmd i p v s)

/-- SNAPSHOT_CAPTURE (R126). -/
def execSnapshotCapture (p : Fin 4) (s : State) : Host.Outcome State Fault Refusal := finish s (doSnapshotCapture p s)

/-- TAL_PRECMD (R127). -/
def execTalPrecmd (i : Initiator) (p : Fin 4) (v : Word) (s : State) : Host.Outcome State Fault Refusal := finish s (doTalPrecmd i p v s)

/-- PRESET_APPLY (R127). -/
def execPresetApply (p : Fin 4) (s : State) : Host.Outcome State Fault Refusal := finish s (doPresetApply p s)

/-- TCO_CRCSEL (R116). -/
def execTcoCrcsel (i : Initiator) (v : Word) (s : State) : Host.Outcome State Fault Refusal := finish s (doTcoCrcsel i v s)

/-- TCO_CRC_DONE (R116). -/
def execTcoCrcDone (s : State) : Host.Outcome State Fault Refusal := finish s (doTcoCrcDone s)

/-- TCO_CDATA_WRITE (R115). -/
def execTcoCdataWrite (i : Initiator) (v : Word) (s : State) : Host.Outcome State Fault Refusal := finish s (doTcoCdataWrite i v s)

end Sys2Proof.Machine
end

