-- ==== Sys2Proof/Machine/Axes.lean ====
section
/-! DEFINITION. The time axes (R146 to R152, R169). -/

namespace Sys2Proof.Machine

open Sys2Proof

/-- The address of STAT of the AXS page, which holds RTC_VALID, NET_VALID and MAINS_OK. -/
abbrev axsStat : Nat := hdr 0x28 Off.STAT

/-- Whether the axes that need power advance (R146). -/
def awake (s : State) : Bool := match s.pmu.mode with | .sleep => false | .off => false | _ => true

/-- RTC seconds (R147). -/
def rtcSecs (s : State) : Nat := rd64 s Reg.AXS_RTC / 65536

/-- Whether a posting is armed on an axis. -/
def axisArmed (s : State) (code : Nat) : Bool := (armedPostings s).any fun p => postAxis s p == code

/-- A set of an axis (R151): `val` and `cmd` are its registers, `set` the SET pair, `ref` the low bit of its count. -/
def axisSet (s : State) (code val set cmd ref : Nat) (v : Word) : State :=
  let s := wr s cmd ((rd s cmd &&& 1#32) ||| (v &&& 0x40000000#32))
  if !bit v 31 then s
  else
    let new := rd64 s set
    let cur := rd64 s val
    if new < cur ∧ (!bit v 30 || axisArmed s code) then
      raise (bumpSat (wrBit s cmd 0 true) Reg.AXS_REFUSE (ref + 7) ref) 0x28 0
    else
      let s := wrWords (wrBit s cmd 0 false) val 2 new
      let s := if code = 0 then wrBit s axsStat 8 true else s
      let s := if code = 2 then wrBit s axsStat 9 true else s
      let s := if code = 1 then
          { s with tal := { s.tal with mainsTaken := (s.tal.mainsTaken + new + 2 ^ 64 - cur) % 2 ^ 64 } } else s
      if new < cur then raise s 0x28 1 else s

/-- AXS_RTCCMD (R151). -/
def doAxsRtccmd (i : Initiator) (v : Word) (s : State) : State :=
  guardW s i Reg.AXS_RTCCMD fun s => axisSet s 0 Reg.AXS_RTC Reg.AXS_RTCSET Reg.AXS_RTCCMD 16 v

/-- AXS_MCMD (R151). -/
def doAxsMcmd (i : Initiator) (v : Word) (s : State) : State :=
  guardW s i Reg.AXS_MCMD fun s => axisSet s 1 Reg.AXS_MAINS Reg.AXS_MSET Reg.AXS_MCMD 8 v

/-- AXS_NCMD (R149, R151). -/
def doAxsNcmd (i : Initiator) (v : Word) (s : State) : State :=
  guardW s i Reg.AXS_NCMD fun s => axisSet s 2 Reg.AXS_NET Reg.AXS_NSET Reg.AXS_NCMD 0 v

/-- AXS_RTCSLEW: a write starts or replaces a slew (R152). -/
def doAxsRtcslew (i : Initiator) (v : Word) (s : State) : State :=
  guardW s i Reg.AXS_RTCSLEW fun s =>
    let s := wr s Reg.AXS_RTCSLEW v
    { s with axs := { s.axs with rtcSub := 0 } }

/-- AXS_NSLEW (R152). -/
def doAxsNslew (i : Initiator) (v : Word) (s : State) : State :=
  guardW s i Reg.AXS_NSLEW fun s =>
    let s := wr s Reg.AXS_NSLEW v
    { s with axs := { s.axs with netSub := 0 } }

/-- The slew register of an axis. -/
def slewReg (net : Bool) : Nat := if net then Reg.AXS_NSLEW else Reg.AXS_RTCSLEW

/-- SLEW_DONE: the SECS of a slew reaches 0 (R152). -/
def doSlewDone (net : Bool) (s : State) : State :=
  if fld (rd s (slewReg net)) 31 16 = 0 then s
  else raise (wrFld s (slewReg net) 31 16 0) 0x28 3

/-- PPM of a slew in progress, as the nearest limit (R152); 0 with none. -/
def slewPpm (w : Word) : Int :=
  if fld w 31 16 = 0 then 0 else max (-1000) (min 1000 (sint (sext 16 (fld w 15 0))))

/-- The low word of an axis register. -/
def axs64Reg : Axs64 → Nat
  | .rtc => Reg.AXS_RTC
  | .mains => Reg.AXS_MAINS
  | .net => Reg.AXS_NET

/-- A low-word read captures the whole value (R169). -/
def axsCapture (s : State) (ax : Axs64) : State :=
  { s with axs := { s.axs with latch := mset 0#32 s.axs.latch (axs64Reg ax + 4) (rd s (axs64Reg ax + 4)) } }

/-- AXS_LOW_READ (R169). -/
def doAxsLowRead (i : Initiator) (ax : Axs64) (s : State) : State :=
  guardR s i (axs64Reg ax) fun s => answer (axsCapture s ax) (rd s (axs64Reg ax))

/-- A mains fault (R148). -/
def mainsFault (s : State) : State := raise (wrBit s axsStat 10 false) 0x28 2

/-- MAINS_EDGE: a rising edge of MAINS, its period measured by the device tick (R148). -/
def doMainsEdge (s : State) : State :=
  if !bit (rd s Reg.AXS_MCFG) 31 || !awake s then s
  else
    let mark (s : State) : State := { s with axs := { s.axs with lastEdge := some s.tick } }
    match s.axs.lastEdge with
    | none => mark s
    | some t =>
      let d := s.tick - t
      if d < 1000 then s
      else
        let s := wr (mark s) Reg.AXS_MPER (word (0x80000000 + min 65535 d))
        if 15000 ≤ d ∧ d ≤ 22500 then
          wrBit (wrWords s Reg.AXS_MAINS 2 (mainsCount s + 1)) axsStat 10 true
        else mainsFault s

/-- MAINS_TIMEOUT: 100 ms pass without an accepted edge (R148). -/
def doMainsTimeout (s : State) : State :=
  if !bit (rd s Reg.AXS_MCFG) 31 || !awake s then s else mainsFault { s with axs := { s.axs with lastEdge := none } }

/-- One second of a slew counted, where `sub` microseconds make it up. -/
def slewTick (s : State) (net : Bool) : State :=
  let w := rd s (slewReg net)
  if fld w 31 16 = 0 then s
  else
    let sub := (if net then s.axs.netSub else s.axs.rtcSub) + 1
    let s := if net then { s with axs := { s.axs with netSub := sub % 1000000 } }
             else { s with axs := { s.axs with rtcSub := sub % 1000000 } }
    if sub < 1000000 then s
    else if fld w 31 16 = 1 then doSlewDone net s
    else wrFld s (slewReg net) 31 16 (fld w 31 16 - 1)

/-- The RTC over one microsecond: it advances by 2 at each of its 32,768 periods a second, slewed (R147, R152). -/
def rtcTick (s : State) : State :=
  let ph := s.axs.rtcPhase + 32768 * (1000000 + slewPpm (rd s Reg.AXS_RTCSLEW)).toNat
  if 1000000000000 ≤ ph then
    let s := { s with axs := { s.axs with rtcPhase := ph - 1000000000000 } }
    wrWords s Reg.AXS_RTC 2 (rd64 s Reg.AXS_RTC + 2)
  else { s with axs := { s.axs with rtcPhase := ph } }

/-- Network time over one device tick, slewed (R149, R152). -/
def netTick (s : State) : State :=
  if !bit (rd s axsStat) 9 || !awake s then s
  else
    let ph := s.axs.netPhase + (1000000 + slewPpm (rd s Reg.AXS_NSLEW)).toNat
    let s := { s with axs := { s.axs with netPhase := ph % 1000000 } }
    wrWords s Reg.AXS_NET 2 (rd64 s Reg.AXS_NET + ph / 1000000)

/-- The axes over one microsecond. -/
def axesTick (s : State) : State := netTick (slewTick (rtcTick (slewTick s false)) true)

/-! ### The commands -/

/-- AXS_RTCCMD (R151). -/
def execAxsRtccmd (i : Initiator) (v : Word) (s : State) : Host.Outcome State Fault Refusal := finish s (doAxsRtccmd i v s)

/-- AXS_MCMD (R151). -/
def execAxsMcmd (i : Initiator) (v : Word) (s : State) : Host.Outcome State Fault Refusal := finish s (doAxsMcmd i v s)

/-- AXS_NCMD (R151). -/
def execAxsNcmd (i : Initiator) (v : Word) (s : State) : Host.Outcome State Fault Refusal := finish s (doAxsNcmd i v s)

/-- AXS_RTCSLEW (R152). -/
def execAxsRtcslew (i : Initiator) (v : Word) (s : State) : Host.Outcome State Fault Refusal := finish s (doAxsRtcslew i v s)

/-- AXS_NSLEW (R152). -/
def execAxsNslew (i : Initiator) (v : Word) (s : State) : Host.Outcome State Fault Refusal := finish s (doAxsNslew i v s)

/-- SLEW_DONE (R152). -/
def execSlewDone (net : Bool) (s : State) : Host.Outcome State Fault Refusal := finish s (doSlewDone net s)

/-- AXS_LOW_READ (R169). -/
def execAxsLowRead (i : Initiator) (ax : Axs64) (s : State) : Host.Outcome State Fault Refusal := finish s (doAxsLowRead i ax s)

/-- MAINS_EDGE (R148). -/
def execMainsEdge (s : State) : Host.Outcome State Fault Refusal := finish s (doMainsEdge s)

/-- MAINS_TIMEOUT (R148). -/
def execMainsTimeout (s : State) : Host.Outcome State Fault Refusal := finish s (doMainsTimeout s)

end Sys2Proof.Machine
end

