-- ==== Sys2Proof/Machine/Hbs.lean ====
section
/-! DEFINITION. Hash-based signatures: LMS and HSS per RFC 8554 with SHA-256 and n = 32 (R241 to R244), and the key derivation
of R172. -/

namespace Sys2Proof.Machine

open Sys2Proof

/-- The bytes of an ASCII label. -/
def ascii (t : String) : Bytes := t.toList.map fun c => byte c.toNat

/-- The key derivation of R172: SP 800-108 in counter mode with HMAC-SHA-256, one iteration. -/
def kdf (key label ctx : Bytes) : Bytes := hmac256 key (beBytes 4 1 ++ label ++ [0#8] ++ ctx ++ beBytes 4 256)

/-- The parameters that a PARAM byte gives (R241, R242): levels, heights of the top and of lower trees, and the code of W. -/
structure HssParam where
  l : Nat
  top : Nat
  low : Nat
  w : Nat
  deriving DecidableEq, Repr

/-- The parameters of a PARAM byte; none where it is reserved or inconsistent (R242). -/
def hssParam (b : Nat) : Option HssParam :=
  if b / 64 = 3 || (b / 64 == 0 && b / 4 % 4 != 0) then none
  else some { l := b / 64 + 1, top := b / 16 % 4, low := b / 4 % 4, w := b % 4 }

/-- The height of a tree's code. -/
def lmsH (code : Nat) : Nat := 5 * (code + 1)
/-- W in bits. -/
def lmsW (code : Nat) : Nat := 2 ^ code
/-- The number of chains. -/
def lmsP (code : Nat) : Nat := [265, 133, 67, 34].getD code 0
/-- The height code of a level. -/
def HssParam.code (p : HssParam) (level : Nat) : Nat := if level = 0 then p.top else p.low
/-- The total height (R242). -/
def HssParam.total (p : HssParam) : Nat := lmsH p.top + (p.l - 1) * lmsH p.low
/-- The bytes of one LMS signature (R242). -/
def HssParam.lmsLen (p : HssParam) (level : Nat) : Nat := 44 + 32 * lmsP p.w + 32 * lmsH (p.code level)
/-- The bytes of an HSS signature (R242). -/
def HssParam.sigLen (p : HssParam) : Nat := 4 + ((List.range p.l).map fun k => p.lmsLen k).foldl (· + ·) 0 + 56 * (p.l - 1)

/-- The coefficients of a digest with its checksum (RFC 8554, 4.4). -/
def lmsCoefs (code : Nat) (q : Bytes) : List Nat :=
  let w := lmsW code
  let parts (b : Byte) : List Nat := (List.range (8 / w)).map fun k => b.toNat / 2 ^ (8 - w * (k + 1)) % 2 ^ w
  let xs := q.flatMap parts
  let sum := (xs.map fun x => 2 ^ w - 1 - x).foldl (· + ·) 0 * 2 ^ ([7, 6, 4, 0].getD code 0)
  (xs ++ (beBytes 2 sum).flatMap parts).take (lmsP code)

/-- A chain of hashes from step `j` on. -/
def lmsChain (i : Bytes) (q k : Nat) : Nat → Nat → Bytes → Bytes
  | 0, _, x => x
  | n + 1, j, x => lmsChain i q k n (j + 1) (sha256 (i ++ beBytes 4 q ++ beBytes 2 k ++ [byte j] ++ x))

/-- The private element of chain `k` of leaf `q` (RFC 8554, Appendix A). -/
def lmsPriv (i seed : Bytes) (q k : Nat) : Bytes := sha256 (i ++ beBytes 4 q ++ beBytes 2 k ++ [0xFF#8] ++ seed)

/-- The one-time public key of a leaf. -/
def otsPub (code : Nat) (i seed : Bytes) (q : Nat) : Bytes :=
  sha256 (i ++ beBytes 4 q ++ [0x80#8, 0x80#8] ++
    (List.range (lmsP code)).flatMap fun k => lmsChain i q k (2 ^ lmsW code - 1) 0 (lmsPriv i seed q k))

/-- The node `r` of a tree, `d` levels above the leaves. -/
def lmsNode (code h : Nat) (i seed : Bytes) : Nat → Nat → Bytes
  | 0, r => sha256 (i ++ beBytes 4 r ++ [0x82#8, 0x82#8] ++ otsPub code i seed (r - 2 ^ h))
  | d + 1, r => sha256 (i ++ beBytes 4 r ++ [0x83#8, 0x83#8] ++ lmsNode code h i seed d (2 * r) ++ lmsNode code h i seed d (2 * r + 1))

/-- The LMS public key of a tree. -/
def lmsPub (p : HssParam) (level : Nat) (i seed : Bytes) : Bytes :=
  let h := lmsH (p.code level)
  beBytes 4 (p.code level + 5) ++ beBytes 4 (p.w + 1) ++ i ++ lmsNode p.w h i seed h 1

/-- The LMS signature of a message with leaf `q` and randomiser `c`. -/
def lmsSign (p : HssParam) (level : Nat) (i seed : Bytes) (q : Nat) (c m : Bytes) : Bytes :=
  let h := lmsH (p.code level)
  let d := sha256 (i ++ beBytes 4 q ++ [0x81#8, 0x81#8] ++ c ++ m)
  let ys := (lmsCoefs p.w d).zipIdx.flatMap fun a => lmsChain i q a.2 a.1 0 (lmsPriv i seed q a.2)
  let path := (List.range h).flatMap fun d => lmsNode p.w h i seed d (Nat.xor ((2 ^ h + q) / 2 ^ d) 1)
  beBytes 4 q ++ beBytes 4 (p.w + 1) ++ c ++ ys ++ beBytes 4 (p.code level + 5) ++ path

/-- I and SEED of the tree below (R243): bytes 0–15 and 16–47 of the two outputs. -/
def hssChild (seed : Bytes) (level tree : Nat) : Bytes × Bytes :=
  let ctx := byte level :: beBytes 8 tree
  let o := kdf seed (ascii "JQHSSI") ctx ++ kdf seed (ascii "JQHSSSEED") ctx
  (o.take 16, (o.drop 16).take 32)

/-- The number, within its level, of the tree on the path to a global index, and the leaf within it. -/
def hssPlace (p : HssParam) (level g : Nat) : Nat × Nat :=
  let below := (p.l - 1 - level) * lmsH p.low
  let x := g / 2 ^ below
  (x / 2 ^ lmsH (p.code level), x % 2 ^ lmsH (p.code level))

/-- The signatures of an HSS signature from a level down: `n` levels are left. -/
def hssFrom (p : HssParam) (g : Nat) (c m : Bytes) : Nat → Nat → Bytes × Bytes → Bytes
  | 0, _, _ => []
  | n + 1, level, (i, seed) =>
    let q := (hssPlace p level g).2
    if n = 0 then lmsSign p level i seed q c m
    else
      let sub := hssChild seed (level + 1) (hssPlace p (level + 1) g).1
      let pub := lmsPub p (level + 1) sub.1 sub.2
      let cc := sha256 (ascii "JQHSSC" ++ seed ++ beBytes 4 q ++ pub)
      lmsSign p level i seed q cc pub ++ pub ++ hssFrom p g c m n (level + 1) sub

/-- The HSS signature with a global index (R242 to R244). -/
def hssSign (p : HssParam) (mat : Bytes) (g : Nat) (c m : Bytes) : Bytes :=
  beBytes 4 (p.l - 1) ++ hssFrom p g c m p.l 0 (mat.take 16, mat.drop 16)

/-- The HSS public key (R242). -/
def hssPub (p : HssParam) (mat : Bytes) : Bytes := beBytes 4 p.l ++ lmsPub p 0 (mat.take 16) (mat.drop 16)

end Sys2Proof.Machine
end

