-- ==== Sys2Proof/Machine/Jobs.lean ====
section
/-! DEFINITION. What the units that take jobs share: memory accesses under a job's domain tag (R215, R578), tickets and
completions (R326, R327), and random bytes (R201). -/

namespace Sys2Proof.Machine

open Sys2Proof

/-! ### Memory under a domain tag -/

/-- Whether a domain's own regions or windows permit an access to the banks (R16, R284). -/
def domOk (s : State) (dom a n : Nat) (kd : AccKind) : Bool :=
  if dom = 1 then (List.range 4).any (windowOk s a n kd) else (List.range 16).any (regionOk s dom a n kd)

/-- The core address of a job's address: in the SRAM space of R354, or a core address. -/
def jobAddr (a : Nat) : Nat := if a / 2 ^ 63 = 1 && a / 2 ^ 32 % 2 ^ 31 == 0 then a % 2 ^ 32 else a

/-- A byte that host memory holds, of the segments the outside gives. -/
def hostByte (host : List (Nat × Bytes)) (a : Nat) : Byte :=
  match host.find? fun h => decide (h.1 ≤ a) && decide (a < h.1 + h.2.length) with
  | some h => h.2.getD (a - h.1) 0#8
  | none => 0#8

/-- Bytes that a unit reads from the banks: the bytes, or LANE_FAULT for an uncorrectable word (R338). -/
def unitRead (s : State) (dom a n : Nat) : State × (Nat ⊕ Bytes) :=
  if poisoned s a n then (noteEccUnit dom s (((wordsOf a n).find? fun w => lmem w s.mem.poison).getD a), .inl stLANE)
  else (s, .inr (sramRead s a n))

/-- Bytes that a job reads (R215): through the DMA engine for a channel's job, else from the banks under its domain. -/
def jobRead (s : State) (src : JobSrc) (dom a n : Nat) (host : List (Nat × Bytes)) : State × (Nat ⊕ Bytes) :=
  if n = 0 then (s, .inr [])
  else match src with
    | .chan c _ => dmaRead s c a n (.data ((List.range n).map fun k => hostByte host (a + k)))
    | _ =>
      let x := jobAddr a
      if !rangeSram x n || !banksUp s x n || !domOk s dom x n .load then (s, .inl stDOMAIN) else unitRead s dom x n

/-- Bytes that a job writes; the answer is the status. -/
def jobWrite (s : State) (src : JobSrc) (dom a : Nat) (bs : Bytes) : State × Nat :=
  if bs.isEmpty then (s, stOK)
  else match src with
    | .chan c _ => dmaWrite s c a bs
    | _ =>
      let x := jobAddr a
      if !rangeSram x bs.length || !banksUp s x bs.length || !domOk s dom x bs.length .store then (s, stDOMAIN)
      else (unitWrite s dom x bs, stOK)

/-! ### Tickets and completions (R326, R327) -/

/-- The ticket of a job becomes done; a reset may have cleared it meanwhile. -/
def ticketDone (s : State) (c : CoreId) (id status : Nat) : State :=
  let k := getCore s c
  match k.tickets.find? fun t => match t.2 with | some x => x.id == id | none => false with
  | some (t, some x) => setCore s c { k with tickets := mset none k.tickets t (some { x with status := some (byte status) }) }
  | _ => s

/-- A core's job has ended: its completion at `off` behind its block is on its way to the banks (R327). -/
def cpDone (s : State) (c : CoreId) (t addr off dom status : Nat) (body : Bytes) : State :=
  { s with tickq := s.tickq ++ [{ core := c, id := t, block := addr, off := off, dom := dom, status := status, body := body }] }

/-- The completion reaches the banks under the job's domain tag, where that tag may write there, and the ticket becomes done
(R327). -/
def tickEnd (s : State) (e : TickEnd) : State :=
  let a := e.block + e.off
  let s := if rangeSram a 16 && banksUp s a 16 && domOk s e.dom a 16 .store
    then unitWrite s e.dom a ([byte e.status, 0#8, 0#8, 0#8] ++ (e.body ++ zeros 12).take 12) else s
  ticketDone s e.core e.id e.status

/-- The completion of a job that no page register submitted. -/
def jobReport (s : State) (src : JobSrc) (dom off status : Nat) (body : Bytes) : State :=
  match src with
  | .page => s
  | .cp c t addr => cpDone s c t addr off dom status body
  | .chan n tag => endByTag s n tag status body

/-- The class of a job at a page that D0 assigns, none where its source is not permitted (R213, R240, R271): 0 CHAN, 1 OWNER,
2 D0, 4 ASSAY. -/
def jobClass (s : State) (page : Nat) (src : JobSrc) (dom : Nat) : Option Nat :=
  let own := pageDomain s page
  match src with
  | .page => some (if own = 0 then 2 else 1)
  | .cp .mc _ _ => some 4
  | .cp _ _ _ => if dom = 0 then some 2 else if dom = own then some 1 else none
  | .chan _ _ => if dom = own || dom = 0 then some 0 else none

/-- The retry hint of R547. -/
def retryHint (d t : Nat) : Nat := min 65535 (max 1 (((d + 1) * t + 999) / 1000))

/-! ### Random bytes (R200 to R202) -/

/-- A byte string of free values. -/
def freeBytes : Nat → State → Bytes × State
  | 0, s => ([], s)
  | n + 1, s =>
    let (k, s) := fresh s
    let (bs, s) := freeBytes n s
    (Config.free 8 k :: bs, s)

/-- Whether the DRBG gives output: RNG takes work and DRBG_READY is set (R41, R201, R206). -/
def drbgReady (s : State) : Bool := accepting s 6 && bit (rd s (hdr 6 Off.STAT)) 9

/-- A reseed is due (R202): STAT.RESEED_DUE, and RESEED_REQ where no entropy is available (R206). -/
def reseedDue (s : State) : State :=
  let s := wrBit s (hdr 6 Off.STAT) 10 true
  if bit (rd s (hdr 6 Off.STAT)) 8 then s else raise s 6 2

/-- A request is counted; after RNG_RESEED requests a reseed is due (R202). -/
def drbgCount (s : State) : State :=
  let s := bumpSat s Reg.RNG_REQS 23 0
  if max 1 (fld (rd s Reg.RNG_RESEED) 23 0) ≤ fld (rd s Reg.RNG_REQS) 23 0 then reseedDue s else s

/-- A reseed ends (R202). -/
def reseeded (s : State) : State := wr (wrBit s (hdr 6 Off.STAT) 10 false) Reg.RNG_REQS 0#32

/-- `n` bytes of the DRBG in one request: none while it refuses. A reseed that is due comes first. -/
def drbg (s : State) (n : Nat) : Option (Bytes × State) :=
  if drbgReady s then some (freeBytes n (drbgCount (if bit (rd s (hdr 6 Off.STAT)) 10 then reseeded s else s))) else none

end Sys2Proof.Machine
end

