-- ==== Sys2Proof/Machine/Lanes.lean ====
section
/-! DEFINITION. What the cipher, hash and big-number lanes share: queues and classes (R213, R224, R240, R271), the end of a job
(R216, R238, R272), keys and recalls (R187, R212, R237, R270), and leaving service (R229, R236, R275). -/

namespace Sys2Proof.Machine

open Sys2Proof

/-! ### The lanes -/

/-- A lane with no work and no key. -/
def Lane.idle : Lane := { queue := [], susp := [], cur := none, key := none, clr := false }
/-- A big-number lane with no work and no key. -/
def BLane.idle : BLane := { queue := [], cur := none, key := none, regs := [], clr := false }

/-- A cipher lane, or a hash lane where `h` is true. -/
def getLane (s : State) (h : Bool) (n : Nat) : Lane := mget Lane.idle (if h then s.lanes.hsh else s.lanes.aes) n
/-- The state with a lane replaced. -/
def setLane (s : State) (h : Bool) (n : Nat) (x : Lane) : State :=
  if h then { s with lanes := { s.lanes with hsh := mset Lane.idle s.lanes.hsh n x } }
  else { s with lanes := { s.lanes with aes := mset Lane.idle s.lanes.aes n x } }
/-- A big-number lane. -/
def getBne (s : State) (n : Nat) : BLane := mget BLane.idle s.lanes.bne n
/-- The state with a big-number lane replaced. -/
def setBne (s : State) (n : Nat) (x : BLane) : State := { s with lanes := { s.lanes with bne := mset BLane.idle s.lanes.bne n x } }

/-- The page of a cipher or hash lane. -/
def lanePage (h : Bool) (n : Nat) : Nat := if h then 0x0D + n else 0x08 + n
/-- The page of a big-number lane. -/
def bnePage (n : Nat) : Nat := 0x10 + n
/-- A register of a lane's page: the lanes of a kind have like pages. -/
def laneReg (h : Bool) (n off : Nat) : Nat := hdr (lanePage h n) off

/-- Whether a page is out of service (R43). -/
def outOfService (s : State) (page : Nat) : Bool := bit (rd s (hdr page Off.STAT)) 5

/-- Whether the engines are halted by a level-2 response (R498). -/
def halted (s : State) : Bool := bit (rd s (hdr 0x50 Off.STAT)) 8

/-- Whether a lane starts work: in service, enabled, neither quiescing nor in self-test (R41 to R43), and not halted (R498). -/
def laneUp (s : State) (page : Nat) : Bool := accepting s page && !halted s

/-- The lane on which an internal unit runs: the first that works and permits the class, by its bit of HSH_CFG (R240). -/
def unitLane (s : State) (b : Nat) : Option Nat := [0, 1].find? fun n => laneUp s (lanePage true n) && bit (rd s (laneReg true n 0x80)) b

/-- The priority of a class on a lane (R224, R233, R240, R256): 3 is the intake's. -/
def lanePri (s : State) (h : Bool) (n cls : Nat) : Nat :=
  let c := rd s (laneReg h n 0x80)
  match cls with
  | 0 => if h then fld c 13 12 else fld c 25 24
  | 1 => if h then fld c 9 8 else fld c 17 16
  | 2 => if h then fld c 5 4 else fld c 9 8
  | 3 => fld c 1 0
  | _ => 4

/-- The highest priority of a list. -/
def topPri (f : α → Nat) (xs : List α) : Nat := xs.foldl (fun a x => max a (f x)) 0

/-- The intake frames that wait at a cipher lane (R580). -/
def laneFrames (s : State) (n : Nat) : List Frame := s.intake.frames.filter fun f => decide (f.lane = some n) && decide (f.stage = .keys)

/-- Whether an intake frame runs on a cipher lane: its keys are being loaded or used. -/
def frameRuns (s : State) (n : Nat) : Bool := s.intake.frames.any fun f => decide (f.lane = some n) && decide (f.stage = .loaded)

/-- What a lane takes next (R224): the highest priority; among equals a suspended job, then an intake frame, then the queue in
arrival order. -/
inductive LaneNext where
  | none
  | frame
  | susp (r : RunJob) (rest : List RunJob)
  | job (j : Job) (rest : List Job)
  deriving DecidableEq, Repr

/-- The choice of R224; in the service window every lane holds its jobs (R531). -/
def laneNext (s : State) (h : Bool) (n : Nat) : LaneNext :=
  let x := if s.pmu.window then { getLane s h n with queue := [], susp := [] } else getLane s h n
  let pj (j : Job) : Nat := lanePri s h n j.cls
  let fr := !h && !(laneFrames s n).isEmpty
  let p := max (max (topPri pj x.queue) (topPri (fun r => pj r.job) x.susp)) (if fr then lanePri s h n 3 else 0)
  match takeFirst (fun r => pj r.job == p) x.susp with
  | some (r, rest) => .susp r rest
  | none =>
    if fr && lanePri s h n 3 == p then .frame
    else match takeFirst (fun j => pj j == p) x.queue with
      | some (j, rest) => .job j rest
      | none => .none

/-! ### The end of a job -/

/-- The offset behind a 48-byte block at which its completion goes (R329). -/
abbrev jobOff : Nat := 48

/-- A cipher or hash job ends: status, DONE, token and retry hint (R216, R233, R238). -/
def laneEnd (s : State) (h : Bool) (n : Nat) (j : Job) (status done token hint : Nat) : State :=
  match j.src with
  | .page =>
    let s := wr s (laneReg h n 0x8C) (word status)
    let s := wr (wr s (laneReg h n 0x90) (word done)) (laneReg h n 0x94) (word token)
    raise s (lanePage h n) 0
  | src => jobReport s src j.dom jobOff status (leBytes 4 done ++ leBytes 4 token ++ leBytes 2 hint)

/-- A big-number job ends (R272, R279). -/
def bneEnd (s : State) (n : Nat) (j : Job) (status done result hint : Nat) : State :=
  match j.src with
  | .page =>
    let s := wr s (hdr (bnePage n) 0x8C) (word status)
    let s := wr (wr s (hdr (bnePage n) 0x90) (word done)) (hdr (bnePage n) 0x94) (word result)
    raise s (bnePage n) 0
  | src => jobReport s src j.dom jobOff status (leBytes 4 done ++ leBytes 4 result ++ leBytes 2 hint)

/-- The token a job's block names. -/
def blkTok (j : Job) : Nat := leNat ((j.blk.drop 40).take 4)

/-! ### Submission -/

/-- What a lane answers to a job that arrives: it takes it, or the status it refuses with and the retry hint. -/
inductive Admit where
  | taken (s : State)
  | refused (status hint : Nat)
  deriving Repr

/-- A job arrives at a cipher or hash lane (R41, R213, R224, R229, R240, R547). -/
def laneAdmit (s : State) (h : Bool) (n : Nat) (src : JobSrc) (dom : Nat) (blk : Bytes) : Admit :=
  let page := lanePage h n
  match jobClass s page src dom with
  | none => .refused stDOMAIN 0
  | some cls =>
    let x := getLane s h n
    let depth := (x.queue.filter fun j => j.cls == cls).length
    let j : Job := { src := src, dom := dom, cls := cls, blk := blk }
    if outOfService s page then .taken (laneEnd s h n j stLANE 0 (blkTok j) 0)
    else if !enabled s page || lmem page s.enOff || bit (rd s (hdr page Off.OWNER)) 31 then .refused stNORES 0
    else if 8 ≤ depth then .refused stBUSY (retryHint (depth + x.susp.length) (if h then 13120 else 2240))
    else .taken (setLane s h n { x with queue := x.queue ++ [j] })

/-- A job arrives at a big-number lane (R271). -/
def bneAdmit (s : State) (n : Nat) (src : JobSrc) (dom : Nat) (blk : Bytes) : Admit :=
  let page := bnePage n
  match jobClass s page src dom with
  | none => .refused stDOMAIN 0
  | some cls =>
    let x := getBne s n
    let depth := (x.queue.filter fun j => j.cls == cls).length
    let j : Job := { src := src, dom := dom, cls := cls, blk := blk }
    if outOfService s page then .taken (bneEnd s n j stLANE 0 0 0)
    else if !enabled s page || lmem page s.enOff || bit (rd s (hdr page Off.OWNER)) 31 then .refused stNORES 0
    else if 8 ≤ depth then
      .refused stBUSY (retryHint depth (max 1000 ((rd s (hdr page 0xAC)).toNat * 5 / 2)))
    else .taken (setBne s n { x with queue := x.queue ++ [j] })

/-- A page submits the job whose block its JOBADDR names (R233, R256, R279): a GO while BUSY is discarded with KIND 4; a block
that is not aligned, or not in the banks, ends at once (R326, R578). -/
def pageGo (s : State) (i : Initiator) (page off size : Nat) (fail : State → Nat → State) (k : State → Bytes → State) : State :=
  guardW s i (hdr page off) fun s =>
    let a := (rd s (hdr page (off - 4))).toNat
    if bit (rd s (hdr page (off + 4))) 31 then noteErr s i page off 4 true
    else if a % 16 ≠ 0 then fail s stBADPROF
    else if !rangeSram a size || !banksUp s a size then fail s stDOMAIN
    else match unitRead s (pageDomain s page) a size with
      | (s, .inl st) => fail s st
      | (s, .inr bs) => k (wr s (hdr page (off + 4)) 0x80000000#32) bs

/-! ### Keys (R187, R212) -/

/-- The jobs of a list end with a status. -/
def endJobs (s : State) (h : Bool) (n : Nat) (js : List Job) (status : Nat) : State :=
  js.foldl (fun s j => laneEnd s h n j status 0 (blkTok j) 0) s

/-- The running job of a lane ends with a status, DONE being the bytes released. -/
def endCur (s : State) (h : Bool) (n status : Nat) : State :=
  let x := getLane s h n
  match x.cur with
  | none => s
  | some r =>
    let s := setLane s h n { x with cur := none }
    let s := { s with lanes := { s.lanes with kuw := s.lanes.kuw.filter fun q => decide (q.1 ≠ (if h then KeyDest.hsh n else KeyDest.aes n)) } }
    laneEnd s h n r.job status r.pos r.token 0

/-- A lane clears its working key, and the job that runs under it ends with ABORTED (R212). -/
def laneClear (s : State) (h : Bool) (n : Nat) : State :=
  let s := endCur s h n stABORT
  setLane s h n { getLane s h n with key := none, clr := false }

/-- The running job of a big-number lane ends with a status (R270, R275). -/
def bneEndCur (s : State) (n status : Nat) : State :=
  let x := getBne s n
  match x.cur with
  | none => s
  | some r =>
    let s := setBne s n { x with cur := none }
    let s := { s with lanes := { s.lanes with kuw := s.lanes.kuw.filter fun q => decide (q.1 ≠ KeyDest.bne n) } }
    bneEnd s n r.job status 0 0 0

/-- Whether a lane's key came from an entry, whatever its generation. -/
def keyFrom (entry : Nat) (k : Option LKey) : Bool :=
  match k with
  | some k => !k.acct && k.handle / 2 ^ 30 == entry / 2 ^ 30 && k.handle % 256 == entry % 256
  | none => false

/-- A sign request of the sequencer ends (R250, R257). -/
def lmsEnd (s : State) (q : LReq) (status len idx : Nat) : State :=
  let s := raise s 0x0F 0
  match q.src with
  | .page =>
    let s := wr (wr s Reg.LMS_JOBSTAT (word status)) Reg.LMS_SIGLEN (word len)
    wr (wr s Reg.LMS_JOBIDX (word idx)) (Reg.LMS_JOBIDX + 4) (word (idx / 2 ^ 32))
  | src => jobReport s src q.dom 32 status (leBytes 2 len ++ [0#8, 0#8] ++ leBytes 8 idx)

/-- The recall of an entry's key (R187): every lane that holds it ends its operation with ABORTED and clears the key; a signature
under it ends with ABORTED and its index is burned (R248). -/
def recallKey (s : State) (entry : Nat) : State :=
  let s := [0, 1, 2, 3].foldl (fun s n => if keyFrom entry (getLane s false n).key then laneClear s false n else s) s
  let s := [0, 1].foldl (fun s n => if keyFrom entry (getLane s true n).key then laneClear s true n else s) s
  let s := [0, 1, 2, 3].foldl (fun s n =>
    if keyFrom entry (getBne s n).key then
      let s := bneEndCur s n stABORT
      setBne s n { getBne s n with key := none }
    else s) s
  let s := match s.lanes.lmsRun with
    | some r => if entry / 2 ^ 30 = 1 && r.slot == entry % 256 then lmsEnd { s with lanes := { s.lanes with lmsRun := none } } r.req stABORT 0 0 else s
    | none => s
  raise s 0x0C 0

/-! ### Service -/

/-- A page goes out of service (R43, R228): STAT.OOS, and causes FAULT and SERVICE. -/
def goOos (s : State) (page : Nat) : State := raise (raise (wrBit s (hdr page Off.STAT) 5 true) page 2) page 3

/-- Every job of a lane ends with a status (R229, R234). -/
def flushLane (s : State) (h : Bool) (n status : Nat) : State :=
  let s := endCur s h n status
  let x := getLane s h n
  let s := setLane s h n { x with queue := [], susp := [] }
  let s := x.susp.foldl (fun s r => laneEnd s h n r.job status r.pos r.token 0) s
  endJobs s h n x.queue status

/-- Every queued job of a big-number lane ends with a status. -/
def flushBne (s : State) (n status : Nat) : State :=
  let x := getBne s n
  x.queue.foldl (fun s j => bneEnd s n j status 0 0 0) (setBne s n { x with queue := [] })

/-- The channels' jobs, wherever they wait, without a completion: a job that a transfer error has ended (R356). -/
def dropJob (s : State) (n tag : Nat) : State :=
  let mine (j : Job) : Bool := match j.src with | .chan c t => c == n && t == tag | _ => false
  let one (s : State) (h : Bool) (k : Nat) : State :=
    let x := getLane s h k
    setLane s h k { x with queue := x.queue.filter fun j => !mine j, susp := x.susp.filter fun r => !mine r.job
                           cur := x.cur.filter fun r => !mine r.job }
  let s := [0, 1, 2, 3].foldl (fun s k => one s false k) s
  let s := [0, 1].foldl (fun s k => one s true k) s
  [0, 1, 2, 3].foldl (fun s k =>
    let x := getBne s k
    setBne s k { x with queue := x.queue.filter fun j => !mine j, cur := x.cur.filter fun r => !mine r.job }) s

end Sys2Proof.Machine
end

