-- ==== Sys2Proof/Machine/Nv.lean ====
section
/-! DEFINITION. The NV store (R458 to R486): flash pages and regions, records and copies, programs and erases, counters,
the daybook, page buffers, the assay port, and the commands of NVC and NVK. -/

namespace Sys2Proof.Machine

open Sys2Proof

/-! ### Regions (R460) -/

/-- The first sector in bank 0 and the sectors in each bank of a region, counted from 1. -/
def nvRegion : Nat → Nat × Nat
  | 1 => (0, 64) | 2 => (64, 32) | 3 => (96, 8) | 4 => (104, 256) | 5 => (360, 96) | 6 => (456, 32) | 7 => (488, 32)
  | 8 => (520, 32) | 9 => (552, 16) | 10 => (568, 16) | 11 => (584, 16) | 12 => (600, 16) | 13 => (616, 2)
  | 14 => (618, 406) | _ => (0, 0)

/-- Whether NVWP_N blocks writes of a region. -/
def nvProtected (r : Nat) : Bool := decide (1 ≤ r) && decide (r ≤ 6)

/-- Whether a region is one ring over both banks. -/
def nvRing (r : Nat) : Bool := r == 12 || r == 14

/-- The region of a sector. -/
def regionOfSector (x : Nat) : Nat :=
  ((List.range 15).find? fun r => decide ((nvRegion r).1 ≤ x % 1024) && decide (x % 1024 < (nvRegion r).1 + (nvRegion r).2)).getD 0

/-- The first page of a region's copy, and its pages. -/
def copyPages (r : Nat) (b : Bool) : Nat × Nat := (((nvRegion r).1 + b2n b * 1024) * 32, (nvRegion r).2 * 32)

/-- The state with the NV store replaced. -/
def setNv (s : State) (x : NvSt) : State := { s with nv := x }

/-- An erased page. -/
def FPage.blank : FPage := { data := List.replicate 256 0xFF#8, tag := List.replicate 16 0xFF#8 }

/-- A flash page. -/
def fpage (s : State) (p : Nat) : FPage := mget FPage.blank s.nv.pages p
/-- The state with a page programmed. -/
def setPage (s : State) (p : Nat) (f : FPage) : State := setNv s { s.nv with pages := mset FPage.blank s.nv.pages p f }

/-- The fields of a tag (R463). -/
def tagRtype (f : FPage) : Nat := leNat (f.tag.take 1)
/-- PFLAGS. -/
def tagFlags (f : FPage) : Nat := leNat ((f.tag.drop 1).take 1)
/-- LID. -/
def tagLid (f : FPage) : Nat := leNat ((f.tag.drop 2).take 2)
/-- SEQ. -/
def tagSeq (f : FPage) : Nat := leNat ((f.tag.drop 4).take 4)
/-- TXN. -/
def tagTxn (f : FPage) : Nat := leNat ((f.tag.drop 8).take 4)
/-- LEN. -/
def tagLen (f : FPage) : Nat := leNat ((f.tag.drop 12).take 2)

/-- A page of a layer with its tag (R463). -/
def mkPage (r flags lid seq txn : Nat) (data : Bytes) : FPage :=
  let t := leBytes 1 r ++ leBytes 1 flags ++ leBytes 2 lid ++ leBytes 4 seq ++ leBytes 4 txn ++ leBytes 2 data.length
  { data := (data ++ List.replicate 256 0xFF#8).take 256, tag := t ++ leBytes 2 (crc16 (data ++ t)) }

/-- Whether a page is valid (R463); a sector whose erase was cut off holds none (R470). -/
def pageValid (s : State) (p : Nat) (f : FPage) : Bool :=
  !lmem p s.nv.bad && !lmem (p / 32) s.nv.cut && crc16 (f.data.take (tagLen f) ++ f.tag.take 14) == leNat (f.tag.drop 14) &&
    (tagTxn f == 0 || lmem (tagTxn f) s.nv.committed)

/-- Whether SEQ `a` is later than `b` (R464). -/
def seqLater (a b : Nat) : Bool :=
  let d := (a + 2 ^ 32 - b) % 2 ^ 32
  decide (1 ≤ d) && decide (d ≤ 2 ^ 31)

/-- The valid pages of a region. -/
def validPages (s : State) (r : Nat) : List (Nat × FPage) :=
  s.nv.pages.filter fun kv => regionOfSector (kv.1 / 32) == r && tagRtype kv.2 == r && pageValid s kv.1 kv.2

/-- The latest page of a list. -/
def latest : List (Nat × FPage) → Option (Nat × FPage)
  | [] => none
  | x :: xs =>
    match latest xs with
    | none => some x
    | some y => if seqLater (tagSeq y.2) (tagSeq x.2) then some y else some x

/-- The newest valid version of a logical page (R464). -/
def newestPage (s : State) (r lid : Nat) : Option (Nat × FPage) := latest ((validPages s r).filter fun kv => tagLid kv.2 == lid)

/-- The pages of the record that a last page ends, from the last to the first (R465). -/
def recordBack (ps : List (Nat × FPage)) : Nat → FPage → Option (List FPage)
  | 0, _ => none
  | n + 1, f =>
    if tagFlags f % 2 = 1 then some [f]
    else match ps.find? fun kv => tagSeq kv.2 == (tagSeq f + 2 ^ 32 - 1) % 2 ^ 32 with
      | some (_, g) => (recordBack ps n g).map (f :: ·)
      | none => none

/-- The valid records of an LID by their last pages, newest first chosen. -/
def nvRecord (s : State) (r lid : Nat) : Option (Nat × Bytes) :=
  let ps := (validPages s r).filter fun kv => tagLid kv.2 == lid
  let ends := ps.filter fun kv => tagFlags kv.2 / 2 % 2 == 1 && (recordBack ps 16 kv.2).isSome
  match latest ends with
  | none => none
  | some (p, f) =>
    if tagFlags f / 4 % 2 = 1 then none
    else some (p, ((recordBack ps 16 f).getD []).reverse.flatMap fun g => g.data.take (tagLen g))

/-- The copy the next version of an LID goes to: the one without the newest valid version (R464, R465). -/
def nextCopy (s : State) (r lid : Nat) : Bool :=
  match newestPage s r lid with
  | some (p, _) => decide (p < 32768)
  | none => false

/-- The first free page of a page range: erased, in a sector in use and not waiting for its erase. -/
def freePage (s : State) (first n : Nat) : Option Nat :=
  ((List.range n).map (first + ·)).find? fun p =>
    decide (fpage s p = FPage.blank) && !lmem p s.nv.bad && !lmem (p / 32) s.nv.retired && !lmem (p / 32) s.nv.cut && !s.nv.erases.any fun e => e.sector == p / 32

/-- The next free page of the seal ring, after its newest page (R460). -/
def ringPage (s : State) (r : Nat) : Option Nat :=
  let (a, n) := copyPages r false
  let (b, _) := copyPages r true
  let pos := match latest (validPages s r) with
    | some (p, _) => (if p < 32768 then p - a else n + (p - b)) + 1
    | none => 0
  let at_ (k : Nat) : Nat := if k % (2 * n) < n then a + k % (2 * n) else b + (k % (2 * n) - n)
  ((List.range (2 * n)).map fun k => at_ (pos + k)).find? fun p =>
    decide (fpage s p = FPage.blank) && !lmem (p / 32) s.nv.retired && !lmem (p / 32) s.nv.cut && !s.nv.erases.any fun e => e.sector == p / 32

/-- Where a page of a region goes next; none where no free page is left. -/
def placeOf (s : State) (r lid : Nat) : Option Nat :=
  if nvRing r then ringPage s r
  else freePage s (copyPages r (nextCopy s r lid)).1 (copyPages r false).2

/-- A page of a region programmed (R463, R464): the region's SEQ advances. -/
def programPage (s : State) (r lid flags txn : Nat) (data : Bytes) (ok : Bool) : State :=
  match placeOf s r lid with
  | none => s
  | some p =>
    let seq := mget 0 s.nv.seqs r
    let s := setPage s p (mkPage r flags lid seq txn data)
    let s := setNv s { s.nv with seqs := mset 0 s.nv.seqs r ((seq + 1) % 2 ^ 32) }
    if ok then s else setNv s { s.nv with bad := linsert p s.nv.bad }

/-- The pages of a record (R465). -/
def recordPages (r lid : Nat) (bs : Bytes) : List NvWrite :=
  let n := (bs.length + 255) / 256
  (List.range n).map fun k =>
    .page r lid (b2n (k == 0) + 2 * b2n (k + 1 == n)) ((bs.drop (256 * k)).take 256)

/-! ### Readiness (R462) -/

/-- Whether a write may start: the reserve is write-ready, or the service window is open; a window that opened before the
reserve was write-ready runs no write (R534). -/
def writeReady (s : State) : Bool := if s.pmu.window then s.pmu.winOk else bit (rd s Reg.PMU_HUSTAT) 31

/-- The remaining charge time in ms (R462, R529): C in 0.1 mF at 400 mA over the missing mV, rounded up. -/
def chargeMs (s : State) : Nat :=
  let c := fld (rd s Reg.PMU_HUCAP) 15 0
  let v := fld (rd s Reg.PMU_HUSTAT) 15 0
  let t := fld (rd s Reg.PMU_HUTHR) 15 0
  min 65535 ((c * (t - v) + 3999) / 4000)

/-- The refusal of a command's write (R462): PROTECTED under NVWP_N, else BUSY_RETRY while not write-ready. -/
def nvGate (s : State) (prot : Bool) : State × Nat :=
  if prot && s.nv.wp then (raise (bumpSat s Reg.NVC_REFUSE 15 8) 0x48 6, stPROT)
  else if !writeReady s then (raise (bumpSat s Reg.NVC_REFUSE 7 0) 0x48 7, stBUSY)
  else (s, stOK)

/-! ### The daybook and the ledger (R468, R479) -/

/-- A 16-byte group put into a page. -/
def putGroup (s : State) (p g : Nat) (bs : Bytes) : State :=
  let f := fpage s p
  setPage s p { f with data := f.data.take (16 * g) ++ bs ++ f.data.drop (16 * g + 16) }

/-- A sector's pages erased, and the erase counted (R469). -/
def wipeSector (s : State) (x : Nat) : State :=
  setNv s { s.nv with pages := s.nv.pages.filter fun kv => kv.1 / 32 != x
                      bad := s.nv.bad.filter fun p => p / 32 != x
                      ecount := mset 0 s.nv.ecount x (mget 0 s.nv.ecount x + 1) }

/-- A 16-byte entry with its CRC. -/
def withCrc (bs : Bytes) : Bytes := bs ++ leBytes 2 (crc16 bs)

/-- The sector of the daybook ring. -/
def dbSector (k : Nat) : Nat := if k % 32 < 16 then 600 + k % 32 else 1624 + (k % 32 - 16)

/-- An entry of the daybook written (R479); the ring's oldest sector is reclaimed when fewer than two are free. -/
def dbEntry (s : State) (kind source info txn : Nat) : State :=
  let d := s.nv.dseq
  let s := if d % 512 = 0 && 15360 ≤ d then wipeSector s (dbSector (d / 512 + 1)) else s
  let e := withCrc (leBytes 1 kind ++ leBytes 1 source ++ leBytes 2 info ++ leBytes 4 txn ++ leBytes 4 d ++ leBytes 2 0)
  let s := putGroup s (dbSector (d / 512) * 32 + d % 512 / 16) (d % 16) e
  setNv s { s.nv with dseq := d + 1 }

/-- Entries free in the daybook, in units of 16 (R485). -/
def dbFree (s : State) : Nat :=
  let used := if s.nv.dseq < 15360 then s.nv.dseq else 15360 + s.nv.dseq % 512
  (16384 - used) / 16

/-- An entry of a bank's erase ledger (R468). -/
def ledgerEntry (s : State) (b : Bool) (kind sector ecount : Nat) : State :=
  let k := mget 0 s.nv.lpos (b2n b)
  let sec := 616 + 1024 * b2n b + k / 512 % 2
  let s := if k % 512 = 0 && 1024 ≤ k then wipeSector s sec else s
  let e := withCrc (leBytes 1 kind ++ leBytes 1 0 ++ leBytes 2 sector ++ leBytes 4 k ++ leBytes 4 ecount ++ leBytes 2 0)
  let s := putGroup s (sec * 32 + k % 512 / 16) (k % 16) e
  setNv s { s.nv with lpos := mset 0 s.nv.lpos (b2n b) (k + 1) }

/-! ### Counters (R472 to R478) -/

/-- A counter that has no record. -/
def Ctr.zero : Ctr := { base := 0, u := 0, uoff := 0, slots := 0 }
/-- A counter. -/
def getCtr (s : State) (k : Nat) : Ctr := mget Ctr.zero s.nv.ctr k
/-- The state with a counter replaced. -/
def setCtr (s : State) (k : Nat) (c : Ctr) : State := setNv s { s.nv with ctr := mset Ctr.zero s.nv.ctr k c }
/-- A counter group. -/
def getGrp (s : State) (j : Nat) : CtrGroup := mget { gseq := 0, halfB := false } s.nv.grp j
/-- The value of a counter (R473). -/
def ctrValue (s : State) (k : Nat) : Nat := (getCtr s k).base + ((getCtr s k).u - (getCtr s k).uoff)
/-- The highest value of a counter (R476). -/
def ctrMax (k : Nat) : Nat := if k < 3 then 2 ^ 32 - 1 else 2 ^ 56 - 1

/-- Cause NEAR once, as a counter comes within 65,535 of its highest value (R476). -/
def ctrNear (s : State) (k old : Nat) : State :=
  if old + 65535 < ctrMax k ∧ ctrMax k ≤ ctrValue s k + 65535 then raise s 0x48 8 else s

/-- A refusal of an increment or set that would pass the highest value (R476). -/
def ctrExhausted (s : State) : State := raise s 0x48 9

/-- A unary bit programmed (R474). -/
def ctrInc (s : State) (k : Nat) : State :=
  let old := ctrValue s k
  ctrNear (setCtr s k { getCtr s k with u := (getCtr s k).u + 1 }) k old

/-- A base record becomes valid (R475). -/
def ctrSet (s : State) (k v : Nat) : State :=
  let old := ctrValue s k
  ctrNear (setCtr s k { getCtr s k with base := v, uoff := (getCtr s k).u }) k old

/-- A set of a counter outside the queue of tasks: its base record is programmed and valid at once. -/
def ctrSetNow (s : State) (k v : Nat) : State :=
  ctrSet (setCtr s k { getCtr s k with slots := (getCtr s k).slots + 1 }) k v

/-- A counter advanced by one outside the queue of tasks (R246, R252): exhausted counters refuse. -/
def ctrAdvance (s : State) (k : Nat) : Option State := if ctrMax k ≤ ctrValue s k then none else some (ctrInc s k)

/-- NVK_INFO of a counter (R486). -/
def nvkInfo (s : State) (k : Nat) : Word :=
  let v := ctrValue s k
  let b := mget 0 s.nv.bound k
  word (b2n (b != 0) * 0x80000000 + b2n (decide (ctrMax k ≤ v + 65535)) * 0x40000000 + b2n (decide (ctrMax k ≤ v)) * 0x20000000 +
    b2n (getGrp s (k / 8)).halfB * 0x10000000 + (getCtr s k).u * 0x10000 + (b - 1))

/-- The end of an NVK command. -/
def nvkEnd (s : State) (k st hint : Nat) : State :=
  let v := ctrValue s k
  let s := wr (wr s Reg.NVK_VAL (word v)) (Reg.NVK_VAL + 4) (word (v / 2 ^ 32))
  wr (wr s Reg.NVK_INFO (nvkInfo s k)) Reg.NVK_CMDSTAT (word (hint * 0x100 + st))

/-- An NVK command of a counter: discarded while BUSY (R486). -/
def nvkCmd (s : State) (i : Initiator) (k : State → State) : State :=
  guardW s i Reg.NVK_CMD fun s =>
    if bit (rd s Reg.NVK_CMDSTAT) 31 then noteErr s i 0x49 0x80 4 true else k s

/-- A task joins the queue. -/
def addTask (s : State) (t : NvTask) : State := setNv s { s.nv with tasks := s.nv.tasks ++ [t] }

/-- A task outside transactions. -/
def plainTask (src : NvSrc) (ws : List NvWrite) : NvTask :=
  { src := src, source := 0, info := 0, txn := 0, todo := ws, sets := [], failed := false }

/-- READ: NVK_CMD with OP 1 (R478, R486). -/
def doNvkRead (i : Initiator) (k : Fin 256) (s : State) : State := nvkCmd s i fun s => nvkEnd s k.val stOK 0

/-- INC: NVK_CMD with OP 2 (R474, R476, R478). -/
def doNvkInc (i : Initiator) (k : Fin 256) (s : State) : State :=
  nvkCmd s i fun s =>
    if k.val < 4 || 16 ≤ k.val then nvkEnd s k.val stPROT 0
    else if ctrMax k.val ≤ ctrValue s k.val then nvkEnd (ctrExhausted s) k.val stEXHAUST 0
    else addTask (wr s Reg.NVK_CMDSTAT 0x80000000#32) (plainTask (.nvk k.val) [.unary k.val])

/-- SET: NVK_CMD with OP 3 (R475, R476, R478). -/
def doNvkSet (i : Initiator) (k : Fin 256) (s : State) : State :=
  nvkCmd s i fun s =>
    let v := rd64 s Reg.NVK_ARG
    if k.val < 4 || 16 ≤ k.val then nvkEnd s k.val stPROT 0
    else if ctrMax k.val < v then nvkEnd (ctrExhausted s) k.val stEXHAUST 0
    else if v ≤ ctrValue s k.val then nvkEnd s k.val stREPLAY 0
    else addTask (wr s Reg.NVK_CMDSTAT 0x80000000#32) (plainTask (.nvk k.val) [.base k.val v])

/-! ### Erases (R469) -/

/-- The bank of a sector. -/
def sectorB (x : Nat) : Bool := decide (1024 ≤ x)

/-- The erase a bank performs: the first of its erases. -/
def erasing (s : State) (b : Bool) : Option EraseJob := s.nv.erases.find? fun e => sectorB e.sector == b

/-- An erase joins its bank's queue; the first of a bank writes its intent at once. -/
def addErase (s : State) (x : Nat) (cmd : Bool) : State :=
  let s := if (erasing s (sectorB x)).isNone then ledgerEntry s (sectorB x) 0x49 x 0 else s
  setNv s { s.nv with erases := s.nv.erases ++ [⟨x, 1, cmd⟩] }

/-- The highest erase count is shown in NVC_WEAR (R485). -/
def showWear (s : State) (x : Nat) : State :=
  let n := mget 0 s.nv.ecount x
  let s := if fld (rd s Reg.NVC_WEAR) 16 0 ≤ n then wr s Reg.NVC_WEAR (word (x * 0x20000 + n % 0x20000)) else s
  if fld (rd s Reg.NVC_WEARTHR) 16 0 = n then raise s 0x48 10 else s

/-- A sector erased at once, with its ledger entries (R468, R469). -/
def eraseNow (s : State) (x : Nat) : State :=
  let s := wipeSector (ledgerEntry s (sectorB x) 0x49 x 0) x
  showWear (ledgerEntry s (sectorB x) 0x43 x (mget 0 s.nv.ecount x)) x

/-- The sectors of a region that hold programmed pages, in both banks. -/
def usedSectors (s : State) (r : Nat) : List Nat :=
  s.nv.pages.foldl (fun l kv => if regionOfSector (kv.1 / 32) == r then linsert (kv.1 / 32) l else l) []

/-- Both copies of a region erased. -/
def eraseRegion (s : State) (r : Nat) : State := (usedSectors s r).foldl eraseNow s

/-- The end of an NVC command. -/
def nvcEnd (s : State) (st : Nat) : State :=
  wr s Reg.NVC_CMDSTAT (word ((if st = stBUSY then chargeMs s else 0) * 0x100 + st))

/-- Whether an NVC command still has programs or erases to do in a bank, or at all. -/
def nvcWork (s : State) : Bool := (s.nv.erases.any fun e => e.cmd) || s.nv.tasks.any fun t => decide (t.src = .nvc)

/-- An operation of an NVC command ends in a bank: READY once the command has no more, and the command completes once it has
none at all (R461, R484). -/
def nvcOpEnd (s : State) (b : Bool) : State :=
  if nvcWork s then s else nvcEnd (raise s 0x48 (b2n b)) stOK

/-- The first erase of a bank leaves the queue, and the next one writes its intent. -/
def dropErase (s : State) (b : Bool) : State :=
  match takeFirst (fun e : EraseJob => sectorB e.sector == b) s.nv.erases with
  | none => s
  | some (_, rest) =>
    let s := setNv s { s.nv with erases := rest }
    match erasing s b with
    | some e => ledgerEntry s b 0x49 e.sector 0
    | none => s

/-- NV_ERASE_DONE: a sector erase ends and is margin-checked (R469). -/
def doNvEraseDone (bankB : Bool) (pass : Bool) (s : State) : State :=
  match erasing s bankB with
  | none => s
  | some e =>
    if pass then
      let s := dropErase (wipeSector s e.sector) bankB
      let s := showWear (ledgerEntry s bankB 0x43 e.sector (mget 0 s.nv.ecount e.sector)) e.sector
      if e.cmd then nvcOpEnd s bankB else s
    else if e.n < 3 then
      setNv s { s.nv with erases := s.nv.erases.map fun f => if f = e then { f with n := f.n + 1 } else f }
    else
      let s := ledgerEntry (dropErase s bankB) bankB 0x52 e.sector 0
      let s := setNv s { s.nv with retired := linsert e.sector s.nv.retired }
      let s := raise (wr s Reg.NVC_RETIRED (word s.nv.retired.length)) 0x48 10
      if e.cmd then nvcOpEnd s bankB else s

/-! ### Programs (R461, R480) -/

/-- The bank a program goes to; none where it has no free page yet or must wait for a half switch. -/
def writeBank (s : State) : NvWrite → Option Bool
  | .page r lid _ _ => (placeOf s r lid).map fun p => decide (32768 ≤ p)
  | .image p _ => some (decide (32768 ≤ p))
  | .unary k => if (getCtr s k).u < 2048 then some (getGrp s (k / 8)).halfB else none
  | .base k _ => if (getCtr s k).slots < 16 then some (getGrp s (k / 8)).halfB else none
  | .held _ b => some b

/-- The place of a task in the order of the service window (R532). -/
def windowItem (t : NvTask) : Nat :=
  match t.src with
  | .txn _ _ => 1
  | .assay => 2
  | .pb => 4
  | _ => 5

/-- Whether a task's programs may run: a transaction's once it has begun. -/
def taskRuns (s : State) (t : NvTask) : Bool := writeReady s && !t.failed && (t.source == 0 || t.txn != 0)

/-- The first program of a list that goes to a bank, taken out. -/
def takeWrite (s : State) (b : Bool) (ws : List NvWrite) : Option (NvWrite × List NvWrite) :=
  takeFirst (fun w => decide (writeBank s w = some b)) ws

/-- Whether a task has a program for a bank now. -/
def taskWants (s : State) (b : Bool) (t : NvTask) : Bool := taskRuns s t && (takeWrite s b t.todo).isSome

/-- Whether the checkpoint writer may still write: in a service window that found more than DIRTY_MAX pages dirty, DIRTY_MAX in all
(R104). -/
def ckptMay (s : State) : Bool := !s.pmu.window || s.pmu.whole || s.pmu.ckpts != 0

/-- Whether a checkpoint page has yet to be programmed in a bank. -/
def ckptIn (s : State) (b : Bool) : Bool :=
  let goes k := decide ((placeOf s 7 k).map (fun p => decide (32768 ≤ p)) = some b)
  (match s.intake.ckpt with | some j => goes j.page | none => false) || (ckptMay s && s.intake.dirty.any fun d => goes d.1)

/-- The task whose program a bank performs: in arrival order, or in the window's order, in which the checkpoints come third (R461,
R532). -/
def bankTask (s : State) (b : Bool) : Option NvTask :=
  if s.pmu.window then
    ((if ckptIn s b then [1, 2] else [1, 2, 3, 4, 5]).flatMap fun n => s.nv.tasks.filter fun t => windowItem t == n).find? (taskWants s b)
  else s.nv.tasks.find? (taskWants s b)

/-- Whether a bank programs or erases (R461). -/
def bankBusy (s : State) (b : Bool) : Bool := (erasing s b).isSome || (bankTask s b).isSome

/-- A program takes effect. -/
def applyWrite (s : State) (t : NvTask) (ok : Bool) : NvWrite → State
  | .page r lid flags d =>
    let s := programPage s r lid flags t.txn d ok
    if r = 11 && ok then setNv s { s.nv with bufs := s.nv.bufs.filter fun b => b.1 != lid } else s
  | .image p f => let s := setPage s p f; if ok then s else setNv s { s.nv with bad := linsert p s.nv.bad }
  | .unary k => if ok then ctrInc s k else s
  | .base k v =>
    let s := setCtr s k { getCtr s k with slots := (getCtr s k).slots + 1 }
    if ok && t.txn = 0 then ctrSet s k v else s
  | .held _ _ => s

/-- The assay port's status word and its length field (R483). -/
def assayEnd (s : State) (st : Nat) (len : Option Nat) : State :=
  let put (d : Sparse Byte) (a : Nat) (bs : Bytes) : Sparse Byte := putBytes (fun _ => true) d a bs
  let ctl := leNat ((List.range 4).map fun k => mget 0#8 s.mem.dram (0x3F000 + k))
  let d := match len with
    | some n => put s.mem.dram 0x3F000 (leBytes 4 (ctl / 4096 * 4096 + n))
    | none => s.mem.dram
  { s with mem := { s.mem with dram := put d 0x3F004 (leBytes 4 st) }, nv := { s.nv with assayBusy := false } }

/-- A task outside transactions ends. -/
def taskEnd (s : State) (t : NvTask) (b : Bool) : State :=
  match t.src with
  | .nvc => if t.failed then nvcEnd s stLANE else nvcOpEnd s b
  | .nvk k => nvkEnd s k (if t.failed then stLANE else stOK) 0
  | .assay => assayEnd s (if t.failed then stLANE else stOK) none
  | _ => s

/-- The tasks with one replaced by what is left of it. -/
def replaceTask (t t' : NvTask) : List NvTask → List NvTask
  | [] => []
  | x :: xs => if x = t then t' :: xs else x :: replaceTask t t' xs

/-- The NVC read that waits is served. -/
def nvSectorBad (s : State) (a n : Nat) : Bool :=
  s.nv.bad.any fun p => decide (p * 256 < a + n) && decide (a < (p + 1) * 256)

/-- The data bytes of the flash from an address on. -/
def flashBytes (s : State) (a n : Nat) : Bytes :=
  (List.range n).map fun k => (fpage s ((a + k) / 256)).data.getD ((a + k) % 256) 0xFF#8

/-- A flash error is recorded (R459). -/
def noteFlash (s : State) (group : Nat) (uncorr : Bool) : State :=
  let s := if uncorr then bumpSat s Reg.NVC_ECC 31 16 else bumpSat s Reg.NVC_ECC 15 0
  raise (wr s Reg.NVC_ECCADDR (word (b2n uncorr * 0x80000000 + group * 16))) 0x48 (if uncorr then 3 else 2)

/-- A READ copies the data bytes to SRAM (R484), or ends with LANE_FAULT on an uncorrectable page (R459). -/
def nvcReadNow (s : State) (i : Initiator) : State :=
  let a := (rd s Reg.NVC_ARG).toNat
  let n := (rd s (Reg.NVC_ARG + 4)).toNat
  let s := setNv s { s.nv with readWait := none }
  if nvSectorBad s a n then nvcEnd (noteFlash s (a / 16) true) stLANE
  else nvcEnd (bankWrite s i (rd s Reg.NVC_BUF).toNat (flashBytes s a n)) stOK

/-- The banks a READ touches. -/
def readTouches (s : State) (b : Bool) : Bool :=
  let a := (rd s Reg.NVC_ARG).toNat
  let n := (rd s (Reg.NVC_ARG + 4)).toNat
  if b then decide (0x800000 < a + n) else decide (a < 0x800000)

/-- A waiting READ is served once no bank it touches is busy, or its erase is suspended. -/
def serveRead (s : State) (suspended : Bool) : State :=
  match s.nv.readWait with
  | none => s
  | some i =>
    if [false, true].any fun b => readTouches s b &&
        ((bankTask s b).isSome && (erasing s b).isNone || (erasing s b).isSome && !suspended) then s
    else nvcReadNow s i

/-- NV_PROGRAM_DONE: a bank's program ends, verified or failed (R461, R474, R480). -/
def doNvProgramDone (bankB : Bool) (ok : Bool) (s : State) : State :=
  if (erasing s bankB).isSome then s
  else match bankTask s bankB with
    | none => s
    | some t =>
      match takeWrite s bankB t.todo with
      | none => s
      | some (w, rest) =>
        let sets := match w with | .base k v => t.sets ++ [(k, v)] | _ => t.sets
        let s := if s.pmu.window then bumpSat s Reg.PMU_WINSTAT 23 16 else s
        let s := applyWrite s t ok w
        let t' := { t with todo := if ok then rest else [], sets := sets, failed := !ok }
        let s :=
          if t'.todo.isEmpty && t.source = 0 then
            taskEnd (setNv s { s.nv with tasks := s.nv.tasks.filter fun x => decide (x ≠ t) }) t' bankB
          else setNv s { s.nv with tasks := replaceTask t t' s.nv.tasks }
        serveRead s false

/-- ERASE_SUSPEND: a read suspends an erase, is served, and the erase resumes (R461). -/
def doEraseSuspend (bankB : Bool) (s : State) : State :=
  if (erasing s bankB).isSome && readTouches s bankB then serveRead s true else s

/-! ### Transactions (R480, R481) -/

/-- A transaction joins the queue: NO_RESOURCE where it needs more than 14 programs, BUSY_RETRY in the service window. -/
def txnSubmit (s : State) (source ref info : Nat) (ws : List NvWrite) : State × Nat :=
  if 14 < ws.length then (s, stNORES)
  else if s.pmu.window then (s, stBUSY)
  else (addTask s { src := .txn source ref, source := source, info := info, txn := 0, todo := ws, sets := [], failed := false }, stOK)

/-- The open transaction. -/
def openTxn (s : State) : Option NvTask := s.nv.tasks.find? fun t => t.txn != 0

/-- DAYBOOK_BEGIN: the next transaction writes BEGIN once none is open (R480, R481). -/
def doDaybookBegin (s : State) : State :=
  if (openTxn s).isSome || s.pmu.window || !writeReady s then s
  else match s.nv.tasks.find? fun t => t.source != 0 with
    | none => s
    | some t =>
      let n := s.nv.txn
      let s := dbEntry s 1 t.source (if t.source = 2 then t.info else t.todo.length) n
      setNv s { s.nv with txn := n + 1, tasks := replaceTask t { t with txn := n } s.nv.tasks }

/-- DAYBOOK_COMMIT: the programs of the open transaction are verified and COMMIT is written, or ROLLBACK where one failed
(R480). The requester's own step then completes it. -/
def doDaybookCommit (s : State) : State :=
  match openTxn s with
  | none => s
  | some t =>
    if !t.todo.isEmpty then s
    else
      let s := setNv s { s.nv with tasks := s.nv.tasks.filter fun x => decide (x ≠ t) }
      let info := if t.source = 2 then t.info else 0
      if t.failed then
        let s := dbEntry s 3 t.source info t.txn
        setNv s { s.nv with done := s.nv.done ++ [(t.src, stLANE)] }
      else
        let s := dbEntry s 2 t.source info t.txn
        let s := setNv s { s.nv with committed := linsert t.txn s.nv.committed, done := s.nv.done ++ [(t.src, stOK)] }
        t.sets.foldl (fun s kv => ctrSet s kv.1 kv.2) s

/-- The status of a finished transaction, and the state with it taken. -/
def takeDone (s : State) (src : NvSrc) : Option (Nat × State) :=
  match takeFirst (fun x : NvSrc × Nat => decide (x.1 = src)) s.nv.done with
  | some (x, rest) => some (x.2, setNv s { s.nv with done := rest })
  | none => none

/-- At the opening of the service window, transactions that have not begun end with BUSY_RETRY (R481). -/
def nvWindow (s : State) : State :=
  let out := s.nv.tasks.filter fun t => t.source != 0 && t.txn == 0
  let bufs := s.nv.bufs.map fun b => NvWrite.page 11 b.1 3 b.2
  let s := setNv s { s.nv with tasks := s.nv.tasks.filter fun t => !(t.source != 0 && t.txn == 0)
                               done := s.nv.done ++ out.map fun t => (t.src, stBUSY) }
  if bufs.isEmpty then s else addTask s (plainTask .pb bufs)

/-- Whether a group has a counter that must switch halves before its waiting increment or set (R477). -/
def groupWaits (s : State) (j : Nat) : Bool :=
  s.nv.tasks.any fun t => t.todo.any fun w =>
    match w with
    | .unary k => k / 8 == j && (getCtr s k).u == 2048
    | .base k _ => k / 8 == j && (getCtr s k).slots == 16
    | _ => false

/-- The halves of a group switch: each counter has one record of its value in the new half (R477). -/
def switchHalf (s : State) (j : Nat) : State :=
  let g := getGrp s j
  let s := (List.range 8).foldl (fun s k => setCtr s (8 * j + k) { base := ctrValue s (8 * j + k), u := 0, uoff := 0, slots := 1 }) s
  let s := wipeSector s (520 + 1024 * b2n (!g.halfB) + j)
  setNv s { s.nv with grp := mset { gseq := 0, halfB := false } s.nv.grp j { gseq := (g.gseq + 1) % 256, halfB := !g.halfB } }

/-- COUNTER_HALF_SWITCH (R477). -/
def doCounterHalfSwitch (j : Fin 32) (s : State) : State :=
  let inTxn := match openTxn s with | some t => t.sets.any fun kv => kv.1 / 8 == j.val | none => false
  if groupWaits s j.val && !inTxn && writeReady s then switchHalf s j.val else s

/-! ### NVC commands (R484) -/

/-- An NVC command: discarded while BUSY (R485). -/
def nvcCmd (s : State) (i : Initiator) (k : State → State) : State :=
  guardW s i Reg.NVC_CMD fun s =>
    if bit (rd s Reg.NVC_CMDSTAT) 31 then noteErr s i 0x48 0x80 4 true else k s

/-- The command's own writes start, and the command is busy. -/
def nvcBusy (s : State) : State := wr s Reg.NVC_CMDSTAT 0x80000000#32

/-- A command that writes: refused under R462 or started. -/
def nvcWrites (s : State) (r : Nat) (ws : List NvWrite) : State :=
  match nvGate s (nvProtected r) with
  | (s, 0) => if ws.isEmpty then nvcEnd s stOK else addTask (nvcBusy s) (plainTask .nvc ws)
  | (s, st) => nvcEnd s st

/-- Whether a READ touches a region it may not read (R484). -/
def readForbidden (a n : Nat) : Bool :=
  (List.range ((a + n - 1) / 8192 - a / 8192 + 1)).any fun k =>
    match regionOfSector (a / 8192 + k) with
    | 5 => true | 6 => true | 8 => true | _ => false

/-- ARG0 and ARG1. -/
def nvcArg (s : State) (k : Nat) : Nat := (rd s (Reg.NVC_ARG + 4 * k)).toNat
/-- BUF. -/
def nvcBuf (s : State) : Nat := (rd s Reg.NVC_BUF).toNat

/-- NVC_READ (R459, R461, R484); `e` is what the flash finds in the first group read. -/
def doNvcRead (i : Initiator) (e : EccFind) (s : State) : State :=
  nvcCmd s i fun s =>
    let a := nvcArg s 0
    let n := nvcArg s 1
    if n = 0 || 65536 < n || 0x1000000 < a + n then nvcEnd s stNORES
    else if !rangeSram (nvcBuf s) n then nvcEnd s stDOMAIN
    else if readForbidden a n then nvcEnd s stPROT
    else
      let s := match e with
        | .clean => s
        | .corrected => noteFlash s (a / 16) false
        | .uncorrectable => setNv s { s.nv with bad := linsert (a / 256) s.nv.bad }
      serveRead (setNv (nvcBusy s) { s.nv with readWait := some i }) false

/-- The copy of a partition that was not selected at the last start (R484). -/
def inactiveB (s : State) (p : Nat) : Bool := !bit (rd s Reg.SYS_IMGSEL) p

/-- Every sector of the inactive copy is erased (R484). -/
def imgErase (s : State) (p : Nat) : State :=
  match nvGate s true with
  | (s, 0) =>
    let (first, n) := nvRegion (p + 1)
    let b := b2n (inactiveB s p)
    (List.range n).foldl (fun s k => addErase s (first + 1024 * b + k) true) (nvcBusy s)
  | (s, st) => nvcEnd s st

/-- IMG_ERASE (R484). -/
def doImgErase (i : Initiator) (s : State) : State :=
  nvcCmd s i fun s => if 4 ≤ nvcArg s 0 then nvcEnd s stNORES else imgErase s (nvcArg s 0)

/-- The pages of an image write, from page index `k` of a partition on; none where one is not free or lies beyond. -/
def imgPages (s : State) (p k : Nat) (bs : Bytes) : Option (List NvWrite) :=
  let (first, n) := copyPages (p + 1) (inactiveB s p)
  let m := bs.length / 256
  if n < k + m || (List.range m).any fun j => decide (fpage s (first + k + j) ≠ FPage.blank) then none
  else some ((List.range m).map fun j =>
    .image (first + k + j) (mkPage (p + 1) 0 (k + j) (mget 0 s.nv.seqs (p + 1) + j) 0 ((bs.drop (256 * j)).take 256)))

/-- IMG_WRITE (R484). -/
def doImgWrite (i : Initiator) (s : State) : State :=
  nvcCmd s i fun s =>
    let a0 := nvcArg s 0
    let n := nvcArg s 1
    if n = 0 || n % 256 ≠ 0 || 4096 < n then nvcEnd s stNORES
    else if !rangeSram (nvcBuf s) n then nvcEnd s stDOMAIN
    else if poisoned s (nvcBuf s) n then nvcEnd (noteEcc s i false (nvcBuf s) true) stLANE
    else match imgPages s (a0 / 2 ^ 30) (a0 % 65536) (sramRead s (nvcBuf s) n) with
      | none => nvcEnd s stNORES
      | some ws =>
        let r := a0 / 2 ^ 30 + 1
        nvcWrites (setNv s { s.nv with seqs := mset 0 s.nv.seqs r (mget 0 s.nv.seqs r + n / 256) }) r ws

/-- The trailer page of a copy of a partition: its last page. -/
def trailerPage (p : Nat) (b : Bool) : Nat := (copyPages (p + 1) b).1 + (copyPages (p + 1) b).2 - 1

/-- The trailer of a copy, where it is valid: its SEQ and the image length. -/
def trailer (s : State) (p : Nat) (b : Bool) : Option (Nat × Nat) :=
  let f := fpage s (trailerPage p b)
  if tagRtype f == p + 1 && pageValid s (trailerPage p b) f then some (tagSeq f, leNat (f.data.take 4)) else none

/-- The trailer program of a partition's inactive copy, with SEQ one above the active copy (R484). -/
def imgClose (s : State) (p len : Nat) : Option (List NvWrite) :=
  let b := inactiveB s p
  let q := trailerPage p b
  let seq := match trailer s p (!b) with | some (x, _) => (x + 1) % 2 ^ 32 | none => 1
  if fpage s q ≠ FPage.blank then none
  else some [.image q (mkPage (p + 1) 2 (((copyPages (p + 1) b).2 - 1) % 65536) seq 0 (leBytes 4 len))]

/-- IMG_CLOSE (R484). -/
def doImgClose (i : Initiator) (s : State) : State :=
  nvcCmd s i fun s =>
    if 4 ≤ nvcArg s 0 then nvcEnd s stNORES
    else match imgClose s (nvcArg s 0) (nvcArg s 1) with
      | none => nvcEnd s stNORES
      | some ws => nvcWrites s (nvcArg s 0 + 1) ws

/-- A logical page of the supervisor data region as PB_READ returns it (R467). -/
def pbPage (s : State) (lid : Nat) : Bytes :=
  match s.nv.bufs.find? fun b => b.1 == lid with
  | some b => b.2
  | none => match newestPage s 11 lid with
    | some (_, f) => f.data
    | none => zeros 256

/-- PB_READ (R467). -/
def doPbRead (i : Initiator) (s : State) : State :=
  nvcCmd s i fun s =>
    if 128 ≤ nvcArg s 0 then nvcEnd s stNORES
    else if !rangeSram (nvcBuf s) 256 then nvcEnd s stDOMAIN
    else nvcEnd (bankWrite s i (nvcBuf s) (pbPage s (nvcArg s 0))) stOK

/-- PB_WRITE (R467): a ninth buffer first programs the least recently written one. -/
def doPbWrite (i : Initiator) (s : State) : State :=
  nvcCmd s i fun s =>
    let lid := nvcArg s 0 % 65536
    let off := nvcArg s 0 / 65536
    let n := nvcArg s 1
    if 128 ≤ lid || n = 0 || 256 < off + n then nvcEnd s stNORES
    else if !rangeSram (nvcBuf s) n then nvcEnd s stDOMAIN
    else if poisoned s (nvcBuf s) n then nvcEnd (noteEcc s i false (nvcBuf s) true) stLANE
    else
      let old := pbPage s lid
      let new := old.take off ++ sramRead s (nvcBuf s) n ++ old.drop (off + n)
      let others := s.nv.bufs.filter fun b => b.1 != lid
      let put (s : State) : State := setNv s { s.nv with bufs := others ++ [(lid, new)] }
      if others.length < 8 then nvcEnd (put s) stOK
      else match others.head?, nvGate s false with
        | some b, (s, 0) => addTask (nvcBusy (put s)) (plainTask .nvc [.page 11 b.1 3 b.2])
        | _, (s, st) => nvcEnd s st

/-- PB_FLUSH (R467). -/
def doPbFlush (i : Initiator) (s : State) : State :=
  nvcCmd s i fun s => nvcWrites s 11 (s.nv.bufs.map fun b => .page 11 b.1 3 b.2)

/-- A scrub pass starts (R471). -/
def scrubStart (s : State) : State := wr s Reg.NVC_SCRUBSTAT 0x80000000#32

/-- SCRUB (R484). -/
def doScrub (i : Initiator) (s : State) : State := nvcCmd s i fun s => nvcEnd (scrubStart s) stOK

/-- What a scrub pass does at a page it finds weak or lost (R459, R471). -/
def scrubFind (s : State) (f : FlashFind) : State :=
  match f with
  | .lost p => setNv (noteFlash s (p * 16) true) { s.nv with bad := linsert p s.nv.bad }
  | .weak p =>
    let s := noteFlash s (p * 16) false
    let x := fpage s p
    let r := regionOfSector (p / 32)
    if r ≤ 4 then raise s 0x48 11
    else if pageValid s p x && tagRtype x == r then programPage s r (tagLid x) (tagFlags x) (tagTxn x) (x.data.take (tagLen x)) true
    else s

/-- SCRUB_PERIOD: the scrub period expires and a pass starts (R471); `finds` is what the pass will find. -/
def doScrubPeriod (finds : List FlashFind) (s : State) : State :=
  if !bit (rd s Reg.NVC_SCRUB) 31 then s else finds.foldl scrubFind (scrubStart s)

/-- A record or page that is still newest (R466). -/
def stillNewest (s : State) (r : Nat) (kv : Nat × FPage) : Bool :=
  match newestPage s r (tagLid kv.2) with
  | some (_, f) => decide (tagSeq kv.2 ≤ tagSeq f) && decide (tagSeq f < tagSeq kv.2 + 16)
  | none => false

/-- The page with the oldest SEQ. -/
def oldestPage (ps : List (Nat × FPage)) : Option (Nat × FPage) :=
  ps.foldl (fun a kv => match a with
    | none => some kv
    | some b => if seqLater (tagSeq b.2) (tagSeq kv.2) then some kv else some b) none

/-- The valid newest pages of a sector copied to free pages of their region's copy, with new sequence numbers (R466). -/
def reclaimCopies (s : State) (r first n : Nat) (there : List (Nat × FPage)) : State :=
  (there.filter fun kv => pageValid s kv.1 kv.2 && stillNewest s r kv).foldl
    (fun s kv => match freePage s first n with
      | some q =>
        let seq := mget 0 s.nv.seqs r
        let s := setPage s q (mkPage r (tagFlags kv.2) (tagLid kv.2) seq (tagTxn kv.2) (kv.2.data.take (tagLen kv.2)))
        setNv s { s.nv with seqs := mset 0 s.nv.seqs r ((seq + 1) % 2 ^ 32) }
      | none => s) s

/-- The pages of a region's copy that hold one of its records. -/
def regionPages (s : State) (r : Nat) (copyB : Bool) : List (Nat × FPage) :=
  s.nv.pages.filter fun kv => decide ((copyPages r copyB).1 ≤ kv.1) && decide (kv.1 < (copyPages r copyB).1 + (copyPages r copyB).2)

/-- Whether a sector's reclaim must wait: a page of the open transaction lies in it, or it is being erased. -/
def reclaimWaits (s : State) (sec : Nat) (there : List (Nat × FPage)) : Bool :=
  let opn := match openTxn s with | some t => t.txn | none => 0
  (there.any fun kv => opn != 0 && tagTxn kv.2 == opn) || s.nv.erases.any fun e => e.sector == sec

/-- SECTOR_RECLAIM: the oldest sector of a region's copy is copied and erased where its pages run short (R466); the oldest
seal sector is erased without copying (R460). -/
def doSectorReclaim (r : Nat) (copyB : Bool) (s : State) : State :=
  let (first, n) := copyPages r copyB
  let used := regionPages s r copyB
  let mine := used.filter fun kv => tagRtype kv.2 == r
  if !(r == 6 || r == 7 || r == 9 || r == 10 || r == 11 || r == 14) || decide (used.length + 32 ≤ n) || !writeReady s then s
  else match oldestPage mine with
    | none => s
    | some (p, _) =>
      let there := mine.filter fun kv => kv.1 / 32 == p / 32
      if reclaimWaits s (p / 32) there then s
      else addErase (if r = 14 then s else reclaimCopies s r first n there) (p / 32) false

/-! ### The assay port (R483) -/

/-- The control word of the assay port. -/
def assayCtl (s : State) : Nat := leNat ((List.range 4).map fun k => mget 0#8 s.mem.dram (0x3F000 + k))

/-- The NV controller takes a command: GO clears and BUSY sets. -/
def assayTake (s : State) : State :=
  let d := putBytes (fun _ => true) s.mem.dram 0x3F000 (leBytes 4 (assayCtl s % 2 ^ 31))
  { s with mem := { s.mem with dram := putBytes (fun _ => true) d 0x3F004 (leBytes 4 0x80000000) }, nv := { s.nv with assayBusy := true } }

/-- The assay port has a command to take, of a given direction. -/
def assayGo (s : State) (read : Bool) : Bool :=
  let c := assayCtl s
  decide (2 ^ 31 ≤ c) && (c / 2 ^ 30 % 2 == b2n read) && !s.nv.assayBusy

/-- ASSAY_PORT_WRITE (R483). -/
def doAssayPortWrite (s : State) : State :=
  if !assayGo s false then s
  else
    let c := assayCtl s
    let n := c % 4096
    let s := assayTake s
    if n = 0 || 3840 < n then assayEnd s stNORES none
    else
      let bs := (List.range n).map fun k => mget 0#8 s.mem.dram (0x3F100 + k)
      addTask s (plainTask .assay (recordPages 9 (c / 65536 % 256) bs))

/-- ASSAY_PORT_READ (R483). -/
def doAssayPortRead (s : State) : State :=
  if !assayGo s true then s
  else
    let lid := assayCtl s / 65536 % 256
    let s := assayTake s
    match nvRecord s 9 lid with
    | some (_, bs) =>
      let s := { s with mem := { s.mem with dram := putBytes (fun _ => true) s.mem.dram 0x3F100 bs } }
      assayEnd s stOK (some bs.length)
    | none =>
      let lost := s.nv.pages.any fun kv =>
        regionOfSector (kv.1 / 32) == 9 && tagLid kv.2 == lid && lmem kv.1 s.nv.bad
      assayEnd s (if lost then stLANE else stNOTOWN) none

/-! ### The commands -/

/-- NVK_READ (R486). -/
def execNvkRead (i : Initiator) (k : Fin 256) (s : State) : Host.Outcome State Fault Refusal := finish s (doNvkRead i k s)

/-- INC (R474). -/
def execNvkInc (i : Initiator) (k : Fin 256) (s : State) : Host.Outcome State Fault Refusal := finish s (doNvkInc i k s)

/-- SET (R475). -/
def execNvkSet (i : Initiator) (k : Fin 256) (s : State) : Host.Outcome State Fault Refusal := finish s (doNvkSet i k s)

/-- NV_ERASE_DONE (R469). -/
def execNvEraseDone (bankB : Bool) (pass : Bool) (s : State) : Host.Outcome State Fault Refusal := finish s (doNvEraseDone bankB pass s)

/-- NV_PROGRAM_DONE (R461). -/
def execNvProgramDone (bankB : Bool) (ok : Bool) (s : State) : Host.Outcome State Fault Refusal := finish s (doNvProgramDone bankB ok s)

/-- ERASE_SUSPEND (R461). -/
def execEraseSuspend (bankB : Bool) (s : State) : Host.Outcome State Fault Refusal := finish s (doEraseSuspend bankB s)

/-- DAYBOOK_BEGIN (R480). -/
def execDaybookBegin (s : State) : Host.Outcome State Fault Refusal := finish s (doDaybookBegin s)

/-- DAYBOOK_COMMIT (R480). -/
def execDaybookCommit (s : State) : Host.Outcome State Fault Refusal := finish s (doDaybookCommit s)

/-- COUNTER_HALF_SWITCH (R477). -/
def execCounterHalfSwitch (j : Fin 32) (s : State) : Host.Outcome State Fault Refusal := finish s (doCounterHalfSwitch j s)

/-- NVC_READ (R484). -/
def execNvcRead (i : Initiator) (e : EccFind) (s : State) : Host.Outcome State Fault Refusal := finish s (doNvcRead i e s)

/-- IMG_ERASE (R484). -/
def execImgErase (i : Initiator) (s : State) : Host.Outcome State Fault Refusal := finish s (doImgErase i s)

/-- IMG_WRITE (R484). -/
def execImgWrite (i : Initiator) (s : State) : Host.Outcome State Fault Refusal := finish s (doImgWrite i s)

/-- IMG_CLOSE (R484). -/
def execImgClose (i : Initiator) (s : State) : Host.Outcome State Fault Refusal := finish s (doImgClose i s)

/-- PB_READ (R467). -/
def execPbRead (i : Initiator) (s : State) : Host.Outcome State Fault Refusal := finish s (doPbRead i s)

/-- PB_WRITE (R467). -/
def execPbWrite (i : Initiator) (s : State) : Host.Outcome State Fault Refusal := finish s (doPbWrite i s)

/-- PB_FLUSH (R467). -/
def execPbFlush (i : Initiator) (s : State) : Host.Outcome State Fault Refusal := finish s (doPbFlush i s)

/-- SCRUB (R484). -/
def execScrub (i : Initiator) (s : State) : Host.Outcome State Fault Refusal := finish s (doScrub i s)

/-- SCRUB_PERIOD (R471). -/
def execScrubPeriod (finds : List FlashFind) (s : State) : Host.Outcome State Fault Refusal := finish s (doScrubPeriod finds s)

/-- SECTOR_RECLAIM (R466). -/
def execSectorReclaim (r : Nat) (copyB : Bool) (s : State) : Host.Outcome State Fault Refusal := finish s (doSectorReclaim r copyB s)

/-- ASSAY_PORT_WRITE (R483). -/
def execAssayPortWrite (s : State) : Host.Outcome State Fault Refusal := finish s (doAssayPortWrite s)

/-- ASSAY_PORT_READ (R483). -/
def execAssayPortRead (s : State) : Host.Outcome State Fault Refusal := finish s (doAssayPortRead s)

end Sys2Proof.Machine
end

