-- ==== Sys2Proof/Machine/Accounts.lean ====
section
/-! DEFINITION. The account records and key entries (R83, R84), who holds an account (R99, R100), dirty
pages (R102), chains (R76, R80), records and the ledger (R94 to R97), and the account commands (R101). -/

namespace Sys2Proof.Machine

open Sys2Proof

/-- The address of an account's record. -/
def acctAddr (a : Nat) : Nat := 0x10780000 + 256 * a
/-- The address of an account's key entries. -/
def keyAddr (a : Nat) : Nat := 0x107C0000 + 96 * a
/-- A field of an account's record. -/
def acctFld (s : State) (a off n : Nat) : Nat := leNat (sramRead s (acctAddr a + off) n)
/-- A field of an account's record written by the gate. -/
def acctPut (s : State) (a off : Nat) (bs : Bytes) : State := bankWrite s .intake (acctAddr a + off) bs
/-- A bit of FLAGS: 0 VALID, 1 EN, 2 CUR_SEL, 3 PEND, 4 SUSPECT, 5 GAP, 6 SEQ_INIT, 7 RESTORE_FAULT. -/
def acctFlag (s : State) (a k : Nat) : Bool := acctFld s a 9 1 / 2 ^ k % 2 == 1
/-- A number with one bit at a value. -/
def putBit (n k : Nat) (b : Bool) : Nat := n - n / 2 ^ k % 2 * 2 ^ k + b2n b * 2 ^ k
/-- FLAGS with bits set or cleared. -/
def acctSetFlags (s : State) (a : Nat) (bs : List (Nat × Bool)) : State :=
  acctPut s a 9 [byte (bs.foldl (fun n kb => putBit n kb.1 kb.2) (acctFld s a 9 1))]

/-- The intake replaced. -/
def setIntake (s : State) (x : Intake) : State := { s with intake := x }

/-- Whether a frame holds an account (R99): from the gate to its commit. -/
def frameHolds (s : State) (a : Nat) : Bool := s.intake.frames.any fun f => decide (f.stage ≠ .waitGate) && f.acct == a

/-- Whether an order holds an account: a frame, or the vault. -/
def acctHeld (s : State) (a : Nat) : Bool := frameHolds s a || decide (s.vlt.hold = some a)

/-! ### Addresses and chains (R76, R80) -/

/-- The METER_ADDR of an account. -/
def acctAddrOf (s : State) (a : Nat) : Bytes := sramRead s (acctAddr a) 8
/-- The 16-bit word k of a meter address. -/
def addrWord (m : Bytes) (k : Nat) : Nat := leNat ((m.drop (2 * k)).take 2)
/-- The 16-bit left rotation. -/
def rotl16 (x n : Nat) : Nat := (x * 2 ^ n + x / 2 ^ (16 - n)) % 65536
/-- The owner bucket of a meter address. -/
def ownerBucket (m : Bytes) : Nat := Nat.xor (Nat.xor (addrWord m 0) (addrWord m 1)) (Nat.xor (addrWord m 2) (addrWord m 3))
/-- The local bucket of a meter address. -/
def localBucket (m : Bytes) : Nat :=
  Nat.xor (Nat.xor (addrWord m 0) (rotl16 (addrWord m 1) 5)) (Nat.xor (rotl16 (addrWord m 2) 10) (rotl16 (addrWord m 3) 15)) % 2048
/-- The accounts from one on along the NEXT fields, at most `n`. -/
def chainFrom (s : State) : Nat → Nat → List Nat
  | 0, _ => []
  | n + 1, a => if 1024 ≤ a then [] else a :: chainFrom s n (acctFld s a 0x0C 2)
/-- The chain of a local bucket. -/
def chainOf (s : State) (b : Nat) : List Nat :=
  let h := mget 0 s.intake.heads b
  if h = 0 then [] else chainFrom s 8 (h - 1)
/-- The first account of its chain that has a meter address (R80). -/
def findAcct (s : State) (m : Bytes) : Option Nat := (chainOf s (localBucket m)).find? fun a => decide (acctAddrOf s a = m)
/-- Whether some account with VALID = 1 holds a meter address. -/
def addrHeld (s : State) (m : Bytes) : Bool := (List.range 1024).any fun a => acctFlag s a 0 && decide (acctAddrOf s a = m)
/-- The head of a local bucket set: an account + 1, or 0. -/
def setHead (s : State) (b h : Nat) : State := setIntake s { s.intake with heads := mset 0 s.intake.heads b h }

/-! ### Dirty pages (R102) -/

/-- The bytes of a record's persistent part that make its page dirty: all but AUTH_FAILS, CKPT_GEN and CKPT_CRC. -/
def dirtyPart (r : Bytes) : Bytes := r.take 0x0E ++ (r.drop 0x10).take 0x68

/-- The newest checkpoint of a page: the one being programmed, or the newest in region 7; zeros where there is none. -/
def checkpointOf (s : State) (k : Nat) : Bytes :=
  let stored := match newestPage s 7 k with | some (_, f) => (f.data ++ zeros 256).take 256 | none => zeros 256
  match s.intake.ckpt with
  | some j => if j.page = k then j.bytes else stored
  | none => stored

/-- Whether the persistent part of an account of a page differs from the newest checkpoint. -/
def pageDiffers (s : State) (k : Nat) : Bool :=
  let c := checkpointOf s k
  decide (dirtyPart (sramRead s (acctAddr (2 * k)) 128) ≠ dirtyPart (c.take 128)) ||
    decide (dirtyPart (sramRead s (acctAddr (2 * k + 1)) 128) ≠ dirtyPart (c.drop 128))

/-- Whether a page is dirty. -/
def isDirty (s : State) (k : Nat) : Bool := s.intake.dirty.any fun d => d.1 == k

/-- An account has changed: its page becomes dirty, or clean where it again equals its checkpoint and nothing queued it. -/
def markDirty (s : State) (a : Nat) : State :=
  let k := a / 2
  if pageDiffers s k then
    (if isDirty s k then s else setIntake s { s.intake with dirty := s.intake.dirty ++ [(k, s.tick)] })
  else if lmem k s.intake.first then s
  else setIntake s { s.intake with dirty := s.intake.dirty.filter fun d => d.1 != k }

/-! ### Links (R101, R105) -/

/-- An account put at the head of its chain. -/
def linkAcct (s : State) (a : Nat) : State :=
  let b := localBucket (acctAddrOf s a)
  let h := mget 0 s.intake.heads b
  setHead (acctPut s a 0x0C (leBytes 2 (if h = 0 then 0xFFFF else h - 1))) b (a + 1)

/-- An account taken out of its chain. -/
def unlinkAcct (s : State) (a : Nat) : State :=
  let b := localBucket (acctAddrOf s a)
  let next := acctFld s a 0x0C 2
  let c := chainOf s b
  if c.head? = some a then setHead s b (if 1024 ≤ next then 0 else next + 1)
  else match c.find? fun x => acctFld s x 0x0C 2 == a with
    | some p => markDirty (acctPut s p 0x0C (leBytes 2 next)) p
    | none => s

/-- The record and both key entries of an account cleared, and the account unlinked (R101). -/
def deleteAcct (s : State) (a : Nat) : State :=
  let s := unlinkAcct s a
  let s := bankWrite (acctPut s a 0 (zeros 256)) .intake (keyAddr a) (zeros 96)
  markDirty s a

/-! ### Records and the ledger (R94 to R97) -/

/-- The genesis head of an account (R94). -/
def genesis (m : Bytes) (a : Nat) : Bytes := sha256 (ascii "JQLEDGR1" ++ serial ++ m ++ leBytes 2 a ++ zeros 6)

/-- The header of an intake record (R96). -/
def recHeader (status rflags profile acct plen : Nat) (addr : Bytes) (seq pos rtc : Nat) : Bytes :=
  [1#8, byte status, byte rflags, byte profile] ++ leBytes 2 acct ++ leBytes 2 plen ++ addr ++ leBytes 8 seq ++ leBytes 4 pos ++ leBytes 4 rtc

/-- LEDGER_COUNT of an account. -/
def acctCount (s : State) (a : Nat) : Nat := acctFld s a 0x20 8

/-- The ledger extended with a header-only record of status OK and the given flags (R97). -/
def adminRecord (s : State) (a rflags : Nat) : State :=
  let n := (acctCount s a + 1) % 2 ^ 64
  let seq := if acctFlag s a 6 then acctFld s a 0x10 8 else 0
  let h := recHeader stOK rflags (acctFld s a 8 1) a 0 (acctAddrOf s a) seq n (rtcSecs s)
  acctPut s a 0x20 (leBytes 8 n ++ sha256 (sramRead s (acctAddr a + 0x28) 32 ++ h))

/-! ### Leases (R451) -/

/-- The lease at S that holds a meter address. -/
def leaseOf (s : State) (m : Bytes) : Option Lease := s.fab.leases.find? fun l => l.staged.isNone && decide (l.addr = m)

/-- Whether a lease at S names an account. -/
def acctLeased (s : State) (a : Nat) : Bool := s.fab.leases.any fun l => l.staged.isNone && l.acct == a

/-- A completion of a frame counted in ACC_CNT (R107). -/
def countStatus (s : State) (status : Nat) : State :=
  let l := [stOK, stPROMO, stGAP, stDUP, stREPLAY, stAUTH, stTOTAL, stFWD, stBUSY]
  upd s (Reg.ACC_CNT + 4 * l.findIdx (· == status)) fun w => if w = 0xFFFFFFFF#32 then w else w + 1#32

/-- A frame's descriptor completes (R64). -/
def frameReply (s : State) (n tag status acct retry seq : Nat) : State :=
  countStatus (endByTag s n tag status (leBytes 2 acct ++ leBytes 2 retry ++ leBytes 8 seq)) status

/-! ### Account commands (R101) -/

/-- The command ends with a status. -/
def accDone (s : State) (status : Nat) : State := wr s Reg.ACC_CMDSTAT (word status)

/-- An argument register. -/
def accArg (s : State) (k : Nat) : Word := rd s (Reg.ACC_ARG + 4 * k)

/-- A command that waits, at the gate or for a hash lane. -/
def accWait (s : State) (op a : Nat) : State := setIntake s { s.intake with cmd := some (op, a) }

/-- The meter address of ARG0 and ARG1. -/
def argAddr (s : State) : Bytes := leBytes 4 (accArg s 0).toNat ++ leBytes 4 (accArg s 1).toNat

/-- CREATE at the gate. -/
def accCreateRun (s : State) (a : Nat) : State :=
  let m := argAddr s
  if acctFlag s a 0 then accDone s stNORES
  else if addrHeld s m then accDone s stDUP
  else if 8 ≤ (chainOf s (localBucket m)).length then accDone (raise s 0x1A 1) stNORES
  else if (unitLane s 31).isNone then accWait s 1 a
  else
    let x := accArg s 2
    let r := m ++ [byte (fld x 4 0), 1#8, byte (fld x 13 8), byte (fld x 19 16)] ++ [0xFF#8, 0xFF#8] ++ zeros 0x1A ++
      genesis m a ++ zeros 32 ++ leBytes 4 (accArg s 3).toNat ++ zeros 0x94
    accDone (markDirty (linkAcct (acctPut s a 0 r) a) a) stOK

/-- RESEAT at the gate. -/
def accReseatRun (s : State) (a : Nat) : State :=
  if acctFlag s a 1 then accDone s stLOCKED
  else if (unitLane s 31).isNone then accWait s 7 a
  else
    let s := acctPut (acctPut s a 0x10 (argAddr s ++ leBytes 8 1)) a 0x80 (zeros 128)
    accDone (markDirty (adminRecord (acctSetFlags s a [(6, true), (5, false), (7, false)]) a 0x10) a) stOK

/-- RETOTAL at the gate. -/
def accRetotalRun (s : State) (a : Nat) : State :=
  if acctFlag s a 1 then accDone s stLOCKED
  else if (unitLane s 31).isNone then accWait s 0xC a
  else
    let f := acctFld s a 0x0B 1
    let keep := Nat.land (f / 16) (15 - fld (accArg s 2) 23 20)
    accDone (markDirty (adminRecord (acctPut s a 0x0B [byte (keep * 16 + f % 16)]) a 0x10) a) stOK

/-- READ: bytes 0x00 to 0x7F into ACC_SNAP. -/
def accReadRun (s : State) (a : Nat) : State :=
  (List.range 32).foldl (fun s k => wr s (Reg.ACC_SNAP + 4 * k) (word (acctFld s a (4 * k) 4))) s

/-- An account command that holds its account. -/
def accRun (s : State) (op a : Nat) : State :=
  if acctLeased s a then accDone s stLOCKED
  else if op = 1 then accCreateRun s a
  else if op = 8 then accDone (accReadRun s a) stOK
  else if !acctFlag s a 0 then accDone s stNOTOWN
  else match op with
    | 2 => accDone (deleteAcct s a) stOK
    | 3 => if acctFlag s a 7 then accDone s stLOCKED else accDone (markDirty (acctSetFlags s a [(1, true)]) a) stOK
    | 4 => accDone (markDirty (acctSetFlags s a [(1, false)]) a) stOK
    | 5 =>
      let f := acctFld s a 0x0B 1 / 16 * 16 + fld (accArg s 2) 19 16
      accDone (markDirty (acctPut (acctPut s a 0x0B [byte f]) a 0x68 (leBytes 4 (accArg s 3).toNat)) a) stOK
    | 6 => accDone (markDirty (acctPut s a 8 [byte (fld (accArg s 2) 4 0)]) a) stOK
    | 7 => accReseatRun s a
    | 9 => accDone (acctPut s a 0x0E (zeros 2)) stOK
    | 0xB =>
      let k := a / 2
      let s := if isDirty s k && !lmem k s.intake.first then setIntake s { s.intake with first := s.intake.first ++ [k] } else s
      accDone s stOK
    | _ => accRetotalRun s a

/-- A command that waited runs once its account is free. -/
def gateNext (s : State) : State :=
  match s.intake.cmd with
  | some (op, a) => if acctHeld s a then s else accRun (setIntake s { s.intake with cmd := none }) op a
  | none => s

/-- A write of ACC_CMD (R101). -/
def accCmd (s : State) (i : Initiator) (op a : Nat) : State :=
  guardW s i Reg.ACC_CMD fun s =>
    if bit (rd s Reg.ACC_CMDSTAT) 31 then noteErr s i 0x18 0x98 4 true
    else
      let s := wr s Reg.ACC_CMDSTAT 0x80000000#32
      if op = 0xA then accDone ((List.range 10).foldl (fun s k => wr s (Reg.ACC_CNT + 4 * k) 0#32) s) stOK
      else if op = 0 || 0xC < op then accDone s stNORES
      else if acctHeld s a then accWait s op a
      else accRun s op a

end Sys2Proof.Machine
end

