-- ==== Sys2Proof/Machine/AccRows.lean ====
section
/-! DEFINITION. The account commands (R101) and the checkpoint writer (R102 to R104, R107). -/

namespace Sys2Proof.Machine

open Sys2Proof

/-- CREATE. -/
def doAccCreate (i : Initiator) (a : Fin 1024) (s : State) : State := accCmd s i 0x1 a.val
/-- DELETE. -/
def doAccDelete (i : Initiator) (a : Fin 1024) (s : State) : State := accCmd s i 0x2 a.val
/-- ENABLE. -/
def doAccEnable (i : Initiator) (a : Fin 1024) (s : State) : State := accCmd s i 0x3 a.val
/-- DISABLE. -/
def doAccDisable (i : Initiator) (a : Fin 1024) (s : State) : State := accCmd s i 0x4 a.val
/-- SET_FEED. -/
def doSetFeed (i : Initiator) (a : Fin 1024) (s : State) : State := accCmd s i 0x5 a.val
/-- SET_PROFILE. -/
def doSetProfile (i : Initiator) (a : Fin 1024) (s : State) : State := accCmd s i 0x6 a.val
/-- RESEAT. -/
def doReseat (i : Initiator) (a : Fin 1024) (s : State) : State := accCmd s i 0x7 a.val
/-- READ. -/
def doAccRead (i : Initiator) (a : Fin 1024) (s : State) : State := accCmd s i 0x8 a.val
/-- CLEAR_FAILS. -/
def doClearFails (i : Initiator) (a : Fin 1024) (s : State) : State := accCmd s i 0x9 a.val
/-- CLRCNT. -/
def doClrcnt (i : Initiator) (a : Fin 1024) (s : State) : State := accCmd s i 0xA a.val
/-- CKPT. -/
def doCkpt (i : Initiator) (a : Fin 1024) (s : State) : State := accCmd s i 0xB a.val
/-- RETOTAL. -/
def doRetotal (i : Initiator) (a : Fin 1024) (s : State) : State := accCmd s i 0xC a.val

/-- A page put among the dirty pages in the order of the ticks at which they were dirtied. -/
def dirtyInsert (k t : Nat) : List (Nat × Nat) → List (Nat × Nat)
  | [] => [(k, t)]
  | d :: ds => if d.2 ≤ t then d :: dirtyInsert k t ds else (k, t) :: d :: ds

/-- Every page dirty and queued (R107). -/
def ckptAll (s : State) : State :=
  let ks := List.range 512
  let dirty := s.intake.dirty ++ (ks.filter fun k => !isDirty s k).map fun k => (k, s.tick)
  setIntake s { s.intake with dirty := dirty, first := s.intake.first ++ ks.filter fun k => !lmem k s.intake.first }

/-- CKPT_NOW: a write of CTRL with bit 8 set. -/
def doCkptNow (i : Initiator) (s : State) : State := guardW s i (hdr 0x18 Off.CTRL) ckptAll

/-- The page that the writer takes next: a queued one, else one older than PERIOD, else the one dirtied earliest. As the list is
in the order of dirtying, the last two are its first. -/
def nextDirty (s : State) : Option (Nat × Nat) :=
  match s.intake.first with
  | k :: _ => s.intake.dirty.find? fun d => d.1 == k
  | [] => s.intake.dirty.head?

/-- The 128 bytes of an account with its new CKPT_GEN and CKPT_CRC. -/
def ckptBytes (s : State) (a : Nat) : Bytes :=
  let r := sramRead s (acctAddr a) 0x78 ++ leBytes 4 (acctFld s a 0x78 4 + 1)
  r ++ leBytes 4 (crc32 r).toNat

/-- CHECKPOINT_CAPTURE: the writer takes both accounts of the next page at their gates (R102); none while a page is being programmed or
the store is not write-ready. -/
def doCheckpointCapture (s : State) : State :=
  match s.intake.ckpt, nextDirty s with
  | none, some (k, t) =>
    let a := 2 * k
    if acctHeld s a || acctHeld s (a + 1) || !writeReady s || !ckptMay s then s
    else
      let s := { s with pmu := { s.pmu with ckpts := s.pmu.ckpts - 1 } }
      let b0 := ckptBytes s a
      let b1 := ckptBytes s (a + 1)
      let s := acctPut (acctPut s a 0x78 (b0.drop 0x78)) (a + 1) 0x78 (b1.drop 0x78)
      setIntake s { s.intake with
        dirty := s.intake.dirty.filter (fun d => d.1 != k), first := lerase k s.intake.first, ckpt := some ⟨k, t, b0 ++ b1⟩ }
  | _, _ => s

/-- CHECKPOINT_PROGRAM_DONE: the flash program ends; a failed page stays dirty (R102). In the service window it waits for what comes
before it in its bank (R532). -/
def doCheckpointProgramDone (ok : Bool) (s : State) : State :=
  match s.intake.ckpt with
  | none => s
  | some j =>
    if s.pmu.window && (bankTask s (decide (32768 ≤ (placeOf s 7 j.page).getD 0))).isSome then s
    else
    let s := if s.pmu.window then bumpSat s Reg.PMU_WINSTAT 23 16 else s
    let s := programPage s 7 j.page 3 0 j.bytes ok
    let x := s.intake
    setIntake s { x with
      ckpt := none, dirty := if ok || isDirty s j.page then x.dirty else dirtyInsert j.page j.since x.dirty }

/-! ### The commands -/

/-- CREATE (R101). -/
def execAccCreate (i : Initiator) (a : Fin 1024) (s : State) : Host.Outcome State Fault Refusal := finish s (doAccCreate i a s)

/-- DELETE (R101). -/
def execAccDelete (i : Initiator) (a : Fin 1024) (s : State) : Host.Outcome State Fault Refusal := finish s (doAccDelete i a s)

/-- ENABLE (R101). -/
def execAccEnable (i : Initiator) (a : Fin 1024) (s : State) : Host.Outcome State Fault Refusal := finish s (doAccEnable i a s)

/-- DISABLE (R101). -/
def execAccDisable (i : Initiator) (a : Fin 1024) (s : State) : Host.Outcome State Fault Refusal := finish s (doAccDisable i a s)

/-- SET_FEED (R101). -/
def execSetFeed (i : Initiator) (a : Fin 1024) (s : State) : Host.Outcome State Fault Refusal := finish s (doSetFeed i a s)

/-- SET_PROFILE (R101). -/
def execSetProfile (i : Initiator) (a : Fin 1024) (s : State) : Host.Outcome State Fault Refusal := finish s (doSetProfile i a s)

/-- RESEAT (R101). -/
def execReseat (i : Initiator) (a : Fin 1024) (s : State) : Host.Outcome State Fault Refusal := finish s (doReseat i a s)

/-- ACC_READ (R101). -/
def execAccRead (i : Initiator) (a : Fin 1024) (s : State) : Host.Outcome State Fault Refusal := finish s (doAccRead i a s)

/-- CLEAR_FAILS (R101). -/
def execClearFails (i : Initiator) (a : Fin 1024) (s : State) : Host.Outcome State Fault Refusal := finish s (doClearFails i a s)

/-- CLRCNT (R101). -/
def execClrcnt (i : Initiator) (a : Fin 1024) (s : State) : Host.Outcome State Fault Refusal := finish s (doClrcnt i a s)

/-- CKPT (R101). -/
def execCkpt (i : Initiator) (a : Fin 1024) (s : State) : Host.Outcome State Fault Refusal := finish s (doCkpt i a s)

/-- RETOTAL (R101). -/
def execRetotal (i : Initiator) (a : Fin 1024) (s : State) : Host.Outcome State Fault Refusal := finish s (doRetotal i a s)

/-- CKPT_NOW (R107). -/
def execCkptNow (i : Initiator) (s : State) : Host.Outcome State Fault Refusal := finish s (doCkptNow i s)

/-- CHECKPOINT_CAPTURE (R102). -/
def execCheckpointCapture (s : State) : Host.Outcome State Fault Refusal := finish s (doCheckpointCapture s)

/-- CHECKPOINT_PROGRAM_DONE (R102). -/
def execCheckpointProgramDone (ok : Bool) (s : State) : Host.Outcome State Fault Refusal := finish s (doCheckpointProgramDone ok s)

end Sys2Proof.Machine
end

