-- ==== Sys2Proof/Machine/Curves.lean ====
section
/-! DEFINITION. Public-key arithmetic over numbers (R4, R273): the curves P-256, P-384 and P-521 with ECDSA and ECDH, X25519,
Ed25519, and the RSA primitives with their paddings. The curve parameters are those of FIPS 186-5 and RFC 7748. -/

namespace Sys2Proof.Machine

open Sys2Proof

/-! ### Modular arithmetic -/

/-- The power of `b` by the low `n` bits of `e` modulo `m`. -/
def powBits (m : Nat) : Nat → Nat → Nat → Nat
  | 0, _, _ => 1 % m
  | n + 1, b, e => let r := powBits m n (b * b % m) (e / 2); if e % 2 = 1 then r * b % m else r

/-- b^e mod m. -/
def powMod (m b e : Nat) : Nat := powBits m (Nat.log2 e + 1) (b % m) e

/-- The steps of the extended Euclidean algorithm, with the coefficient of the first number modulo `m`. -/
def invSteps (m : Nat) : Nat → Nat → Nat → Nat → Nat → Option Nat
  | 0, _, _, _, _ => none
  | k + 1, a, b, x, y =>
    if b = 0 then (if a = 1 then some x else none)
    else invSteps m k b (a % b) y ((x + m * m - a / b * y) % m)

/-- The inverse of a number modulo `m`, where it has one. -/
def invMod (m a : Nat) : Option Nat := if m = 1 then some 0 else invSteps m (2 * Nat.log2 m + 4) (a % m) m 1 0

/-- The inverse, or 0. -/
def inv0 (m a : Nat) : Nat := (invMod m a).getD 0

/-- a − b modulo m. -/
def subMod (m a b : Nat) : Nat := (a % m + m - b % m) % m

/-! ### Weierstrass curves -/

/-- A curve y² = x³ − 3x + b over the integers modulo `p`, its base point and the order of it, and the bytes of a
coordinate and of a stored scalar (R178). -/
structure Curve where
  p : Nat
  b : Nat
  n : Nat
  gx : Nat
  gy : Nat
  len : Nat
  priv : Nat
  deriving DecidableEq, Repr

/-- P-256. -/
def p256 : Curve :=
  { p := 0xFFFFFFFF00000001000000000000000000000000FFFFFFFFFFFFFFFFFFFFFFFF
    b := 0x5AC635D8AA3A93E7B3EBBD55769886BC651D06B0CC53B0F63BCE3C3E27D2604B
    n := 0xFFFFFFFF00000000FFFFFFFFFFFFFFFFBCE6FAADA7179E84F3B9CAC2FC632551
    gx := 0x6B17D1F2E12C4247F8BCE6E563A440F277037D812DEB33A0F4A13945D898C296
    gy := 0x4FE342E2FE1A7F9B8EE7EB4A7C0F9E162BCE33576B315ECECBB6406837BF51F5
    len := 32, priv := 32 }

/-- P-384. -/
def p384 : Curve :=
  { p := 0xFFFFFFFFFFFFFFFFFFFFFFFFFFFFFFFFFFFFFFFFFFFFFFFFFFFFFFFFFFFFFFFEFFFFFFFF0000000000000000FFFFFFFF
    b := 0xB3312FA7E23EE7E4988E056BE3F82D19181D9C6EFE8141120314088F5013875AC656398D8A2ED19D2A85C8EDD3EC2AEF
    n := 0xFFFFFFFFFFFFFFFFFFFFFFFFFFFFFFFFFFFFFFFFFFFFFFFFC7634D81F4372DDF581A0DB248B0A77AECEC196ACCC52973
    gx := 0xAA87CA22BE8B05378EB1C71EF320AD746E1D3B628BA79B9859F741E082542A385502F25DBF55296C3A545E3872760AB7
    gy := 0x3617DE4A96262C6F5D9E98BF9292DC29F8F41DBD289A147CE9DA3113B5F0B8C00A60B1CE1D7E819D7A431D7C90EA0E5F
    len := 48, priv := 48 }

/-- P-521. -/
def p521 : Curve :=
  { p := 2 ^ 521 - 1
    b := 0x51953EB9618E1C9A1F929A21A0B68540EEA2DA725B99B315F3B8B489918EF109E156193951EC7E937B1652C0BD3BB1BF073573DF883D2C34F1EF451FD46B503F00
    n := 0x01FFFFFFFFFFFFFFFFFFFFFFFFFFFFFFFFFFFFFFFFFFFFFFFFFFFFFFFFFFFFFFFFFA51868783BF2F966B7FCC0148F709A5D03BB5C9B8899C47AEBB6FB71E91386409
    gx := 0xC6858E06B70404E9CD9E3ECB662395B4429C648139053FB521F828AF606B4D3DBAA14B5E77EFE75928FE1DC127A2FFA8DE3348B3C1856A429BF97E7E31C2E5BD66
    gy := 0x11839296A789A3BC0045C8A5FB42C7D1BD998F54449579B446817AFBD17273E662C97EE72995EF42640C550B9013FAD0761353C7086A272C24088BE94769FD16650
    len := 66, priv := 72 }

/-- A point of a curve; none is the point at infinity. -/
abbrev Pt := Option (Nat × Nat)

/-- The sum of two points. -/
def ecAdd (c : Curve) : Pt → Pt → Pt
  | none, q => q
  | p, none => p
  | some (x1, y1), some (x2, y2) =>
    if x1 = x2 ∧ (y1 + y2) % c.p = 0 then none
    else
      let l := if x1 = x2 then subMod c.p (3 * x1 * x1) 3 * inv0 c.p (2 * y1) % c.p
               else subMod c.p y2 y1 * inv0 c.p (subMod c.p x2 x1) % c.p
      let x3 := subMod c.p (l * l) (x1 + x2)
      some (x3, subMod c.p (l * subMod c.p x1 x3) y1)

/-- The multiple of a point by the low `n` bits of a number. -/
def ecMulBits (c : Curve) : Nat → Nat → Pt → Pt
  | 0, _, _ => none
  | n + 1, k, p => let r := ecMulBits c n (k / 2) (ecAdd c p p); if k % 2 = 1 then ecAdd c r p else r

/-- The multiple of a point. -/
def ecMul (c : Curve) (k : Nat) (p : Pt) : Pt := ecMulBits c (Nat.log2 k + 1) k p

/-- Whether a pair is a point of the curve. -/
def onCurve (c : Curve) (x y : Nat) : Bool :=
  decide (x < c.p) && decide (y < c.p) && decide (y * y % c.p = (x * x * x + subMod c.p c.b (3 * x)) % c.p)

/-- A point of two coordinates, big-endian. -/
def ecPoint (c : Curve) (bs : Bytes) : Option (Nat × Nat) :=
  let x := beNat (bs.take c.len)
  let y := beNat (bs.drop c.len)
  if bs.length = 2 * c.len ∧ onCurve c x y then some (x, y) else none

/-- An uncompressed SEC 1 point. -/
def ecSec1 (c : Curve) : Bytes → Option (Nat × Nat)
  | b :: bs => if b = 4#8 then ecPoint c bs else none
  | [] => none

/-- The SEC 1 encoding of the public key of a scalar (R197). -/
def ecPub (c : Curve) (d : Nat) : Bytes :=
  match ecMul c d (some (c.gx, c.gy)) with
  | some (x, y) => 4#8 :: (beBytes c.len x ++ beBytes c.len y)
  | none => []

/-- The number of a digest for a curve: its leftmost bits. -/
def ecDigest (c : Curve) (h : Bytes) : Nat :=
  let bits := Nat.log2 c.n + 1
  if 8 * h.length ≤ bits then beNat h else beNat h / 2 ^ (8 * h.length - bits)

/-- ECDSA: r and s of a digest under a scalar, with the per-message number `k`. -/
def ecdsaSign (c : Curve) (d k : Nat) (h : Bytes) : Bytes :=
  let r := match ecMul c k (some (c.gx, c.gy)) with | some (x, _) => x % c.n | none => 0
  beBytes c.len r ++ beBytes c.len (inv0 c.n k * (ecDigest c h + r * d) % c.n)

/-- ECDSA verification of r and s. -/
def ecdsaVerify (c : Curve) (q : Nat × Nat) (h sig : Bytes) : Bool :=
  let r := beNat (sig.take c.len)
  let t := beNat (sig.drop c.len)
  if sig.length ≠ 2 * c.len ∨ r = 0 ∨ c.n ≤ r ∨ t = 0 ∨ c.n ≤ t then false
  else
    let w := inv0 c.n t
    match ecAdd c (ecMul c (ecDigest c h * w % c.n) (some (c.gx, c.gy))) (ecMul c (r * w % c.n) (some q)) with
    | some (x, _) => x % c.n == r
    | none => false

/-- The x-coordinate of the shared point (SP 800-56A); none at infinity. -/
def ecdh (c : Curve) (d : Nat) (q : Nat × Nat) : Option Bytes := (ecMul c d (some q)).map fun pt => beBytes c.len pt.1

/-! ### Curve25519 -/

/-- The prime 2^255 − 19. -/
def p25519 : Nat := 2 ^ 255 - 19

/-- The ladder of RFC 7748, over the bits of the scalar from bit n − 1 down. -/
def ladder (u k : Nat) : Nat → Nat × Nat × Nat × Nat → Nat × Nat × Nat × Nat
  | 0, st => st
  | n + 1, (x2, z2, x3, z3) =>
    let p := p25519
    let b := k / 2 ^ n % 2
    let (x2, z2, x3, z3) := if b = 1 then (x3, z3, x2, z2) else (x2, z2, x3, z3)
    let a := (x2 + z2) % p
    let aa := a * a % p
    let b' := subMod p x2 z2
    let bb := b' * b' % p
    let e := subMod p aa bb
    let da := subMod p x3 z3 * a % p
    let cb := (x3 + z3) % p * b' % p
    let x3 := (da + cb) * (da + cb) % p
    let z3 := u * (subMod p da cb * subMod p da cb % p) % p
    let x2 := aa * bb % p
    let z2 := e * (aa + 121665 * e) % p
    ladder u k n (if b = 1 then (x3, z3, x2, z2) else (x2, z2, x3, z3))

/-- X25519 (RFC 7748). -/
def x25519 (k u : Bytes) : Bytes :=
  let s := leNat k % 2 ^ 254 / 8 * 8 + 2 ^ 254
  let (x, z, _, _) := ladder (leNat u % 2 ^ 255 % p25519) s 255 (1, 0, leNat u % 2 ^ 255 % p25519, 1)
  leBytes 32 (x * powMod p25519 z (p25519 - 2) % p25519)

/-- The curve constant d of Ed25519. -/
def edD : Nat := subMod p25519 0 (121665 * inv0 p25519 121666)

/-- The order of the base point of Ed25519. -/
def edL : Nat := 2 ^ 252 + 27742317777372353535851937790883648493

/-- The sum of two points of Ed25519. -/
def edAdd (a b : Nat × Nat) : Nat × Nat :=
  let p := p25519
  let t := edD * (a.1 * b.1 % p) % p * (a.2 * b.2 % p) % p
  ((a.1 * b.2 + a.2 * b.1) % p * inv0 p (1 + t) % p, (a.2 * b.2 + a.1 * b.1) % p * inv0 p (subMod p 1 t) % p)

/-- The multiple of a point of Ed25519 by the low `n` bits of a number. -/
def edMulBits : Nat → Nat → Nat × Nat → Nat × Nat
  | 0, _, _ => (0, 1)
  | n + 1, k, p => let r := edMulBits n (k / 2) (edAdd p p); if k % 2 = 1 then edAdd r p else r

/-- The multiple of a point of Ed25519. -/
def edMul (k : Nat) (p : Nat × Nat) : Nat × Nat := edMulBits (Nat.log2 k + 1) k p

/-- The encoding of a point (RFC 8032). -/
def edEnc (p : Nat × Nat) : Bytes := leBytes 32 (p.2 + p.1 % 2 * 2 ^ 255)

/-- The point of an encoding. -/
def edDec (bs : Bytes) : Option (Nat × Nat) :=
  let p := p25519
  let y := leNat bs % 2 ^ 255
  let sgn := leNat bs / 2 ^ 255
  if bs.length ≠ 32 ∨ p ≤ y then none
  else
    let u := subMod p (y * y) 1
    let v := (edD * y % p * y + 1) % p
    let v3 := v * v % p * v % p
    let x := u * v3 % p * powMod p (u * v3 % p * v3 % p * v % p) ((p - 5) / 8) % p
    let x := if v * x % p * x % p = u then some x
      else if v * x % p * x % p = subMod p 0 u then some (x * powMod p 2 ((p - 1) / 4) % p) else none
    match x with
    | none => none
    | some x =>
      if x = 0 ∧ sgn = 1 then none else some (if x % 2 = sgn then x else subMod p 0 x, y)

/-- The base point of Ed25519. -/
def edB : Nat × Nat :=
  (15112221349535400772501151409588531511454012693041857206046113283949847762202,
   46316835694926478169428394003475163141307993866256225615783033603165251855960)

/-- The scalar of a seed. -/
def edScalar (seed : Bytes) : Nat := leNat ((sha512 seed).take 32) % 2 ^ 254 / 8 * 8 + 2 ^ 254

/-- The public key of a seed. -/
def edPub (seed : Bytes) : Bytes := edEnc (edMul (edScalar seed) edB)

/-- Ed25519 signature (RFC 8032, pure). -/
def edSign (seed m : Bytes) : Bytes :=
  let r := leNat (sha512 ((sha512 seed).drop 32 ++ m)) % edL
  let rb := edEnc (edMul r edB)
  let k := leNat (sha512 (rb ++ edPub seed ++ m)) % edL
  rb ++ leBytes 32 ((r + k * edScalar seed) % edL)

/-- Ed25519 verification; none where the public key is malformed. -/
def edVerify (pub m sig : Bytes) : Option Bool :=
  match edDec pub with
  | none => none
  | some a =>
    let t := leNat (sig.drop 32)
    match edDec (sig.take 32) with
    | none => some false
    | some r =>
      if sig.length ≠ 64 ∨ edL ≤ t then some false
      else
        let k := leNat (sha512 (sig.take 32 ++ pub ++ m)) % edL
        some (decide (edMul t edB = edAdd r (edMul k a)))

/-! ### RSA -/

/-- The five numbers and e of an RSA private key (R178), and the bytes of its modulus. -/
structure RsaKey where
  p : Nat
  q : Nat
  dp : Nat
  dq : Nat
  qinv : Nat
  e : Nat
  len : Nat
  deriving DecidableEq, Repr

/-- The key of stored material. -/
def rsaKey (mat : Bytes) : RsaKey :=
  let h := (mat.length - 8) / 5
  let f (k : Nat) := beNat ((mat.drop (h * k)).take h)
  { p := f 0, q := f 1, dp := f 2, dq := f 3, qinv := f 4, e := beNat (mat.drop (5 * h)), len := 2 * h }

/-- The stored material of two primes and e. -/
def rsaMat (h p q e : Nat) : Bytes :=
  beBytes h p ++ beBytes h q ++ beBytes h (inv0 (p - 1) e) ++ beBytes h (inv0 (q - 1) e) ++ beBytes h (inv0 p q) ++ beBytes 8 e

/-- The RSA private primitive (RFC 8017, 5.1.2). -/
def rsaPriv (k : RsaKey) (c : Nat) : Nat :=
  let m1 := powMod k.p c k.dp
  let m2 := powMod k.q c k.dq
  m2 + k.q * (subMod k.p m1 m2 * k.qinv % k.p)

/-- MGF1 with SHA-256. -/
def mgf1 (seed : Bytes) (n : Nat) : Bytes := ((List.range ((n + 31) / 32)).flatMap fun k => sha256 (seed ++ beBytes 4 k)).take n

/-- EMSA-PSS encoding of a digest with a 32-byte salt. -/
def pssEncode (h salt : Bytes) (bits : Nat) : Bytes :=
  let len := (bits + 7) / 8
  let hh := sha256 (zeros 8 ++ h ++ salt)
  let db := zeros (len - 66) ++ [1#8] ++ salt
  let m := xorBytes db (mgf1 hh (len - 33))
  let top := m.take 1 |>.map fun b => byte (b.toNat % 2 ^ (8 - (8 * len - bits)))
  top ++ m.drop 1 ++ hh ++ [0xBC#8]

/-- EMSA-PSS verification. -/
def pssVerify (h em : Bytes) (bits : Nat) : Bool :=
  let len := (bits + 7) / 8
  let hh := (em.drop (len - 33)).take 32
  let db := xorBytes (em.take (len - 33)) (mgf1 hh (len - 33))
  let salt := db.drop (len - 65)
  em.length == len && em.getLast? == some 0xBC#8 && decide (pssEncode h salt bits = em)

/-- EMSA-PKCS1-v1_5 encoding of a SHA-256 digest. -/
def pkcs1Encode (h : Bytes) (len : Nat) : Bytes :=
  let t := [0x30, 0x31, 0x30, 0x0d, 0x06, 0x09, 0x60, 0x86, 0x48, 0x01, 0x65, 0x03, 0x04, 0x02, 0x01, 0x05, 0x00, 0x04, 0x20].map byte ++ h
  [0#8, 1#8] ++ List.replicate (len - t.length - 3) 0xFF#8 ++ [0#8] ++ t

/-- EME-OAEP encoding with SHA-256 and an empty label; `seed` is 32 bytes. -/
def oaepEncode (m seed : Bytes) (len : Nat) : Bytes :=
  let db := sha256 [] ++ zeros (len - m.length - 66) ++ [1#8] ++ m
  let mdb := xorBytes db (mgf1 seed (len - 33))
  [0#8] ++ xorBytes seed (mgf1 mdb 32) ++ mdb

/-- EME-OAEP decoding. -/
def oaepDecode (em : Bytes) : Option Bytes :=
  let len := em.length
  let mdb := em.drop 33
  let seed := xorBytes ((em.drop 1).take 32) (mgf1 mdb 32)
  let db := xorBytes mdb (mgf1 seed (len - 33))
  let rest := (db.drop 32).dropWhile (· == 0#8)
  match rest with
  | b :: m => if em.take 1 = [0#8] ∧ db.take 32 = sha256 [] ∧ b = 1#8 then some m else none
  | [] => none

end Sys2Proof.Machine
end

