-- ==== Sys2Proof/Machine/Rings.lean ====
section
/-! DEFINITION. The rings of ML-KEM and ML-DSA (R266, R267): number-theoretic transforms, coefficient-wise functions,
sampling and packing, and the algorithms of FIPS 203 and FIPS 204 over them. A polynomial is the list of its 256
coefficients. -/

namespace Sys2Proof.Machine

open Sys2Proof

/-- A polynomial of 256 coefficients below q. -/
abbrev Poly := List Nat

/-- A ring: its modulus, the root of unity and its order, and the layers of its transform (R266). -/
structure Ring where
  q : Nat
  zeta : Nat
  ord : Nat
  layers : Nat
  deriving DecidableEq, Repr

/-- The ring of ML-KEM. -/
def kemRing : Ring := { q := 3329, zeta := 17, ord := 256, layers := 7 }
/-- The ring of ML-DSA. -/
def dsaRing : Ring := { q := 8380417, zeta := 1753, ord := 512, layers := 8 }

/-- The zero polynomial. -/
def polyZero : Poly := List.replicate 256 0

/-- The low `n` bits of a number in reverse order. -/
def revBits : Nat → Nat → Nat
  | 0, _ => 0
  | n + 1, k => k % 2 * 2 ^ n + revBits n (k / 2)

/-- A power by repeated multiplication of squares, modulo `m`. -/
def ringPow (m : Nat) : Nat → Nat → Nat → Nat
  | 0, _, _ => 1 % m
  | n + 1, b, e => let r := ringPow m n (b * b % m) (e / 2); if e % 2 = 1 then r * b % m else r

/-- The power of the ring's root. -/
def Ring.root (r : Ring) (e : Nat) : Nat := ringPow r.q 10 r.zeta e

/-- The transform of a node of the tree of layers. -/
def nttNode (r : Ring) : Nat → Nat → List Nat → List Nat
  | 0, _, f => f
  | d + 1, k, f =>
    let h := f.length / 2
    let z := r.root (revBits r.layers k)
    let a := f.take h
    let b := (f.drop h).map fun x => x * z % r.q
    nttNode r d (2 * k) (List.zipWith (fun x y => (x + y) % r.q) a b) ++
      nttNode r d (2 * k + 1) (List.zipWith (fun x y => (x + r.q - y) % r.q) a b)

/-- The inverse of a node. -/
def inttNode (r : Ring) : Nat → Nat → List Nat → List Nat
  | 0, _, f => f
  | d + 1, k, f =>
    let h := f.length / 2
    let z := r.root (r.ord - revBits r.layers k)
    let a := inttNode r d (2 * k) (f.take h)
    let b := inttNode r d (2 * k + 1) (f.drop h)
    List.zipWith (fun x y => (x + y) % r.q) a b ++ List.zipWith (fun x y => (x + r.q - y) % r.q * z % r.q) a b

/-- The forward transform. -/
def ntt (r : Ring) (f : Poly) : Poly := nttNode r r.layers 1 f

/-- The inverse transform with its final scaling. -/
def intt (r : Ring) (f : Poly) : Poly :=
  let s := ringPow r.q 24 (2 ^ r.layers) (r.q - 2)
  (inttNode r r.layers 1 f).map fun x => x * s % r.q

/-- Pairs of coefficients multiplied modulo X² − ζ^(2 rev(i) + 1) (FIPS 203, Algorithm 11). -/
def basePairs (r : Ring) : Nat → List Nat → List Nat → List Nat
  | i, a0 :: a1 :: as, b0 :: b1 :: bs =>
    let g := r.root (2 * revBits 7 i + 1)
    (a0 * b0 + a1 * b1 % r.q * g) % r.q :: (a0 * b1 + a1 * b0) % r.q :: basePairs r (i + 1) as bs
  | _, _, _ => []

/-- The product in the transformed domain. -/
def polyMul (r : Ring) (a b : Poly) : Poly :=
  if r.layers = 7 then basePairs r 0 a b else List.zipWith (fun x y => x * y % r.q) a b

/-- Sum and difference. -/
def polyAdd (r : Ring) (a b : Poly) : Poly := List.zipWith (fun x y => (x + y) % r.q) a b
/-- Difference. -/
def polySub (r : Ring) (a b : Poly) : Poly := List.zipWith (fun x y => (x + r.q - y % r.q) % r.q) a b

/-! ### Coefficient-wise functions (R267) -/

/-- Compress_d and Decompress_d (FIPS 203, 4.2.1). -/
def compressD (q d x : Nat) : Nat := (x * 2 ^ d * 2 + q) / (2 * q) % 2 ^ d
/-- Decompress_d. -/
def decompressD (q d y : Nat) : Nat := (y * q * 2 + 2 ^ d) / (2 ^ (d + 1))

/-- The centred value of a coefficient as a pair: whether it is negative, and its magnitude. -/
def centred (q x : Nat) : Bool × Nat := if 2 * x ≤ q - 1 then (false, x) else (true, q - x)

/-- A centred remainder modulo an even m, as a coefficient modulo q, with the quotient's numerator x − r0. -/
def modPm (m x : Nat) : Int := let r := x % m; if 2 * r ≤ m then (r : Int) else (r : Int) - m

/-- A residue modulo q of an integer. -/
def resid (q : Nat) (x : Int) : Nat := (x % (q : Int)).toNat

/-- Power2Round (FIPS 204, Algorithm 35): high and low part. -/
def power2Round (q x : Nat) : Nat × Nat :=
  let r0 := modPm 8192 x
  (((x : Int) - r0).toNat / 8192, resid q r0)

/-- Decompose (FIPS 204, Algorithm 36): high bits and low bits, with γ2. -/
def decomposeD (q g2 x : Nat) : Nat × Int :=
  let r0 := modPm (2 * g2) x
  if (x : Int) - r0 = (q : Int) - 1 then (0, r0 - 1) else (((x : Int) - r0).toNat / (2 * g2), r0)

/-- HighBits. -/
def highBits (q g2 x : Nat) : Nat := (decomposeD q g2 x).1
/-- LowBits as a coefficient. -/
def lowBits (q g2 x : Nat) : Nat := resid q (decomposeD q g2 x).2

/-- MakeHint (Algorithm 39). -/
def makeHint (q g2 z r : Nat) : Nat := if highBits q g2 r = highBits q g2 ((r + z) % q) then 0 else 1

/-- UseHint (Algorithm 40). -/
def useHint (q g2 h r : Nat) : Nat :=
  let m := (q - 1) / (2 * g2)
  let (r1, r0) := decomposeD q g2 r
  if h = 1 then (if 0 < r0 then (r1 + 1) % m else (r1 + m - 1) % m) else r1

/-- Whether some centred coefficient has magnitude of at least a bound. -/
def normAtLeast (q bound : Nat) (f : Poly) : Bool := f.any fun x => decide (bound ≤ (centred q x).2)

/-! ### Packing (R267) -/

/-- The bits of bytes, least significant first, taken `w` at a time. -/
def unpackBits (w : Nat) : Nat → Nat → List Nat
  | 0, _ => []
  | k + 1, v => v % 2 ^ w :: unpackBits w k (v / 2 ^ w)

/-- Fields of `w` bits packed least significant bit first. -/
def packNat (w : Nat) (xs : List Nat) : Nat := xs.foldr (fun x a => x % 2 ^ w + 2 ^ w * a) 0

/-- Fields packed into bytes. -/
def packFields (w : Nat) (xs : List Nat) : Bytes := leBytes ((w * xs.length + 7) / 8) (packNat w xs)

/-- A coefficient packed as c + b, or as b − c, of its centred value c (R267); with b = 0 the coefficient as it stands. -/
def packCoef (q w b : Nat) (neg : Bool) (x : Nat) : Nat :=
  let c : Int := if b = 0 && !neg then (x : Int) else match centred q x with | (true, m) => -(m : Int) | (false, m) => m
  resid (2 ^ w) (if neg then (b : Int) - c else c + b)

/-- The coefficient of a packed field. -/
def unpackCoef (q b : Nat) (neg : Bool) (v : Nat) : Nat := resid q (if neg then (b : Int) - v else (v : Int) - b)

/-- A polynomial packed. -/
def packPoly (q w b : Nat) (neg : Bool) (f : Poly) : Bytes := packFields w (f.map (packCoef q w b neg))
/-- A polynomial unpacked. -/
def unpackPoly (q w b : Nat) (neg : Bool) (bs : Bytes) : Poly := (unpackBits w 256 (leNat bs)).map (unpackCoef q b neg)

/-! ### Sampling (R267): each takes the output of SHAKE from where it stands and answers the bytes it used -/

/-- SampleNTT: uniform below 3,329, two candidates from each three bytes. -/
def sampleNtt : Nat → Bytes → List Nat → Nat → List Nat × Nat
  | k + 1, a :: b :: c :: bs, acc, used =>
    let d1 := a.toNat + 256 * (b.toNat % 16)
    let d2 := b.toNat / 16 + 16 * c.toNat
    let acc := if d1 < 3329 then acc ++ [d1] else acc
    let acc := if d2 < 3329 && acc.length < 256 then acc ++ [d2] else acc
    if 256 ≤ acc.length then (acc, used + 3) else sampleNtt k bs acc (used + 3)
  | _, _, acc, used => (acc, used)

/-- RejNTTPoly: uniform below 8,380,417 from 23 bits of each three bytes. -/
def rejNtt : Nat → Bytes → List Nat → Nat → List Nat × Nat
  | k + 1, a :: b :: c :: bs, acc, used =>
    let z := a.toNat + 256 * b.toNat + 65536 * (c.toNat % 128)
    let acc := if z < 8380417 then acc ++ [z] else acc
    if 256 ≤ acc.length then (acc, used + 3) else rejNtt k bs acc (used + 3)
  | _, _, acc, used => (acc, used)

/-- The number of ones among the low `n` bits. -/
def ones : Nat → Nat → Nat
  | 0, _ => 0
  | n + 1, v => v % 2 + ones n (v / 2)

/-- SamplePolyCBD: 64 η bytes. -/
def sampleCbd (eta : Nat) (bs : Bytes) : Poly :=
  (unpackBits (2 * eta) 256 (leNat bs)).map fun v => (ones eta v + 3329 - ones eta (v / 2 ^ eta)) % 3329

/-- A coefficient from a half byte (Algorithm 15). -/
def halfByte (eta z : Nat) : Option Nat :=
  if eta = 2 then (if z < 15 then some (resid 8380417 ((2 : Int) - (z % 5 : Nat))) else none)
  else (if z < 9 then some (resid 8380417 ((4 : Int) - z)) else none)

/-- RejBoundedPoly. -/
def rejBounded (eta : Nat) : Bytes → List Nat → Nat → List Nat × Nat
  | [], acc, used => (acc, used)
  | b :: bs, acc, used =>
    let acc := acc ++ (halfByte eta (b.toNat % 16)).toList
    let acc := if acc.length < 256 then acc ++ (halfByte eta (b.toNat / 16)).toList else acc
    if 256 ≤ acc.length then (acc, used + 1) else rejBounded eta bs acc (used + 1)

/-- The entries of SampleInBall from position i on; `signs` are the sign bits left. -/
def inBall : Bytes → Nat → Nat → Poly → Nat → Poly × Nat
  | [], _, _, f, used => (f, used)
  | b :: bs, i, signs, f, used =>
    if 256 ≤ i then (f, used)
    else
      let j := b.toNat
      if i < j then inBall bs i signs f (used + 1)
      else inBall bs (i + 1) (signs / 2) ((f.set i (f.getD j 0)).set j (if signs % 2 = 1 then 8380416 else 1)) (used + 1)

/-- SampleInBall (Algorithm 29). -/
def sampleInBall (tau : Nat) (bs : Bytes) : Poly × Nat := inBall (bs.drop 8) (256 - tau) (leNat (bs.take 8)) polyZero 8

/-- Mask coefficients: γ1 − value of `lg + 1` bits. -/
def maskPoly (lg : Nat) (bs : Bytes) : Poly := (unpackBits (lg + 1) 256 (leNat bs)).map fun (v : Nat) => resid 8380417 ((2 ^ lg : Nat) - (v : Int))

/-! ### ML-KEM (FIPS 203) -/

/-- A parameter set of ML-KEM. -/
structure KemParam where
  k : Nat
  eta1 : Nat
  du : Nat
  dv : Nat
  deriving DecidableEq, Repr

/-- ML-KEM-512, -768 and -1024. -/
def kemParam : Nat → KemParam
  | 0 => { k := 2, eta1 := 3, du := 10, dv := 4 }
  | 1 => { k := 3, eta1 := 2, du := 10, dv := 4 }
  | _ => { k := 4, eta1 := 2, du := 11, dv := 5 }

/-- The bytes of the encapsulation key and of the ciphertext. -/
def kemPubLen (p : KemParam) : Nat := 384 * p.k + 32
/-- The bytes of the ciphertext. -/
def kemCtLen (p : KemParam) : Nat := 32 * (p.du * p.k + p.dv)

/-- Entry of the matrix for row i and column j. -/
def kemA (rho : Bytes) (i j : Nat) : Poly := (sampleNtt 1000 (shake128 (rho ++ [byte j, byte i]) 1512) [] 0).1

/-- A sampled error polynomial. -/
def kemCbd (eta : Nat) (seed : Bytes) (n : Nat) : Poly := sampleCbd eta (shake256 (seed ++ [byte n]) (64 * eta))

/-- The sum of products of two vectors in the transformed domain. -/
def dotNtt (r : Ring) (a b : List Poly) : Poly := (List.zipWith (polyMul r) a b).foldl (polyAdd r) polyZero

/-- K-PKE.KeyGen: the encapsulation key and the secret vector. -/
def kemKeyGen (p : KemParam) (d : Bytes) : Bytes × List Poly :=
  let g := sha3_512 (d ++ [byte p.k])
  let rho := g.take 32
  let sigma := g.drop 32
  let sv := (List.range p.k).map fun i => ntt kemRing (kemCbd p.eta1 sigma i)
  let ev := (List.range p.k).map fun i => ntt kemRing (kemCbd p.eta1 sigma (p.k + i))
  let tv := (List.range p.k).map fun i =>
    polyAdd kemRing (dotNtt kemRing ((List.range p.k).map fun j => kemA rho i j) sv) (ev.getD i polyZero)
  (tv.flatMap (packFields 12) ++ rho, sv)

/-- K-PKE.Encrypt. -/
def kemEncrypt (p : KemParam) (ek m rnd : Bytes) : Bytes :=
  let rho := (ek.drop (384 * p.k)).take 32
  let tv := (List.range p.k).map fun i => unpackBits 12 256 (leNat ((ek.drop (384 * i)).take 384))
  let y := (List.range p.k).map fun i => ntt kemRing (kemCbd p.eta1 rnd i)
  let e1 := (List.range p.k).map fun i => kemCbd 2 rnd (p.k + i)
  let e2 := kemCbd 2 rnd (2 * p.k)
  let u := (List.range p.k).map fun i =>
    polyAdd kemRing (intt kemRing (dotNtt kemRing ((List.range p.k).map fun j => kemA rho j i) y)) (e1.getD i polyZero)
  let mu := (unpackBits 1 256 (leNat m)).map (decompressD 3329 1)
  let v := polyAdd kemRing (polyAdd kemRing (intt kemRing (dotNtt kemRing tv y)) e2) mu
  u.flatMap (fun f => packFields p.du (f.map (compressD 3329 p.du))) ++ packFields p.dv (v.map (compressD 3329 p.dv))

/-- Whether an encapsulation key has the length and reduced coefficients that FIPS 203 asks for. -/
def kemPubOk (p : KemParam) (ek : Bytes) : Bool :=
  ek.length == kemPubLen p && (unpackBits 12 (256 * p.k) (leNat (ek.take (384 * p.k)))).all fun x => decide (x < 3329)

/-- ML-KEM.Encaps: ciphertext and shared secret. -/
def kemEncaps (p : KemParam) (ek m : Bytes) : Bytes × Bytes :=
  let g := sha3_512 (m ++ sha3_256 ek)
  (kemEncrypt p ek m (g.drop 32), g.take 32)

/-- ML-KEM.Decaps of a seed d ‖ z, with implicit rejection. -/
def kemDecaps (p : KemParam) (seed ct : Bytes) : Bytes :=
  let (ek, sv) := kemKeyGen p (seed.take 32)
  let u := (List.range p.k).map fun i =>
    (unpackBits p.du 256 (leNat ((ct.drop (32 * p.du * i)).take (32 * p.du)))).map (decompressD 3329 p.du)
  let v := (unpackBits p.dv 256 (leNat (ct.drop (32 * p.du * p.k)))).map (decompressD 3329 p.dv)
  let w := polySub kemRing v (intt kemRing (dotNtt kemRing sv (u.map (ntt kemRing))))
  let m := packFields 1 (w.map (compressD 3329 1))
  let g := sha3_512 (m ++ sha3_256 ek)
  if kemEncrypt p ek m (g.drop 32) = ct then g.take 32 else shake256 (seed.drop 32 ++ ct) 32

/-! ### ML-DSA (FIPS 204) -/

/-- A parameter set of ML-DSA. -/
structure DsaParam where
  k : Nat
  l : Nat
  eta : Nat
  tau : Nat
  lg1 : Nat
  g2 : Nat
  omega : Nat
  ctil : Nat
  deriving DecidableEq, Repr

/-- ML-DSA-44, -65 and -87. -/
def dsaParam : Nat → DsaParam
  | 0 => { k := 4, l := 4, eta := 2, tau := 39, lg1 := 17, g2 := 95232, omega := 80, ctil := 32 }
  | 1 => { k := 6, l := 5, eta := 4, tau := 49, lg1 := 19, g2 := 261888, omega := 55, ctil := 48 }
  | _ => { k := 8, l := 7, eta := 2, tau := 60, lg1 := 19, g2 := 261888, omega := 75, ctil := 64 }

/-- The modulus of ML-DSA. -/
abbrev dsaQ : Nat := 8380417

/-- The bytes of a public key, and of a signature. -/
def dsaPubLen (p : DsaParam) : Nat := 32 + 320 * p.k
/-- The bytes of a signature. -/
def dsaSigLen (p : DsaParam) : Nat := p.ctil + 32 * (p.lg1 + 1) * p.l + p.omega + p.k

/-- Entry of the matrix for row i and column j. -/
def dsaA (rho : Bytes) (i j : Nat) : Poly := (rejNtt 1000 (shake128 (rho ++ [byte j, byte i]) 1512) [] 0).1

/-- The matrix applied to a transformed vector. -/
def dsaMul (p : DsaParam) (rho : Bytes) (v : List Poly) : List Poly :=
  (List.range p.k).map fun i => dotNtt dsaRing ((List.range p.l).map fun j => dsaA rho i j) v

/-- What a seed ξ gives: ρ, K, the public key hash, the secret vectors, t1 and t0. -/
structure DsaKey where
  rho : Bytes
  kk : Bytes
  s1 : List Poly
  s2 : List Poly
  t1 : List Poly
  t0 : List Poly
  deriving DecidableEq, Repr

/-- ML-DSA.KeyGen_internal (Algorithm 6). -/
def dsaKey (p : DsaParam) (xi : Bytes) : DsaKey :=
  let g := shake256 (xi ++ [byte p.k, byte p.l]) 128
  let rho := g.take 32
  let rhop := (g.drop 32).take 64
  let sec (n : Nat) := (rejBounded p.eta (shake256 (rhop ++ leBytes 2 n) 1024) [] 0).1
  let s1 := (List.range p.l).map sec
  let s2 := (List.range p.k).map fun i => sec (p.l + i)
  let t := List.zipWith (polyAdd dsaRing) ((dsaMul p rho (s1.map (ntt dsaRing))).map (intt dsaRing)) s2
  { rho := rho, kk := g.drop 96, s1 := s1, s2 := s2, t1 := t.map fun f => f.map fun x => (power2Round dsaQ x).1,
    t0 := t.map fun f => f.map fun x => (power2Round dsaQ x).2 }

/-- The public key encoding. -/
def dsaPub (p : DsaParam) (xi : Bytes) : Bytes := let k := dsaKey p xi; k.rho ++ k.t1.flatMap (packFields 10)

/-- The packing of the hint (Algorithm 20). -/
def hintPack (p : DsaParam) (h : List Poly) : Bytes :=
  let pos (f : Poly) := (f.zipIdx.filter fun x => x.1 != 0).map (·.2)
  let all := h.flatMap pos
  let counts := (List.range p.k).map fun i => ((h.take (i + 1)).flatMap pos).length
  (all ++ List.replicate (p.omega - all.length) 0).map byte ++ counts.map byte

/-- Whether positions rise strictly. -/
def rising : List Nat → Bool
  | a :: b :: r => decide (a < b) && rising (b :: r)
  | _ => true

/-- The unpacking of the hint (Algorithm 21): none where it is malformed. -/
def hintUnpack (p : DsaParam) (bs : Bytes) : Option (List Poly) :=
  let pos := (bs.take p.omega).map (·.toNat)
  let cnt := (bs.drop p.omega).map (·.toNat)
  let starts := 0 :: cnt
  let okc := rising (starts.zipIdx.map fun x => x.1 * 16 + x.2) && cnt.all fun c => decide (c ≤ p.omega)
  let part (i : Nat) := (pos.drop (starts.getD i 0)).take (cnt.getD i 0 - starts.getD i 0)
  let okp := (List.range p.k).all fun i => rising (part i)
  let tail := (pos.drop (cnt.getLast?.getD 0)).all (· == 0)
  if okc && okp && tail then
    some ((List.range p.k).map fun i => (part i).foldl (fun f j => f.set j 1) polyZero)
  else none

/-- w1 packed (Algorithm 28). -/
def w1Pack (p : DsaParam) (w : List Poly) : Bytes := w.flatMap (packFields (if p.g2 = 95232 then 6 else 4))

/-- The message representative of a message with a context (Algorithm 2, 7). -/
def dsaMu (tr ctx m : Bytes) : Bytes := shake256 (tr ++ [0#8, byte ctx.length] ++ ctx ++ m) 64

/-- One round of the signing loop (Algorithm 7) with the masks from `kappa` on. -/
def dsaTry (p : DsaParam) (k : DsaKey) (mu rhopp : Bytes) (kappa : Nat) : Option Bytes :=
  let r := dsaRing
  let y := (List.range p.l).map fun i => maskPoly p.lg1 (shake256 (rhopp ++ leBytes 2 (kappa + i)) (32 * (p.lg1 + 1)))
  let w := (dsaMul p k.rho (y.map (ntt r))).map (intt r)
  let w1 := w.map fun f => f.map (highBits dsaQ p.g2)
  let ct := shake256 (mu ++ w1Pack p w1) p.ctil
  let c := ntt r (sampleInBall p.tau (shake256 ct 1024)).1
  let mulc (f : Poly) := intt r (polyMul r c (ntt r f))
  let z := List.zipWith (polyAdd r) y (k.s1.map mulc)
  let wcs2 := List.zipWith (polySub r) w (k.s2.map mulc)
  let r0 := wcs2.map fun f => f.map (lowBits dsaQ p.g2)
  let beta := p.tau * p.eta
  if z.any (normAtLeast dsaQ (2 ^ p.lg1 - beta)) || r0.any (normAtLeast dsaQ (p.g2 - beta)) then none
  else
    let ct0 := k.t0.map mulc
    let neg := ct0.map fun f => polySub r polyZero f
    let h := List.zipWith (fun a b => List.zipWith (makeHint dsaQ p.g2) a b) neg (List.zipWith (polyAdd r) wcs2 ct0)
    if ct0.any (normAtLeast dsaQ p.g2) || decide (p.omega < (h.map fun f => f.foldl (· + ·) 0).foldl (· + ·) 0) then none
    else some (ct ++ z.flatMap (packPoly dsaQ (p.lg1 + 1) (2 ^ p.lg1) true) ++ hintPack p h)

/-- The signing loop; FIPS 204 lets a limit of its repetitions end it. -/
def dsaLoop (p : DsaParam) (k : DsaKey) (mu rhopp : Bytes) : Nat → Nat → Option Bytes
  | 0, _ => none
  | n + 1, kappa => match dsaTry p k mu rhopp kappa with | some sg => some sg | none => dsaLoop p k mu rhopp n (kappa + p.l)

/-- ML-DSA.Sign with a context, hedged by 32 random bytes. -/
def dsaSign (p : DsaParam) (xi ctx m rnd : Bytes) : Option Bytes :=
  let k := dsaKey p xi
  let tr := shake256 (k.rho ++ k.t1.flatMap (packFields 10)) 64
  let mu := dsaMu tr ctx m
  dsaLoop p k mu (shake256 (k.kk ++ rnd ++ mu) 64) 1000 0

/-- ML-DSA.Verify with a context. -/
def dsaVerify (p : DsaParam) (pub ctx m sig : Bytes) : Bool :=
  let r := dsaRing
  if pub.length ≠ dsaPubLen p ∨ sig.length ≠ dsaSigLen p then false
  else
    let rho := pub.take 32
    let t1 := (List.range p.k).map fun i => unpackBits 10 256 (leNat ((pub.drop (32 + 320 * i)).take 320))
    let zl := 32 * (p.lg1 + 1)
    let ct := sig.take p.ctil
    let z := (List.range p.l).map fun i => unpackPoly dsaQ (p.lg1 + 1) (2 ^ p.lg1) true ((sig.drop (p.ctil + zl * i)).take zl)
    match hintUnpack p (sig.drop (p.ctil + zl * p.l)) with
    | none => false
    | some h =>
      let mu := dsaMu (shake256 pub 64) ctx m
      let c := ntt r (sampleInBall p.tau (shake256 ct 1024)).1
      let az := dsaMul p rho (z.map (ntt r))
      let w := List.zipWith (fun a t => intt r (polySub r a (polyMul r c (ntt r (t.map fun x => x * 8192 % dsaQ))))) az t1
      let w1 := List.zipWith (fun hf f => List.zipWith (useHint dsaQ p.g2) hf f) h w
      !(z.any (normAtLeast dsaQ (2 ^ p.lg1 - p.tau * p.eta))) && decide (shake256 (mu ++ w1Pack p w1) p.ctil = ct)

end Sys2Proof.Machine
end

