-- ==== Sys2Proof/Machine/Vault.lean ====
section
/-! DEFINITION. The vault: reconstruction, keys and handles, update messages, minting, hallmarks, derivation (R170 to R204),
and the RNG (R200 to R206). -/

namespace Sys2Proof.Machine

open Sys2Proof

/-! ### Roots (R171 to R176) -/

/-- The vault replaced. -/
def setVlt (s : State) (x : VltSt) : State := { s with vlt := x }

/-- A secret of the array under the enrolment held. -/
def pufSecret (s : State) (region : Nat) : Bytes :=
  match s.vlt.helper with
  | some h => leBytes 32 (Config.pufSecret region h.enrol).toNat
  | none => zeros 32

/-- The state root (R173). -/
def stateRoot (s : State) : Bytes := kdf (pufSecret s 0) (ascii "JQROOT") ([byte (lcode s), byte s.otp.round] ++ serial)
/-- A key derived from the state root under a label. -/
def stateKey (s : State) (label : String) : Bytes := kdf (stateRoot s) (ascii label) serial
/-- The account-key wrapping key. -/
def akwk (s : State) : Bytes := stateKey s "JQACCTWRAP"
/-- The context wrapping key. -/
def cwk (s : State) : Bytes := stateKey s "JQCTXWRAP"

/-- Whether slots and account keys can be used at all (R176). -/
def vaultUp (s : State) : Bool := decide (s.vlt.puf = .done)

/-- The roots, the sessions and the working keys of every lane are cleared (R174). -/
def vaultClear (s : State) : State :=
  setVlt s { s.vlt with puf := .idle, attempt := 0, rootS := false, rootI := false, sess := [], queue := [], job := none, hold := none }

/-- PUFSTAT: attempts used, COPY_B, REASON and ERRBITS (R203). -/
def pufShow (s : State) (reason errbits : Nat) : State :=
  let b := match s.vlt.helper with | some h => !h.okA && h.okB | none => false
  wr s Reg.VLT_PUFSTAT (word (s.vlt.attempt * 2 ^ 30 + b2n b * 2 ^ 29 + reason * 2 ^ 24 + errbits))

/-- Boot step 4: LOAD, and what follows at once (R175). -/
def pufStart (s : State) : State :=
  match s.vlt.helper with
  | none =>
    if lcode s = 1 then setVlt s { s.vlt with puf := .unenrolled }
    else raise (pufShow (setVlt s { s.vlt with puf := .failed }) 1 0) 5 1
  | some h =>
    if h.okA || h.okB then pufShow (setVlt s { s.vlt with puf := .power, attempt := 1 }) 0 0
    else raise (pufShow (setVlt s { s.vlt with puf := .failed }) 1 0) 5 1

/-- PUF_POWER_DONE: 500 µs after the array was powered, it is read. -/
def doPufPowerDone (s : State) : State := if s.vlt.puf = .power then setVlt s { s.vlt with puf := .read } else s

/-- PUF_READ_DONE. -/
def doPufReadDone (s : State) : State := if s.vlt.puf = .read then setVlt s { s.vlt with puf := .decode } else s

/-- PUF_COOL_DONE. -/
def doPufCoolDone (s : State) : State :=
  if s.vlt.puf = .cool then pufShow (setVlt s { s.vlt with puf := .power, attempt := s.vlt.attempt + 1 }) 0 0 else s

/-! ### Slots and handles (R178 to R183) -/

/-- An empty slot that was never used. -/
def VSlot.empty : VSlot := { gen := 0, key := none, bad := false, copyB := false }
/-- A slot. -/
def vslot (s : State) (k : Nat) : VSlot := mget VSlot.empty s.vlt.slots k
/-- The state with a slot replaced. -/
def setVslot (s : State) (k : Nat) (x : VSlot) : State := setVlt s { s.vlt with slots := mset VSlot.empty s.vlt.slots k x }
/-- A free session entry that was never used. -/
def Sess.empty : Sess := { gen := 0, key := none }
/-- A session entry. -/
def vsess (s : State) (k : Nat) : Sess := mget Sess.empty s.vlt.sess k
/-- The state with a session entry replaced. -/
def setVsess (s : State) (k : Nat) (x : Sess) : State := setVlt s { s.vlt with sess := mset Sess.empty s.vlt.sess k x }

/-- A slot becomes BAD (R179). -/
def slotBad (s : State) (k : Nat) : State := raise (setVslot s k { vslot s k with bad := true }) 5 2

/-- A handle (R181). -/
def handleOf (kind gen idx : Nat) : Nat := kind * 2 ^ 30 + gen * 2 ^ 16 + idx
/-- The kind of a handle. -/
def hKind (h : Nat) : Nat := h / 2 ^ 30 % 4
/-- The generation of a handle. -/
def hGen (h : Nat) : Nat := h / 2 ^ 16 % 2 ^ 14
/-- The index of a handle. -/
def hIdx (h : Nat) : Nat := h % 256
/-- Whether a bit of an attribute field is set. -/
def nbit (n k : Nat) : Bool := n / 2 ^ k % 2 == 1
/-- Bitwise and of attribute fields. -/
def nand (a b : Nat) : Nat := Nat.land a b

/-- Attribute bits (R180). -/
abbrev aENCRYPT : Nat := 0
abbrev aDECRYPT : Nat := 1
abbrev aMAC : Nat := 2
abbrev aSIGN : Nat := 3
abbrev aVERIFY : Nat := 4
abbrev aKEYAGREE : Nat := 5
abbrev aDERIVE : Nat := 6
abbrev aUNWRAP : Nat := 7
abbrev aHALLMARK : Nat := 8
abbrev aERASABLE : Nat := 9
abbrev aLANEGEN : Nat := 10
abbrev aLANEFAB : Nat := 11

/-- DOMAIN of an attribute field. -/
def attrDom (a : Nat) : Nat := a / 2 ^ 16 % 64
/-- The domain check of R182. -/
def domPass (attr dom : Nat) : Bool := dom == attrDom attr || (dom == 0 && nbit attr 22)

/-- The entry a handle names, whatever its state: none where the handle is not valid or its generation has passed. -/
def entryOf (s : State) (h : Nat) : Option KeyRec :=
  if h / 256 % 256 ≠ 0 then none
  else if hKind h = 1 then (if (vslot s (hIdx h)).gen = hGen h then (vslot s (hIdx h)).key else none)
  else if hKind h = 2 && decide (hIdx h < 64) then (if (vsess s (hIdx h)).gen = hGen h then (vsess s (hIdx h)).key else none)
  else none

/-- Whether a handle names a BAD slot. -/
def entryBad (s : State) (h : Nat) : Bool := hKind h == 1 && (vslot s (hIdx h)).bad

/-- A request for a key by its handle (R176, R182): the key, or the status it is refused with; a refusal is counted (R205). The
reserved slots 6 and 7 answer PROTECTED. -/
def keyFor (s : State) (h dom : Nat) (use : KeyRec → Bool) : State × (Nat ⊕ KeyRec) :=
  let no := (bumpSat s Reg.KUW_DENY 15 0, Sum.inl stKEY)
  if hKind h = 1 && (hIdx h == 6 || hIdx h == 7) then (s, .inl stPROT)
  else if !vaultUp s || entryBad s h then no
  else match entryOf s h with
    | some k => if domPass k.attr dom && use k then (s, .inr k) else no
    | none => no

/-- The material length of a key type (R179); none for a reserved type, and for RSA, whose length varies. -/
def ktypeLen (kt : Nat) : Option Nat :=
  if kt = 1 then some 16 else if kt = 2 then some 24 else if kt = 3 then some 32 else if kt = 8 then some 32
  else if kt = 9 then some 64 else if kt = 0x10 then some 32 else if kt = 0x11 then some 48 else if kt = 0x12 then some 72
  else if kt = 0x13 || kt = 0x14 then some 32 else if kt = 0x18 then some 64 else if kt = 0x19 then some 96
  else if 0x28 ≤ kt && kt ≤ 0x2A then some 64 else if 0x2C ≤ kt && kt ≤ 0x2E then some 32 else if kt = 0x2F then some 1952
  else if kt = 0x30 then some 48 else none

/-- Whether a material length is one of a key type. -/
def mlenOk (kt n : Nat) : Bool :=
  if kt = 0x20 then (List.range 7).any fun k => n == 5 * (2048 + 1024 * k) / 16 + 8 else ktypeLen kt == some n

/-- The attributes that R579 permits for a key type, as a mask without DOMAIN and D0_USE. -/
def ktypeMask (kt : Nat) : Nat :=
  if kt = 1 || kt = 2 then 0x747 else if kt = 3 then 0xFC7 else if kt = 8 || kt = 9 then 0x344
  else if kt = 0x10 then 0x3A8 else if kt = 0x11 then 0x328 else if kt = 0x12 || kt = 0x13 then 0x308
  else if kt = 0x14 then 0x320 else if kt = 0x18 || kt = 0x19 || kt = 0x2F then 0x010 else if kt = 0x20 then 0x30A
  else if kt = 0x28 || kt = 0x2A then 0x322 else if kt = 0x29 then 0x3A2
  else if (0x2C ≤ kt && kt ≤ 0x2E) || kt = 0x30 then 0x308 else 0

/-- Whether attributes are permitted for a key type (R180, R579); ERASABLE only where the key is minted. -/
def attrOk (kt attr : Nat) (minted : Bool) : Bool :=
  let m := ktypeMask kt
  let m := if minted then m else m - m / 2 ^ aERASABLE % 2 * 2 ^ aERASABLE
  nand attr (0x7F0000 + m) == attr

/-- Whether a key type is public material. -/
def ktypePublic (kt : Nat) : Bool := kt == 0x18 || kt == 0x19 || kt == 0x2F
/-- Whether a key type is a symmetric key. -/
def ktypeSym (kt : Nat) : Bool := decide (kt < 0x10)

/-- The public key of a key in the encoding of R197; none for a symmetric key. -/
def pubOf (k : KeyRec) : Option Bytes :=
  match k.ktype with
  | 0x10 => some (ecPub p256 (beNat k.mat))
  | 0x11 => some (ecPub p384 (beNat k.mat))
  | 0x12 => some (ecPub p521 (beNat k.mat))
  | 0x13 => some (edPub k.mat)
  | 0x14 => some (x25519 k.mat (9#8 :: zeros 31))
  | 0x18 => some (4#8 :: k.mat)
  | 0x19 => some (4#8 :: k.mat)
  | 0x20 => let r := rsaKey k.mat; some (beBytes r.len (r.p * r.q) ++ beBytes 8 r.e)
  | 0x28 => some (kemKeyGen (kemParam 0) (k.mat.take 32)).1
  | 0x29 => some (kemKeyGen (kemParam 1) (k.mat.take 32)).1
  | 0x2A => some (kemKeyGen (kemParam 2) (k.mat.take 32)).1
  | 0x2C => some (dsaPub (dsaParam 0) k.mat)
  | 0x2D => some (dsaPub (dsaParam 1) k.mat)
  | 0x2E => some (dsaPub (dsaParam 2) k.mat)
  | 0x2F => some k.mat
  | 0x30 => (hssParam k.param).map fun p => hssPub p k.mat
  | _ => none

/-- The length of the public key of a type, for RSA of `bits` (R197). -/
def pubLen (kt bits : Nat) : Nat :=
  if kt = 0x10 then 65 else if kt = 0x11 then 97 else if kt = 0x12 then 133 else if kt = 0x13 || kt = 0x14 then 32
  else if kt = 0x20 then bits / 8 + 8 else if kt = 0x28 then 800 else if kt = 0x29 then 1184 else if kt = 0x2A then 1568
  else if kt = 0x2C then 1312 else if kt = 0x2D then 1952 else if kt = 0x2E then 2592 else if kt = 0x30 then 60 else 0

/-- The lowest NV counter of 16 to 255 that was never bound (R245). -/
def freeCounter (s : State) : Option Nat := ((List.range 240).map (· + 16)).find? fun k => mget 0 s.nv.bound k == 0

/-- A free session entry (R183): not in use, and its generation not used up. -/
def freeSess (s : State) : Option Nat := (List.range 64).find? fun k => (vsess s k).key.isNone && decide ((vsess s k).gen < 16383)

/-- A key put into a session entry; the handle. -/
def newSess (s : State) (k : KeyRec) : Option (State × Nat) :=
  (freeSess s).map fun e =>
    let g := (vsess s e).gen + 1
    (setVsess s e { gen := g, key := some k }, handleOf 2 g e)

/-- A session's key record: a session counts as minted (R198), under no authority. -/
def sessRec (kt attr keyId : Nat) (mat : Bytes) : KeyRec :=
  { ktype := kt, origin := 1, auth := 0xFF, attr := attr, keyId := keyId, nvctr := 0xFF, param := 0, mat := mat }

/-- The programs that a slot's record takes (R178, R480): its pages in the copy that does not hold its newest record. -/
def slotWrites (k : Option KeyRec) (copyB : Bool) : List NvWrite :=
  let m := match k with | some k => (k.mat.length + 7) / 8 * 8 + 8 | none => 0
  List.replicate ((40 + m + 255) / 256) (.held 5 copyB)

/-- A slot whose record has been written takes effect: it replaces the old, and a slot that is emptied recalls its key (R187);
an LMS key binds its counter (R245). -/
def putSlot (s : State) (k : Nat) (x : VSlot) : State :=
  let old := vslot s k
  let s := if x.key.isNone && old.key.isSome then recallKey s (handleOf 1 old.gen k) else s
  let s := setVslot s k x
  match x.key with
  | some r => if r.ktype = 0x30 then setNv s { s.nv with bound := mset 0 s.nv.bound r.nvctr (k + 1) } else s
  | none => s

/-! ### Commands: their source, input, output and end (R203, R204, R578) -/

/-- A vault command ends: the status, the handle, and the output, which is written where it fits (R203, R329). -/
def vEnd (s : State) (q : VReq) (status result : Nat) (out : Bytes) : State :=
  let s := if status = stOK && !out.isEmpty then unitWrite s q.dom q.obuf out else s
  let n := if status = stOK then out.length else 0
  match q.src with
  | .page => wr (wr (wr s Reg.VLT_CMDSTAT (word status)) Reg.VLT_RESULT (word result)) Reg.VLT_OUTLEN (word n)
  | src => jobReport s src q.dom 32 status (leBytes 4 result ++ leBytes 2 n)

/-- An argument of a command. -/
def VReq.arg (q : VReq) (k : Nat) : Nat := q.args.getD k 0

/-- The input of a command (R338, R578). -/
def vIn (s : State) (q : VReq) (n : Nat) : State × (Nat ⊕ Bytes) :=
  if n = 0 then (s, .inr []) else if !rangeSram q.buf n || !banksUp s q.buf n then (s, .inl stDOMAIN) else unitRead s q.dom q.buf n

/-- What forbids an output of `n` bytes: it does not fit, or it leaves the banks (R203, R578). -/
def vOut (s : State) (q : VReq) (n : Nat) : Option Nat :=
  if n = 0 then none else if q.olen < n then some stNORES else if !rangeSram q.obuf n || !banksUp s q.obuf n then some stDOMAIN else none

/-- Whether a big-number lane takes internal work (R271). -/
def bneInternal (s : State) : Bool :=
  (List.range 4).any fun n => laneUp s (bnePage n) && bit (rd s (hdr (bnePage n) 0x80)) 31 && !outOfService s 0x14

/-- Whether KUW works (R205, R498): while it is out of service or halted every slot use waits. -/
def kuwWaits (s : State) : Bool := halted s || outOfService s 0x0C || bit (rd s (hdr 0x0C Off.CTRL)) 2

/-! ### MINT (R183, R196) -/

/-- The material of a new key of a type from random bytes (R196); RSA takes `bits`. -/
def mintMat (kt bits : Nat) (r : Bytes) : Bytes :=
  let scalar (c : Curve) : Bytes := beBytes c.priv (beNat r % (c.n - 1) + 1)
  if kt = 0x10 then scalar p256 else if kt = 0x11 then scalar p384 else if kt = 0x12 then scalar p521
  else if kt = 0x20 then
    let h := bits / 16
    let pr (bs : Bytes) : Nat := (beNat (bs.take h) % 2 ^ (8 * h - 2) + 3 * 2 ^ (8 * h - 2)) / 2 * 2 + 1
    rsaMat h (pr r) (pr (r.drop h)) 65537
  else r

/-- The random bytes that a new key takes. -/
def mintLen (kt bits : Nat) : Nat := if kt = 0x20 then bits / 8 else if 0x10 ≤ kt && kt ≤ 0x12 then (ktypeLen kt).getD 0 + 8 else (ktypeLen kt).getD 0

/-- The modulus length of a new RSA key, and PARAM of a new LMS key, which no argument of the command gives: free values. -/
def mintOpen (s : State) (kt : Nat) : (Nat × Nat) × State :=
  if kt = 0x20 then let (k, s) := fresh s; ((2048 + 1024 * ((Config.free 8 k).toNat % 7), 0), s)
  else if kt = 0x30 then let (k, s) := fresh s; ((0, (Config.free 8 k).toNat), s)
  else ((0, 0), s)

/-- A transaction of the vault: the counter it sets, if any, and the pages it writes. -/
def vTxn (s : State) (ws : List NvWrite) : State × Nat :=
  txnSubmit (setVlt s { s.vlt with refs := s.vlt.refs + 1 }) 1 s.vlt.refs 0 ws

/-- The vault works on a command until its transaction ends. -/
def vWait (s : State) (q : VReq) (w : VWork) : State := setVlt s { s.vlt with job := some { req := q, work := w } }

/-- Submit a slot's record and wait for the commit, or end with the refusal. -/
def vPutSlots (s : State) (q : VReq) (extra : List NvWrite) (put : List (Nat × VSlot)) (cause result : Nat) (out : Bytes) : State :=
  match vTxn s (put.flatMap (fun kx => slotWrites kx.2.key kx.2.copyB) ++ extra) with
  | (s, 0) => vWait s q (.slots put cause result out)
  | (s, st) => vEnd s q st 0 []

/-- MINT. -/
def vMint (s : State) (q : VReq) : State :=
  let kt := q.arg 0 / 2 ^ 24 % 256
  let sess := nbit (q.arg 0) 8
  let slot := q.arg 0 % 256
  let attr := q.arg 1 + 2 ^ 32 * q.arg 2
  let old := vslot s slot
  if !sess && (q.dom ≠ 0 || q.src ≠ .page || decide (slot < 8)) then vEnd s q stPROT 0 []
  else if (!sess && old.key.isSome) || (sess && (freeSess s).isNone) then vEnd s q stNORES 0 []
  else if !(ktypeLen kt).isSome && kt ≠ 0x20 || ktypePublic kt || (kt = 0x30 && sess) || !attrOk kt attr true then vEnd s q stBADPROF 0 []
  else
    let ((bits, param), s) := mintOpen s kt
    if kt = 0x30 && (hssParam param).isNone then vEnd s q stBADPROF 0 []
    else if !sess && !vaultUp s then vEnd s q stKEY 0 []
    else
      let (s, g) := if sess then (s, stOK) else nvGate s true
      if g ≠ stOK then vEnd s q g 0 []
      else if !sess && decide (16383 ≤ old.gen) then vEnd s q stEXHAUST 0 []
      else if kt = 0x30 && (freeCounter s).isNone then vEnd s q stNORES 0 []
      else match vOut s q (pubLen kt bits) with
        | some st => vEnd s q st 0 []
        | none =>
          let s := if bit (rd s Reg.RNG_CFG) 0 && drbgReady s then reseeded s else s
          match drbg s (mintLen kt bits) with
          | none => vEnd s q stNORES 0 []
          | some (r, s) =>
            let k : KeyRec := { ktype := kt, origin := 1, auth := 0xFF, attr := attr, keyId := q.arg 3,
                                nvctr := if kt = 0x30 then (freeCounter s).getD 0 else 0xFF, param := param, mat := mintMat kt bits r }
            let out := if ktypeSym kt then [] else (pubOf k).getD []
            if sess then
              match newSess s k with
              | some (s, h) => raise (vEnd s q stOK h out) 5 5
              | none => vEnd s q stNORES 0 []
            else
              vPutSlots s q [] [(slot, { gen := old.gen + 1, key := some k, bad := false, copyB := !old.copyB })] 5
                (handleOf 1 (old.gen + 1) slot) out

/-! ### OPEN, GETPUB, DESTROY, GETID (R197, R204) -/

/-- OPEN: the current handle of a slot the requester may use. -/
def vOpen (s : State) (q : VReq) : State :=
  let k := q.arg 0 % 256
  let h := handleOf 1 (vslot s k).gen k
  match keyFor s h q.dom fun _ => true with
  | (s, .inl st) => vEnd s q st 0 []
  | (s, .inr _) => vEnd s q stOK h []

/-- Give an output, or the status that forbids it. -/
def vGive (s : State) (q : VReq) (result : Nat) (out : Bytes) : State :=
  match vOut s q out.length with
  | some st => vEnd s q st 0 []
  | none => vEnd s q stOK result out

/-- GETPUB: a symmetric key has no public key. -/
def vGetpub (s : State) (q : VReq) : State :=
  match keyFor s (q.arg 0) q.dom fun k => !ktypeSym k.ktype with
  | (s, .inl st) => vEnd s q st 0 []
  | (s, .inr k) => vGive s q 0 ((pubOf k).getD [])

/-- DESTROY: of a minted slot with ERASABLE by D0, and of a session by its domain (R197). -/
def vDestroy (s : State) (q : VReq) : State :=
  let h := q.arg 0
  match entryOf s h with
  | none => vEnd (bumpSat s Reg.KUW_DENY 15 0) q stKEY 0 []
  | some k =>
    if hKind h = 1 then
      if q.dom ≠ 0 || q.src ≠ .page || k.origin ≠ 1 || !nbit k.attr aERASABLE || decide (hIdx h < 8) then vEnd s q stPROT 0 []
      else
        let (s, g) := nvGate s true
        let old := vslot s (hIdx h)
        if g ≠ stOK then vEnd s q g 0 []
        else vPutSlots s q [] [(hIdx h, { gen := min 16383 (old.gen + 1), key := none, bad := false, copyB := !old.copyB })] 31 0 []
    else if q.dom ≠ attrDom k.attr then vEnd s q stPROT 0 []
    else
      let s := setVsess s (hIdx h) { vsess s (hIdx h) with key := none }
      vEnd (recallKey s h) q stOK 0 []

/-- A slot's key as the vault itself uses it: present, not BAD, and the vault has its roots. -/
def slotKey (s : State) (k : Nat) : Option KeyRec := if vaultUp s && !(vslot s k).bad then (vslot s k).key else none

/-- GETID: the identity public keys. -/
def vGetid (s : State) (q : VReq) : State :=
  match slotKey s 0, slotKey s 1 with
  | some a, some b => vGive s q 0 ((pubOf a).getD [] ++ (pubOf b).getD [])
  | _, _ => vEnd s q stKEY 0 []

/-! ### Hallmarks (R198, R199) -/

/-- The two signatures of the identity keys over a statement. -/
def identSign (s : State) (m : Bytes) : State × (Nat ⊕ Bytes) :=
  match slotKey s 0, slotKey s 1 with
  | some a, some b =>
    match drbg s 88 with
    | none => (s, .inl stNORES)
    | some (r, s) =>
      let ec := ecdsaSign p384 (beNat a.mat) (beNat (r.take 56) % (p384.n - 1) + 1) (sha384 m)
      match dsaSign (dsaParam 1) b.mat [] m (r.drop 56) with
      | some pq => (s, .inr (ec ++ pq))
      | none => (s, .inl stLANE)
  | _, _ => (s, .inl stKEY)

/-- The 128-byte statement. -/
def statement (s : State) (kind slot kt origin keyId attr : Nat) (nonce : Bytes) (gen : Nat) (digest : Bytes) : Bytes :=
  [0x4A#8, 0x51#8, 0x48#8, 0x4D#8, 1#8, byte kind, byte (lcode s), byte s.otp.round] ++ serial ++
    [byte slot, byte kt, byte origin, 0#8] ++ leBytes 4 keyId ++ leBytes 8 attr ++ nonce ++ leBytes 4 (rtcSecs s) ++
    leBytes 2 gen ++ [0#8, 0#8] ++ digest ++ zeros 16

/-- Sign a statement and give it out. -/
def vStatement (s : State) (q : VReq) (mk : Bytes → Bytes) : State :=
  match vIn s q 16 with
  | (s, .inl st) => vEnd s q st 0 []
  | (s, .inr nonce) =>
    match vOut s q 3533 with
    | some st => vEnd s q st 0 []
    | none =>
      match identSign s (mk nonce) with
      | (s, .inl st) => vEnd s q st 0 []
      | (s, .inr sg) => raise (vEnd s q stOK 0 (mk nonce ++ sg)) 5 6

/-- HALLMARK. -/
def vHallmark (s : State) (q : VReq) : State :=
  let h := q.arg 0
  match keyFor s h q.dom fun _ => true with
  | (s, .inl st) => vEnd s q st 0 []
  | (s, .inr k) =>
    if k.origin = 2 || !nbit k.attr aHALLMARK || lcode s = 5 then vEnd s q stPROT 0 []
    else
      let digest := match pubOf k with | some p => sha384 p | none => zeros 48
      vStatement s q fun nonce => statement s 1 (if hKind h = 1 then hIdx h else 0xFF) k.ktype k.origin k.keyId k.attr nonce (hGen h) digest

/-- REPORT. -/
def vReport (s : State) (q : VReq) : State :=
  if lcode s = 1 then vEnd s q stKEY 0 [] else vStatement s q fun nonce => statement s 2 0xFF 0 0 0 0 nonce 0 (zeros 48)

/-! ### DERIVE and AGREE (R204) -/

/-- The attributes of a session output: DOMAIN is the requester's. -/
def outAttr (attr dom : Nat) : Nat := attr - attrDom attr * 2 ^ 16 + dom * 2 ^ 16

/-- Derived bytes for a key type: the output of one iteration; a longer key takes free values beyond it. -/
def derivedMat (s : State) (kt : Nat) (o : Bytes) : Bytes × State :=
  let n := (ktypeLen kt).getD 0
  if n ≤ 32 then (o.take n, s) else let (r, s) := freeBytes (n - 32) s; (o ++ r, s)

/-- A session key from derived bytes. -/
def vNewKey (s : State) (q : VReq) (kt attr : Nat) (o : Bytes) : State :=
  let (m, s) := derivedMat s kt o
  match newSess s (sessRec kt attr 0 m) with
  | some (s, h) => vEnd s q stOK h []
  | none => vEnd s q stNORES 0 []

/-- Whether a key type is one that a derivation can give, with its attributes. -/
def outKeyOk (q : VReq) : Bool :=
  let kt := q.arg 1 / 2 ^ 24 % 256
  (kt == 1 || kt == 2 || kt == 3 || kt == 8 || kt == 9) && attrOk kt (q.arg 2) false

/-- DERIVE. -/
def vDerive (s : State) (q : VReq) : State :=
  let kt := q.arg 1 / 2 ^ 24 % 256
  let n := q.arg 3
  if n = 0 || decide (64 < n) || !outKeyOk q then vEnd s q stBADPROF 0 []
  else match vIn s q n with
    | (s, .inl st) => vEnd s q st 0 []
    | (s, .inr label) =>
      match keyFor s (q.arg 0) q.dom fun k => nbit k.attr aDERIVE with
      | (s, .inl st) => vEnd s q st 0 []
      | (s, .inr k) => vNewKey s q kt (outAttr (q.arg 2) q.dom) (kdf k.mat label serial)

/-- The length of the peer's input of a key agreement. -/
def peerLen (kt : Nat) : Nat :=
  if kt = 0x10 then 65 else if kt = 0x11 then 97 else if kt = 0x14 then 32
  else if kt = 0x28 then 768 else if kt = 0x29 then 1088 else 1568

/-- The shared secret of a key with a peer's input; none where that is malformed. -/
def sharedSecret (k : KeyRec) (peer : Bytes) : Option Bytes :=
  match k.ktype with
  | 0x10 => (ecSec1 p256 peer).bind (ecdh p256 (beNat k.mat))
  | 0x11 => (ecSec1 p384 peer).bind (ecdh p384 (beNat k.mat))
  | 0x14 => some (x25519 k.mat peer)
  | 0x28 => some (kemDecaps (kemParam 0) k.mat peer)
  | 0x29 => some (kemDecaps (kemParam 1) k.mat peer)
  | 0x2A => some (kemDecaps (kemParam 2) k.mat peer)
  | _ => none

/-- AGREE. -/
def vAgree (s : State) (q : VReq) : State :=
  if !outKeyOk q then vEnd s q stBADPROF 0 []
  else match keyFor s (q.arg 0) q.dom fun k => nbit k.attr aKEYAGREE with
    | (s, .inl st) => vEnd s q st 0 []
    | (s, .inr k) =>
      match vIn s q (peerLen k.ktype) with
      | (s, .inl st) => vEnd s q st 0 []
      | (s, .inr peer) =>
        match sharedSecret k peer with
        | none => vEnd s q stBADPROF 0 []
        | some z => vNewKey s q (q.arg 1 / 2 ^ 24 % 256) (outAttr (q.arg 2) q.dom) (kdf z (ascii "JQAGREE") serial)

/-- ENROLL (R171, R204): in TEST only. -/
def vEnroll (s : State) (q : VReq) : State :=
  if lcode s ≠ 1 then vEnd s q stPROT 0 []
  else
    let (s, g) := nvGate s true
    if g ≠ stOK then vEnd s q g 0 []
    else
      let (k, s) := fresh s
      vEnd (setVlt s { s.vlt with helper := some { enrol := k, okA := true, okB := true, regionS := true } }) q stOK 0 []

/-! ### UPDATE (R188 to R194) -/

/-- A little-endian field of a message. -/
def mfld (m : Bytes) (off n : Nat) : Nat := leNat ((m.drop off).take n)

/-- Check 1 of R190, with the forms of R189. -/
def updForm (m : Bytes) : Bool :=
  let op := mfld m 6 1
  let tr := mfld m 7 1
  let kt := mfld m 44 1
  let attr := mfld m 36 8
  let bl := mfld m 46 2
  let wrapped (n : Nat) : Nat := (n + 7) / 8 * 8 + 8
  let lens : List Nat := if kt = 0x20 then (List.range 7).map fun k => 5 * (2048 + 1024 * k) / 16 + 8 else (ktypeLen kt).toList
  decide (3469 ≤ m.length) && decide (m.length ≤ 8192) && decide (m.take 4 = [0x4A#8, 0x51#8, 0x55#8, 0x50#8]) && mfld m 4 1 == 1 &&
    ((m.drop 48).take 16).all (· == 0#8) && decide (mfld m 5 1 ≤ 2) && decide (1 ≤ op) && decide (op ≤ 4) && decide (tr ≤ 2) &&
    m.length == 64 + bl + 3405 && (if op = 3 then decide (mfld m 30 2 ≤ 1) else mfld m 30 2 == 0) &&
    (tr ≠ 0 || mfld m 45 1 == 0) &&
    (if op = 1 then
      (tr ≠ 0 || ktypePublic kt) && attrOk kt attr false &&
        lens.any fun n => bl == (if tr = 0 then n else if tr = 1 then wrapped n else wrapped n + 1153)
    else if op = 3 then attr == 0 && kt == 1 && ((tr == 1 && bl == 24) || (tr == 2 && bl == 1177))
    else attr == 0 && kt == 0 && tr == 0 && bl == (if op = 2 then 0 else 2048))

/-- The anchor of an authority (R190, check 3): its P-384 point and its ML-DSA-65 key. -/
def anchorOf (s : State) (auth : Nat) : Option (Bytes × Bytes) :=
  if !vaultUp s then none
  else if auth = 0 then some ((List.range 96).map Config.vendorKey, (List.range 1952).map fun k => Config.vendorKey (96 + k))
  else match slotKey s (2 * auth), slotKey s (2 * auth + 1) with
    | some a, some b => if a.ktype = 0x19 && b.ktype = 0x2F then some (a.mat, b.mat) else none
    | _, _ => none

/-- An update is rejected with a status and a reason (R190). -/
def vReject (s : State) (q : VReq) (status reason : Nat) : State :=
  raise (vEnd (wr s Reg.VLT_REJECT (word reason)) q status 0 []) 5 4

/-- Checks 1 to 3 of an update message; the signatures follow. -/
def vUpdateMsg (s : State) (q : VReq) (m : Bytes) : State :=
  if !updForm m then vReject s q stBADPROF 1
  else if (m.drop 8).take 16 ≠ serial then vReject s q stNOTOWN 2
  else if (anchorOf s (mfld m 5 1)).isNone then vReject s q stKEY 3
  else vWait s q (.sigs m)

/-- UPDATE: the message is read and checked. -/
def vUpdate (s : State) (q : VReq) : State :=
  match vIn s q (q.arg 0) with
  | (s, .inl st) => vEnd s q st 0 []
  | (s, .inr m) => vUpdateMsg s q m

/-- Checks 4 and 5: both signatures over bytes 0 to 63 + BODY_LEN. -/
def updSigs (s : State) (m : Bytes) : Bool × Bool :=
  let n := 64 + mfld m 46 2
  match anchorOf s (mfld m 5 1) with
  | some (ec, pq) =>
    ((match ecPoint p384 ec with | some pt => ecdsaVerify p384 pt (sha384 (m.take n)) ((m.drop n).take 96) | none => false),
     dsaVerify (dsaParam 1) pq [] (m.take n) (m.drop (n + 96)))
  | none => (false, false)

/-- Whether a slot is empty. -/
def slotEmpty (s : State) (k : Nat) : Bool := (vslot s k).key.isNone
/-- The authority of a slot's key. -/
def slotAuth (s : State) (k : Nat) : Nat := match (vslot s k).key with | some r => r.auth | none => 0xFF

/-- Check 7: the permissions of R192. -/
def updAllowed (s : State) (m : Bytes) : Bool :=
  let auth := mfld m 5 1
  let op := mfld m 6 1
  let t := mfld m 28 2
  let lc := lcode s
  if op = 3 then auth == 1 && lc == 3 && decide (t < 1024) && acctFlag s t 0
  else if t = 0 || t = 1 || t = 6 || t = 7 || 255 < t then false
  else if auth = 0 then
    (lc == 1 && (op ≠ 4 || t == 2 || t == 4)) || ((lc == 2 || lc == 4) && op == 4 && t == 2)
  else if lc ≠ 3 then false
  else if op = 4 then t == 4 && (auth == 2 || (slotEmpty s 4 && slotEmpty s 5))
  else
    decide (8 ≤ t) && (slotEmpty s t || slotAuth s t == auth) &&
      (auth == 1 || (if op = 1 then attrDom (mfld m 36 8) == 1
        else match (vslot s t).key with | some r => attrDom r.attr == 1 | none => false))

/-- The key-encryption key of a transport (R189): none where a transport slot is not usable. -/
def transportKey (s : State) (m : Bytes) : Option Bytes :=
  let ts := mfld m 45 1
  let ok (k : KeyRec) (kt : Nat) : Bool := k.ktype == kt && nbit k.attr aUNWRAP
  if mfld m 7 1 = 1 then
    match slotKey s ts with
    | some k => if ok k 3 && attrDom k.attr = 0 then some k.mat else none
    | none => none
  else
    let body := m.drop 64
    match slotKey s ts, slotKey s (ts + 1) with
    | some a, some b =>
      if ok a 0x29 && ok b 0x10 then
        match (ecSec1 p256 ((body.drop 1088).take 65)).bind (ecdh p256 (beNat b.mat)) with
        | some x => some (kdf (kemDecaps (kemParam 1) a.mat (body.take 1088) ++ x) (ascii "JQKEK") (serial ++ (m.drop 24).take 4))
        | none => none
      else none
    | _, _ => none

/-- A failed integrity check of RFC 3394 in KUW (R205). -/
def icvFail (s : State) : State := raise (bumpSat s Reg.KUW_ICVFAIL 15 0) 0x0C 1

/-- Check 10: the material of a message. -/
def updMaterial (s : State) (m : Bytes) : State × Option Bytes :=
  let op := mfld m 6 1
  let tr := mfld m 7 1
  let body := (m.drop 64).take (mfld m 46 2)
  let lenOk (x : Bytes) : Option Bytes := if (if op = 3 then x.length == 16 else if op = 1 then mlenOk (mfld m 44 1) x.length else true) then some x else none
  if tr = 0 then (s, lenOk body)
  else if !enabled s 0x0C then (s, none)
  else match transportKey s m with
    | none => (s, none)
    | some kek =>
      match keyUnwrap kek (if tr = 1 then body else body.drop 1153) with
      | some x => (s, lenOk x)
      | none => (icvFail s, none)

/-- The slots an INSTALL, ERASE or ANCHOR puts in place; the counter and PARAM of an LMS key are given. -/
def updSlots (s : State) (m mat : Bytes) (nvctr param : Nat) : List (Nat × VSlot) :=
  let op := mfld m 6 1
  let t := mfld m 28 2
  let one (k kt attr nv pa : Nat) (x : Bytes) : Nat × VSlot :=
    (k, { gen := (vslot s k).gen + 1, bad := false, copyB := !(vslot s k).copyB
          key := some { ktype := kt, origin := 2, auth := mfld m 5 1, attr := attr, keyId := mfld m 32 4, nvctr := nv, param := pa, mat := x } })
  if op = 1 then [one t (mfld m 44 1) (mfld m 36 8) nvctr param mat]
  else if op = 2 then [(t, { gen := (vslot s t).gen + 1, bad := false, copyB := !(vslot s t).copyB, key := none })]
  else [one t 0x19 (2 ^ aVERIFY) 0xFF 0 (mat.take 96), one (t + 1) 0x2F (2 ^ aVERIFY) 0xFF 0 (mat.drop 96)]

/-- The key entry that an ACCOUNT_KEY message writes (R84, R194). -/
def acctEntry (s : State) (m mat : Bytes) : Bytes := [1#8, 16#8, 0#8, 0#8] ++ (m.drop 32).take 4 ++ keyWrap (akwk s) mat ++ zeros 16

/-- The last checks and the start of the transaction, once the material is there (R190, R193, R194, R245). -/
def updApply (s : State) (q : VReq) (m mat : Bytes) : State :=
  let op := mfld m 6 1
  let t := mfld m 28 2
  if op = 3 then vWait s q (.gate m (acctEntry s m mat))
  else if decide (16383 ≤ (vslot s t).gen) || (op = 4 && decide (16383 ≤ (vslot s (t + 1)).gen)) then vReject s q stEXHAUST 11
  else
    let lms := op = 1 && mfld m 44 1 = 0x30
    let ((_, param), s) := if lms then mintOpen s 0x30 else ((0, 0), s)
    if lms && (hssParam param).isNone then vReject s q stBADPROF 1
    else if lms && (freeCounter s).isNone then raise (vEnd s q stNORES 0 []) 5 4
    else vPutSlots s q [.base (mfld m 5 1) (mfld m 24 4)]
      (updSlots s m mat (if lms then (freeCounter s).getD 0 else 0xFF) param) 3 0 []

/-- Checks 4 to 11 (R190). -/
def updChecks (s : State) (q : VReq) (m : Bytes) : State :=
  let (ec, pq) := updSigs s m
  let s := setVlt s { s.vlt with job := none }
  if !ec then vReject s q stAUTH 4
  else if !pq then vReject s q stAUTH 5
  else if mfld m 24 4 ≤ ctrValue s (mfld m 5 1) then vReject s q stREPLAY 6
  else if !updAllowed s m then vReject s q stPROT 7
  else
    let (s, g) := nvGate s true
    if g ≠ stOK then vReject s q g (if g = stPROT then 8 else 9)
    else match updMaterial s m with
      | (s, none) => vReject s q stKEY 10
      | (s, some mat) => updApply s q m mat

/-! ### The queue (R204) -/

/-- Whether a command must wait before it starts: for KUW, where it uses a key, and for a big-number lane (R6, R205). -/
def vWaits (s : State) (q : VReq) : Bool :=
  (lmem q.op [5, 6, 8, 9] && kuwWaits s) ||
  (((q.op == 2 && decide (0x10 ≤ q.arg 0 / 2 ^ 24 % 256)) || lmem q.op [4, 5, 6, 9, 10]) && !bneInternal s)

/-- A command starts; one that CP0 does not reach ends with PROTECTED for a core (R204, R329). -/
def vStart (s : State) (q : VReq) : State :=
  if q.src ≠ .page && !(decide (2 ≤ q.op) && decide (q.op ≤ 0x0A)) then vEnd s q stPROT 0 []
  else match q.op with
  | 0x01 => vUpdate s q
  | 0x02 => vMint s q
  | 0x03 => vOpen s q
  | 0x04 => vGetpub s q
  | 0x05 => vHallmark s q
  | 0x06 => vReport s q
  | 0x07 => vDestroy s q
  | 0x08 => vDerive s q
  | 0x09 => vAgree s q
  | 0x0A => vGetid s q
  | 0x0B => vEnroll s q
  | _ => vEnd s q stNORES 0 []

/-- Commands start in arrival order, one at a time, as far as none waits. -/
def vRun : Nat → State → State
  | 0, s => s
  | n + 1, s =>
    match s.vlt.job, s.vlt.queue with
    | none, q :: rest => if vWaits s q then s else vRun n (vStart (setVlt s { s.vlt with queue := rest }) q)
    | _, _ => s

/-- The vault takes up what waits. -/
def vaultRun (s : State) : State := vRun 9 s

/-- The vault command of the page registers (R203). -/
def pageReq (s : State) (op : Nat) : VReq :=
  { src := .page, dom := 0, op := op, args := (List.range 4).map fun k => (rd s (Reg.VLT_ARG + 4 * k)).toNat
    buf := (rd s Reg.VLT_BUF).toNat, obuf := (rd s Reg.VLT_OBUF).toNat, olen := fld (rd s Reg.VLT_OLEN) 15 0 }

/-- A write of VLT_CMD (R203, R204): discarded with KIND 4 while BUSY. -/
def vltCmd (s : State) (i : Initiator) (op : Nat) : State :=
  guardW s i Reg.VLT_CMD fun s =>
    if bit (rd s Reg.VLT_CMDSTAT) 31 then noteErr s i 5 0x80 4 true
    else
      let s := wr s Reg.VLT_CMDSTAT 0x80000000#32
      vaultRun (setVlt s { s.vlt with queue := s.vlt.queue ++ [pageReq s op] })

/-- UPDATE: OP 0x01 written to VLT_CMD. -/
def doVltUpdate (i : Initiator) (s : State) : State := vltCmd s i 0x01
/-- MINT. -/
def doVltMint (i : Initiator) (s : State) : State := vltCmd s i 0x02
/-- OPEN. -/
def doVltOpen (i : Initiator) (s : State) : State := vltCmd s i 0x03
/-- GETPUB. -/
def doVltGetpub (i : Initiator) (s : State) : State := vltCmd s i 0x04
/-- HALLMARK. -/
def doHallmark (i : Initiator) (s : State) : State := vltCmd s i 0x05
/-- REPORT. -/
def doReport (i : Initiator) (s : State) : State := vltCmd s i 0x06
/-- DESTROY. -/
def doVltDestroy (i : Initiator) (s : State) : State := vltCmd s i 0x07
/-- DERIVE. -/
def doVltDerive (i : Initiator) (s : State) : State := vltCmd s i 0x08
/-- AGREE. -/
def doVltAgree (i : Initiator) (s : State) : State := vltCmd s i 0x09
/-- GETID. -/
def doVltGetid (i : Initiator) (s : State) : State := vltCmd s i 0x0A
/-- ENROLL. -/
def doVltEnroll (i : Initiator) (s : State) : State := vltCmd s i 0x0B

/-- UPDATE_SIGS_VERIFIED: both verifications have ended on big-number lanes, and checks 4 to 11 follow. -/
def doUpdateSigsVerified (s : State) : State :=
  match s.vlt.job with
  | some ⟨q, .sigs m⟩ =>
    if !bneInternal s || (kuwWaits s && mfld m 7 1 != 0) then s else vaultRun (updChecks s q m)
  | _ => s

/-- The key entries and FLAGS of an account after an install (R194). -/
def installEntry (pair : Bytes) (cur pend : Bool) (entry : Bytes) : Bytes :=
  let a := pair.take 48
  let b := (pair.drop 48).take 48
  let clr (e : Bytes) : Bytes := (e.take 1).map (fun x => x &&& 0xFE#8) ++ e.drop 1
  if pend then (if cur then entry ++ b else a ++ entry)
  else if cur then clr a ++ entry else entry ++ clr b

/-- An account's key entries and flags take effect in banks 31 and 30 (R194). -/
def acctInstall (s : State) (m entry : Bytes) : State :=
  let a := mfld m 28 2
  let pend := mfld m 30 2 == 1
  let e := installEntry (sramRead s (keyAddr a) 96) (acctFlag s a 2) pend entry
  let s := bankWrite s .intake (keyAddr a) e
  markDirty (acctSetFlags s a [(3, pend), (4, false)]) a

/-- The transaction of the vault's command has ended: it takes effect and the command completes (R193). -/
def vaultEnded (s : State) : State :=
  match s.vlt.job with
  | none => s
  | some ⟨q, w⟩ =>
    match takeDone s (.txn 1 (s.vlt.refs - 1)) with
    | none => s
    | some (st, s) =>
      let s := setVlt s { s.vlt with job := none, hold := none }
      if st ≠ stOK then vaultRun (vEnd s q st 0 [])
      else match w with
        | .slots put cause result out =>
          let s := put.foldl (fun s kx => putSlot s kx.1 kx.2) s
          let s := vEnd s q stOK result out
          vaultRun (if cause < 29 then raise s 5 cause else s)
        | .acct m entry => vaultRun (raise (vEnd (acctInstall s m entry) q stOK 0 []) 5 3)
        | _ => s

/-- The end of the vault's transaction; a command that waits for the account it held then runs. -/
def vaultCommit (s : State) : State := gateNext (vaultEnded s)

/-- UPDATE_COMMIT: the daybook commit is written; the same ends a mint or a destruction of a slot. -/
def doUpdateCommit (s : State) : State := vaultCommit s

/-- ACCOUNT_KEY_INSTALL: the vault takes the account at its gate and writes the page in the transaction; once that is committed,
it installs the entry in bank 31 and releases the account (R194). -/
def doAccountKeyInstall (s : State) : State :=
  match s.vlt.job with
  | some ⟨q, .gate m entry⟩ =>
    let a := mfld m 28 2
    if acctHeld s a then s
    else
      let lid := a / 2
      let page := match newestPage s 6 lid with | some (_, f) => (f.data ++ zeros 192).take 192 | none => zeros 192
      let off := a % 2 * 96
      let mine := installEntry ((page.drop off).take 96) (acctFlag s a 2) (mfld m 30 2 == 1) entry
      let page := page.take off ++ mine ++ page.drop (off + 96)
      let s := setVlt s { s.vlt with job := none, hold := some a }
      match vTxn s [.page 6 lid 3 (page ++ zeros 64), .base (mfld m 5 1) (mfld m 24 4)] with
      | (s, 0) => vWait s q (.acct m entry)
      | (s, st) => gateNext (vaultRun (vEnd (setVlt s { s.vlt with hold := none }) q st 0 []))
  | some ⟨_, .acct _ _⟩ => vaultCommit s
  | _ => s

/-- The header of a slot (R178), byte by byte; an empty slot has its number and generation. -/
def slotHeader (s : State) (k : Nat) : Bytes :=
  let x := vslot s k
  match x.key with
  | some r => [byte k, byte r.ktype, byte r.origin, byte r.auth] ++ leBytes 2 x.gen ++ leBytes 2 r.mat.length ++ leBytes 8 r.attr ++
      leBytes 4 r.keyId ++ [byte r.nvctr, byte r.param, 0#8, 0#8]
  | none => if x.gen = 0 then zeros 24 else [byte k, 0#8, 0#8, 0xFF#8] ++ leBytes 2 x.gen ++ zeros 14 ++ [0xFF#8, 0#8, 0#8, 0#8]

/-- VLT_SIDX (R203): a write captures the slot's header. -/
def doVltSidx (i : Initiator) (v : Word) (s : State) : State :=
  guardW s i Reg.VLT_SIDX fun s =>
    let s := wr s Reg.VLT_SIDX (v &&& 0xFF#32)
    let h := slotHeader s (fld v 7 0)
    (List.range 6).foldl (fun s k => wr s (Reg.VLT_SINFO + 4 * k) (word (leNat ((h.drop (4 * k)).take 4)))) s

/-- PUF_DECODE_DONE (R175, R179): whether the check values match, the bits of region S in error, and the slots whose record
fails its tag or integrity check at the load that follows. -/
def doPufDecodeDone (ok : Bool) (errbits : BitVec 15) (bad : List (Fin 256)) (s : State) : State :=
  if s.vlt.puf ≠ .decode then s
  else if ok then
    let s := setVlt s { s.vlt with puf := .done, rootS := lcode s != 5, rootI := lcode s != 1 }
    let s := pufShow s 0 errbits.toNat
    let s := bad.foldl (fun s k => if (vslot s k.val).key.isSome then slotBad s k.val else s) s
    vaultRun s
  else if s.vlt.attempt < 3 then raise (setVlt s { s.vlt with puf := .cool }) 5 0
  else raise (pufShow (setVlt s { s.vlt with puf := .failed }) 2 0) 5 1

/-! ### Life-cycle transitions (R177) -/

/-- Slots from `lo` on, the sessions and the account-key table erased, with every key recalled. -/
def vaultErase (s : State) (lo : Nat) : State :=
  let s := s.vlt.slots.foldl (fun s kv => if lo ≤ kv.1 && kv.2.key.isSome then recallKey s (handleOf 1 kv.2.gen kv.1) else s) s
  let s := s.vlt.sess.foldl (fun s kv => if kv.2.key.isSome then recallKey s (handleOf 2 kv.2.gen kv.1) else s) s
  let keep := s.vlt.slots.map fun kv => if lo ≤ kv.1 then (kv.1, { kv.2 with gen := min 16383 (kv.2.gen + b2n kv.2.key.isSome), key := none, bad := false }) else kv
  let sess := s.vlt.sess.map fun kv => (kv.1, { kv.2 with key := none })
  let s := setVlt s { s.vlt with slots := keep.filter fun kv => decide (kv.2 ≠ VSlot.empty), sess := sess.filter fun kv => decide (kv.2 ≠ Sess.empty) }
  let s := eraseRegion s 6
  { s with mem := { s.mem with sram := s.mem.sram.filter fun kv => kv.1 < 0x107C0000 || 0x107D8000 ≤ kv.1 } }

/-- The identity pair minted into slots 0 and 1 (R177); it takes the DRBG's output. -/
def mintIdentity (s : State) : State :=
  let (r, s) := freeBytes 88 s
  let mk (kt : Nat) (mat : Bytes) (k : Nat) : VSlot :=
    { gen := min 16383 ((vslot s k).gen + 1), bad := false, copyB := !(vslot s k).copyB
      key := some { ktype := kt, origin := 3, auth := 0xFF, attr := 2 ^ aSIGN, keyId := 0, nvctr := 0xFF, param := 0, mat := mat } }
  setVslot (setVslot s 0 (mk 0x11 (mintMat 0x11 0 (r.take 56)) 0)) 1 (mk 0x2D (r.drop 56) 1)

/-! ### The RNG (R200 to R206) -/

/-- RNG_HEALTH_FAIL: the repetition-count test, or the adaptive-proportion test where `apt` is true, fails (R201). -/
def doRngHealthFail (apt : Bool) (s : State) : State :=
  let s := if apt then bumpSat s Reg.RNG_FAILS 15 8 else bumpSat s Reg.RNG_FAILS 7 0
  let s := wrBit (wrBit s (hdr 6 Off.STAT) 8 false) (hdr 6 Off.STAT) 9 false
  raise (setVlt s { s.vlt with rngStart := false }) 6 (b2n apt)

/-- RESEED_NOW: a write of the bit of CTRL. -/
def doReseedNow (i : Initiator) (s : State) : State := guardW s i (hdr 6 Off.CTRL) fun s => reseedDue s

/-- RESTART: a write of the bit of CTRL; the start-up test runs again, and no output is used before it passes (R200). -/
def doRngRestart (i : Initiator) (s : State) : State :=
  guardW s i (hdr 6 Off.CTRL) fun s =>
    let s := wrBit (wrBit s (hdr 6 Off.STAT) 8 false) (hdr 6 Off.STAT) 9 false
    setVlt s { s.vlt with rngStart := true }

/-- DRBG_RESEED_DONE: the start-up test has passed and the DRBG is instantiated, or a reseed that was due ends. -/
def doDrbgReseedDone (s : State) : State :=
  if s.vlt.rngStart then
    let s := wrBit (wrBit (setVlt s { s.vlt with rngStart := false }) (hdr 6 Off.STAT) 8 true) (hdr 6 Off.STAT) 9 true
    vaultRun (raise (reseeded s) 6 3)
  else if bit (rd s (hdr 6 Off.STAT)) 8 && bit (rd s (hdr 6 Off.STAT)) 9 then reseeded s
  else s

/-- A read of RNG_DATA: 32 bits of the DRBG, or 0 with KIND 3 (R206). -/
def rngData (s : State) (i : Initiator) : State × Word :=
  if bit (rd s (hdr 6 Off.STAT)) 9 then let (k, s) := fresh (drbgCount s); (s, Config.free 32 k) else (noteErr s i 6 0x90 3 false, 0#32)

/-- RNG_DATA_READ. -/
def doRngDataRead (i : Initiator) (s : State) : State :=
  guardR s i Reg.RNG_DATA fun s => let (s, v) := rngData s i; answer s v

/-- A read of RNG_HSTAT: what was measured since the last read, which the manual leaves to the noise source. -/
def rngHstat (s : State) : State × Word := let (k, s) := fresh s; (s, Config.free 32 k &&& 0xFFFF00FF#32)

/-- RNG_HSTAT_READ. -/
def doRngHstatRead (i : Initiator) (s : State) : State :=
  guardR s i Reg.RNG_HSTAT fun s => let (s, v) := rngHstat s; answer s v

/-! ### The commands -/

/-- PUF_POWER_DONE (R175). -/
def execPufPowerDone (s : State) : Host.Outcome State Fault Refusal := finish s (doPufPowerDone s)

/-- PUF_READ_DONE (R175). -/
def execPufReadDone (s : State) : Host.Outcome State Fault Refusal := finish s (doPufReadDone s)

/-- PUF_COOL_DONE (R175). -/
def execPufCoolDone (s : State) : Host.Outcome State Fault Refusal := finish s (doPufCoolDone s)

/-- UPDATE (R190). -/
def execVltUpdate (i : Initiator) (s : State) : Host.Outcome State Fault Refusal := finish s (doVltUpdate i s)

/-- MINT (R196). -/
def execVltMint (i : Initiator) (s : State) : Host.Outcome State Fault Refusal := finish s (doVltMint i s)

/-- OPEN (R204). -/
def execVltOpen (i : Initiator) (s : State) : Host.Outcome State Fault Refusal := finish s (doVltOpen i s)

/-- GETPUB (R197). -/
def execVltGetpub (i : Initiator) (s : State) : Host.Outcome State Fault Refusal := finish s (doVltGetpub i s)

/-- HALLMARK (R199). -/
def execHallmark (i : Initiator) (s : State) : Host.Outcome State Fault Refusal := finish s (doHallmark i s)

/-- REPORT (R199). -/
def execReport (i : Initiator) (s : State) : Host.Outcome State Fault Refusal := finish s (doReport i s)

/-- DESTROY (R197). -/
def execVltDestroy (i : Initiator) (s : State) : Host.Outcome State Fault Refusal := finish s (doVltDestroy i s)

/-- DERIVE (R204). -/
def execVltDerive (i : Initiator) (s : State) : Host.Outcome State Fault Refusal := finish s (doVltDerive i s)

/-- AGREE (R204). -/
def execVltAgree (i : Initiator) (s : State) : Host.Outcome State Fault Refusal := finish s (doVltAgree i s)

/-- GETID (R204). -/
def execVltGetid (i : Initiator) (s : State) : Host.Outcome State Fault Refusal := finish s (doVltGetid i s)

/-- ENROLL (R204). -/
def execVltEnroll (i : Initiator) (s : State) : Host.Outcome State Fault Refusal := finish s (doVltEnroll i s)

/-- UPDATE_SIGS_VERIFIED (R190). -/
def execUpdateSigsVerified (s : State) : Host.Outcome State Fault Refusal := finish s (doUpdateSigsVerified s)

/-- UPDATE_COMMIT (R193). -/
def execUpdateCommit (s : State) : Host.Outcome State Fault Refusal := finish s (doUpdateCommit s)

/-- ACCOUNT_KEY_INSTALL (R194). -/
def execAccountKeyInstall (s : State) : Host.Outcome State Fault Refusal := finish s (doAccountKeyInstall s)

/-- VLT_SIDX (R203). -/
def execVltSidx (i : Initiator) (v : Word) (s : State) : Host.Outcome State Fault Refusal := finish s (doVltSidx i v s)

/-- PUF_DECODE_DONE (R175). -/
def execPufDecodeDone (ok : Bool) (errbits : BitVec 15) (bad : List (Fin 256)) (s : State) : Host.Outcome State Fault Refusal := finish s (doPufDecodeDone ok errbits bad s)

/-- RNG_HEALTH_FAIL (R201). -/
def execRngHealthFail (apt : Bool) (s : State) : Host.Outcome State Fault Refusal := finish s (doRngHealthFail apt s)

/-- RESEED_NOW (R202). -/
def execReseedNow (i : Initiator) (s : State) : Host.Outcome State Fault Refusal := finish s (doReseedNow i s)

/-- RESTART (R200). -/
def execRngRestart (i : Initiator) (s : State) : Host.Outcome State Fault Refusal := finish s (doRngRestart i s)

/-- DRBG_RESEED_DONE (R202). -/
def execDrbgReseedDone (s : State) : Host.Outcome State Fault Refusal := finish s (doDrbgReseedDone s)

/-- RNG_DATA_READ (R206). -/
def execRngDataRead (i : Initiator) (s : State) : Host.Outcome State Fault Refusal := finish s (doRngDataRead i s)

/-- RNG_HSTAT_READ (R206). -/
def execRngHstatRead (i : Initiator) (s : State) : Host.Outcome State Fault Refusal := finish s (doRngHstatRead i s)

end Sys2Proof.Machine
end

