-- ==== Sys2Proof/Machine/Aes.lean ====
section
/-! DEFINITION. The general cipher lanes AES0 to AES3 (R207 to R234), and the end of a KUW unwrap (R184 to R186). -/

namespace Sys2Proof.Machine

open Sys2Proof

/-! ### Job blocks (R214, R217) -/

/-- A field of a job block. -/
def bfld (blk : Bytes) (off n : Nat) : Nat := leNat ((blk.drop off).take n)

/-- A cipher job block (R214). -/
structure AesBlk where
  mode : Nat
  dir : Bool
  init : Bool
  final : Bool
  opc : Nat
  jflags : Nat
  taglen : Nat
  ivlen : Nat
  key : Nat
  src : Nat
  dst : Nat
  len : Nat
  aadlen : Nat
  param : Nat
  token : Nat
  msglen : Nat
  deriving DecidableEq, Repr

/-- The fields of a cipher job block. -/
def aesBlk (b : Bytes) : AesBlk :=
  let o := bfld b 0 1
  { mode := o % 16, dir := nbit o 4, init := nbit o 5, final := nbit o 6, opc := o, jflags := bfld b 1 1, taglen := bfld b 2 1
    ivlen := bfld b 3 1, key := bfld b 4 4, src := bfld b 8 8, dst := bfld b 16 8, len := bfld b 24 4, aadlen := bfld b 28 4
    param := bfld b 32 8, token := bfld b 40 4, msglen := bfld b 44 4 }

/-- CTR_W of a JFLAGS byte. -/
def ctrW (jflags : Nat) : Nat := jflags % 4

/-- The bytes of the counter field of a mode (R220). -/
def ctrBytes (mode jflags ivlen : Nat) : Nat :=
  match mode with
  | 2 => match ctrW jflags with | 0 => 16 | 1 => 8 | _ => 4
  | 3 => 15 - ivlen
  | _ => 4

/-- The checks of R217 that the block alone decides. -/
def aesBlkOk (b : AesBlk) : Bool :=
  let whole := b.len % 16 == 0
  let plain := b.aadlen == 0 && b.taglen == 0
  decide (b.opc < 128) && ctrW b.jflags != 3 && b.jflags / 4 % 16 == 0 && (b.init || b.token != 0) && b.param % 16 == 0 &&
  match b.mode with
  | 0 => b.ivlen == 0 && plain && whole
  | 1 => b.ivlen == 16 && plain && whole
  | 2 => b.ivlen == 16 && plain && (b.final || whole)
  | 3 => decide (7 ≤ b.ivlen) && decide (b.ivlen ≤ 13) && (b.init || b.aadlen == 0) && (b.final || whole) &&
      lmem b.taglen [4, 6, 8, 10, 12, 14, 16] && (!b.init || decide (b.msglen < 2 ^ (8 * (15 - b.ivlen))))
  | 4 => b.ivlen == 12 && (b.init || b.aadlen == 0) && (b.final || whole) && lmem b.taglen [4, 8, 12, 13, 14, 15, 16]
  | 5 => b.ivlen == 0 && b.aadlen == 0 && (b.final || (whole && b.len != 0)) && decide (4 ≤ b.taglen) && decide (b.taglen ≤ 16)
  | _ => false

/-! ### The context record (R222) -/

/-- The 128-byte context record of a cipher message. -/
structure AesRec where
  dom : Nat
  opc : Nat
  jflags : Nat
  key : Nat
  token : Nat
  taglen : Nat
  ivlen : Nat
  plen : Nat
  jobpos : Nat
  datalen : Nat
  aadlen : Nat
  msglen : Nat
  chain : Bytes
  auxst : Bytes
  j0 : Bytes
  part : Bytes
  deriving DecidableEq, Repr

/-- A byte string cut or padded to 16 bytes. -/
def to16 (b : Bytes) : Bytes := (b ++ zeros 16).take 16

/-- The bytes of a record, with its CRC. -/
def AesRec.bytes (r : AesRec) : Bytes :=
  let b := [1#8, byte r.dom, byte r.opc, byte r.jflags] ++ leBytes 4 r.key ++ leBytes 4 r.token ++
    [byte r.taglen, byte r.ivlen, byte r.plen, 0#8] ++ leBytes 4 r.jobpos ++ zeros 4 ++ leBytes 8 r.datalen ++ leBytes 8 r.aadlen ++
    leBytes 8 r.msglen ++ to16 r.chain ++ to16 r.auxst ++ to16 r.j0 ++ to16 r.part ++ zeros 12
  b ++ leBytes 4 (crc32 b).toNat

/-- The record of 128 bytes. -/
def aesRec (b : Bytes) : AesRec :=
  { dom := bfld b 1 1, opc := bfld b 2 1, jflags := bfld b 3 1, key := bfld b 4 4, token := bfld b 8 4, taglen := bfld b 12 1
    ivlen := bfld b 13 1, plen := bfld b 14 1, jobpos := bfld b 16 4, datalen := bfld b 24 8, aadlen := bfld b 32 8
    msglen := bfld b 40 8, chain := (b.drop 48).take 16, auxst := (b.drop 64).take 16, j0 := (b.drop 80).take 16
    part := (b.drop 96).take 16 }

/-- Whether a record is one that the lane wrote: CRC, VERSION and the reserved fields (R223). -/
def aesRecOk (b : Bytes) : Bool := b.length == 128 && decide ((aesRec b).bytes = b)

/-- The prefix of a save area. -/
def savePrefix (fmt : Nat) : Bytes := ascii "JQCX" ++ [byte fmt, 0#8, 0#8, 0#8]

/-- A save area: the prefix, and the record clear with 8 zero bytes, or wrapped under CWK (R222, R239). -/
def saveArea (s : State) (wrapped : Bool) (r : Bytes) : Bytes :=
  if wrapped then savePrefix 2 ++ keyWrap (cwk s) r else savePrefix 1 ++ r ++ zeros 8

/-- The record of a save area for records of `n` bytes; none where the prefix or the wrap is not valid. -/
def loadArea (s : State) (n : Nat) (a : Bytes) : Option Bytes :=
  let body := (a.drop 8).take (n + 8)
  if a.take 8 = savePrefix 1 then (if body.drop n = zeros 8 then some (body.take n) else none)
  else if a.take 8 = savePrefix 2 then keyUnwrap (cwk s) body
  else none

/-! ### Running blocks -/

/-- A tally of blocks into AES_BLOCKS (R233). -/
def aesReleased (s : State) (n k : Nat) : State := upd s (laneReg false n 0xA8) fun v => v + word k

/-- The bytes in front of AAD in CCM's blocks: its encoded length (SP 800-38C). -/
def ccmAadHead (n : Nat) : Bytes := if n < 0xFF00 then beBytes 2 n else [0xFF#8, 0xFE#8] ++ beBytes 4 n

/-- The AAD bytes that the next block takes. -/
def aadTake (b : AesBlk) (r : AesRec) : Nat :=
  min (b.aadlen - r.aadlen) (if b.mode = 3 && r.aadlen == 0 then 16 - (ccmAadHead b.aadlen).length else 16)

/-- A block of AAD. -/
def aadUnit (key : Bytes) (b : AesBlk) (r : AesRec) (d : Bytes) : AesRec :=
  let r' := { r with aadlen := r.aadlen + d.length }
  if b.mode = 3 then
    let blk := to16 (if r.aadlen = 0 then ccmAadHead b.aadlen ++ d else d)
    { r' with auxst := aesEnc key (xorBytes r.auxst blk) }
  else { r' with auxst := beBytes 16 (gmul128 (Nat.xor (beNat r.auxst) (beNat (to16 d))) 128 (beNat (aesEnc key (zeros 16))) 0) }

/-- A block of data, of 1 to 16 bytes: the record after it and the output. -/
def dataUnit (key : Bytes) (b : AesBlk) (r : AesRec) (d : Bytes) : AesRec × Bytes :=
  let r' := { r with jobpos := r.jobpos + d.length, datalen := r.datalen + d.length }
  let w := ctrBytes b.mode r.jflags b.ivlen
  let x := xorBytes d (aesEnc key r.chain)
  let next := ctrAdd w 1 r.chain
  match b.mode with
  | 0 => (r', if b.dir then aesDec key d else aesEnc key d)
  | 1 =>
    if b.dir then ({ r' with chain := d }, xorBytes (aesDec key d) r.chain)
    else let c := aesEnc key (xorBytes d r.chain); ({ r' with chain := c }, c)
  | 2 => ({ r' with chain := next }, x)
  | 3 => ({ r' with chain := next, auxst := aesEnc key (xorBytes r.auxst (to16 (if b.dir then x else d))) }, x)
  | 4 =>
    let h := beNat (aesEnc key (zeros 16))
    ({ r' with chain := next, auxst := beBytes 16 (gmul128 (Nat.xor (beNat r.auxst) (beNat (to16 (if b.dir then d else x)))) 128 h 0) }, x)
  | _ =>
    let c := if r.plen = 0 then r.chain else aesEnc key (xorBytes (to16 r.chain) r.part)
    ({ r' with chain := c, part := d, plen := d.length }, [])

/-- Up to `n` blocks of a job, AAD first: the record reached, and the status of a refused access (R215). -/
def aesUnits (src : JobSrc) (dom : Nat) (host : List (Nat × Bytes)) (b : AesBlk) (key : Bytes) : Nat → State → AesRec → State × AesRec × Nat
  | 0, s, r => (s, r, stOK)
  | n + 1, s, r =>
    if b.init && decide (r.aadlen < b.aadlen) then
      match jobRead s src dom (b.src + r.aadlen) (aadTake b r) host with
      | (s, .inl st) => (s, r, st)
      | (s, .inr d) => aesUnits src dom host b key n s (aadUnit key b r d)
    else if r.jobpos < b.len then
      match jobRead s src dom (b.src + b.aadlen + r.jobpos) (min 16 (b.len - r.jobpos)) host with
      | (s, .inl st) => (s, r, st)
      | (s, .inr d) =>
        let (r', out) := dataUnit key b r d
        match jobWrite s src dom (b.dst + r.jobpos) out with
        | (s, st) => if st = stOK then aesUnits src dom host b key n s r' else (s, r, st)
    else (s, r, stOK)

/-- More blocks than a job has. -/
def aesFuel (b : AesBlk) : Nat := b.aadlen / 16 + b.len / 16 + 4

/-- CCM's first block (SP 800-38C). -/
def ccmB0 (b : AesBlk) (r : AesRec) : Bytes :=
  let q := 15 - b.ivlen
  byte ((if b.aadlen = 0 then 0 else 64) + (b.taglen - 2) / 2 * 8 + (q - 1)) :: (r.j0.drop 1).take b.ivlen ++ beBytes q r.msglen

/-- The running job of a lane computes up to `n` blocks. -/
def aesGo (s : State) (n : Nat) (x : RunJob) (k : Nat) (host : List (Nat × Bytes)) : State × RunJob × Nat :=
  let b := aesBlk x.job.blk
  let key := match (getLane s false n).key with | some k => k.mat | none => []
  let r := aesRec x.ctx
  let r := if b.mode = 3 && b.init && r.aadlen == 0 && r.datalen == 0 then { r with auxst := aesEnc key (ccmB0 b r) } else r
  let (s, r', st) := aesUnits x.job.src x.job.dom host b key k s r
  (aesReleased s n ((r'.jobpos - r.jobpos + 15) / 16), { x with pos := r'.jobpos, ctx := r'.bytes }, st)

/-- The tag of a message at its end. -/
def aesTag (key : Bytes) (b : AesBlk) (r : AesRec) : Bytes :=
  (match b.mode with
  | 3 => xorBytes r.auxst (aesEnc key r.j0)
  | 4 =>
    let h := beNat (aesEnc key (zeros 16))
    let l := beNat (beBytes 8 (8 * r.aadlen) ++ beBytes 8 (8 * r.datalen))
    xorBytes (beBytes 16 (gmul128 (Nat.xor (beNat r.auxst) l) 128 h 0)) (aesEnc key r.j0)
  | _ =>
    let k1 := dbl128 (aesEnc key (zeros 16))
    let p := r.part.take r.plen
    aesEnc key (xorBytes (to16 r.chain) (if r.plen = 16 then xorBytes p k1 else xorBytes (to16 (p ++ [0x80#8])) (dbl128 k1)))).take b.taglen

/-! ### The start of a job -/

/-- A job without a place in the lane ends before it runs. -/
def aesFail (s : State) (n : Nat) (j : Job) (status done : Nat) : State := laneEnd s false n j status done (blkTok j) 0

/-- The record of a message that begins (R217, R221). -/
def aesFirst (s : State) (src : JobSrc) (dom : Nat) (b : AesBlk) (host : List (Nat × Bytes)) : State × (Nat ⊕ AesRec) :=
  match jobRead s src dom b.param (if b.mode = 1 || b.mode = 2 then 16 else b.ivlen) host with
  | (s, .inl st) => (s, .inl st)
  | (s, .inr iv) =>
    let t := s.lanes.aesTok
    let s := { s with lanes := { s.lanes with aesTok := if t = 2 ^ 32 - 1 then 1 else t + 1 } }
    let q := 15 - b.ivlen
    let j0 := match b.mode with
      | 3 => byte (q - 1) :: iv ++ zeros q
      | 4 => iv ++ [0#8, 0#8, 0#8, 1#8]
      | _ => zeros 16
    let chain := match b.mode with
      | 1 | 2 => iv
      | 3 | 4 => ctrAdd (if b.mode = 4 then 4 else q) 1 j0
      | _ => zeros 16
    (s, .inr { dom := dom, opc := b.opc % 32, jflags := b.jflags, key := b.key, token := t, taglen := b.taglen, ivlen := b.ivlen
               plen := 0, jobpos := 0, datalen := 0, aadlen := 0, msglen := if b.mode = 3 then b.msglen else 0
               chain := chain, auxst := zeros 16, j0 := j0, part := zeros 16 })

/-- The record of a message that continues, read from its save area (R223): none where it fails. -/
def aesRead (s : State) (src : JobSrc) (dom : Nat) (b : AesBlk) (token : Nat) (host : List (Nat × Bytes)) : State × (Nat ⊕ AesRec) :=
  match jobRead s src dom (b.param + 32) 144 host with
  | (s, .inl st) => (s, .inl st)
  | (s, .inr a) =>
    match loadArea s 128 a with
    | none => (s, .inl stBADPROF)
    | some m =>
      let r := aesRec m
      if aesRecOk m && r.dom == dom && r.key == b.key && r.token == token && r.opc == b.opc % 32 && r.taglen == b.taglen &&
          r.ivlen == b.ivlen then (s, .inr r)
      else (s, .inl stBADPROF)

/-- Whether the counter field cannot supply a job's blocks (R220). -/
def aesExhausted (b : AesBlk) (r : AesRec) : Bool :=
  if lmem b.mode [2, 3, 4] then
    let w := ctrBytes b.mode r.jflags b.ivlen
    let m := 2 ^ (8 * w)
    let used := (r.datalen + 15) / 16
    let now := beNat (r.chain.drop (16 - w))
    let first := (now + used * m - used) % m
    decide (m < first + used + (b.len - r.jobpos + 15) / 16)
  else false

/-- Whether a key's attributes permit a job (R211, R217): `first` says that the message has had no data yet. -/
def aesUse (b : AesBlk) (first : Bool) (attr : Nat) : Bool :=
  let ecb := nbit attr (if b.dir then 1 else 0)
  match b.mode with
  | 5 => nbit attr 2
  | 4 => if first && b.len == 0 then (if b.final then nbit attr 2 else nbit attr 2 || ecb) else ecb
  | _ => ecb

/-- A key for a lane's job (R182, R211): the check, and the load unless the key is in the register. `use` is the lane's own
check. -/
def laneKey (s : State) (h : Bool) (n : Nat) (x : RunJob) (handle : Nat) (use : KeyRec → Bool) : State :=
  let own := if x.job.cls = 4 then 1 else pageDomain s (lanePage h n)
  match keyFor s handle x.job.dom fun k => use k && domPass k.attr own with
  | (s, .inl st) => laneEnd s h n x.job st x.pos x.token 0
  | (s, .inr _) =>
    let y := getLane s h n
    let have_ := match y.key with | some k => !k.acct && k.handle == handle | none => false
    if have_ then setLane s h n { y with cur := some { x with ready := true } }
    else
      let s := setLane s h n { y with cur := some { x with ready := false } }
      let dest := if h then KeyDest.hsh n else KeyDest.aes n
      { s with lanes := { s.lanes with kuw := s.lanes.kuw ++ [(dest, handle, x.job.dom)] } }

/-- A record has failed R223: ATTN, and BAD_PROFILE. -/
def recordBad (s : State) (page st : Nat) : State := if st = stBADPROF then raise s page 1 else s

/-- A job takes the lane with its record. -/
def aesTake (s : State) (n : Nat) (j : Job) (r : AesRec) : State :=
  let b := aesBlk j.blk
  if b.mode = 3 && b.final && r.datalen + (b.len - r.jobpos) != r.msglen then laneEnd s false n j stBADPROF r.jobpos r.token 0
  else if aesExhausted b r then
    laneEnd (raise (bumpSat s (laneReg false n 0xB4) 15 0) (lanePage false n) 1) false n j stEXHAUST r.jobpos r.token 0
  else
    let x : RunJob := { job := j, pos := r.jobpos, began := r.jobpos, token := r.token, ctx := r.bytes, ready := false }
    laneKey s false n x b.key fun k => decide (1 ≤ k.ktype) && decide (k.ktype ≤ 3) && nbit k.attr aLANEGEN && aesUse b (r.datalen == 0) k.attr

/-- A job begins (R217, R220, R221, R223). -/
def aesBegin (s : State) (n : Nat) (j : Job) (host : List (Nat × Bytes)) : State :=
  let b := aesBlk j.blk
  if !aesBlkOk b then aesFail s n j stBADPROF 0
  else if b.init then
    match aesFirst s j.src j.dom b host with
    | (s, .inl st) => aesFail s n j st 0
    | (s, .inr r) => aesTake s n j r
  else
    match aesRead s j.src j.dom b b.token host with
    | (s, .inl st) => aesFail (recordBad s (lanePage false n) st) n j st 0
    | (s, .inr r) => aesTake s n j r

/-- The lane is free to take work. -/
def laneFree (s : State) (h : Bool) (n : Nat) : Bool := laneUp s (lanePage h n) && (getLane s h n).cur.isNone && (h || !frameRuns s n)

/-- AES_JOB_START: the lane takes the job that R224 selects. -/
def doAesJobStart (n : Fin 4) (host : List (Nat × Bytes)) (s : State) : State :=
  if !laneFree s false n.val then s
  else match laneNext s false n.val with
    | .job j rest => aesBegin (setLane s false n.val { getLane s false n.val with queue := rest }) n.val j host
    | _ => s

/-- AES_RESUME: a suspended job's record is read back and its key loaded (R227). -/
def doAesResume (n : Fin 4) (host : List (Nat × Bytes)) (s : State) : State :=
  if !laneFree s false n.val then s
  else match laneNext s false n.val with
    | .susp x rest =>
      let s := setLane s false n.val { getLane s false n.val with susp := rest }
      match aesRead s x.job.src x.job.dom (aesBlk x.job.blk) x.token host with
      | (s, .inl st) => laneEnd (recordBad s (lanePage false n.val) st) false n.val x.job st x.pos x.token 0
      | (s, .inr r) => aesTake s n.val x.job r
    | _ => s

/-! ### The end of a job -/

/-- A job that ran ends: its key stays, the lane is free. -/
def aesFinish (s : State) (n : Nat) (x : RunJob) (status : Nat) : State :=
  laneEnd (setLane s false n { getLane s false n with cur := none }) false n x.job status x.pos x.token 0

/-- The record at a job's end, the save area at PARAM + 32 in clear (R221, R222). -/
def aesSave (s : State) (x : RunJob) (wrapped : Bool) (r : AesRec) : State × Nat :=
  jobWrite s x.job.src x.job.dom ((aesBlk x.job.blk).param + 32) (saveArea s wrapped r.bytes)

/-- The last step of a job whose blocks are done: the tag with FINAL, the save area without (R219, R221). -/
def aesConclude (s : State) (n : Nat) (x : RunJob) (host : List (Nat × Bytes)) : State :=
  let b := aesBlk x.job.blk
  let r := aesRec x.ctx
  if !b.final then
    match aesSave s x false { r with jobpos := 0 } with
    | (s, st) => aesFinish s n x st
  else if b.mode < 3 then aesFinish s n x stOK
  else
    let key := match (getLane s false n).key with | some k => k.mat | none => []
    let tag := aesTag key b r
    if b.dir then
      match jobRead s x.job.src x.job.dom (b.param + 16) b.taglen host with
      | (s, .inl st) => aesFinish s n x st
      | (s, .inr e) => aesFinish s n x (if e = tag then stOK else stAUTH)
    else
      match jobWrite s x.job.src x.job.dom (b.param + 16) tag with
      | (s, st) => aesFinish s n x st

/-- The running job of a lane whose key is there. -/
def runReady (s : State) (h : Bool) (n : Nat) : Option RunJob :=
  match (getLane s h n).cur with
  | some x => if x.ready then some x else none
  | none => none

/-- AES_JOB_DONE: the running job's remaining blocks, and its end (R215 to R221). -/
def doAesJobDone (n : Fin 4) (host : List (Nat × Bytes)) (s : State) : State :=
  match runReady s false n.val with
  | none => s
  | some x =>
    match aesGo s n.val x (aesFuel (aesBlk x.job.blk)) host with
    | (s, x, st) => if st = stOK then aesConclude s n.val x host else aesFinish s n.val x st

/-- The blocks of a job that computes `units` blocks now: the state, the job reached, and whether it has ended. -/
def aesPart (s : State) (n : Nat) (x : RunJob) (units : Nat) (host : List (Nat × Bytes)) : State × Option RunJob :=
  match aesGo s n x units host with
  | (s, x, st) => if st = stOK then (setLane s false n { getLane s false n with cur := some x }, some x) else (aesFinish s n x st, none)

/-- The priority and domain of what a lane would take next; the intake has no domain of its own. -/
def nextClaim (s : State) (h : Bool) (n : Nat) : Option (Nat × Option Nat) :=
  match laneNext s h n with
  | .none => none
  | .frame => some (lanePri s h n 3, none)
  | .susp r _ => some (lanePri s h n r.job.cls, some r.job.dom)
  | .job j _ => some (lanePri s h n j.cls, some j.dom)

/-- AES_PREEMPT: after `units` blocks the running job yields (R225, R226): a higher priority waits, or an equal one and the quantum
of 64 blocks is over. -/
def doAesPreempt (n : Fin 4) (units : Nat) (host : List (Nat × Bytes)) (s : State) : State :=
  match runReady s false n.val, nextClaim s false n.val with
  | some x, some (p, d) =>
    let own := lanePri s false n.val x.job.cls
    let b := aesBlk x.job.blk
    let left := (b.aadlen - (aesRec x.ctx).aadlen) / 16 + (b.len - x.pos + 15) / 16
    if decide (4 ≤ (getLane s false n.val).susp.length) || !(decide (own < p) || (own == p && decide (64 ≤ units))) || decide (left ≤ units) then s
    else match aesPart s n.val x units host with
      | (s, none) => s
      | (s, some x) =>
        let s := bumpSat s (laneReg false n.val 0xB0) 15 0
        let l := getLane s false n.val
        match aesSave s x (decide (d ≠ some x.job.dom)) (aesRec x.ctx) with
        | (s, st) =>
          if st = stOK then setLane s false n.val { l with cur := none, susp := l.susp ++ [x] } else aesFinish s n.val x st
  | _, _ => s

/-- AES_CLRKEY: CTRL.CLRKEY clears the working key at the next block boundary, `units` blocks on (R212). -/
def doAesClrkey (i : Initiator) (n : Fin 4) (units : Nat) (host : List (Nat × Bytes)) (s : State) : State :=
  guardW s i (hdr (lanePage false n.val) Off.CTRL) fun s =>
    if frameRuns s n.val then setLane s false n.val { getLane s false n.val with clr := true }
    else
      let s := match runReady s false n.val with
        | some x => (aesPart s n.val x units host).1
        | none => s
      laneClear s false n.val

/-- A write of JOBCMD with GO (R233): the job goes to the lane, or ends with the status it is refused with. -/
def lanePageJob (i : Initiator) (h : Bool) (n : Nat) (s : State) : State :=
  let page := lanePage h n
  let fail (s : State) (st : Nat) : State := laneEnd s h n { src := .page, dom := 0, cls := 0, blk := [] } st 0 0 0
  pageGo s i page 0x88 48 fail fun s blk =>
    match laneAdmit s h n .page (pageDomain s page) blk with
    | .taken s => s
    | .refused st hint => laneEnd s h n { src := .page, dom := 0, cls := 0, blk := blk } st 0 (bfld blk 40 4) hint

/-- AES_JOBCMD. -/
def doAesJobcmd (i : Initiator) (n : Fin 4) (s : State) : State := lanePageJob i false n.val s

/-- The running job's part in an inverse-check mismatch (R228): `units` blocks are released, the next is withheld. -/
def aesMismatch (n units : Nat) (host : List (Nat × Bytes)) (s : State) : State :=
  let s := bumpSat s (laneReg false n 0xAC) 15 0
  let s := match runReady s false n with
    | some x =>
      match aesPart s n x units host with
      | (s, some x) =>
        let cls := x.job.cls
        let info := 0x80000000 + cls * 2 ^ 24 + x.job.dom * 2 ^ 16 + min 65535 ((x.pos + 15) / 16)
        wr s (laneReg false n 0xB8) (word info)
      | (s, none) => s
    | none => s
  let s := goOos (flushLane s false n stLANE) (lanePage false n)
  setLane s false n { getLane s false n with key := none, clr := false }

/-! ### The end of an unwrap (R184 to R186, R205) -/

/-- The operation that waits for a key ends with a status. -/
def keyRefused (s : State) (d : KeyDest) (status : Nat) : State :=
  match d with
  | .aes n => endCur s false n status
  | .hsh n => endCur s true n status
  | .bne n => bneEndCur s n status

/-- A whole key reaches its destination, and the operation that asked for it may go on. -/
def keyGiven (s : State) (d : KeyDest) (k : LKey) : State :=
  let give (h : Bool) (n : Nat) : State :=
    let x := getLane s h n
    setLane s h n { x with key := some k, cur := x.cur.map fun r => { r with ready := true } }
  match d with
  | .aes n => give false n
  | .hsh n => give true n
  | .bne n =>
    let x := getBne s n
    setBne s n { x with key := some k, cur := x.cur.map fun r => { r with ready := true } }

/-- KEY_UNWRAP_DONE: KUW finishes the first slot request. -/
def doKeyUnwrapDone (r : Unwrap) (s : State) : State :=
  match s.lanes.kuw with
  | [] => s
  | (d, h, dom) :: rest =>
    if kuwWaits s then s
    else
      let s := { s with lanes := { s.lanes with kuw := rest } }
      match r with
      | .ok =>
        match keyFor s h dom fun _ => true with
        | (s, .inr k) => keyGiven s d { handle := h, ktype := k.ktype, attr := k.attr, acct := false, mat := k.mat }
        | (s, .inl st) => keyRefused s d st
      | .icv => keyRefused (icvFail (if hKind h = 1 then slotBad s (hIdx h) else s)) d stKEY
      | .tag =>
        let s := raise (bumpSat s Reg.KUW_TAGFAIL 15 0) 0x0C 1
        keyRefused (if hKind h = 1 then slotBad s (hIdx h) else s) d stKEY
      | .fault => goOos (keyRefused s d stLANE) 0x0C

/-! ### The commands -/

/-- AES_JOB_START (R224). -/
def execAesJobStart (n : Fin 4) (host : List (Nat × Bytes)) (s : State) : Host.Outcome State Fault Refusal := finish s (doAesJobStart n host s)

/-- AES_RESUME (R227). -/
def execAesResume (n : Fin 4) (host : List (Nat × Bytes)) (s : State) : Host.Outcome State Fault Refusal := finish s (doAesResume n host s)

/-- AES_JOB_DONE (R216). -/
def execAesJobDone (n : Fin 4) (host : List (Nat × Bytes)) (s : State) : Host.Outcome State Fault Refusal := finish s (doAesJobDone n host s)

/-- AES_PREEMPT (R226). -/
def execAesPreempt (n : Fin 4) (units : Nat) (host : List (Nat × Bytes)) (s : State) : Host.Outcome State Fault Refusal := finish s (doAesPreempt n units host s)

/-- AES_CLRKEY (R212). -/
def execAesClrkey (i : Initiator) (n : Fin 4) (units : Nat) (host : List (Nat × Bytes)) (s : State) : Host.Outcome State Fault Refusal := finish s (doAesClrkey i n units host s)

/-- AES_JOBCMD (R233). -/
def execAesJobcmd (i : Initiator) (n : Fin 4) (s : State) : Host.Outcome State Fault Refusal := finish s (doAesJobcmd i n s)

/-- KEY_UNWRAP_DONE (R186). -/
def execKeyUnwrapDone (r : Unwrap) (s : State) : Host.Outcome State Fault Refusal := finish s (doKeyUnwrapDone r s)

end Sys2Proof.Machine
end

