-- ==== Sys2Proof/Machine/Banks.lean ====
section
/-! DEFINITION. The banks' clearing (R340), background test (R345 to R350), and withdrawal and return (R351, R352). -/

namespace Sys2Proof.Machine

open Sys2Proof

/-- Whether any bank is being cleared. -/
def anyClearing (s : State) : Bool := rd s Reg.MEM_CLEARING != 0#32

/-- The repair record of a bank (R353). -/
def repairReg (k : Nat) : Nat := Reg.MEM_REPAIR + 4 * k

/-- Spares of a bank that hold a region or are retired. -/
def sparesUsed (s : State) (k : Nat) : Nat :=
  let w := rd s (repairReg k)
  b2n (bit w 31) + b2n (bit w 30) + b2n (bit w 28)

/-- NOSPARE sets once no spare is left, with cause SERVICE (R348). -/
def noSpare (s : State) (k : Nat) : State :=
  if sparesUsed s k < 2 || bit (rd s (repairReg k)) 29 then s else raise (wrBit s (repairReg k) 29 true) 0x58 4

/-- A failing region kept on the test spare (R348). -/
def repairRegion (s : State) (k r : Nat) : State :=
  let w := rd s (repairReg k)
  let s :=
    if !bit w 31 then wr s (repairReg k) (setFld (setBit w 31 true) 9 0 r)
    else wr s (repairReg k) (setFld (setBit w 30 true) 25 16 r)
  noSpare s k

/-- Whether the tester passes over a bank (R345, R348, R351). -/
def btSkips (s : State) (k : Nat) : Bool := bit (rd s Reg.MEM_BTSKIP) k || bit (rd s (repairReg k)) 29 || !bankUp s k

/-- The next region to visit from a place in the cycle, over at most 33 banks; none where every bank is passed over. -/
def btFind (s : State) : Nat → Nat → Option Nat
  | 0, _ => none
  | n + 1, x =>
    if 32768 ≤ x then btFind s n 0
    else if btSkips s (x / 1024) then btFind s n ((x / 1024 + 1) * 1024)
    else some x

/-- BT_VISIT_START: a visit falls due (R345, R346, R350). -/
def doBtVisitStart (s : State) : State :=
  if !bit (rd s Reg.MEM_BTCFG) 31 || anyClearing s || s.pmu.mode = .sleep || s.pmu.mode = .off then s
  else if bit (rd s Reg.MEM_BTSTAT) 31 then wrBit s Reg.MEM_BTSTAT 28 true
  else match btFind s 34 s.bt.next with
    | none => s
    | some x =>
      let late := bit (rd s Reg.MEM_BTSTAT) 28 && decide (s.bt.next ≤ x)
      let s := if x < s.bt.next then { bumpMod s Reg.MEM_BTCYCLES with bt := { s.bt with sparesDue := true } } else s
      wr { s with bt := { s.bt with next := x } } Reg.MEM_BTSTAT
        (word (0xA0000000 + b2n late * 0x10000000 + x / 1024 * 0x10000 + x % 1024))

/-- The phase of a visit. -/
def btPhase (s : State) : Nat := fld (rd s Reg.MEM_BTSTAT) 30 29

/-- An error the tester finds (R337, R338, R347, R353): no initiator, TESTER = 1. -/
def testerEcc (s : State) (w : Nat) (uncorr : Bool) : State :=
  let s := if uncorr then bumpSat s Reg.MEM_ECCSTAT 31 16 else bumpSat s Reg.MEM_ECCSTAT 15 0
  raise (wr (wr s Reg.MEM_ECCADDR (word (w / 4 * 4 + b2n uncorr))) Reg.MEM_ECCINIT 0x10#32) 0x58 (if uncorr then 1 else 0)

/-- The core address of a region of the cycle. -/
def regionAddr (x : Nat) : Nat := 0x10000000 + 256 * x

/-- BT_COPY_DONE: COPY ends (R345, R347); `corr` names the words whose single-bit error it corrected. -/
def doBtCopyDone (corr : List (Fin 64)) (s : State) : State :=
  if btPhase s ≠ 1 then s
  else
    let a := regionAddr s.bt.next
    let s := corr.foldl (fun s k => if lmem (a + 4 * k.val) s.mem.poison then s else testerEcc s (a + 4 * k.val) false) s
    let s := (s.mem.poison.filter fun w => a ≤ w && w < a + 256).foldl (fun s w => testerEcc s w true) s
    wrFld s Reg.MEM_BTSTAT 30 29 2

/-- The visit ends; the next one starts at the next region. At the end of the full cycle the spares are due (R349). -/
def btEnd (s : State) : State :=
  let x := s.bt.next + 1
  let s := wr s Reg.MEM_BTSTAT (rd s Reg.MEM_BTSTAT &&& 0x101F03FF#32)
  if x < 32768 then { s with bt := { s.bt with next := x } }
  else
    let s := wrBit (bumpMod s Reg.MEM_BTCYCLES) Reg.MEM_BTSTAT 28 false
    { s with bt := { next := 0, sparesDue := true } }

/-- BT_TEST_DONE: the march test ends, and a failing region is repaired (R348). -/
def doBtTestDone (fails : Bool) (s : State) : State :=
  if btPhase s ≠ 2 then s
  else if fails then
    let k := s.bt.next / 1024
    let r := s.bt.next % 1024
    let s := wr (repairRegion s k r) Reg.MEM_BTFAIL (word (0x80000000 + k * 0x1000000 + r))
    btEnd (raise s 0x58 3)
  else wrFld s Reg.MEM_BTSTAT 30 29 3

/-- BT_RESTORE_DONE: RESTORE ends and the redirection with it (R345). -/
def doBtRestoreDone (s : State) : State := if btPhase s ≠ 3 then s else btEnd s

/-- A spare that fails its test is retired (R349). -/
def retireSpare (s : State) (k : Nat) : State :=
  if bit (rd s (repairReg k)) 29 then s
  else
    let s := if bit (rd s (repairReg k)) 28 then raise (wrBit s (repairReg k) 29 true) 0x58 4
             else noSpare (wrBit s (repairReg k) 28 true) k
    raise (wr s Reg.MEM_BTFAIL (word (0x80000400 + k * 0x1000000))) 0x58 3

/-- BT_SPARE_TEST: the spares are tested at the end of a full cycle (R349); `failing` names the banks whose spare fails. -/
def doBtSpareTest (failing : List (Fin 32)) (s : State) : State :=
  if !s.bt.sparesDue then s
  else failing.foldl (fun s k => retireSpare s k.val) { s with bt := { s.bt with sparesDue := false } }

/-- Every byte of a bank reads 0, without errors (R340). -/
def clearBank (s : State) (k : Nat) : State :=
  { s with mem := { s.mem with
    sram := s.mem.sram.filter fun kv => bankOf kv.1 != k
    poison := s.mem.poison.filter fun w => bankOf w != k } }

/-- BANK_CLEAR_DONE: the clearing of the banks ends (R340). -/
def doBankClearDone (s : State) : State :=
  let m := rd s Reg.MEM_CLEARING
  wr ((List.range 32).foldl (fun s k => if bit m k then clearBank s k else s) s) Reg.MEM_CLEARING 0#32

/-- MEM_BCMDSTAT after an operation. -/
def bcmdEnd (s : State) (k st : Nat) : State := wr s Reg.MEM_BCMDSTAT (word (k * 0x10000 + st))

/-- WITHDRAW: a write of MEM_BCMD with OP 1 (R351); stores still in a core's buffer reach the bank first. -/
def doBankWithdraw (i : Initiator) (bank : Fin 32) (s : State) : State :=
  guardW s i Reg.MEM_BCMD fun s =>
    if 30 ≤ bank.val then bcmdEnd s bank.val stPROT
    else if !bankUp s bank.val then bcmdEnd s bank.val stNORES
    else
      let s := drain (drain (drain s .ac0) .ac1) .mc
      bcmdEnd (raise (wrBit s Reg.MEM_SERVICE bank.val false) 0x58 4) bank.val stOK

/-- RETURN: a write of MEM_BCMD with OP 2 (R351, R352); `failing` names the regions and `spareFails` counts the spares that
the march test finds failing. -/
def doBankReturn (i : Initiator) (bank : Fin 32) (failing : List (Fin 1024)) (spareFails : Nat) (s : State) : State :=
  guardW s i Reg.MEM_BCMD fun s =>
    let k := bank.val
    if bankUp s k then bcmdEnd s k stNORES
    else if 2 ≤ spareFails || 2 < failing.length + spareFails then bcmdEnd s k stLANE
    else
      let s := wr s (repairReg k) (word (b2n (decide (0 < spareFails)) * 0x10000000))
      let s := failing.foldl (fun s r => repairRegion s k r.val) s
      bcmdEnd (raise (wrBit (clearBank s k) Reg.MEM_SERVICE k true) 0x58 4) k stOK

/-! ### The commands -/

/-- BT_VISIT_START (R345). -/
def execBtVisitStart (s : State) : Host.Outcome State Fault Refusal := finish s (doBtVisitStart s)

/-- BT_COPY_DONE (R345). -/
def execBtCopyDone (corr : List (Fin 64)) (s : State) : Host.Outcome State Fault Refusal := finish s (doBtCopyDone corr s)

/-- BT_TEST_DONE (R348). -/
def execBtTestDone (fails : Bool) (s : State) : Host.Outcome State Fault Refusal := finish s (doBtTestDone fails s)

/-- BT_RESTORE_DONE (R345). -/
def execBtRestoreDone (s : State) : Host.Outcome State Fault Refusal := finish s (doBtRestoreDone s)

/-- BT_SPARE_TEST (R349). -/
def execBtSpareTest (failing : List (Fin 32)) (s : State) : Host.Outcome State Fault Refusal := finish s (doBtSpareTest failing s)

/-- BANK_CLEAR_DONE (R340). -/
def execBankClearDone (s : State) : Host.Outcome State Fault Refusal := finish s (doBankClearDone s)

/-- WITHDRAW (R351). -/
def execBankWithdraw (i : Initiator) (bank : Fin 32) (s : State) : Host.Outcome State Fault Refusal := finish s (doBankWithdraw i bank s)

/-- RETURN (R352). -/
def execBankReturn (i : Initiator) (bank : Fin 32) (failing : List (Fin 1024)) (spareFails : Nat) (s : State) : Host.Outcome State Fault Refusal := finish s (doBankReturn i bank failing spareFails s)

end Sys2Proof.Machine
end

