-- ==== Sys2Proof/Machine/Hsh.lean ====
section
/-! DEFINITION. The hash lanes HSH0 and HSH1 (R235 to R240). -/

namespace Sys2Proof.Machine

open Sys2Proof

/-! ### Modes (R235) -/

/-- The block bytes of a mode. -/
def hshBlock (mode : Nat) : Nat := [64, 128, 128, 136, 72, 168, 136, 64, 128, 128].getD mode 64
/-- The output bytes of a mode; SHAKE has none of its own. -/
def hshOut (mode : Nat) : Nat := [32, 48, 64, 32, 64, 65535, 65535, 32, 48, 64].getD mode 0
/-- Whether a mode is keyed. -/
def hshKeyed (mode : Nat) : Bool := decide (7 ≤ mode)
/-- The mode of the hash that an HMAC mode uses. -/
def hshBase (mode : Nat) : Nat := if 7 ≤ mode then mode - 7 else mode
/-- Whether a mode is a sponge. -/
def hshSponge (mode : Nat) : Bool := decide (3 ≤ mode) && decide (mode ≤ 6)

/-- The words of a byte string, 32 bits each, most significant byte first. -/
def words32 (b : Bytes) : List Word := (pieces 4 8 b).map fun p => BitVec.ofNat 32 (beNat p)
/-- The words of a byte string, 64 bits each, most significant byte first. -/
def words64 (b : Bytes) : List DWord := (pieces 8 8 b).map fun p => BitVec.ofNat 64 (beNat p)

/-- The chaining state a mode begins with, as the STATE bytes of R239: SHA-2 words most significant byte first, Keccak lanes least
significant byte first. -/
def hshIv (mode : Nat) : Bytes :=
  ((match hshBase mode with
  | 0 => sha256H.flatMap wordBe
  | 1 => sha384H.flatMap fun w => beBytes 8 w.toNat
  | 2 => sha512H.flatMap fun w => beBytes 8 w.toNat
  | _ => []) ++ zeros 200).take 200

/-- One block into a chaining state. -/
def hshStep (mode : Nat) (st blk : Bytes) : Bytes :=
  ((match hshBase mode with
  | 0 => (sha256Block (words32 (st.take 32)) blk).flatMap wordBe
  | 1 | 2 => (sha512Block (words64 (st.take 64)) blk).flatMap fun w => beBytes 8 w.toNat
  | _ =>
    let lanes := (pieces 8 25 st).map fun p => BitVec.ofNat 64 (leNat p)
    (keccakF (keccakAbsorb lanes blk)).flatMap fun w => leBytes 8 w.toNat) ++ zeros 200).take 200

/-- Blocks into a chaining state. -/
def hshSteps (mode : Nat) (st m : Bytes) : Bytes := (pieces (hshBlock mode) (m.length / hshBlock mode) m).foldl (hshStep mode) st

/-- The padding of a message of `n` bytes, its last partial block being `tail`. -/
def hshPad (mode n : Nat) (tail : Bytes) : Bytes :=
  match hshBase mode with
  | 0 => tail ++ sha256Pad n
  | 1 | 2 => tail ++ sha512Pad n
  | m => keccakPad (hshBlock mode) (if m = 5 || m = 6 then 0x1F#8 else 6#8) tail

/-- The output of a hash whose blocks are all in. -/
def hshSqueeze (mode : Nat) (st : Bytes) (n : Nat) : Bytes :=
  match hshBase mode with
  | 0 | 1 | 2 => st.take n
  | _ =>
    let lanes := (pieces 8 25 st).map fun p => BitVec.ofNat 64 (leNat p)
    (keccakSqueeze (hshBlock mode) ((n + hshBlock mode - 1) / hshBlock mode) lanes).take n

/-- A key padded to the block of an HMAC mode, under a pad byte (FIPS 198-1). -/
def hmacPad (mode : Nat) (key : Bytes) (pad : Byte) : Bytes := ((key ++ zeros 128).take (hshBlock mode)).map (· ^^^ pad)

/-- The digest of a message from the state before its last partial block. -/
def hshDigest (mode : Nat) (key st : Bytes) (n : Nat) (tail : Bytes) (out : Nat) : Bytes :=
  if hshKeyed mode then
    let inner := (hshSteps mode st (hshPad mode (n + hshBlock mode) tail)).take (hshOut mode)
    let o := hshStep mode (hshIv mode) (hmacPad mode key 0x5C#8)
    (hshSteps mode o (hshPad mode (hshBlock mode + hshOut mode) inner)).take out
  else hshSqueeze mode (hshSteps mode st (hshPad mode n tail)) out

/-- The blocks that the end of a message takes (R235). -/
def hshEndBlocks (mode n out : Nat) (tail : Bytes) : Nat :=
  let b := hshBlock mode
  (hshPad mode n tail).length / b + (if hshKeyed mode then 2 else 0) + (if hshSponge mode then (out - 1) / b else 0)

/-! ### Jobs (R238, R239) -/

/-- A hash job block (R238). -/
structure HshBlk where
  mode : Nat
  init : Bool
  final : Bool
  outlen : Nat
  key : Nat
  src : Nat
  dst : Nat
  len : Nat
  param : Nat
  token : Nat
  deriving DecidableEq, Repr

/-- The fields of a hash job block. -/
def hshBlk (b : Bytes) : HshBlk :=
  let o := bfld b 0 1
  { mode := o % 16, init := nbit o 5, final := nbit o 6, outlen := bfld b 2 2, key := if hshKeyed (o % 16) then bfld b 4 4 else 0
    src := bfld b 8 8, dst := bfld b 16 8, len := bfld b 24 4, param := bfld b 32 8, token := bfld b 40 4 }

/-- The checks of R238. -/
def hshBlkOk (blk : Bytes) : Bool :=
  let b := hshBlk blk
  let o := bfld blk 0 1
  decide (b.mode < 10) && !nbit o 4 && !nbit o 7 && bfld blk 1 1 % 64 == 0 && decide (bfld blk 1 1 < 128) && bfld blk 28 4 == 0 &&
  bfld blk 44 4 == 0 && decide (1 ≤ b.outlen) && decide (b.outlen ≤ hshOut b.mode) && (b.init || b.token != 0) && b.param % 16 == 0 &&
  (b.final || (b.len != 0 && b.len % hshBlock b.mode == 0))

/-- The 240-byte context record of a hash message (R239). -/
structure HshRec where
  dom : Nat
  mode : Nat
  key : Nat
  token : Nat
  jobpos : Nat
  datalen : Nat
  st : Bytes
  deriving DecidableEq, Repr

/-- The bytes of a record, with its CRC. -/
def HshRec.bytes (r : HshRec) : Bytes :=
  let b := [2#8, byte r.dom, byte r.mode, 0#8] ++ leBytes 4 r.key ++ leBytes 4 r.token ++ leBytes 4 r.jobpos ++ leBytes 8 r.datalen ++
    (r.st ++ zeros 200).take 200 ++ zeros 12
  b ++ leBytes 4 (crc32 b).toNat

/-- The record of 240 bytes. -/
def hshRec (b : Bytes) : HshRec :=
  { dom := bfld b 1 1, mode := bfld b 2 1, key := bfld b 4 4, token := bfld b 8 4, jobpos := bfld b 12 4, datalen := bfld b 16 8
    st := (b.drop 24).take 200 }

/-- Whether a record is one that the lane wrote: CRC, VERSION and the reserved fields. -/
def hshRecOk (b : Bytes) : Bool := b.length == 240 && decide ((hshRec b).bytes = b)

/-- Blocks completed (R256). -/
def hshCount (s : State) (n k : Nat) : State := upd s (laneReg true n 0xA8) fun v => v + word k

/-- Up to `n` whole blocks of a job: the record reached, and the status of a refused access. -/
def hshUnits (src : JobSrc) (dom : Nat) (host : List (Nat × Bytes)) (b : HshBlk) : Nat → State → HshRec → State × HshRec × Nat
  | 0, s, r => (s, r, stOK)
  | n + 1, s, r =>
    let k := hshBlock b.mode
    if r.jobpos + k ≤ b.len then
      match jobRead s src dom (b.src + r.jobpos) k host with
      | (s, .inl st) => (s, r, st)
      | (s, .inr d) =>
        hshUnits src dom host b n s { r with jobpos := r.jobpos + k, datalen := r.datalen + k, st := hshStep b.mode r.st d }
    else (s, r, stOK)

/-- The running job of a lane computes up to `n` blocks; an HMAC begins with the inner key pad. -/
def hshGo (s : State) (n : Nat) (x : RunJob) (k : Nat) (host : List (Nat × Bytes)) : State × RunJob × Nat :=
  let b := hshBlk x.job.blk
  let key := match (getLane s true n).key with | some k => k.mat | none => []
  let r := hshRec x.ctx
  let first := hshKeyed b.mode && r.datalen == 0
  let r := if first then { r with st := hshStep b.mode (hshIv b.mode) (hmacPad b.mode key 0x36#8) } else r
  let (s, r', st) := hshUnits x.job.src x.job.dom host b k s r
  (hshCount s n ((r'.jobpos - r.jobpos) / hshBlock b.mode + b2n first), { x with pos := r'.jobpos, ctx := r'.bytes }, st)

/-- The record of a message that continues, read from its save area: none where it fails. -/
def hshRead (s : State) (src : JobSrc) (dom : Nat) (b : HshBlk) (token : Nat) (host : List (Nat × Bytes)) : State × (Nat ⊕ HshRec) :=
  match jobRead s src dom b.param 256 host with
  | (s, .inl st) => (s, .inl st)
  | (s, .inr a) =>
    match loadArea s 240 a with
    | none => (s, .inl stBADPROF)
    | some m =>
      let r := hshRec m
      if hshRecOk m && r.dom == dom && r.key == b.key && r.token == token && r.mode == b.mode then (s, .inr r) else (s, .inl stBADPROF)

/-- A job takes the lane with its record: an unkeyed one needs no key. -/
def hshTake (s : State) (n : Nat) (j : Job) (r : HshRec) : State :=
  let b := hshBlk j.blk
  let x : RunJob := { job := j, pos := r.jobpos, began := r.jobpos, token := r.token, ctx := r.bytes, ready := true }
  if hshKeyed b.mode then laneKey s true n x b.key fun k => (k.ktype == 8 || k.ktype == 9) && nbit k.attr aMAC
  else setLane s true n { getLane s true n with cur := some x }

/-- A job begins. -/
def hshBegin (s : State) (n : Nat) (j : Job) (host : List (Nat × Bytes)) : State :=
  let b := hshBlk j.blk
  let fail (s : State) (st : Nat) : State := laneEnd s true n j st 0 (blkTok j) 0
  if !hshBlkOk j.blk then fail s stBADPROF
  else if b.init then
    let t := s.lanes.hshTok
    let s := { s with lanes := { s.lanes with hshTok := if t = 2 ^ 32 - 1 then 1 else t + 1 } }
    hshTake s n j { dom := j.dom, mode := b.mode, key := b.key, token := t, jobpos := 0, datalen := 0, st := hshIv b.mode }
  else
    match hshRead s j.src j.dom b b.token host with
    | (s, .inl st) => fail (recordBad s (lanePage true n) st) st
    | (s, .inr r) => hshTake s n j r

/-- HSH_JOB_START: the lane takes the queued or suspended job that R224 selects. -/
def doHshJobStart (n : Fin 2) (host : List (Nat × Bytes)) (s : State) : State :=
  if !laneFree s true n.val then s
  else match laneNext s true n.val with
    | .job j rest => hshBegin (setLane s true n.val { getLane s true n.val with queue := rest }) n.val j host
    | .susp x rest =>
      let s := setLane s true n.val { getLane s true n.val with susp := rest }
      match hshRead s x.job.src x.job.dom (hshBlk x.job.blk) x.token host with
      | (s, .inl st) => laneEnd (recordBad s (lanePage true n.val) st) true n.val x.job st x.pos x.token 0
      | (s, .inr r) => hshTake s n.val x.job r
    | _ => s

/-- A job that ran ends. -/
def hshFinish (s : State) (n : Nat) (x : RunJob) (status : Nat) : State :=
  laneEnd (setLane s true n { getLane s true n with cur := none }) true n x.job status x.pos x.token 0

/-- A job's record into its save area. -/
def hshSave (s : State) (x : RunJob) (wrapped : Bool) (r : HshRec) : State × Nat :=
  jobWrite s x.job.src x.job.dom (hshBlk x.job.blk).param (saveArea s wrapped r.bytes)

/-- The last step of a job whose whole blocks are in: the digest with FINAL, the save area without. -/
def hshConclude (s : State) (n : Nat) (x : RunJob) (host : List (Nat × Bytes)) : State :=
  let b := hshBlk x.job.blk
  let r := hshRec x.ctx
  if !b.final then
    match hshSave s x false { r with jobpos := 0 } with
    | (s, st) => hshFinish s n x st
  else
    let k := b.len - r.jobpos
    match jobRead s x.job.src x.job.dom (b.src + r.jobpos) k host with
    | (s, .inl st) => hshFinish s n x st
    | (s, .inr tail) =>
      let key := match (getLane s true n).key with | some k => k.mat | none => []
      let s := hshCount s n (hshEndBlocks b.mode (r.datalen + k) b.outlen tail)
      let x := { x with pos := x.pos + k }
      match jobWrite s x.job.src x.job.dom b.dst (hshDigest b.mode key r.st (r.datalen + k) tail b.outlen) with
      | (s, st) => hshFinish s n x st

/-- HSH_JOB_DONE: the running job's remaining blocks, and its end. -/
def doHshJobDone (n : Fin 2) (host : List (Nat × Bytes)) (s : State) : State :=
  match runReady s true n.val with
  | none => s
  | some x =>
    match hshGo s n.val x ((hshBlk x.job.blk).len / 64 + 1) host with
    | (s, x, st) => if st = stOK then hshConclude s n.val x host else hshFinish s n.val x st

/-- The blocks of a job that computes `units` blocks now: the state, and the job reached unless it has ended. -/
def hshPart (s : State) (n : Nat) (x : RunJob) (units : Nat) (host : List (Nat × Bytes)) : State × Option RunJob :=
  match hshGo s n x units host with
  | (s, x, st) => if st = stOK then (setLane s true n { getLane s true n with cur := some x }, some x) else (hshFinish s n x st, none)

/-- HSH_PREEMPT: after `units` blocks the running job yields (R225, R226, R239). -/
def doHshPreempt (n : Fin 2) (units : Nat) (host : List (Nat × Bytes)) (s : State) : State :=
  match runReady s true n.val, nextClaim s true n.val with
  | some x, some (p, d) =>
    let own := lanePri s true n.val x.job.cls
    let b := hshBlk x.job.blk
    if decide (4 ≤ (getLane s true n.val).susp.length) || !(decide (own < p) || (own == p && decide (64 ≤ units))) ||
        decide (b.len ≤ x.pos + units * hshBlock b.mode) then s
    else match hshPart s n.val x units host with
      | (s, none) => s
      | (s, some x) =>
        let s := bumpSat s (laneReg true n.val 0xB0) 15 0
        let l := getLane s true n.val
        match hshSave s x (decide (d ≠ some x.job.dom)) (hshRec x.ctx) with
        | (s, st) =>
          if st = stOK then setLane s true n.val { l with cur := none, susp := l.susp ++ [x] } else hshFinish s n.val x st
  | _, _ => s

/-- HSH_CLRKEY: CTRL.CLRKEY clears the HMAC key register at the next block boundary, `units` blocks on (R212, R237). -/
def doHshClrkey (i : Initiator) (n : Fin 2) (units : Nat) (host : List (Nat × Bytes)) (s : State) : State :=
  guardW s i (hdr (lanePage true n.val) Off.CTRL) fun s =>
    let s := match runReady s true n.val with
      | some x => (hshPart s n.val x units host).1
      | none => s
    laneClear s true n.val

/-- HSH_JOBCMD. -/
def doHshJobcmd (i : Initiator) (n : Fin 2) (s : State) : State := lanePageJob i true n.val s

/-- The part of a mismatch (R236) that every work has in common: the key cleared, FAULTINFO, the count, and the lane out of service
with its jobs ended. -/
def hshMismatch (n cls dom blk : Nat) (s : State) : State :=
  let s := bumpSat s (laneReg true n 0xAC) 15 0
  let s := wr s (laneReg true n 0xB4) (word (0x80000000 + cls * 2 ^ 24 + dom * 2 ^ 16 + min 65535 blk))
  let s := goOos (flushLane s true n stLANE) (lanePage true n)
  setLane s true n { getLane s true n with key := none, clr := false }

/-- The running job's part in a mismatch: `units` blocks are done, the outputs withheld. -/
def hshJobMismatch (n units : Nat) (host : List (Nat × Bytes)) (s : State) : State :=
  match runReady s true n with
  | some x =>
    match hshPart s n x units host with
    | (s, some x) => hshMismatch n x.job.cls x.job.dom (x.pos / hshBlock (hshBlk x.job.blk).mode) s
    | (s, none) => hshMismatch n x.job.cls x.job.dom units s
  | none => hshMismatch n 0 0 0 s

/-! ### The commands -/

/-- HSH_JOB_START (R240). -/
def execHshJobStart (n : Fin 2) (host : List (Nat × Bytes)) (s : State) : Host.Outcome State Fault Refusal := finish s (doHshJobStart n host s)

/-- HSH_JOB_DONE (R238). -/
def execHshJobDone (n : Fin 2) (host : List (Nat × Bytes)) (s : State) : Host.Outcome State Fault Refusal := finish s (doHshJobDone n host s)

/-- HSH_PREEMPT (R239). -/
def execHshPreempt (n : Fin 2) (units : Nat) (host : List (Nat × Bytes)) (s : State) : Host.Outcome State Fault Refusal := finish s (doHshPreempt n units host s)

/-- HSH_CLRKEY (R237). -/
def execHshClrkey (i : Initiator) (n : Fin 2) (units : Nat) (host : List (Nat × Bytes)) (s : State) : Host.Outcome State Fault Refusal := finish s (doHshClrkey i n units host s)

/-- HSH_JOBCMD (R256). -/
def execHshJobcmd (i : Initiator) (n : Fin 2) (s : State) : Host.Outcome State Fault Refusal := finish s (doHshJobcmd i n s)

end Sys2Proof.Machine
end

