-- ==== Sys2Proof/Machine/Bignum.lean ====
section
/-! DEFINITION. The sequencer of a big-number lane: its operations over the workspace (R258 to R267). -/

namespace Sys2Proof.Machine

open Sys2Proof

/-! ### The workspace (R258, R259) -/

/-- A register never written. -/
def WReg.blank : WReg := { val := 0, written := false, secret := false, dom := 0 }
/-- A register of a lane. -/
def wreg (s : State) (l k : Nat) : WReg := mget WReg.blank (getBne s l).regs k
/-- The state with a register replaced. -/
def setWreg (s : State) (l k : Nat) (x : WReg) : State :=
  let b := getBne s l
  setBne s l { b with regs := mset WReg.blank b.regs k x }

/-- The low `n` words of a number. -/
def lowWords (n v : Nat) : Nat := v % 2 ^ (64 * n)

/-- Words 0 to n − 1 of a register written (R258, R259): the tag takes the job's domain. -/
def wput (s : State) (l dom k n v : Nat) (secret : Bool) : State :=
  let old := (wreg s l k).val
  setWreg s l k { val := old - lowWords n old + lowWords n v, written := true, secret := secret, dom := dom }

/-! ### The fields of an instruction (R261) -/

/-- D. -/
def bD (w : Word) : Nat := fld w 25 22
/-- A. -/
def bA (w : Word) : Nat := fld w 21 18
/-- B. -/
def bB (w : Word) : Nat := fld w 17 14
/-- IMM. -/
def bI (w : Word) : Nat := fld w 13 0
/-- BE. -/
def bBE (w : Word) : Bool := bit w 14

/-- The field bits that an operation uses; none where OP is not listed (R262). -/
def bnMask (op : Nat) : Option Nat :=
  let d := 0x03C00000; let d2 := 0x00C00000; let a := 0x003C0000; let b := 0x0003C000; let be := 0x4000; let i := 0x3FFF
  [some 0, some 0xFF, some i, some (d2 + i), some i, some 0, some (d2 + i), some (d2 + i), some 0x7F, some a, some (d + a), some (d + i),
   some (d + be + i), some (a + be + i), some (d + be + i), some d, some (d + a + b), some (d + a + b), some (d + a + b), some (d + a),
   some (a + b), some (d + a + b), some (d + a + b), some (d + a + 0x3F), some (d + a + 0x3F), some (a + i), some (a + b), some (d + 1),
   none, none, none, none, some 1, some (d + a), some (d + a), some (d + a + b), some (d + a + b), some (d + a + b), some (d + a + b + i),
   some (d + i), some (d + i), some (a + i), some i, none, none, none, none, none, some 7, some (a + i), some i, some 0,
   some (d + i)].getD op none

/-- Whether a word's OP is listed and its unused fields are 0. -/
def bnFieldsOk (w : Word) : Bool :=
  match bnMask (fld w 31 26) with
  | some m => decide (Nat.land (fld w 25 0) m = fld w 25 0)
  | none => false

/-- The first slot and the end of the user region. -/
def inUser (k : Nat) : Bool := decide (0x1000 ≤ k) && decide (k < 0x2000)

/-- A slot of the sequence memory: the vendor region as the boot ROM gives it, the user region as written. -/
def seqSlot (s : State) (k : Nat) : Word := if k < 0x1000 then Config.vendorSeq k else mget 0#32 s.lanes.seq k

/-! ### Running one operation -/

/-- The job's block. -/
def BRun.fld (r : BRun) (off n : Nat) : Nat := bfld r.job.blk off n
/-- Whether a job runs a user sequence. -/
def BRun.user (r : BRun) : Bool := decide (32768 ≤ r.fld 0 2)
/-- The run ends with a status. -/
def BRun.stop (r : BRun) (st : Nat) : BRun := { r with status := some st }

/-- Whether the cycle limit of user sequences is reached (R264). -/
def bnLimit (s : State) (l : Nat) (r : BRun) : Bool :=
  let m := (rd s (hdr (bnePage l) 0xA8)).toNat
  m != 0 && decide (m ≤ r.cyc)

/-- The user sequence that a lane runs and that has not ended. -/
def bnRunning (s : State) (l : Nat) : Option BRun :=
  match (getBne s l).cur with
  | some r => if r.user && r.ready && r.status.isNone && !bnLimit s l r then some r else none
  | none => none

/-- The state with a lane's run replaced. -/
def setRun (s : State) (l : Nat) (r : BRun) : State := setBne s l { getBne s l with cur := some r }

/-- The operation at the run's slot, where it is `op`: unused fields must be 0 (R261, R262). `f` gives the state and the run after
it, whose slot already names the next; `cyc` are its cycles from the current length. -/
def bnOp (s : State) (l op : Nat) (cyc : Nat → Nat) (f : State → BRun → Word → State × BRun) : State :=
  match bnRunning s l with
  | none => s
  | some r =>
    let w := seqSlot s r.pc
    if !inUser r.pc || fld w 31 26 != op then s
    else
      let s := upd s (hdr (bnePage l) 0xB0) fun v => v + 1#32
      if !bnFieldsOk w then setRun s l (r.stop stBADPROF)
      else
        let (s, r') := f s { r with pc := r.pc + 1, cyc := r.cyc + cyc r.n } w
        setRun s l r'

/-- Operand registers read (R259): another domain's register ends the job; `f` takes the values, and whether one is secret. -/
def bnUse (s : State) (l : Nat) (r : BRun) (ks : List Nat) (f : List Nat → Bool → State × BRun) : State × BRun :=
  let xs := ks.map (wreg s l)
  if xs.any fun x => x.written && x.dom != r.job.dom then (s, r.stop stDOMAIN)
  else f (xs.map fun x => if x.written then x.val else 0) (xs.any fun x => x.written && x.secret)

/-- A quarter of the length, rounded up. -/
def quarter (n : Nat) : Nat := (n + 3) / 4

/-- A jump within the region (R260). -/
def bnGoto (r : BRun) (k : Nat) : BRun := if inUser k then { r with pc := k } else r.stop stBADPROF

/-! ### Control (R262) -/

/-- END. -/
def doBnEnd (l : Fin 4) (s : State) : State := bnOp s l.val 0x00 (fun _ => 2) fun s r _ => (s, r.stop stOK)

/-- FAIL: a status above 0x15 acts as BAD_PROFILE. -/
def doBnFail (l : Fin 4) (s : State) : State :=
  bnOp s l.val 0x01 (fun _ => 2) fun s r w => (s, r.stop (if 0x15 < bI w then stBADPROF else bI w))

/-- JMP. -/
def doBnJmp (l : Fin 4) (s : State) : State := bnOp s l.val 0x02 (fun _ => 2) fun s r w => (s, bnGoto r (bI w))

/-- BR: 0 Z = 1, 1 Z = 0, 2 C = 1, 3 C = 0. -/
def doBnBr (l : Fin 4) (s : State) : State :=
  bnOp s l.val 0x03 (fun _ => 2) fun s r w =>
    let take := match bD w with | 0 => r.z | 1 => !r.z | 2 => r.c | _ => !r.c
    (s, if take then bnGoto r (bI w) else r)

/-- CALL: a ninth entry ends the job. -/
def doBnCall (l : Fin 4) (s : State) : State :=
  bnOp s l.val 0x04 (fun _ => 2) fun s r w =>
    (s, if 8 ≤ r.stack.length then r.stop stBADPROF else bnGoto { r with stack := r.pc :: r.stack } (bI w))

/-- RET: an empty stack ends the job. -/
def doBnRet (l : Fin 4) (s : State) : State :=
  bnOp s l.val 0x05 (fun _ => 2) fun s r _ =>
    (s, match r.stack with | [] => r.stop stBADPROF | k :: ks => bnGoto { r with stack := ks } k)

/-- CSET. -/
def doCset (l : Fin 4) (s : State) : State := bnOp s l.val 0x06 (fun _ => 1) fun s r w => (s, { r with ctr := r.ctr.set (bD w) (bI w) })

/-- CLOOP: counter − 1, branch if the result is not 0. -/
def doCloop (l : Fin 4) (s : State) : State :=
  bnOp s l.val 0x07 (fun _ => 2) fun s r w =>
    let v := (r.ctr.getD (bD w) 0 + 65535) % 65536
    let r := { r with ctr := r.ctr.set (bD w) v }
    (s, if v = 0 then r else bnGoto r (bI w))

/-- SETLEN. -/
def doSetlen (l : Fin 4) (s : State) : State := bnOp s l.val 0x08 (fun _ => 2) fun s r w => (s, { r with n := bI w + 1 })

/-- MODSET: an even modulus ends the job. -/
def doModset (l : Fin 4) (s : State) : State :=
  bnOp s l.val 0x09 (fun _ => 70) fun s r w =>
    bnUse s l.val r [bA w] fun v _ =>
      let m := lowWords r.n (v.headD 0)
      (s, if m % 2 = 0 then r.stop stBADPROF else { r with m := some m })

/-! ### Moves (R262) -/

/-- MOV. -/
def doBnMov (l : Fin 4) (s : State) : State :=
  bnOp s l.val 0x0A (fun n => 4 + quarter n) fun s r w =>
    bnUse s l.val r [bA w] fun v sec => (wput s l.val r.job.dom (bD w) r.n (v.headD 0) sec, r)

/-- LDC: the constant lies in the executing region (R260). -/
def doLdc (l : Fin 4) (s : State) : State :=
  bnOp s l.val 0x0B (fun n => 4 + n) fun s r w =>
    if !inUser (bI w) || !inUser (bI w + 2 * r.n - 1) then (s, r.stop stBADPROF)
    else
      let v := (List.range (2 * r.n)).foldr (fun k a => (seqSlot s (bI w + k)).toNat + 2 ^ 32 * a) 0
      (wput s l.val r.job.dom (bD w) r.n v false, r)

/-- The number of a byte string, big-endian with BE. -/
def bnNum (be : Bool) (bs : Bytes) : Nat := if be then beNat bs else leNat bs
/-- The bytes of a number, big-endian with BE. -/
def bnBytes (be : Bool) (n v : Nat) : Bytes := if be then beBytes n v else leBytes n v

/-- Input bytes from an offset: beyond INLEN the job ends with BAD_PROFILE (R264); `f` goes on with them. -/
def bnIn (s : State) (r : BRun) (off n : Nat) (host : List (Nat × Bytes)) (f : State → Bytes → State × BRun) : State × BRun :=
  if r.fld 32 2 < off + n then (s, r.stop stBADPROF)
  else match jobRead s r.job.src r.job.dom (r.fld 16 8 + off) n host with
    | (s, .inl st) => (s, r.stop st)
    | (s, .inr bs) => f s bs

/-- Output bytes at an offset: beyond OUTLEN the job ends with NO_RESOURCE (R264). -/
def bnOut (s : State) (r : BRun) (off : Nat) (bs : Bytes) : State × BRun :=
  if r.fld 36 4 < off + bs.length then (s, r.stop stNORES)
  else match jobWrite s r.job.src r.job.dom (r.fld 24 8 + off) bs with
    | (s, st) => (s, if st = stOK then { r with out := r.out + bs.length } else r.stop st)

/-- GET. -/
def doBnGet (l : Fin 4) (host : List (Nat × Bytes)) (s : State) : State :=
  bnOp s l.val 0x0C (fun n => 4 + n) fun s r w =>
    bnIn s r (bI w) (8 * r.n) host fun s bs => (wput s l.val r.job.dom (bD w) r.n (bnNum (bBE w) bs) false, r)

/-- PUT. -/
def doBnPut (l : Fin 4) (s : State) : State :=
  bnOp s l.val 0x0D (fun n => 4 + n) fun s r w =>
    bnUse s l.val r [bA w] fun v _ => bnOut s r (bI w) (bnBytes (bBE w) (8 * r.n) (lowWords r.n (v.headD 0)))

/-- KLOAD: only the vendor region may (R264). -/
def doKload (l : Fin 4) (s : State) : State := bnOp s l.val 0x0E (fun n => 4 + n) fun s r _ => (s, r.stop stPROT)

/-- RAND: NO_RESOURCE while the DRBG refuses (R264). -/
def doBnRand (l : Fin 4) (s : State) : State :=
  bnOp s l.val 0x0F (fun n => 16 + 7 * n) fun s r w =>
    match drbg s (8 * r.n) with
    | none => (s, r.stop stNORES)
    | some (bs, s) => (wput s l.val r.job.dom (bD w) r.n (leNat bs) false, r)

/-! ### Arithmetic (R262) -/

/-- An operation modulo M: operands that are not below it end the job. -/
def bnMod (s : State) (l : Nat) (r : BRun) (w : Word) (ks : List Nat) (f : Nat → List Nat → Nat) : State × BRun :=
  match r.m with
  | none => (s, r.stop stBADPROF)
  | some m =>
    bnUse s l r ks fun v sec =>
      let v := v.map (lowWords r.n)
      if v.any fun x => decide (m ≤ x) then (s, r.stop stBADPROF)
      else (wput s l r.job.dom (bD w) r.n (f m v) sec, r)

/-- MMUL: the Montgomery product. -/
def doMmul (l : Fin 4) (s : State) : State :=
  bnOp s l.val 0x10 (fun n => 16 + n * ((n + 1) / 2)) fun s r w =>
    bnMod s l.val r w [bA w, bB w] fun m v => v.getD 0 0 * v.getD 1 0 * inv0 m (2 ^ (64 * r.n)) % m

/-- MADD. -/
def doMadd (l : Fin 4) (s : State) : State :=
  bnOp s l.val 0x11 (fun n => 6 + (n + 1) / 2) fun s r w => bnMod s l.val r w [bA w, bB w] fun m v => (v.getD 0 0 + v.getD 1 0) % m

/-- MSUB. -/
def doMsub (l : Fin 4) (s : State) : State :=
  bnOp s l.val 0x12 (fun n => 6 + (n + 1) / 2) fun s r w => bnMod s l.val r w [bA w, bB w] fun m v => subMod m (v.getD 0 0) (v.getD 1 0)

/-- MINV: 0 and Z where no inverse exists. -/
def doMinv (l : Fin 4) (s : State) : State :=
  bnOp s l.val 0x13 (fun n => 16 + 128 * n * quarter n) fun s r w =>
    let none_ := match r.m with | some m => (invMod m (lowWords r.n (wreg s l.val (bA w)).val)).isNone | none => false
    let (s, r') := bnMod s l.val r w [bA w] fun m v => inv0 m (v.headD 0)
    (s, if r'.status.isNone then { r' with z := none_ } else r')

/-- CMP. -/
def doBnCmp (l : Fin 4) (s : State) : State :=
  bnOp s l.val 0x14 (fun n => 4 + quarter n) fun s r w =>
    bnUse s l.val r [bA w, bB w] fun v _ =>
      let a := lowWords r.n (v.getD 0 0)
      let b := lowWords r.n (v.getD 1 0)
      (s, { r with z := a == b, c := decide (a < b) })

/-- ADD. -/
def doBnAdd (l : Fin 4) (s : State) : State :=
  bnOp s l.val 0x15 (fun n => 4 + quarter n) fun s r w =>
    bnUse s l.val r [bA w, bB w] fun v sec =>
      let x := lowWords r.n (v.getD 0 0) + lowWords r.n (v.getD 1 0)
      (wput s l.val r.job.dom (bD w) r.n x sec, { r with c := decide (2 ^ (64 * r.n) ≤ x) })

/-- SUB. -/
def doBnSub (l : Fin 4) (s : State) : State :=
  bnOp s l.val 0x16 (fun n => 4 + quarter n) fun s r w =>
    bnUse s l.val r [bA w, bB w] fun v sec =>
      let a := lowWords r.n (v.getD 0 0)
      let b := lowWords r.n (v.getD 1 0)
      (wput s l.val r.job.dom (bD w) r.n (a + 2 ^ (64 * r.n) - b) sec, { r with c := decide (a < b) })

/-- A shift by IMM[5:0], 1 to 63. -/
def bnShift (s : State) (l : Nat) (r : BRun) (w : Word) (f : Nat → Nat → Nat × Bool) : State × BRun :=
  let k := bI w
  if k = 0 then (s, r.stop stBADPROF)
  else bnUse s l r [bA w] fun v sec =>
    let (x, c) := f (lowWords r.n (v.headD 0)) k
    (wput s l r.job.dom (bD w) r.n x sec, { r with c := c })

/-- SHL. -/
def doBnShl (l : Fin 4) (s : State) : State :=
  bnOp s l.val 0x17 (fun n => 4 + quarter n) fun s r w => bnShift s l.val r w fun a k => (a * 2 ^ k, nbit a (64 * r.n - k))

/-- SHR. -/
def doBnShr (l : Fin 4) (s : State) : State :=
  bnOp s l.val 0x18 (fun n => 4 + quarter n) fun s r w => bnShift s l.val r w fun a k => (a / 2 ^ k, nbit a (k - 1))

/-- BTST: any bit of the register. -/
def doBtst (l : Fin 4) (s : State) : State :=
  bnOp s l.val 0x19 (fun _ => 3) fun s r w =>
    if 8191 < bI w then (s, r.stop stBADPROF)
    else bnUse s l.val r [bA w] fun v _ => (s, { r with z := !nbit (v.headD 0) (bI w) })

/-- CSWAP. -/
def doCswap (l : Fin 4) (s : State) : State :=
  bnOp s l.val 0x1A (fun n => 4 + quarter n) fun s r w =>
    bnUse s l.val r [bA w, bB w] fun v sec =>
      if r.c then
        let s := wput s l.val r.job.dom (bA w) r.n (v.getD 1 0) sec
        (wput s l.val r.job.dom (bB w) r.n (v.getD 0 0) sec, r)
      else (s, r)

/-- Every register of a lane wiped. -/
def wipeAll (s : State) (l : Nat) : State := setBne s l { getBne s l with regs := [] }

/-- WIPE. -/
def doWipe (l : Fin 4) (s : State) : State :=
  bnOp s l.val 0x1B (fun _ => 0) fun s r w =>
    if bI w = 1 then (wipeAll s l.val, { r with cyc := r.cyc + 516 })
    else (setWreg s l.val (bD w) { wreg s l.val (bD w) with val := 0, written := false, secret := false }, { r with cyc := r.cyc + 36 })

/-! ### Ring mode (R266, R267) -/

/-- The ring that QSET selects. -/
def bnRing (r : BRun) : Ring := if r.ring = 0 then kemRing else dsaRing

/-- The 256 coefficients of a register. -/
def coefs (v : Nat) : List Nat := (List.range 256).map fun i => v / 2 ^ (32 * i) % 2 ^ 32
/-- The register that holds coefficients. -/
def polyVal (f : List Nat) : Nat := f.foldr (fun x a => x % 2 ^ 32 + 2 ^ 32 * a) 0

/-- A polynomial written to a whole register. -/
def wpoly (s : State) (l dom k : Nat) (f : List Nat) (sec : Bool) : State := wput s l dom k 128 (polyVal f) sec

/-- A register whose result no rule states: a free value. -/
def wfree (s : State) (l dom k : Nat) (sec : Bool) : State :=
  let (i, s) := fresh s
  wput s l dom k 128 (Config.free 8192 i).toNat sec

/-- A ring operation on registers: the standards state no result for a coefficient that is not below q, nor where `ok` fails. -/
def bnPoly (s : State) (l : Nat) (r : BRun) (w : Word) (ks : List Nat) (ok : List (List Nat) → Bool) (f : List (List Nat) → List Nat) :
    State × BRun :=
  bnUse s l r ks fun v sec =>
    let ps := v.map coefs
    if ps.all (fun p => p.all fun x => decide (x < (bnRing r).q)) && ok ps then (wpoly s l r.job.dom (bD w) (f ps) sec, r)
    else (wfree s l r.job.dom (bD w) sec, r)

/-- QSET. -/
def doQset (l : Fin 4) (s : State) : State := bnOp s l.val 0x20 (fun _ => 2) fun s r w => (s, { r with ring := bI w })

/-- NTT. -/
def doNtt (l : Fin 4) (s : State) : State :=
  bnOp s l.val 0x21 (fun _ => 0) fun s r w =>
    bnPoly s l.val { r with cyc := r.cyc + 64 + 8 * r.ring } w [bA w] (fun _ => true) fun p => ntt (bnRing r) (p.headD [])

/-- INTT. -/
def doIntt (l : Fin 4) (s : State) : State :=
  bnOp s l.val 0x22 (fun _ => 0) fun s r w =>
    bnPoly s l.val { r with cyc := r.cyc + 72 + 8 * r.ring } w [bA w] (fun _ => true) fun p => intt (bnRing r) (p.headD [])

/-- PMUL. -/
def doPmul (l : Fin 4) (s : State) : State :=
  bnOp s l.val 0x23 (fun _ => 0) fun s r w =>
    bnPoly s l.val { r with cyc := r.cyc + 24 - 4 * r.ring } w [bA w, bB w] (fun _ => true) fun p => polyMul (bnRing r) (p.getD 0 []) (p.getD 1 [])

/-- PADD. -/
def doPadd (l : Fin 4) (s : State) : State :=
  bnOp s l.val 0x24 (fun _ => 20) fun s r w =>
    bnPoly s l.val r w [bA w, bB w] (fun _ => true) fun p => polyAdd (bnRing r) (p.getD 0 []) (p.getD 1 [])

/-- PSUB. -/
def doPsub (l : Fin 4) (s : State) : State :=
  bnOp s l.val 0x25 (fun _ => 20) fun s r w =>
    bnPoly s l.val r w [bA w, bB w] (fun _ => true) fun p => polySub (bnRing r) (p.getD 0 []) (p.getD 1 [])

/-- Whether a function of PMAP is listed with its parameter, and its unused fields are 0 (R261, R267). -/
def pmapOk (w : Word) : Bool :=
  let f := bI w % 256
  let p := bI w / 256
  match f with
  | 0 | 1 => lmem p [1, 4, 5, 10, 11] && bB w == 0
  | 2 | 3 => p == 0 && bB w == 0
  | 4 | 5 => decide (p < 2) && bB w == 0
  | 6 | 7 => decide (p < 2)
  | 8 => p == 0 && bD w == 0
  | 9 => p == 0 && bD w == 0 && bB w == 0
  | _ => false

/-- The coefficient-wise functions 0 to 7 of PMAP. -/
def pmapFn (q : Nat) (w : Word) (a b : Nat) : Nat :=
  let p := bI w / 256
  let g2 := if p = 0 then (8380417 - 1) / 88 else (8380417 - 1) / 32
  match bI w % 256 with
  | 0 => compressD q p a
  | 1 => decompressD q p a
  | 2 => (power2Round q a).1
  | 3 => (power2Round q a).2
  | 4 => highBits q g2 a
  | 5 => lowBits q g2 a
  | 6 => makeHint q g2 a b
  | _ => useHint q g2 a b

/-- Whether the standards define a function of PMAP on its operand: the ring is that of the function's standard, and what it
decompresses, or a hint, is in range. -/
def pmapDef (r : BRun) (w : Word) (a : List Nat) : Bool :=
  match bI w % 256 with
  | 0 => r.ring == 0
  | 1 => r.ring == 0 && a.all fun x => decide (x < 2 ^ (bI w / 256))
  | 7 => r.ring == 1 && a.all fun x => decide (x < 2)
  | _ => r.ring == 1

/-- PMAP. -/
def doPmap (l : Fin 4) (s : State) : State :=
  bnOp s l.val 0x26 (fun _ => 20) fun s r w =>
    let f := bI w % 256
    if !pmapOk w then (s, r.stop stBADPROF)
    else if f = 8 then
      bnUse s l.val r [bA w, bB w] fun v _ =>
        (s, { r with c := normAtLeast (bnRing r).q (v.getD 1 0 % 2 ^ 64) (coefs (v.getD 0 0)) })
    else if f = 9 then
      bnUse s l.val r [bA w] fun v _ =>
        (s, { r with ctr := r.ctr.set 0 ((coefs (v.headD 0)).filter fun x => x != 0).length })
    else bnPoly s l.val r w (if f < 6 then [bA w] else [bA w, bB w]) (fun ps => pmapDef r w (ps.headD []))
      fun ps => (List.range 256).map fun i => pmapFn (bnRing r).q w ((ps.getD 0 []).getD i 0) ((ps.getD 1 []).getD i 0)

/-- What a kind of PSAMP takes from a SHAKE output: the polynomial and the bytes used; none for a kind or parameter that is not
listed. -/
def psamp (ring kind p : Nat) (bs : Bytes) : Option (List Nat × Nat) :=
  match kind with
  | 0 => if p = 0 then some (if ring = 0 then sampleNtt 1000 bs [] 0 else rejNtt 1000 bs [] 0) else none
  | 1 => if p = 2 || p = 3 then some (sampleCbd p (bs.take (64 * p)), 64 * p) else none
  | 2 => if p = 2 || p = 4 then some (rejBounded p bs [] 0) else none
  | 3 => if lmem p [39, 49, 60] then some (sampleInBall p bs) else none
  | 4 => if p = 17 || p = 19 then some (maskPoly p (bs.take (32 * (p + 1))), 32 * (p + 1)) else none
  | _ => none

/-- Bytes that a unit in a SHAKE mode gives from where it stands. -/
def hunitBytes (h : HUnit) (n : Nat) : Bytes :=
  let b := hshBlock h.mode
  let k := h.msg.length / b * b
  (hshDigest h.mode [] (hshSteps h.mode (hshIv h.mode) (h.msg.take k)) h.msg.length (h.msg.drop k) (h.out + n)).drop h.out

/-- Cycles of a block of the hash unit (R262). -/
def hunitCyc (mode : Nat) : Nat := if mode = 0 then 66 else if mode < 3 then 82 else 50

/-- The permutations that bring a unit's output from one byte count to another. -/
def hunitPerms (mode a b : Nat) : Nat := (b + hshBlock mode - 1) / hshBlock mode - (a + hshBlock mode - 1) / hshBlock mode

/-- PSAMP: the unit must be in the SHAKE that the standard prescribes. -/
def doPsamp (l : Fin 4) (s : State) : State :=
  bnOp s l.val 0x27 (fun _ => 0) fun s r w =>
    let kind := bI w % 16
    let p := bI w / 16
    match r.hash with
    | none => (s, r.stop stBADPROF)
    | some h =>
      if h.mode ≠ (if kind = 0 then 5 else 6) then (s, r.stop stBADPROF)
      else match psamp r.ring kind p (hunitBytes h 3200) with
        | none => (s, r.stop stBADPROF)
        | some (f, used) =>
          let r := { r with hash := some { h with out := h.out + used }, cyc := r.cyc + 50 * hunitPerms h.mode h.out (h.out + used) }
          let defined := kind == 0 || r.ring == (if kind = 1 then 0 else 1)
          if defined then (wpoly s l.val r.job.dom (bD w) f h.secret, r) else (wfree s l.val r.job.dom (bD w) h.secret, r)

/-- The packing format: width, bias and NEG. -/
def pfmtW (f : Nat) : Nat := f % 32
/-- The bias of a packing format. -/
def pfmtB (f : Nat) : Nat := if f / 32 % 32 = 0 then 0 else 2 ^ (f / 32 % 32 - 1)
/-- NEG of a packing format. -/
def pfmtNeg (f : Nat) : Bool := nbit f 10

/-- PGET. -/
def doPget (l : Fin 4) (host : List (Nat × Bytes)) (s : State) : State :=
  bnOp s l.val 0x28 (fun _ => 4) fun s r w =>
    let k := pfmtW r.fmt
    if k = 0 then (s, r.stop stBADPROF)
    else bnIn s { r with cyc := r.cyc + 4 * k } (bI w) (32 * k) host fun s bs =>
      (wpoly s l.val r.job.dom (bD w) (unpackPoly (bnRing r).q k (pfmtB r.fmt) (pfmtNeg r.fmt) bs) false, { r with cyc := r.cyc + 4 * k })

/-- PPUT. -/
def doPput (l : Fin 4) (s : State) : State :=
  bnOp s l.val 0x29 (fun _ => 4) fun s r w =>
    let k := pfmtW r.fmt
    if k = 0 then (s, r.stop stBADPROF)
    else bnUse s l.val { r with cyc := r.cyc + 4 * k } [bA w] fun v _ =>
      bnOut s { r with cyc := r.cyc + 4 * k } (bI w) (packPoly (bnRing r).q k (pfmtB r.fmt) (pfmtNeg r.fmt) (coefs (v.headD 0)))

/-- PFMT: a width of 1 to 24. -/
def doPfmt (l : Fin 4) (s : State) : State :=
  bnOp s l.val 0x2A (fun _ => 1) fun s r w =>
    if pfmtW (bI w) = 0 || 24 < pfmtW (bI w) || 2047 < bI w then (s, r.stop stBADPROF) else (s, { r with fmt := bI w })

/-! ### The hash unit (R262) -/

/-- HINIT. -/
def doHinit (l : Fin 4) (s : State) : State :=
  bnOp s l.val 0x30 (fun _ => 2) fun s r w =>
    (s, if bI w = 7 then r.stop stBADPROF else { r with hash := some { mode := bI w, msg := [], out := 0, secret := false } })

/-- Bytes absorbed: there must be a hash that has given no output. -/
def bnAbsorb (r : BRun) (bs : Bytes) (sec : Bool) : BRun :=
  match r.hash with
  | none => r.stop stBADPROF
  | some h =>
    if h.out ≠ 0 then r.stop stBADPROF
    else
      let n := (h.msg.length + bs.length) / hshBlock h.mode - h.msg.length / hshBlock h.mode
      { r with hash := some { h with msg := h.msg ++ bs, secret := h.secret || sec }, cyc := r.cyc + n * hunitCyc h.mode }

/-- HABS: the low IMM bytes of A. -/
def doHabs (l : Fin 4) (s : State) : State :=
  bnOp s l.val 0x31 (fun _ => 0) fun s r w =>
    if bI w = 0 || 1024 < bI w then (s, r.stop stBADPROF)
    else bnUse s l.val r [bA w] fun v sec => (s, bnAbsorb r (leBytes (bI w) (v.headD 0)) sec)

/-- HABSI: C0 bytes of IN. -/
def doHabsi (l : Fin 4) (host : List (Nat × Bytes)) (s : State) : State :=
  bnOp s l.val 0x32 (fun _ => 0) fun s r w => bnIn s r (bI w) (r.ctr.getD 0 0) host fun s bs => (s, bnAbsorb r bs false)

/-- HMSG: the whole message of the job. -/
def doHmsg (l : Fin 4) (host : List (Nat × Bytes)) (s : State) : State :=
  bnOp s l.val 0x33 (fun _ => 0) fun s r _ =>
    match jobRead s r.job.src r.job.dom (r.fld 40 8) (r.fld 34 2) host with
    | (s, .inl st) => (s, r.stop st)
    | (s, .inr bs) => (s, bnAbsorb r bs false)

/-- HSQZ: the digest, or the next IMM bytes of SHAKE, zero-extended. -/
def doHsqz (l : Fin 4) (s : State) : State :=
  bnOp s l.val 0x34 (fun _ => 0) fun s r w =>
    match r.hash with
    | none => (s, r.stop stBADPROF)
    | some h =>
      if bI w = 0 || 1024 < bI w then (s, r.stop stBADPROF)
      else
        let shake := decide (5 ≤ h.mode)
        let n := if shake then bI w else hshOut h.mode
        let cyc := if shake then 50 * hunitPerms h.mode h.out (h.out + n)
          else hunitCyc h.mode * hshEndBlocks h.mode h.msg.length 1 (h.msg.drop (h.msg.length / hshBlock h.mode * hshBlock h.mode))
        let bs := hunitBytes (if shake then h else { h with out := 0 }) n
        let s := wput s l.val r.job.dom (bD w) 128 (leNat bs) h.secret
        (s, { r with hash := some { h with out := h.out + n }, cyc := r.cyc + cyc })

/-! ### The commands -/

/-- BN_END (R262). -/
def execBnEnd (l : Fin 4) (s : State) : Host.Outcome State Fault Refusal := finish s (doBnEnd l s)

/-- BN_FAIL (R262). -/
def execBnFail (l : Fin 4) (s : State) : Host.Outcome State Fault Refusal := finish s (doBnFail l s)

/-- BN_JMP (R262). -/
def execBnJmp (l : Fin 4) (s : State) : Host.Outcome State Fault Refusal := finish s (doBnJmp l s)

/-- BN_BR (R262). -/
def execBnBr (l : Fin 4) (s : State) : Host.Outcome State Fault Refusal := finish s (doBnBr l s)

/-- BN_CALL (R262). -/
def execBnCall (l : Fin 4) (s : State) : Host.Outcome State Fault Refusal := finish s (doBnCall l s)

/-- BN_RET (R262). -/
def execBnRet (l : Fin 4) (s : State) : Host.Outcome State Fault Refusal := finish s (doBnRet l s)

/-- CSET (R262). -/
def execCset (l : Fin 4) (s : State) : Host.Outcome State Fault Refusal := finish s (doCset l s)

/-- CLOOP (R262). -/
def execCloop (l : Fin 4) (s : State) : Host.Outcome State Fault Refusal := finish s (doCloop l s)

/-- SETLEN (R262). -/
def execSetlen (l : Fin 4) (s : State) : Host.Outcome State Fault Refusal := finish s (doSetlen l s)

/-- MODSET (R262). -/
def execModset (l : Fin 4) (s : State) : Host.Outcome State Fault Refusal := finish s (doModset l s)

/-- BN_MOV (R262). -/
def execBnMov (l : Fin 4) (s : State) : Host.Outcome State Fault Refusal := finish s (doBnMov l s)

/-- LDC (R262). -/
def execLdc (l : Fin 4) (s : State) : Host.Outcome State Fault Refusal := finish s (doLdc l s)

/-- GET (R262). -/
def execBnGet (l : Fin 4) (host : List (Nat × Bytes)) (s : State) : Host.Outcome State Fault Refusal := finish s (doBnGet l host s)

/-- PUT (R262). -/
def execBnPut (l : Fin 4) (s : State) : Host.Outcome State Fault Refusal := finish s (doBnPut l s)

/-- KLOAD (R262). -/
def execKload (l : Fin 4) (s : State) : Host.Outcome State Fault Refusal := finish s (doKload l s)

/-- RAND (R262). -/
def execBnRand (l : Fin 4) (s : State) : Host.Outcome State Fault Refusal := finish s (doBnRand l s)

/-- MMUL (R262). -/
def execMmul (l : Fin 4) (s : State) : Host.Outcome State Fault Refusal := finish s (doMmul l s)

/-- MADD (R262). -/
def execMadd (l : Fin 4) (s : State) : Host.Outcome State Fault Refusal := finish s (doMadd l s)

/-- MSUB (R262). -/
def execMsub (l : Fin 4) (s : State) : Host.Outcome State Fault Refusal := finish s (doMsub l s)

/-- MINV (R262). -/
def execMinv (l : Fin 4) (s : State) : Host.Outcome State Fault Refusal := finish s (doMinv l s)

/-- BN_CMP (R262). -/
def execBnCmp (l : Fin 4) (s : State) : Host.Outcome State Fault Refusal := finish s (doBnCmp l s)

/-- BN_ADD (R262). -/
def execBnAdd (l : Fin 4) (s : State) : Host.Outcome State Fault Refusal := finish s (doBnAdd l s)

/-- BN_SUB (R262). -/
def execBnSub (l : Fin 4) (s : State) : Host.Outcome State Fault Refusal := finish s (doBnSub l s)

/-- BN_SHL (R262). -/
def execBnShl (l : Fin 4) (s : State) : Host.Outcome State Fault Refusal := finish s (doBnShl l s)

/-- BN_SHR (R262). -/
def execBnShr (l : Fin 4) (s : State) : Host.Outcome State Fault Refusal := finish s (doBnShr l s)

/-- BTST (R262). -/
def execBtst (l : Fin 4) (s : State) : Host.Outcome State Fault Refusal := finish s (doBtst l s)

/-- CSWAP (R262). -/
def execCswap (l : Fin 4) (s : State) : Host.Outcome State Fault Refusal := finish s (doCswap l s)

/-- WIPE (R262). -/
def execWipe (l : Fin 4) (s : State) : Host.Outcome State Fault Refusal := finish s (doWipe l s)

/-- QSET (R262). -/
def execQset (l : Fin 4) (s : State) : Host.Outcome State Fault Refusal := finish s (doQset l s)

/-- NTT (R266). -/
def execNtt (l : Fin 4) (s : State) : Host.Outcome State Fault Refusal := finish s (doNtt l s)

/-- INTT (R266). -/
def execIntt (l : Fin 4) (s : State) : Host.Outcome State Fault Refusal := finish s (doIntt l s)

/-- PMUL (R266). -/
def execPmul (l : Fin 4) (s : State) : Host.Outcome State Fault Refusal := finish s (doPmul l s)

/-- PADD (R262). -/
def execPadd (l : Fin 4) (s : State) : Host.Outcome State Fault Refusal := finish s (doPadd l s)

/-- PSUB (R262). -/
def execPsub (l : Fin 4) (s : State) : Host.Outcome State Fault Refusal := finish s (doPsub l s)

/-- PMAP (R267). -/
def execPmap (l : Fin 4) (s : State) : Host.Outcome State Fault Refusal := finish s (doPmap l s)

/-- PSAMP (R267). -/
def execPsamp (l : Fin 4) (s : State) : Host.Outcome State Fault Refusal := finish s (doPsamp l s)

/-- PGET (R267). -/
def execPget (l : Fin 4) (host : List (Nat × Bytes)) (s : State) : Host.Outcome State Fault Refusal := finish s (doPget l host s)

/-- PPUT (R267). -/
def execPput (l : Fin 4) (s : State) : Host.Outcome State Fault Refusal := finish s (doPput l s)

/-- PFMT (R267). -/
def execPfmt (l : Fin 4) (s : State) : Host.Outcome State Fault Refusal := finish s (doPfmt l s)

/-- HINIT (R262). -/
def execHinit (l : Fin 4) (s : State) : Host.Outcome State Fault Refusal := finish s (doHinit l s)

/-- HABS (R262). -/
def execHabs (l : Fin 4) (s : State) : Host.Outcome State Fault Refusal := finish s (doHabs l s)

/-- HABSI (R262). -/
def execHabsi (l : Fin 4) (host : List (Nat × Bytes)) (s : State) : Host.Outcome State Fault Refusal := finish s (doHabsi l host s)

/-- HMSG (R262). -/
def execHmsg (l : Fin 4) (host : List (Nat × Bytes)) (s : State) : Host.Outcome State Fault Refusal := finish s (doHmsg l host s)

/-- HSQZ (R262). -/
def execHsqz (l : Fin 4) (s : State) : Host.Outcome State Fault Refusal := finish s (doHsqz l s)

end Sys2Proof.Machine
end

