-- ==== Sys2Proof/Machine/Lsw.lean ====
section
/-! DEFINITION. The power state as PMU_STATE shows it (R523, R540), and the load switches: the arbiter (R535), orders and vetoes
(R536), trips (R537), and what opens every switch (R538). -/

namespace Sys2Proof.Machine

open Sys2Proof

/-! ### The power state -/

/-- The code of a power state in PMU_STATE; OFF has none and shows the state before it. -/
def modeCode : PMode → Option Nat
  | .run => some 0
  | .idle => some 1
  | .doze => some 2
  | .sleep => some 3
  | .off => none

/-- The PMU replaced. -/
def setPmu (s : State) (p : Pmu) : State := { s with pmu := p }

/-- The power state changes: PMU_STATE shows it, and event 12 is raised (R523). -/
def setMode (s : State) (m : PMode) : State :=
  if s.pmu.mode = m then s
  else
    let s := setPmu s { s.pmu with mode := m }
    raise (match modeCode m with | some c => wrFld s Reg.PMU_STATE 2 0 c | none => s) 1 4

/-- RUN is requested: DOZE and IDLE are left (R161, R523). -/
def pmuRun (s : State) : State :=
  let s := wrFld s Reg.PMU_STATE 10 8 0
  match s.pmu.mode with
  | .doze => setMode s .run
  | .idle => setMode s .run
  | _ => s

/-! ### The switches -/

/-- Whether a switch is closed. -/
def lswClosed (s : State) (n : Nat) : Bool := bit (rd s Reg.LSW_STAT) n
/-- Whether a switch is tripped. -/
def lswTripped (s : State) (n : Nat) : Bool := bit (rd s Reg.LSW_STAT) (8 + n)
/-- LSW_POL of a switch. -/
def lswPol (s : State) (n : Nat) : Word := rd s (Reg.LSW_POL + 4 * n)
/-- The load-switch times replaced. -/
def setLsw (s : State) (x : LswSt) : State := { s with lsw := x }

/-- A switch opens. -/
def lswOpen (s : State) (n : Nat) : State :=
  if lswClosed s n then
    let s := wrBit (wrBit s Reg.LSW_STAT n false) Reg.LSW_STAT (16 + n) false
    setLsw s { s.lsw with openedAt := mset 0 s.lsw.openedAt n s.tick }
  else s

/-- A switch closes. -/
def lswClose (s : State) (n : Nat) : State :=
  if lswClosed s n then s
  else setLsw (wrBit s Reg.LSW_STAT n true) { s.lsw with closedAt := mset 0 s.lsw.closedAt n s.tick }

/-- What an order asks of a switch: 1 open, 2 close, else no change. -/
def lswAsk (v : Word) (n : Nat) : Nat := fld v (2 * n + 1) (2 * n)

/-- An assay order for one switch: always executed (R536). -/
def lswAssay (s : State) (n ask : Nat) : State :=
  if ask = 1 then lswOpen s n
  else if ask = 2 then wrBit (lswClose (wrBit s Reg.LSW_STAT (8 + n) false) n) Reg.LSW_STAT (16 + n) false
  else s

/-- Whether a supervisor order for one switch is vetoed (R536). -/
def lswVeto (s : State) (n ask : Nat) : Bool :=
  let p := lswPol s n
  let opened := mget 0 s.lsw.openedAt n
  (ask == 1 || ask == 2) &&
    (lswTripped s n || (ask == 1 && !bit p 30) ||
      (ask == 2 && (!bit p 31 || decide (s.tick < opened + fld p 23 16 * 100000))))

/-- A supervisor order for one switch that is not vetoed (R536). -/
def lswSup (s : State) (n ask : Nat) : State :=
  if ask = 1 then lswOpen s n
  else if ask = 2 && !lswClosed s n then wrBit (lswClose s n) Reg.LSW_STAT (16 + n) true
  else s

/-- The four switches. -/
def lswAll : List Nat := [0, 1, 2, 3]

/-- Event 16 + n for each switch that ends the cycle in another state than it started in (R535). -/
def lswEvents (s0 s : State) : State :=
  lswAll.foldl (fun s n => if lswClosed s0 n = lswClosed s n then s else raise s 2 n) s

/-- An assay order (R535, R536): each switch in turn, and LSW_ASTAT reports the states produced. -/
def lswOrder (s : State) (v : Word) : State :=
  let t := lswAll.foldl (fun s n => lswAssay s n (lswAsk v n)) s
  lswEvents s (wr t Reg.LSW_ASTAT (word (fld (rd t Reg.LSW_STAT) 3 0)))

/-- LSW_ORDER: an MC write (R535). -/
def doLswOrder (i : Initiator) (v : Word) (s : State) : State := guardW s i Reg.LSW_ORDER fun s => lswOrder s v

/-- PMU_LSWREQ: a supervisor order (R535, R536). -/
def doPmuLswreq (i : Initiator) (v : Word) (s : State) : State :=
  guardW s i Reg.PMU_LSWREQ fun s =>
    let veto := lswAll.filter fun n => lswVeto s n (lswAsk v n)
    let t := lswAll.foldl (fun s n => if lmem n veto then s else lswSup s n (lswAsk v n)) s
    let mask := veto.foldl (fun m n => m + 2 ^ n) 0
    let st := if veto.isEmpty then stOK else stPROT
    let t := wr t Reg.PMU_LSWSTAT
      (word (0x80000000 + fld v 29 24 * 0x1000000 + st * 0x10000 + mask * 0x100 + fld (rd t Reg.LSW_STAT) 3 0))
    lswEvents s (if veto.isEmpty then t else raise t 2 8)

/-- LSW_MAXON_EXPIRY: MAXON seconds have passed since a supervisor order closed the switch (R536). -/
def doLswMaxonExpiry (n : Fin 4) (s : State) : State :=
  if bit (rd s Reg.LSW_STAT) (16 + n.val) && fld (lswPol s n.val) 15 0 != 0 then lswEvents s (lswOpen s n.val) else s

/-- The closed switch that was closed most recently. -/
def lswLast (s : State) : Option Nat :=
  lswAll.foldl (fun b n =>
    if !lswClosed s n then b
    else match b with
      | none => some n
      | some m => if mget 0 s.lsw.closedAt m < mget 0 s.lsw.closedAt n then some n else b) none

/-- A closed switch trips (R537). -/
def lswTrip (s : State) (n : Nat) : State :=
  if lswClosed s n then
    let t := wrBit (lswOpen s n) Reg.LSW_STAT (8 + n) true
    lswEvents s (raise (bumpSat t Reg.LSW_TRIPS (8 * n + 7) (8 * n)) 2 (4 + n))
  else s

/-- LSW_TRIP: the current of a switch, or of all together, exceeds a limit for its time (R537). -/
def doLswTrip (n : Option (Fin 4)) (s : State) : State :=
  match n with
  | some n => lswTrip s n.val
  | none => match lswLast s with
    | some n => lswTrip s n
    | none => s

/-- LSW_POL_WRITE: a policy changes, and no switch with it (R536). -/
def doLswPolWrite (i : Initiator) (n : Fin 4) (v : Word) (s : State) : State :=
  let a := Reg.LSW_POL + 4 * n.val
  guardW s i a fun s => storeReg s i a v

/-- The switches with PFOPEN open at the opening of the service window (R531). -/
def lswWindow (s : State) : State := lswEvents s ((lswAll.filter fun n => bit (lswPol s n) 29).foldl lswOpen s)

/-- Every switch opens (R538). -/
def lswOff (s : State) : State := lswAll.foldl lswOpen s

/-- VLOAD_LOSS: VLOAD becomes absent (R538). -/
def doVloadLoss (s : State) : State := wrBit (wrBit s Reg.PMU_RAILS 3 false) Reg.LSW_STAT 24 false

/-- VLOAD_RETURN: VLOAD is back, and closed switches deliver again (R538). -/
def doVloadReturn (s : State) : State := wrBit (wrBit s Reg.PMU_RAILS 3 true) Reg.LSW_STAT 24 true

/-! ### The commands -/

/-- LSW_ORDER (R535). -/
def execLswOrder (i : Initiator) (v : Word) (s : State) : Host.Outcome State Fault Refusal := finish s (doLswOrder i v s)

/-- PMU_LSWREQ (R536). -/
def execPmuLswreq (i : Initiator) (v : Word) (s : State) : Host.Outcome State Fault Refusal := finish s (doPmuLswreq i v s)

/-- LSW_MAXON_EXPIRY (R536). -/
def execLswMaxonExpiry (n : Fin 4) (s : State) : Host.Outcome State Fault Refusal := finish s (doLswMaxonExpiry n s)

/-- LSW_TRIP (R537). -/
def execLswTrip (n : Option (Fin 4)) (s : State) : Host.Outcome State Fault Refusal := finish s (doLswTrip n s)

/-- LSW_POL_WRITE (R536). -/
def execLswPolWrite (i : Initiator) (n : Fin 4) (v : Word) (s : State) : Host.Outcome State Fault Refusal := finish s (doLswPolWrite i n v s)

/-- VLOAD_LOSS (R538). -/
def execVloadLoss (s : State) : Host.Outcome State Fault Refusal := finish s (doVloadLoss s)

/-- VLOAD_RETURN (R538). -/
def execVloadReturn (s : State) : Host.Outcome State Fault Refusal := finish s (doVloadReturn s)

end Sys2Proof.Machine
end

