-- ==== Sys2Proof/Machine/Tills.lean ====
section
/-! DEFINITION. Tills (R377 to R384, R387): room, reservation, packets, takes, flush and disable. -/

namespace Sys2Proof.Machine

open Sys2Proof

/-- A till that is not enabled. -/
def Till.idle : Till :=
  { packets := [], open_ := [], opener := none, resv := 0, next := 0, last := 0#64, stale := false, discard := none,
    disabling := false, since := 0 }

/-- A till. -/
def getTill (s : State) (t : Nat) : Till := mget Till.idle s.tills t
/-- The state with a till replaced. -/
def setTill (s : State) (t : Nat) (x : Till) : State := { s with tills := mset Till.idle s.tills t x }

/-- The page of a till. -/
def tillPage (t : Nat) : Nat := 0x32 + t / 64
/-- The address of TIL_CFG of a till. -/
def tillCfgReg (t : Nat) : Nat := Reg.TIL_CFG + t / 64 * 4096 + t % 64 * 16
/-- The address of TIL_EVRAW of a till. -/
def tillEvReg (t : Nat) : Nat := Reg.TIL_EVRAW + t / 64 * 4096 + t % 64 * 4
/-- TIL_CFG of a till. -/
def tillCfg (s : State) (t : Nat) : Word := rd s (tillCfgReg t)
/-- TIL_MEM of a till. -/
def tillMem (s : State) (t : Nat) : Word := rd s (tillCfgReg t + 4)
/-- PROD. -/
def tillProd (s : State) (t : Nat) : Nat := fld (tillCfg s t) 30 29
/-- The words of a till. -/
def tillSize (s : State) (t : Nat) : Nat := fld (tillMem s t) 10 0 * 64

/-- Raise a cause of a till. -/
def tillRaise (s : State) (t k : Nat) : State := wrBit s (tillEvReg t) k true

/-- Whether a till is enabled and takes new packets (R377, R384, R387). -/
def tillOpenFor (s : State) (t : Nat) : Bool := bit (tillCfg s t) 31 && tillProd s t != 3 && !(getTill s t).disabling

/-- The committed words of a till. -/
def tillWords (x : Till) : Nat := x.packets.foldl (fun a p => a + p.words.length) 0

/-- Room: the size less the committed, open and reserved words (R378). -/
def tillRoom (s : State) (t : Nat) : Nat :=
  let x := getTill s t
  tillSize s t - (tillWords x + x.open_.length + x.resv)

/-- The words of a byte string, zero-padded. -/
def toWords (bs : Bytes) : List DWord := (pieces 8 ((bs.length + 7) / 8) bs).map fun p => BitVec.ofNat 64 (leNat p)

/-- Whether a hardware producer may reserve `n` words in a till (R379). -/
def hwMayReserve (s : State) (t n : Nat) : Bool := tillOpenFor s t && tillProd s t == 0 && decide (n ≤ tillRoom s t)

/-- Reserve words. -/
def tillReserve (s : State) (t n : Nat) : State := setTill s t { getTill s t with resv := (getTill s t).resv + n }

/-- A pending disable discards the contents once no reservation remains (R384). -/
def tillSettle (s : State) (t : Nat) : State :=
  let x := getTill s t
  if x.disabling && x.resv = 0 then wrBit (setTill s t Till.idle) (tillCfgReg t) 31 false
  else s

/-- A packet commits: it takes the next number, and cause DATA is raised (R378, R387). -/
def tillCommit (s : State) (t : Nat) (ws : List DWord) : State :=
  let x := getTill s t
  let x' := { x with packets := x.packets ++ [⟨x.next, ws⟩], next := (x.next + 1) % 2 ^ 32,
                     since := if x.packets.isEmpty then s.tick else x.since }
  tillRaise (setTill s t x') t 0

/-- A reservation given back without a packet. -/
def tillRelease (s : State) (t n : Nat) : State :=
  tillSettle (setTill s t { getTill s t with resv := (getTill s t).resv - n }) t

/-- A hardware producer writes its packet into reserved room and gives the rest of the reservation back (R379). -/
def tillDeliver (s : State) (t resv : Nat) (bs : Bytes) : State :=
  let s := setTill s t { getTill s t with resv := (getTill s t).resv - resv }
  tillSettle (tillCommit s t (toWords bs)) t

/-- The words, and whether the last of a packet, that a take gives; the till after it. -/
def tillTake (x : Till) : Option (DWord × Bool × Till) :=
  match x.packets with
  | [] => none
  | p :: ps =>
    match p.words with
    | [] => none
    | w :: ws =>
      if ws.isEmpty then some (w, true, { x with packets := ps, last := w })
      else some (w, false, { x with packets := { p with words := ws } :: ps, last := w })

/-- A take restarts the STALE time and clears STALE (R381). -/
def tillTaken (s : State) (t : Nat) (x : Till) : State := setTill s t { x with stale := false, since := s.tick }

/-- A pending flush takes effect once the till has no open packet (R383): TIL_CMDSTAT names the till. -/
def tillFlushNow (s : State) (t : Nat) : State :=
  let x := getTill s t
  let cs := hdr (tillPage t) 0x84
  let s := setTill s t { x with packets := [], stale := false }
  wr (tillRaise s t 5) cs 0#32

/-- Whether a flush of the till waits. -/
def tillFlushWaits (s : State) (t : Nat) : Bool :=
  let p := tillPage t
  bit (rd s (hdr p 0x84)) 31 && fld (rd s (hdr p 0x80)) 31 28 == 1 && fld (rd s (hdr p 0x80)) 5 0 == t % 64

/-- Run a waiting flush if the till has no open packet. -/
def tillAfterOpen (s : State) (t : Nat) : State :=
  if tillFlushWaits s t && (getTill s t).opener.isNone then tillFlushNow s t else s

/-- The memory range of a till, in units. -/
def tillRange (w : Word) : Nat × Nat := (fld w 25 16, fld w 10 0)

/-- Whether the range of a till leaves the memory or overlaps an enabled till (R377). -/
def tillRangeBad (s : State) (t : Nat) : Bool :=
  let (b, n) := tillRange (tillMem s t)
  n == 0 || decide (1024 < b + n) ||
  (List.range 128).any fun u =>
    u != t && bit (tillCfg s u) 31 &&
      (let (b', n') := tillRange (tillMem s u)
       decide (b < b' + n') && decide (b' < b + n))

/-- TILL_ENABLE: a write of TIL_CFG with EN = 1 (R377, R384). -/
def doTillEnable (i : Initiator) (t : Fin 128) (cfg : Word) (s : State) : State :=
  guardW s i (tillCfgReg t.val) fun s =>
    let old := tillCfg s t.val
    if bit old 31 then
      if (getTill s t.val).disabling || (cfg ||| 0x80000000#32) != old then
        noteErr s i (tillPage t.val) (tillCfgReg t.val % 4096) 4 true
      else s
    else
      let s := wr s (tillCfgReg t.val) (cfg &&& 0x7FFFFFFF#32)
      if tillRangeBad s t.val then tillRaise s t.val 6
      else setTill (wrBit s (tillCfgReg t.val) 31 true) t.val Till.idle

/-- TILL_DISABLE: a write of EN = 0 (R384). -/
def doTillDisable (i : Initiator) (t : Fin 128) (s : State) : State :=
  guardW s i (tillCfgReg t.val) fun s =>
    if bit (tillCfg s t.val) 31 then
      tillSettle (setTill s t.val { getTill s t.val with disabling := true }) t.val
    else s

/-- FLUSH: a write of TIL_CMD with OP 1 (R383, R387). -/
def doTillFlush (i : Initiator) (t : Fin 128) (s : State) : State :=
  let p := tillPage t.val
  guardW s i (hdr p 0x80) fun s =>
    if bit (rd s (hdr p 0x84)) 31 then noteErr s i p 0x80 4 true
    else
      let s := wr s (hdr p 0x80) (word (0x10000000 + t.val % 64))
      if (getTill s t.val).opener.isNone then tillFlushNow s t.val else wr s (hdr p 0x84) 0x80000000#32

/-- TILL_STALE: committed words have stood untaken for STALE ms (R381). -/
def doTillStale (t : Fin 128) (s : State) : State :=
  let x := getTill s t.val
  if fld (tillCfg s t.val) 15 0 = 0 || x.packets.isEmpty || x.stale then s
  else tillRaise (setTill s t.val { x with stale := true }) t.val 2

/-- TILL_PTRERR: the pointer copies differ and the till is reset (R382). -/
def doTillPtrerr (t : Fin 128) (s : State) : State :=
  let x := getTill s t.val
  if !bit (tillCfg s t.val) 31 then s
  else
    let lost := x.packets.length + b2n x.opener.isSome
    let lr := hdr (tillPage t.val) 0x88
    let s := wr s lr (word (min 0xFFFF ((rd s lr).toNat + lost)))
    let disc := match x.opener with
      | some .hw => x.discard
      | some .chan => x.discard
      | some o => some o
      | none => x.discard
    let s := setTill s t.val { x with packets := [], open_ := [], opener := none, discard := disc, stale := false }
    tillAfterOpen (tillRaise s t.val 3) t.val

/-! ### Core pushes and takes (R331, R379, R380) -/

/-- A core's word appended to the open packet it holds or opens; `last` commits the packet. A word that would make the
packet larger than the till is discarded with the packet, and OVERSIZE is raised; words into a packet that a pointer reset
discarded are dropped up to its end (R379, R382). -/
def tillPush (s : State) (t : Nat) (o : Opener) (w : DWord) (last : Bool) : State :=
  let x := getTill s t
  if x.discard = some o then
    (if last then setTill s t { x with discard := none } else s)
  else if tillSize s t < x.open_.length + 1 then
    tillAfterOpen (tillRaise (setTill s t { x with open_ := [], opener := none }) t 4) t
  else if last then
    tillAfterOpen (tillSettle (tillCommit (setTill s t { x with open_ := [], opener := none }) t (x.open_ ++ [w])) t) t
  else setTill s t { x with open_ := x.open_ ++ [w], opener := some o }

/-- Whether a push by an opener must wait: another core holds the open packet, or the till is full (R331, R379). -/
def tillPushWaits (s : State) (t : Nat) (o : Opener) : Bool :=
  let x := getTill s t
  if x.discard = some o then false
  else (match x.opener with | some p => decide (p ≠ o) | none => false) ||
    (decide (x.open_.length + 1 ≤ tillSize s t) && tillRoom s t == 0)

/-- REWIND: the open packet of the core is discarded without trace (R378, R382). -/
def tillRewind (s : State) (t : Nat) (o : Opener) : State :=
  let x := getTill s t
  if x.discard = some o then setTill s t { x with discard := none }
  else if x.opener = some o then tillAfterOpen (setTill s t { x with open_ := [], opener := none }) t
  else s

/-! ### The commands -/

/-- TILL_ENABLE (R377). -/
def execTillEnable (i : Initiator) (t : Fin 128) (cfg : Word) (s : State) : Host.Outcome State Fault Refusal := finish s (doTillEnable i t cfg s)

/-- TILL_DISABLE (R384). -/
def execTillDisable (i : Initiator) (t : Fin 128) (s : State) : Host.Outcome State Fault Refusal := finish s (doTillDisable i t s)

/-- FLUSH (R383). -/
def execTillFlush (i : Initiator) (t : Fin 128) (s : State) : Host.Outcome State Fault Refusal := finish s (doTillFlush i t s)

/-- TILL_STALE (R381). -/
def execTillStale (t : Fin 128) (s : State) : Host.Outcome State Fault Refusal := finish s (doTillStale t s)

/-- TILL_PTRERR (R382). -/
def execTillPtrerr (t : Fin 128) (s : State) : Host.Outcome State Fault Refusal := finish s (doTillPtrerr t s)

end Sys2Proof.Machine
end

