-- ==== Sys2Proof/Machine/Calendar.lean ====
section
/-! DEFINITION. The posting calendar (R154 to R168): arming, falling due, bursts and firings, actions, closings and the closing
store. -/

namespace Sys2Proof.Machine

open Sys2Proof

/-! ### Postings -/

/-- The calendar replaced. -/
def setCal (s : State) (c : CalSt) : State := { s with cal := c }

/-- A word of a posting set. -/
def setPostWord (s : State) (p w : Nat) (v : Word) : State := setCal s { s.cal with post := mset 0#32 s.cal.post (8 * p + w) v }

/-- The compare value of a posting set. -/
def setCmp (s : State) (p cmp : Nat) : State := setPostWord (setPostWord s p 1 (word cmp)) p 2 (word (cmp / 2 ^ 32))

/-- The four actions of a posting. -/
def postActs (s : State) (p : Nat) : List Nat :=
  let a := postWord s p 5
  let b := postWord s p 6
  [fld a 15 0, fld a 31 16, fld b 15 0, fld b 31 16]

/-- Whether a posting recurs (R156). -/
def recurs (s : State) (p : Nat) : Bool := postInc s p != 0 && !bit (postWord s p 0) 30

/-- Whether an axis code is in use (R146). -/
def axisOk (code : Nat) : Bool := code ≤ 2 || (0x200 ≤ code && code < 0x400)

/-- Whether an action is one of R161 with an argument in range. -/
def actOk (a : Nat) : Bool :=
  let arg := a % 4096
  match a / 4096 with
  | 0 => arg == 0
  | 1 => arg < 16
  | 2 => arg < 16
  | 3 => arg < 63
  | 4 => arg < 3
  | 5 => arg < 64
  | 6 => arg < 16 && arg % 4 < 2
  | 7 => true
  | 8 => true
  | _ => false

/-- The checks of ARM (R156). -/
def postOk (s : State) (p : Nat) : Bool := axisOk (postAxis s p) && (postActs s p).all actOk

/-- A posting leaves its heap, and the burst if it has not fired. -/
def disarm (s : State) (p : Nat) : State :=
  let s := setPostWord s p 0 (setBit (postWord s p 0) 31 false)
  setCal s { s.cal with burst := s.cal.burst.filter fun d => d.p != p }

/-- A posting enters its heap with a compare value. -/
def armAt (s : State) (p cmp : Nat) : State := setPostWord (setCmp s p cmp) p 0 (setBit (postWord s p 0) 31 true)

/-- The armed posting of an axis with the lowest CMP, and among equals the lowest number (R157), of those a condition admits. -/
def rootWhere (s : State) (code : Nat) (f : Nat → Bool) : Option Nat :=
  (armedPostings s).foldl (fun b p =>
    if postAxis s p != code || !f p then b
    else match b with
      | none => some p
      | some q => if postCmp s p < postCmp s q ∨ (postCmp s p = postCmp s q ∧ p < q) then some p else b) none

/-- The root of an axis's heap. -/
def heapRoot (s : State) (code : Nat) : Option Nat := rootWhere s code fun _ => true

/-- Whether a posting has joined the current burst. -/
def inBurst (s : State) (p : Nat) : Bool := s.cal.burst.any fun d => d.p == p

/-- Whether any posting is due. -/
def anyDue (s : State) : Bool := (armedPostings s).any fun p => decide (postCmp s p ≤ axisValue s (postAxis s p))

/-- A burst ends when no posting is due; the tally scheduler goes on once its closings have been captured (R158, R162). -/
def burstEnd (s : State) : State :=
  if s.cal.burst.isEmpty && s.cal.caps.isEmpty && !anyDue s then setCal s { s.cal with closing := false, round := 0 } else s

/-! ### Commands (R156, R168) -/

/-- ARM of a posting (R156): its status. -/
def armPost (s : State) (p : Nat) (past : Bool) : State × Nat :=
  if !postOk s p then (s, stBADPROF)
  else
    let s := setPostWord (disarm s p) p 7 0#32
    let v := axisValue s (postAxis s p)
    let cmp := postCmp s p
    let inc := postInc s p
    if v < cmp || past then (armAt s p cmp, stOK)
    else if recurs s p then
      let new := cmp + ((v - cmp) / inc + 1) * inc
      if 2 ^ 64 ≤ new then (s, stEXHAUST) else (armAt s p new, stOK)
    else (s, stTIMEOUT)

/-- A write of CAL_CMD: discarded while BUSY; the command is held in the register, and its status shown. -/
def calCmd (s : State) (i : Initiator) (op : Nat) (v : Word) (k : State → State × Nat) : State :=
  guardW s i Reg.CAL_CMD fun s =>
    if bit (rd s Reg.CAL_CMDSTAT) 31 then noteErr s i 0x25 (Reg.CAL_CMD % 4096) 4 true
    else
      let (s, st) := k (wr s Reg.CAL_CMD (setFld (v &&& 0xF8000FFF#32) 31 28 op))
      burstEnd (wr s Reg.CAL_CMDSTAT (word st))

/-- ARM. -/
def doArm (i : Initiator) (v : Word) (s : State) : State := calCmd s i 1 v fun s => armPost s (fld v 11 0) (bit v 27)

/-- DISARM. -/
def doDisarm (i : Initiator) (v : Word) (s : State) : State := calCmd s i 2 v fun s => (disarm s (fld v 11 0), stOK)

/-- DISARM_AXIS. -/
def doDisarmAxis (i : Initiator) (v : Word) (s : State) : State :=
  calCmd s i 3 v fun s => (((armedPostings s).filter fun p => postAxis s p == fld v 9 0).foldl disarm s, stOK)

/-- CAL_PEEKAX: the root of a heap is captured (R168). -/
def doCalPeekax (i : Initiator) (v : Word) (s : State) : State :=
  guardW s i Reg.CAL_PEEKAX fun s =>
    let s := wr s Reg.CAL_PEEKAX (v &&& 0x3FF#32)
    match heapRoot s (fld v 9 0) with
    | some p => wrWords (wr s Reg.CAL_PEEK (word (0x80000000 + p))) Reg.CAL_PEEKCMP 2 (postCmp s p)
    | none => wrWords (wr s Reg.CAL_PEEK 0#32) Reg.CAL_PEEKCMP 2 0

/-- CAL_LATMAX_WRITE (R168). -/
def doCalLatmaxWrite (i : Initiator) (v : Word) (s : State) : State :=
  guardW s i Reg.CAL_LATMAX fun s => wr s Reg.CAL_LATMAX (v &&& 0xFFFF#32)

/-- A write of CAL_PDATA (R155), after which an AUTOINC index steps, WORD first (R168, R582). -/
def postIndexStep (s : State) : State :=
  let w := rd s Reg.CAL_PIDX
  if bit w 31 then
    let n := (8 * fld w 11 0 + fld w 14 12 + 1) % 32768
    wr s Reg.CAL_PIDX (word (0x80000000 + n % 8 * 4096 + n / 8))
  else s

/-- CAL_PDATA written. -/
def postDataWrite (s : State) (i : Initiator) (v : Word) : State :=
  let p := fld (rd s Reg.CAL_PIDX) 11 0
  let w := fld (rd s Reg.CAL_PIDX) 14 12
  let s :=
    if w = 7 then noteErr s i 0x25 (Reg.CAL_PDATA % 4096) 6 true
    else if postArmed s p then noteErr s i 0x25 (Reg.CAL_PDATA % 4096) 4 true
    else setPostWord s p w (if w = 0 then v &&& 0x43FF0000#32 else v)
  postIndexStep s

/-- CAL_PDATA read. -/
def postDataRead (s : State) : Word × State :=
  (postWord s (fld (rd s Reg.CAL_PIDX) 11 0) (fld (rd s Reg.CAL_PIDX) 14 12), postIndexStep s)

/-! ### Actions (R161) -/

/-- The tallies of a closing set, ascending. -/
def setMembers (s : State) (k : Nat) : List Nat :=
  (List.range 8).flatMap fun w =>
    let m := rd s (Reg.CAL_SETMASK + 32 * k + 4 * w)
    (List.range 32).filterMap fun b => if bit m b then some (32 * w + b) else none

/-- The free bytes of the closing store: what no record and no requested capture takes (R166). -/
def storeFree (s : State) : Nat :=
  65536 - ((s.cal.store.foldl (fun n c => n + c.bytes.length) 0) + s.cal.caps.foldl (fun n c => n + c.room) 0)

/-- A firing under way: its status, the closing its CLOSE took, and the ARM and DISARM actions that take effect after the advance. -/
structure Firing where
  status : Nat
  closing : Option Nat
  later : List (Nat × Bool)
  deriving DecidableEq, Repr

/-- CLOSE: the capture is requested (R161, R162). -/
def actClose (s : State) (f : Firing) (p set cmp missed : Nat) (late : Bool) : State × Firing × Nat :=
  let room := 32 + 64 * (setMembers s set).length
  let s := setCal s { s.cal with closing := true }
  if !bit (rd s (Reg.CAL_SETCFG + 4 * set)) 31 || room == 32 || decide (storeFree s < room) then (s, f, stNORES)
  else
    let n := s.cal.next
    let q : CapReq := { id := n, posting := p, set := set, axis := postAxis s p, cmp := cmp, late := late, missed := missed, room := room }
    (setCal s { s.cal with caps := s.cal.caps ++ [q], next := n + 1 }, { f with closing := some n }, stOK)

/-- WAKE: RUN is requested and the core leaves its wait (R161, R295). -/
def actWake (s : State) (n : Nat) : State :=
  let c := if n = 0 then CoreId.ac0 else if n = 1 then .ac1 else .mc
  let s := pmuRun s
  if (getCore s c).run = .waiting then setCore s c { getCore s c with run := .running } else s

/-- The status an ARM action finds (R156, R161). -/
def actArm (s : State) (q : Nat) : Nat :=
  if !postOk s q then stBADPROF else if 2 ^ 64 ≤ axisValue s (postAxis s q) + postInc s q then stEXHAUST else stOK

/-- An action starts: the state, what the firing keeps of it, and its status. -/
def startAct (s : State) (f : Firing) (p cmp missed : Nat) (late : Bool) (a : Nat) : State × Firing × Nat :=
  let arg := a % 4096
  match a / 4096 with
  | 1 => actClose s f p arg cmp missed late
  | 2 =>
    if 16 ≤ s.seals.length || !enabled s 0x0F || lmem 0x0F s.enOff then (s, f, stNORES)
    else ({ s with seals := s.seals ++ [{ profile := arg, posting := p, late := late, cmp := cmp, closing := f.closing }] }, f, stOK)
  | 3 => (wrBit s (Reg.CAL_LRAW + arg / 32 * 4) (arg % 32) true, f, stOK)
  | 4 => (actWake s arg, f, stOK)
  | 5 => if chanOn s arg then (chanStart s arg, f, stOK) else (s, f, stNORES)
  | 6 => (lswOrder s (word (2 ^ (2 * (arg / 4)) * (arg % 4 + 1))), f, stOK)
  | 7 => (s, if actArm s arg = stOK then { f with later := f.later ++ [(arg, true)] } else f, actArm s arg)
  | 8 => (s, { f with later := f.later ++ [(arg, false)] }, stOK)
  | _ => (s, f, stOK)

/-- The actions of a posting in order; a failed one sets ACTFAIL and leaves its status if it is the first. -/
def runActs (p cmp missed : Nat) (late : Bool) : List Nat → State → Firing → State × Firing
  | [], s, f => (s, f)
  | a :: rest, s, f =>
    match startAct s f p cmp missed late a with
    | (s, f, 0) => runActs p cmp missed late rest s f
    | (s, f, st) => runActs p cmp missed late rest (raise s 0x25 1) (if f.status = stOK then { f with status := st } else f)

/-- An ARM or DISARM action takes effect; a posting armed at or below its axis joins the end of the burst (R160, R161). -/
def lateAct (s : State) (a : Nat × Bool) : State :=
  if a.2 then
    let s := setPostWord (disarm s a.1) a.1 7 0#32
    let v := axisValue s (postAxis s a.1)
    let s := armAt s a.1 (v + postInc s a.1)
    if postInc s a.1 = 0 then
      setCal s { s.cal with round := s.cal.round + 1, burst := s.cal.burst ++ [⟨a.1, s.cal.round + 1⟩] }
    else s
  else disarm s a.1

/-! ### Firing (R158 to R163) -/

/-- POSTING_DUE: the root of an axis's heap falls due, of those not yet in the burst (R158). -/
def doPostingDue (axis : Nat) (s : State) : State :=
  if !awake s then s
  else match rootWhere s axis fun p => !inBurst s p with
    | some p => if postCmp s p ≤ axisValue s axis then setCal s { s.cal with burst := s.cal.burst ++ [⟨p, 0⟩] } else s
    | none => s

/-- Whether a posting of the burst comes before another (R160). -/
def dueBefore (s : State) (a b : Due) : Bool :=
  let k (d : Due) : List Nat := [d.round, postAxis s d.p, postCmp s d.p, d.p]
  decide (k a < k b)

/-- The posting of the burst that fires next. -/
def nextDue (s : State) : Option Due :=
  s.cal.burst.foldl (fun b d => match b with
    | none => some d
    | some x => if dueBefore s d x then some d else b) none

/-- The recurrences up to the axis value (R159): k, or 1 where the posting does not recur. -/
def fireSteps (s : State) (p : Nat) : Nat :=
  if recurs s p then (axisValue s (postAxis s p) - postCmp s p) / postInc s p + 1 else 1

/-- The advance of a posting after its actions (R159): PSTAT's fields with it. -/
def advance (s : State) (p : Nat) (late : Bool) (status : Nat) : State :=
  let w := postWord s p 7
  let cmp := postCmp s p
  let k := fireSteps s p
  let put (s : State) (missed st : Nat) : State :=
    setPostWord s p 7 (word (missed * 0x1000000 + b2n late * 0x800000 + (fld w 15 8 + 1) % 256 * 256 + st))
  if !recurs s p then put (disarm s p) (fld w 31 24) status
  else if 2 ^ 64 ≤ cmp + k * postInc s p then raise (put (disarm s p) (fld w 31 24) stEXHAUST) 0x25 2
  else
    let s' := put (armAt (disarm s p) p (cmp + k * postInc s p)) (min 255 (fld w 31 24 + k - 1)) status
    if 1 < k then raise s' 0x25 3 else s'

/-- The latency of a firing, in SCLK cycles (R163). -/
def noteDelay (s : State) (delay : Nat) : State :=
  let s := if fld (rd s Reg.CAL_LATMAX) 15 0 < delay then wr s Reg.CAL_LATMAX (word (min 65535 delay)) else s
  if 800 < delay then raise (bumpSat s Reg.CAL_LATE 15 0) 0x25 0 else s

/-- POSTING_FIRE: the next posting of the burst fires, `delay` SCLK cycles after its crossing. -/
def doPostingFire (delay : Nat) (s : State) : State :=
  if !awake s then s
  else match nextDue s with
    | none => s
    | some d =>
      let p := d.p
      let cmp := postCmp s p
      let k := fireSteps s p
      let late := decide (800 < delay)
      let missed := if recurs s p && decide (2 ^ 64 ≤ cmp + k * postInc s p) then 0 else k - 1
      let (s, f) := runActs p cmp missed late (postActs s p) (noteDelay s delay) { status := stOK, closing := none, later := [] }
      burstEnd (f.later.foldl lateAct (advance s p late f.status))

/-! ### Closings (R162, R166, R167) -/

/-- The entry of a tally in a closing record. -/
def closingEntry (s : State) (n : Nat) : Bytes :=
  let t := getTally s n
  leBytes 2 n ++ leBytes 2 0 ++ leBytes 4 (talSts s n).toNat ++ leBytes 12 (t.pos / 2 ^ 48) ++ leBytes 6 (t.pos % 2 ^ 48) ++
    leBytes 2 (t.err % 2 ^ 16) ++ leBytes 12 (t.neg / 2 ^ 48) ++ leBytes 6 (t.neg % 2 ^ 48) ++ leBytes 2 0 ++
    leBytes 12 (t.err / 2 ^ 16) ++ leBytes 4 t.upd

/-- The header of a closing record; a MISSED beyond its two bytes is a free value. -/
def closingHeader (s : State) (q : CapReq) (count : Nat) : Bytes × State :=
  let (m, s) := if q.missed < 65536 then (q.missed, s) else let (k, s) := fresh s; ((Config.free 16 k).toNat, s)
  ([1#8, 2#8] ++ leBytes 2 q.posting ++ leBytes 2 q.axis ++
    [BitVec.ofNat 8 q.set, BitVec.ofNat 8 (b2n q.late + 2 * b2n (decide (0 < q.missed)))] ++
    leBytes 8 q.cmp ++ leBytes 8 s.tick ++ leBytes 4 (rtcSecs s) ++ leBytes 2 count ++ leBytes 2 m, s)

/-- A requested capture is taken, by the set's mask as it stands now; one that no longer fits is not (R166, R168). -/
def takeCapture (s : State) (q : CapReq) : State :=
  let ms := setMembers s q.set
  if ms.isEmpty || decide (storeFree s < 32 + 64 * ms.length) then raise s 0x25 1
  else
    let (h, s) := closingHeader s q ms.length
    setCal s { s.cal with store := s.cal.store ++ [⟨q.id, q.set, h ++ ms.flatMap (closingEntry s)⟩] }

/-- CLOSING_CAPTURE: the ALU holds no update, and every closing of the burst is captured (R162). -/
def doClosingCapture (s : State) : State :=
  if s.tal.alu.isSome || s.cal.caps.isEmpty then s
  else burstEnd (s.cal.caps.foldl takeCapture (setCal s { s.cal with caps := [] }))

/-- Whether a queued seal, or the one in progress before its tree is done, names a closing (R166, R251). -/
def sealNames (s : State) (id : Nat) : Bool :=
  (s.seals.any fun q => decide (q.closing = some id)) ||
    match s.lanes.sealing with
    | some r => r.root.isNone && r.status == stOK && decide (r.req.closing = some id)
    | none => false

/-- The first record of the store that may move: the first of its set, not held, with room in its till. -/
def movable (s : State) : List Closing → List Nat → Option Closing
  | [], _ => none
  | c :: rest, seen =>
    let t := fld (rd s (Reg.CAL_SETCFG + 4 * c.set)) 6 0
    if lmem c.set seen || sealNames s c.id || !hwMayReserve s t (c.bytes.length / 8) then movable s rest (c.set :: seen)
    else some c

/-- CLOSING_RECORD_MOVE: a record moves into its till as one packet (R166). -/
def doClosingRecordMove (s : State) : State :=
  match movable s s.cal.store [] with
  | none => s
  | some c =>
    let s := setCal s { s.cal with store := s.cal.store.filter fun x => x.id != c.id }
    tillDeliver s (fld (rd s (Reg.CAL_SETCFG + 4 * c.set)) 6 0) 0 (c.bytes)

/-! ### The commands -/

/-- ARM (R156). -/
def execArm (i : Initiator) (v : Word) (s : State) : Host.Outcome State Fault Refusal := finish s (doArm i v s)

/-- DISARM (R168). -/
def execDisarm (i : Initiator) (v : Word) (s : State) : Host.Outcome State Fault Refusal := finish s (doDisarm i v s)

/-- DISARM_AXIS (R168). -/
def execDisarmAxis (i : Initiator) (v : Word) (s : State) : Host.Outcome State Fault Refusal := finish s (doDisarmAxis i v s)

/-- CAL_PEEKAX (R168). -/
def execCalPeekax (i : Initiator) (v : Word) (s : State) : Host.Outcome State Fault Refusal := finish s (doCalPeekax i v s)

/-- CAL_LATMAX_WRITE (R168). -/
def execCalLatmaxWrite (i : Initiator) (v : Word) (s : State) : Host.Outcome State Fault Refusal := finish s (doCalLatmaxWrite i v s)

/-- POSTING_DUE (R158). -/
def execPostingDue (axis : Nat) (s : State) : Host.Outcome State Fault Refusal := finish s (doPostingDue axis s)

/-- POSTING_FIRE (R159). -/
def execPostingFire (delay : Nat) (s : State) : Host.Outcome State Fault Refusal := finish s (doPostingFire delay s)

/-- CLOSING_CAPTURE (R162). -/
def execClosingCapture (s : State) : Host.Outcome State Fault Refusal := finish s (doClosingCapture s)

/-- CLOSING_RECORD_MOVE (R166). -/
def execClosingRecordMove (s : State) : Host.Outcome State Fault Refusal := finish s (doClosingRecordMove s)

end Sys2Proof.Machine
end

