-- ==== Sys2Proof/Machine/Bne.lean ====
section
/-! DEFINITION. The jobs of the big-number lanes (R264, R268 to R277), the vendor functions (R273, R274), and the pages BNE and
BNC (R279, R280). -/

namespace Sys2Proof.Machine

open Sys2Proof

/-! ### Job blocks (R272, R273) -/

/-- What a vendor function does with its key and operands. -/
inductive VFn where
  | ecSign (c : Nat) | ecVerify (c : Nat) | ecdh (c : Nat) | x25519 | edSign | edVerify | rsaPriv | rsaPub | pssSign | pssVerify
  | pkSign | pkVerify | oaepDec | oaepEnc | modExp | kemEnc (p : Nat) | kemDec (p : Nat) | dsaSign (p : Nat) | dsaVerify (p : Nat)
  | vaultOnly
  deriving DecidableEq, Repr

/-- The vendor function of a code; none where it is not listed. -/
def vfn (k : Nat) : Option VFn :=
  if 0x010 ≤ k && k ≤ 0x012 then some (.ecSign (k - 0x010))
  else if 0x018 ≤ k && k ≤ 0x01A then some (.ecVerify (k - 0x018))
  else if k = 0x020 || k = 0x021 then some (.ecdh (k - 0x020))
  else if 0x040 ≤ k && k ≤ 0x042 then some (.kemEnc (k - 0x040))
  else if 0x044 ≤ k && k ≤ 0x046 then some (.kemDec (k - 0x044))
  else if 0x050 ≤ k && k ≤ 0x052 then some (.dsaSign (k - 0x050))
  else if 0x054 ≤ k && k ≤ 0x056 then some (.dsaVerify (k - 0x054))
  else if (0x060 ≤ k && k ≤ 0x064) || k = 0x068 || (0x06C ≤ k && k ≤ 0x06E) || (0x070 ≤ k && k ≤ 0x072) then some .vaultOnly
  else match k with
    | 0x023 => some .x25519
    | 0x024 => some .edSign
    | 0x025 => some .edVerify
    | 0x030 => some .rsaPriv
    | 0x031 => some .rsaPub
    | 0x032 => some .pssSign
    | 0x033 => some .pssVerify
    | 0x034 => some .pkSign
    | 0x035 => some .pkVerify
    | 0x036 => some .oaepDec
    | 0x037 => some .oaepEnc
    | 0x038 => some .modExp
    | _ => none

/-- Whether a function takes a message. -/
def VFn.takesMsg : VFn → Bool
  | .ecSign _ | .ecVerify _ | .edSign | .edVerify | .pssSign | .pssVerify | .pkSign | .pkVerify | .dsaSign _ | .dsaVerify _ => true
  | _ => false
/-- Whether a function takes a digest in its input with PREHASH. -/
def VFn.takesDigest : VFn → Bool
  | .ecSign _ | .ecVerify _ | .pssSign | .pssVerify | .pkSign | .pkVerify => true
  | _ => false
/-- Whether a function delivers secret material only to a session (R274). -/
def VFn.secretOut : VFn → Bool
  | .ecdh _ | .x25519 | .oaepDec | .kemDec _ => true
  | _ => false
/-- Whether a function may deliver to a session. -/
def VFn.mayDeliver : VFn → Bool
  | .kemEnc _ => true
  | f => f.secretOut

/-- What a function needs of its key: `none` for a key that it does not take; the flag says that it must have one. -/
def VFn.key : VFn → Option (Bool × (KeyRec → Bool))
  | .ecSign c => some (true, fun k => k.ktype == 0x10 + c && nbit k.attr aSIGN)
  | .ecVerify c => if c < 2 then some (false, fun k => k.ktype == 0x18 + c && nbit k.attr aVERIFY) else none
  | .ecdh c => some (true, fun k => k.ktype == 0x10 + c && nbit k.attr aKEYAGREE)
  | .x25519 => some (true, fun k => k.ktype == 0x14 && nbit k.attr aKEYAGREE)
  | .edSign => some (true, fun k => k.ktype == 0x13 && nbit k.attr aSIGN)
  | .rsaPriv | .pssSign | .pkSign => some (true, fun k => k.ktype == 0x20 && nbit k.attr aSIGN)
  | .oaepDec => some (true, fun k => k.ktype == 0x20 && nbit k.attr 1)
  | .kemDec p => some (true, fun k => k.ktype == 0x28 + p && (nbit k.attr 1 || nbit k.attr aKEYAGREE))
  | .dsaSign p => some (true, fun k => k.ktype == 0x2C + p && nbit k.attr aSIGN)
  | .dsaVerify p => if p = 1 then some (false, fun k => k.ktype == 0x2F && nbit k.attr aVERIFY) else none
  | _ => none

/-- SESSION of a block. -/
def bneSession (b : Bytes) : Bool := nbit (bfld b 4 1) 1
/-- PREHASH of a block. -/
def bnePrehash (b : Bytes) : Bool := nbit (bfld b 4 1) 0
/-- KEY of a block. -/
def bneKey (b : Bytes) : Nat := bfld b 8 4
/-- The output key type and attributes of ARG. -/
def bneOut (b : Bytes) : Nat × Nat := (bfld b 12 4 / 2 ^ 24, bfld b 12 4 % 2 ^ 22)

/-- The checks of R272 on a block. -/
def bneBlkOk (b : Bytes) : Bool :=
  let f := bfld b 0 2
  let entry := bfld b 2 2
  let user := decide (32768 ≤ f)
  f / 4096 % 8 == 0 && bfld b 4 1 / 4 % 16 == 0 && bfld b 5 3 == 0 && decide (bfld b 32 2 ≤ 16384) && decide (bfld b 36 4 ≤ 16384) &&
  (if user then inUser entry
   else entry == 0 && (bneSession b || bfld b 12 4 == 0) &&
     match vfn (f % 4096) with
     | none => false
     | some v =>
       (v.takesMsg || bfld b 34 2 == 0) && (!bnePrehash b || bfld b 34 2 == 0) && (!bnePrehash b || v.takesDigest || !v.takesMsg))

/-! ### The start of a job (R268, R271, R277) -/

/-- A sequence memory error at the fetch of the entry (R277): the status, if the job ends. -/
def seqEcc (s : State) (user : Bool) (ecc : EccFind) : State × Option Nat :=
  match ecc with
  | .clean => (s, none)
  | .corrected => (raise (bumpSat s Reg.BNC_ECC 15 0) 0x14 1, none)
  | .uncorrectable =>
    let s := raise (bumpSat s Reg.BNC_ECC 31 16) 0x14 2
    (if user then s else raise (wrBit s (hdr 0x14 Off.STAT) 5 true) 0x14 3, some stLANE)

/-- A sequence's job that ends so raises ATTN (R279). -/
def bneAttn (s : State) (n : Nat) (user : Bool) (st : Nat) : State :=
  if user && lmem st [stBADPROF, stTIMEOUT, stDOMAIN] then raise s (bnePage n) 1 else s

/-- The run of a job: what the sequencer holds at an entry no rule states, so it is free. -/
def bneRun (s : State) (j : Job) : BRun × State :=
  let (k, s) := fresh s
  let b := j.blk
  let arg := bfld b 12 4
  ({ job := j, ready := false, pc := bfld b 2 2, stack := []
     ctr := [(Config.free 16 k).toNat, arg % 65536, arg / 65536, (Config.free 17 k).toNat % 65536]
     z := Config.free 1 k == 1#1, c := Config.free 2 k == 1#2, n := (Config.free 7 k).toNat + 1, m := none
     ring := (Config.free 3 k).toNat % 2, fmt := 0, hash := none, out := 0, cyc := 16, status := none }, s)

/-- A job takes the lane: its key is checked, and loaded unless the sealed key area holds it (R268). -/
def bneTake (s : State) (n : Nat) (j : Job) : State :=
  let b := j.blk
  let user := decide (32768 ≤ bfld b 0 2)
  let fail (s : State) (st : Nat) : State := bneEnd (bneAttn s n user st) n j st 0 0 0
  let (r, s) := bneRun s j
  let own := if j.cls = 4 then 1 else pageDomain s (bnePage n)
  let go (s : State) (use : KeyRec → Bool) (bar : KeyRec → Bool) : State :=
    match keyFor s (bneKey b) j.dom fun k => use k && domPass k.attr own with
    | (s, .inl st) => fail s st
    | (s, .inr k) =>
      if bar k then fail s stPROT
      else
        let y := getBne s n
        let held := match y.key with | some x => x.handle == bneKey b | none => false
        if held then setRun s n { r with ready := true }
        else
          let s := setRun s n r
          { s with lanes := { s.lanes with kuw := s.lanes.kuw ++ [(.bne n, bneKey b, j.dom)] } }
  if user then (if bneKey b = 0 then setRun s n { r with ready := true } else go s (fun _ => true) fun _ => false)
  else match vfn (bfld b 0 2 % 4096) with
    | none => fail s stBADPROF
    | some .vaultOnly => fail s stPROT
    | some v =>
      if v.secretOut && !bneSession b then fail s stPROT
      else match v.key with
        | none => if bneKey b = 0 then setRun s n { r with ready := true } else fail s stBADPROF
        | some (must, use) =>
          if bneKey b = 0 then (if must then fail s stKEY else setRun s n { r with ready := true })
          else go s use fun k => decide (v = .rsaPriv) && nbit k.attr 1

/-- The choice of R224 without preemption: the highest priority, then arrival order. -/
def bneNext (s : State) (n : Nat) : Option (Job × List Job) :=
  let c := rd s (hdr (bnePage n) 0x80)
  let pri (j : Job) : Nat := match j.cls with | 0 => fld c 25 24 | 1 => fld c 17 16 | 2 => fld c 9 8 | _ => 4
  let q := (getBne s n).queue
  takeFirst (fun j => pri j == topPri pri q) q

/-- BNE_JOB_START: the lane takes its next job and loads its key. -/
def doBneJobStart (n : Fin 4) (ecc : EccFind) (s : State) : State :=
  if !laneUp s (bnePage n.val) || s.pmu.window || (getBne s n.val).cur.isSome then s
  else match bneNext s n.val with
    | none => s
    | some (j, rest) =>
      let s := setBne s n.val { getBne s n.val with queue := rest }
      let user := decide (32768 ≤ bfld j.blk 0 2)
      if !bneBlkOk j.blk then bneEnd (bneAttn s n.val user stBADPROF) n.val j stBADPROF 0 0 0
      else if !user && outOfService s 0x14 then bneEnd s n.val j stLANE 0 0 0
      else match seqEcc s user ecc with
        | (s, some st) => bneEnd s n.val j st 0 0 0
        | (s, none) => bneTake s n.val j

/-- BNE_JOBCMD. -/
def doBneJobcmd (i : Initiator) (n : Fin 4) (s : State) : State :=
  let fail (s : State) (st : Nat) : State := bneEnd s n.val { src := .page, dom := 0, cls := 0, blk := [] } st 0 0 0
  pageGo s i (bnePage n.val) 0x88 48 fail fun s blk =>
    match bneAdmit s n.val .page (pageDomain s (bnePage n.val)) blk with
    | .taken s => s
    | .refused st hint => bneEnd s n.val { src := .page, dom := 0, cls := 0, blk := blk } st 0 0 hint

/-! ### The vendor functions (R273, R274) -/

/-- What a vendor function gives: output bytes and secret material for a session, or the status it ends with. -/
inductive VOut where
  | done (out : Bytes) (secret : Bytes)
  | ended (status : Nat)
  deriving DecidableEq, Repr

/-- The curves of the codes. -/
def vcurve (c : Nat) : Curve := if c = 0 then p256 else if c = 1 then p384 else p521
/-- The hash of a curve's signatures (R273). -/
def vhash (c : Nat) (m : Bytes) : Bytes := if c = 0 then sha256 m else if c = 1 then sha384 m else sha512 m
/-- The bytes of that hash. -/
def vhashLen (c : Nat) : Nat := if c = 0 then 32 else if c = 1 then 48 else 64

/-- Random bytes for a function; NO_RESOURCE while the DRBG refuses (R264). -/
def vrand (s : State) (n : Nat) (f : State → Bytes → State × VOut) : State × VOut :=
  match drbg s n with
  | none => (s, .ended stNORES)
  | some (r, s) => f s r

/-- A verification's end. -/
def vverdict (ok : Bool) : VOut := if ok then .done [] [] else .ended stAUTH

/-- Whether a length is that of an RSA modulus: 2,048 to 8,192 bits in 1,024-bit steps. -/
def rsaLen (k : Nat) : Bool := decide (256 ≤ k) && decide (k ≤ 1024) && k % 128 == 0

/-- An RSA public key at the head of an input: a modulus of `k` bytes with its top bit set, odd, and e. -/
def rsaHead (k : Nat) (inp : Bytes) : Option (Nat × Nat) :=
  let m := beNat (inp.take k)
  if rsaLen k && decide (2 ^ (8 * k - 1) ≤ m) && m % 2 == 1 then some (m, beNat ((inp.drop k).take 8)) else none

/-- Functions on an RSA public key and a block of the modulus' length: `d` bytes of digest stand in front. -/
def rsaOn (inp : Bytes) (f : Nat → Nat → Nat → Nat → VOut) : VOut :=
  let k := (inp.length - 8) / 2
  if inp.length ≠ 2 * k + 8 then .ended stBADPROF
  else match rsaHead k inp with
    | none => .ended stBADPROF
    | some (m, e) =>
      let x := beNat (inp.drop (k + 8))
      if m ≤ x then .ended stBADPROF else f k m e x

/-- The lengths of a modulus that an OAEP input of `n` bytes can have. -/
def oaepLens (n : Nat) : List Nat := [256, 384, 512, 640, 768, 896, 1024].filter fun k => decide (k + 8 ≤ n) && decide (n ≤ 2 * k - 58)

/-- A vendor function on its key's material, its input, and its message or digest. -/
def vcompute (s : State) (v : VFn) (mat inp msg : Bytes) (digest : Option Bytes) : State × VOut :=
  let h256 : Bytes := match digest with | some d => d | none => sha256 msg
  match v with
  | .ecSign c =>
    if inp ≠ [] then (s, .ended stBADPROF)
    else vrand s 74 fun s r =>
      let cv := vcurve c
      let h := match digest with | some d => d | none => vhash c msg
      (s, .done (ecdsaSign cv (beNat mat) (beNat r % (cv.n - 1) + 1) h) [])
  | .ecVerify c =>
    let cv := vcurve c
    let h := match digest with | some d => d | none => vhash c msg
    let kl := if mat.isEmpty then 2 * cv.len + 1 else 0
    if inp.length ≠ kl + 2 * cv.len then (s, .ended stBADPROF)
    else match if mat.isEmpty then ecSec1 cv (inp.take kl) else ecPoint cv mat with
      | none => (s, .ended stBADPROF)
      | some q => (s, vverdict (ecdsaVerify cv q h (inp.drop kl)))
  | .ecdh c =>
    let cv := vcurve c
    match (ecSec1 cv inp).bind (ecdh cv (beNat mat)) with
    | none => (s, .ended stBADPROF)
    | some z => (s, .done [] z)
  | .x25519 => if inp.length ≠ 32 then (s, .ended stBADPROF) else (s, .done [] (x25519 mat inp))
  | .edSign => if inp ≠ [] then (s, .ended stBADPROF) else (s, .done (edSign mat msg) [])
  | .edVerify =>
    if inp.length ≠ 96 then (s, .ended stBADPROF)
    else match edVerify (inp.take 32) msg (inp.drop 32) with
      | none => (s, .ended stBADPROF)
      | some ok => (s, vverdict ok)
  | .rsaPriv =>
    let k := rsaKey mat
    if inp.length ≠ k.len || k.p * k.q ≤ beNat inp then (s, .ended stBADPROF)
    else (s, .done (beBytes k.len (rsaPriv k (beNat inp))) [])
  | .rsaPub => (s, rsaOn inp fun k m e x => .done (beBytes k (powMod m x e)) [])
  | .pssSign =>
    let k := rsaKey mat
    if inp ≠ [] then (s, .ended stBADPROF)
    else vrand s 32 fun s salt => (s, .done (beBytes k.len (rsaPriv k (beNat (pssEncode h256 salt (8 * k.len - 1))))) [])
  | .pssVerify => (s, rsaOn inp fun k m e x => vverdict (pssVerify h256 (beBytes k (powMod m x e)) (8 * k - 1)))
  | .pkSign =>
    let k := rsaKey mat
    if inp ≠ [] then (s, .ended stBADPROF) else (s, .done (beBytes k.len (rsaPriv k (beNat (pkcs1Encode h256 k.len)))) [])
  | .pkVerify => (s, rsaOn inp fun k m e x => vverdict (decide (beBytes k (powMod m x e) = pkcs1Encode h256 k)))
  | .oaepDec =>
    let k := rsaKey mat
    if inp.length ≠ k.len || k.p * k.q ≤ beNat inp then (s, .ended stBADPROF)
    else match oaepDecode (beBytes k.len (rsaPriv k (beNat inp))) with
      | none => (s, .ended stBADPROF)
      | some z => (s, .done [] z)
  | .oaepEnc =>
    let ks := oaepLens inp.length
    let (i, s) := fresh s
    let k := ks.getD ((Config.free 8 i).toNat % max 1 ks.length) 0
    match rsaHead k inp with
    | none => (s, .ended stBADPROF)
    | some (m, e) => vrand s 32 fun s seed => (s, .done (beBytes k (powMod m (beNat (oaepEncode (inp.drop (k + 8)) seed k)) e)) [])
  | .modExp =>
    let k := inp.length / 3
    let m := beNat (inp.take k)
    if inp.length ≠ 3 * k || k = 0 || m % 2 = 0 then (s, .ended stBADPROF)
    else (s, .done (beBytes k (powMod m (beNat (inp.drop (2 * k))) (beNat ((inp.drop k).take k)))) [])
  | .kemEnc p =>
    let kp := kemParam p
    if inp.length ≠ kemPubLen kp || !kemPubOk kp inp then (s, .ended stBADPROF)
    else vrand s 32 fun s m => let (ct, z) := kemEncaps kp inp m; (s, .done ct z)
  | .kemDec p =>
    let kp := kemParam p
    if inp.length ≠ kemCtLen kp then (s, .ended stBADPROF) else (s, .done [] (kemDecaps kp mat inp))
  | .dsaSign p =>
    if 255 < inp.length then (s, .ended stBADPROF)
    else vrand s 32 fun s rnd =>
      match dsaSign (dsaParam p) mat inp msg rnd with
      | some sg => (s, .done sg [])
      | none => (s, .ended stLANE)
  | .dsaVerify p =>
    let dp := dsaParam p
    let kl := if mat.isEmpty then dsaPubLen dp else 0
    let sl := dsaSigLen dp
    if inp.length < kl + sl || kl + sl + 255 < inp.length then (s, .ended stBADPROF)
    else
      let pub := if mat.isEmpty then inp.take kl else mat
      (s, vverdict (dsaVerify dp pub (inp.drop (kl + sl)) msg ((inp.drop kl).take sl)))
  | .vaultOnly => (s, .ended stPROT)

/-! ### The end of a job (R269, R272 to R275) -/

/-- A job that has run ends: the lane is free, BNE_LASTCYC holds its cycles. -/
def bneFinish (s : State) (n : Nat) (r : BRun) (st done result : Nat) : State :=
  let x := getBne s n
  let s := setBne s n { x with cur := none, key := if x.clr then none else x.key, clr := false }
  let s := wr s (hdr (bnePage n) 0xAC) (word (min (2 ^ 32 - 1) r.cyc))
  bneEnd (bneAttn s n r.user st) n r.job st done result 0

/-- Key material of a type from a shared secret: the bytes themselves where the length is the type's, else free. -/
def sessMat (s : State) (kt : Nat) (z : Bytes) : Bytes × State :=
  let k := (ktypeLen kt).getD 0
  if z.length = k then (z, s) else freeBytes k s

/-- A vendor function's result delivered: a session for secret material (R274), then OUT. -/
def vdeliver (s : State) (n : Nat) (r : BRun) (v : VFn) (out z : Bytes) : State :=
  let b := r.job.blk
  let sess := bneSession b && v.mayDeliver
  let out := if sess then out else out ++ z
  let (kt, attr) := bneOut b
  if r.fld 36 4 < out.length then bneFinish s n r stNORES 0 0
  else if sess && !(lmem kt [1, 2, 3, 8, 9] && attrOk kt attr false) then bneFinish s n r stBADPROF 0 0
  else if sess && (freeSess s).isNone then bneFinish s n r stNORES 0 0
  else match jobWrite s r.job.src r.job.dom (r.fld 24 8) out with
    | (s, st) =>
      if st ≠ stOK then bneFinish s n r st 0 0
      else if !sess then bneFinish s n r stOK out.length 0
      else
        let (m, s) := sessMat s kt z
        match newSess s (sessRec kt (outAttr attr r.job.dom) 0 m) with
        | some (s, h) => bneFinish s n r stOK out.length h
        | none => bneFinish s n r stNORES 0 0

/-- A vendor function runs to its end: it leaves the workspace wiped (R269); its cycles and operations are free. -/
def vrun (s : State) (n : Nat) (r : BRun) (v : VFn) (host : List (Nat × Bytes)) : State :=
  let (k, s) := fresh s
  let s := wr (wipeAll s n) (hdr (bnePage n) 0xB0) (Config.free 32 k)
  let r := { r with cyc := (Config.free 32 (k + 1)).toNat }
  let (_, s) := fresh s
  let b := r.job.blk
  match jobRead s r.job.src r.job.dom (r.fld 16 8) (r.fld 32 2) host with
  | (s, .inl st) => bneFinish s n r st 0 0
  | (s, .inr inp) =>
    match jobRead s r.job.src r.job.dom (r.fld 40 8) (r.fld 34 2) host with
    | (s, .inl st) => bneFinish s n r st 0 0
    | (s, .inr msg) =>
      let d := match v with | .ecSign c | .ecVerify c => vhashLen c | _ => 32
      let pre := bnePrehash b && v.takesDigest
      if pre && inp.length < d then bneFinish s n r stBADPROF 0 0
      else
        let mat := if bneKey b = 0 then [] else match (getBne s n).key with | some k => k.mat | none => []
        match vcompute s v mat (if pre then inp.drop d else inp) msg (if pre then some (inp.take d) else none) with
        | (s, .ended st) => bneFinish s n r st 0 0
        | (s, .done out z) => vdeliver s n r v out z

/-- BNE_JOB_DONE: a vendor function's effect, or the end of a user sequence that an operation has ended, that left its region, or
whose OP is not listed (R260, R262). -/
def doBneJobDone (n : Fin 4) (host : List (Nat × Bytes)) (s : State) : State :=
  match (getBne s n.val).cur with
  | none => s
  | some r =>
    if !r.ready then s
    else if r.user then
      match r.status with
      | some st => bneFinish s n.val r st r.out 0
      | none =>
        if !inUser r.pc || (bnMask (fld (seqSlot s r.pc) 31 26)).isNone then bneFinish s n.val r stBADPROF r.out 0 else s
    else match vfn (r.fld 0 2 % 4096) with
      | some v => vrun s n.val r v host
      | none => bneFinish s n.val r stBADPROF 0 0

/-- BNE_LIMIT_EXPIRY: a user sequence has run for BNE_LIMIT cycles (R264). -/
def doBneLimitExpiry (n : Fin 4) (s : State) : State :=
  match (getBne s n.val).cur with
  | some r => if r.user && r.ready && r.status.isNone && bnLimit s n.val r then bneFinish s n.val r stTIMEOUT r.out 0 else s
  | none => s

/-- BNE_CHECK_MISMATCH: the result is withheld, the sealed key area zeroed, and the lane leaves service (R270, R275). -/
def doBneCheckMismatch (n : Fin 4) (s : State) : State :=
  match (getBne s n.val).cur with
  | none => s
  | some r =>
    let p := bnePage n.val
    let s := bumpSat s (hdr p 0xB4) 15 0
    let s := wr s (hdr p 0xB8) (word (0x80000000 + r.job.cls * 2 ^ 24 + r.job.dom * 2 ^ 16 + r.pc % 8192))
    let s := goOos (bneFinish s n.val r stLANE r.out 0) p
    let s := flushBne s n.val stLANE
    setBne s n.val { getBne s n.val with key := none, clr := false }

/-- BNE_CLRKEY: the sealed key area is zeroed at the next operation boundary (R270): at once, or at the end of a vendor function. -/
def doBneClrkey (i : Initiator) (n : Fin 4) (s : State) : State :=
  guardW s i (hdr (bnePage n.val) Off.CTRL) fun s =>
    let x := getBne s n.val
    let later := match x.cur with | some r => r.ready && !r.user | none => false
    setBne s n.val (if later then { x with clr := true } else { x with key := none })

/-! ### The window of the workspace (R279) and the sequence memory (R280) -/

/-- A read of BNE_WSDATA: the selected half-word under the window rule. -/
def bneWsdata (s : State) (i : Initiator) (n : Nat) : State × Word :=
  let p := bnePage n
  let ix := hdr p 0xC0
  let half := fld (rd s ix) 11 0
  let w := wreg s n (half / 256)
  let dom := tagOf s i
  let (s, v) :=
    if (getBne s n).cur.isSome then (noteErr s i p 0xC4 4 false, 0#32)
    else if w.secret || (w.written && decide (dom ≠ some w.dom) && decide (dom ≠ some 0)) then (noteErr s i p 0xC4 1 false, 0#32)
    else (s, word (w.val / 2 ^ (32 * (half % 256))))
  (if bit (rd s ix) 31 then wrFld s ix 11 0 ((half + 1) % 4096) else s, v)

/-- BNE_WSDATA_READ. -/
def doBneWsdataRead (i : Initiator) (n : Fin 4) (s : State) : State :=
  guardR s i (hdr (bnePage n.val) 0xC4) fun s => let (s, v) := bneWsdata s i n.val; answer s v

/-- Whether a lane runs a user sequence. -/
def userRuns (s : State) (n : Nat) : Bool := match (getBne s n).cur with | some r => r.user | none => false

/-- The step of BNC_SIDX after an access of BNC_SDATA. -/
def bncStep (s : State) : State :=
  let v := rd s Reg.BNC_SIDX
  if bit v 31 then wrFld s Reg.BNC_SIDX 12 0 ((fld v 12 0 + 1) % 8192) else s

/-- BNC_SDATA_WRITE. -/
def doBncSdataWrite (i : Initiator) (v : Word) (s : State) : State :=
  guardW s i Reg.BNC_SDATA fun s =>
    let k := fld (rd s Reg.BNC_SIDX) 12 0
    bncStep (
      if k < 0x1000 then noteErr s i 0x14 0x84 6 true
      else if (List.range 4).any (userRuns s) then noteErr s i 0x14 0x84 4 true
      else { s with lanes := { s.lanes with seq := mset 0#32 s.lanes.seq k v } })

/-- BNC_CRCCMD: a CRC over a region starts. -/
def doBncCrccmd (i : Initiator) (v : Word) (s : State) : State :=
  guardW s i Reg.BNC_CRCCMD fun s =>
    let s := wr s Reg.BNC_CRCCMD (v &&& 1#32)
    if bit v 31 then { s with lanes := { s.lanes with bncCrc := some (fld v 0 0) } } else s

/-- The CRC over a region's slots, taken little-endian. -/
def bncRegionCrc (s : State) (region : Nat) : Word :=
  crc32 ((List.range 4096).flatMap fun k => leBytes 4 (seqSlot s (4096 * region + k)).toNat)

/-- BNC_CRC_DONE; a vendor region that does not match BNC_VVER raises FAULT. -/
def doBncCrcDone (s : State) : State :=
  match s.lanes.bncCrc with
  | none => s
  | some g =>
    let c := bncRegionCrc s g
    let s := wr { s with lanes := { s.lanes with bncCrc := none } } Reg.BNC_CRC c
    if g = 0 && fld c 31 16 != fld Config.bncVver 31 16 then raise s 0x14 2 else s

/-! ### The commands -/

/-- BNE_JOB_START (R271). -/
def execBneJobStart (n : Fin 4) (ecc : EccFind) (s : State) : Host.Outcome State Fault Refusal := finish s (doBneJobStart n ecc s)

/-- BNE_JOBCMD (R272). -/
def execBneJobcmd (i : Initiator) (n : Fin 4) (s : State) : Host.Outcome State Fault Refusal := finish s (doBneJobcmd i n s)

/-- BNE_JOB_DONE (R272). -/
def execBneJobDone (n : Fin 4) (host : List (Nat × Bytes)) (s : State) : Host.Outcome State Fault Refusal := finish s (doBneJobDone n host s)

/-- BNE_LIMIT_EXPIRY (R264). -/
def execBneLimitExpiry (n : Fin 4) (s : State) : Host.Outcome State Fault Refusal := finish s (doBneLimitExpiry n s)

/-- BNE_CHECK_MISMATCH (R275). -/
def execBneCheckMismatch (n : Fin 4) (s : State) : Host.Outcome State Fault Refusal := finish s (doBneCheckMismatch n s)

/-- BNE_CLRKEY (R270). -/
def execBneClrkey (i : Initiator) (n : Fin 4) (s : State) : Host.Outcome State Fault Refusal := finish s (doBneClrkey i n s)

/-- BNE_WSDATA_READ (R279). -/
def execBneWsdataRead (i : Initiator) (n : Fin 4) (s : State) : Host.Outcome State Fault Refusal := finish s (doBneWsdataRead i n s)

/-- BNC_SDATA_WRITE (R280). -/
def execBncSdataWrite (i : Initiator) (v : Word) (s : State) : Host.Outcome State Fault Refusal := finish s (doBncSdataWrite i v s)

/-- BNC_CRCCMD (R280). -/
def execBncCrccmd (i : Initiator) (v : Word) (s : State) : Host.Outcome State Fault Refusal := finish s (doBncCrccmd i v s)

/-- BNC_CRC_DONE (R280). -/
def execBncCrcDone (s : State) : Host.Outcome State Fault Refusal := finish s (doBncCrcDone s)

end Sys2Proof.Machine
end

