-- ==== Sys2Proof/Machine/Fabric.lean ====
section
/-! DEFINITION. The fabric's link layer (R422 to R440): port states, protected frames and their counters, sequence numbers, replay,
credits, and routing (R441 to R445). -/

namespace Sys2Proof.Machine

open Sys2Proof

/-! ### Ports -/

/-- A port with nothing in it. -/
def FPort.idle : FPort :=
  { st := .disabled, initiator := false, heard := false, hsk := none, handle := 0, tx := 1, last := 0, seq := 0, exp := 0,
    replay := [], queue := [], rel := 0, be := 0, pRel := 0, pBe := 0, retRel := 0, retBe := 0, rounds := 0, fails := [], rx := [],
    ackDue := false, nak := false, stalled := false }

/-- A fabric port. -/
def getPort (s : State) (p : Nat) : FPort := mget FPort.idle s.fab.ports p
/-- The state with the fabric replaced. -/
def setFab (s : State) (x : FabSt) : State := { s with fab := x }
/-- The state with a port replaced. -/
def setPort (s : State) (p : Nat) (x : FPort) : State := setFab s { s.fab with ports := mset FPort.idle s.fab.ports p x }
/-- A register of a port's page. -/
def fabReg (p off : Nat) : Nat := hdr (0x40 + p) off
/-- FRT's causes. -/
def frtRaise (s : State) (k : Nat) : State := raise s 0x44 k
/-- A port's causes. -/
def fabRaise (s : State) (p k : Nat) : State := raise s (0x40 + p) k

/-- ROLE as set: 0 off, 1 ring east, 2 ring west, 3 trunk. -/
def roleSet (s : State) (p : Nat) : Nat := fld (rd s (fabReg p 0x80)) 30 29
/-- The role of a port: a second port in a ring role is off (R422). -/
def role (s : State) (p : Nat) : Nat :=
  let r := roleSet s p
  if (r == 1 || r == 2) && (List.range p).any (fun q => roleSet s q == r) then 0 else r

/-- Whether a port may leave DISABLED (R422 to R424). -/
def fabOn (s : State) (p : Nat) : Bool :=
  role s p != 0 && accepting s (0x40 + p) && bit (rd s Reg.FRT_CFG) 31 && !s.pmu.window &&
    (decide (s.pmu.mode = .run) || decide (s.pmu.mode = .idle))

/-- Whether a port is ACTIVE. -/
def portUp (s : State) (p : Nat) : Bool := decide ((getPort s p).st = .active)

/-- WRAP: a ring port is not ACTIVE (R442). -/
def wrap (s : State) : Bool := (List.range 4).any fun p => (role s p == 1 || role s p == 2) && !portUp s p

/-- A port put into a state; a change of WRAP raises ROUTE. -/
def setLstate (s : State) (p : Nat) (st : LState) : State :=
  let t := setPort s p { getPort s p with st := st }
  if wrap s == wrap t then t else frtRaise t 2

/-! ### The device's address (R439, R440) -/

/-- Whether the device has an address. -/
def assigned (s : State) : Bool := bit (rd s Reg.FRT_ADDR) 31
/-- The device's address. -/
def ownAddr (s : State) : Nat := if assigned s then fld (rd s Reg.FRT_ADDR) 15 0 else 0
/-- TTL of an originated frame. -/
def ownTtl (s : State) : Nat := max 1 (fld (rd s Reg.FRT_CFG) 23 16)

/-! ### Frames (R425 to R427) -/

/-- The class of a frame: only NOTIFY is best effort. -/
def FMsg.best (m : FMsg) : Bool := m.kind == 3 && m.msg == 3
/-- The credit units of a frame (R435); DISCOVERY takes none. -/
def FMsg.units (m : FMsg) : Nat := if m.kind = 2 && m.msg = 0 then 0 else (m.body.length + 32 + 63) / 64

/-- The 16-byte header. -/
def frameHdr (m : FMsg) (seq ack crd : Nat) (nak crcls bye : Bool) (nctr : Nat) : Bytes :=
  [byte (m.kind + 16 * b2n m.best + 64 * b2n m.asg), byte m.ttl] ++ leBytes 2 (seq + 4096 * m.msg) ++
    leBytes 2 (ack + 0x1000 + 0x2000 * b2n nak + 0x4000 * b2n crcls + 0x8000 * b2n bye) ++ leBytes 2 (m.body.length + 1024 * crd) ++
    leBytes 2 m.dst ++ leBytes 2 m.src ++ leBytes 4 nctr

/-- The nonce of a frame: DIRB, zeros and the counter. -/
def frameNonce (fromInit : Bool) (c : Nat) : Bytes := [if fromInit then 0x49#8 else 0x52#8, 0#8, 0#8, 0#8] ++ beBytes 8 c

/-- The link key of a port. -/
def linkKey (s : State) (x : FPort) : Option Bytes := (entryOf s x.handle).map (·.mat)

/-- A frame of the device itself: a CTRL, LINK or ROUTED frame from its address. -/
def ownMsg (s : State) (kind msg dst ttl : Nat) (body : Bytes) : FMsg :=
  { kind := kind, msg := msg, asg := assigned s, dst := dst, src := ownAddr s, ttl := ttl, body := body }

/-- One protected frame sent: it carries the acknowledgement, a pending NAK and the credits to return, and takes a counter. -/
def sendFrame (s : State) (p : Nat) (m : FMsg) (seq : Nat) (bye : Bool) : State :=
  let x := getPort s p
  match linkKey s x with
  | none => s
  | some key =>
    let best := x.retRel == 0
    let crd := min 63 (if best then x.retBe else x.retRel)
    let h := frameHdr m seq ((x.exp + 4095) % 4096) crd x.nak (best && x.retBe != 0) bye x.tx
    let iv := frameNonce x.initiator x.tx
    let ct := gcmCrypt key iv m.body
    let s := emit s (.fabTx p (h ++ ct ++ gcmTag key iv h ct))
    let s := bumpMod s (fabReg p 0xAC)
    setPort s p { x with
      tx := x.tx + 1, ackDue := false, nak := false,
      retRel := if best then x.retRel else x.retRel - crd, retBe := if best then x.retBe - crd else x.retBe }

/-- A CTRL frame sent. -/
def sendCtrl (s : State) (p : Nat) (bye : Bool) : State := sendFrame s p (ownMsg s 0 0 0 0 []) 0 bye

/-- A frame discarded under R426 or R435 is counted. -/
def noteDiscard (s : State) (p : Nat) : State := bumpSat s (fabReg p 0xB4) 7 0

/-- The credits a port has for a class. -/
def FPort.credit (x : FPort) (best : Bool) : Nat := if best then x.be else x.rel

/-- Frames sent as far as the replay buffer and the credits let them (R434, R435). -/
def pumpN : Nat → State → Nat → State
  | 0, s, _ => s
  | k + 1, s, p =>
    let x := getPort s p
    match x.queue with
    | [] => s
    | q :: rest =>
      let u := q.m.units
      if decide (x.st ≠ .active) || decide (32 ≤ x.replay.length) then s
      else if x.credit q.m.best < u then
        (if q.m.best then pumpN k (noteDiscard (setPort s p { x with queue := rest }) p) p else s)
      else
        let y := { x with
          queue := rest, replay := x.replay ++ [(x.seq, q.m)], seq := (x.seq + 1) % 4096, stalled := false,
          rel := if q.m.best then x.rel else x.rel - u, be := if q.m.best then x.be - u else x.be }
        let s := sendFrame (setPort s p y) p q.m x.seq false
        let s := match q.note with
          | some (n, tag) => endByTag s n tag stOK []
          | none => s
        pumpN k s p

/-- Send what can be sent on a port. -/
def pump (s : State) (p : Nat) : State := pumpN (getPort s p).queue.length s p

/-- A frame given to an ACTIVE port. -/
def enqueue (s : State) (p : Nat) (q : FTx) : State :=
  pump (setPort s p { getPort s p with queue := (getPort s p).queue ++ [q] }) p

/-! ### Routing (R441 to R445) -/

/-- Where a frame goes. -/
inductive Hop where
  | here
  | port (p : Nat)
  | none
  deriving DecidableEq, Repr

/-- The ring port of a direction: false east, true west. -/
def ringPort (s : State) (west : Bool) : Option Nat := (List.range 4).find? fun p => role s p == (if west then 2 else 1)

/-- An ACTIVE port in place of one: itself, or the other ring port. -/
def portFor (s : State) (p : Option Nat) (west : Bool) : Hop :=
  match p with
  | some p =>
    if portUp s p then .port p
    else if role s p = 1 || role s p = 2 then
      (match ringPort s (role s p == 1) with | some q => if portUp s q then .port q else .none | none => .none)
    else .none
  | none => (match ringPort s (!west) with | some q => if portUp s q then .port q else .none | none => .none)

/-- The route of a destination (R441). -/
def route (s : State) (dst : Nat) : Hop :=
  let seg := dst / 256
  let node := dst % 256
  if !assigned s then .none
  else if seg = ownAddr s / 256 then
    if node = ownAddr s % 256 then .here
    else if 15 < node || !bit (rd s Reg.FRT_RINGPRES) node then .none
    else
      let west := bit (rd s Reg.FRT_RINGDIR) node
      portFor s (ringPort s west) west
  else if 15 < seg then .none
  else
    let r := rd s (Reg.FRT_ROUTE + 4 * seg)
    if !bit r 31 then .none
    else if fld r 29 28 = 1 then
      (let p := fld r 25 24
       if portUp s p || role s p = 1 || role s p = 2 then portFor s (some p) false else .none)
    else if fld r 29 28 = 2 then portFor s (ringPort s (bit r 16)) (bit r 16)
    else .none

/-- A SEND whose frame cannot go ends with PARTNER_LOST (R454). -/
def dropNote (s : State) (q : FTx) : State :=
  match q.note with
  | some (n, tag) => endByTag s n tag stPARTNER []
  | none => s

/-- An unreachable frame is counted (R443). -/
def dropFrame (s : State) (q : FTx) (ttl : Bool) : State :=
  dropNote (if ttl then bumpSat s Reg.FRT_TTLDROP 15 0 else bumpSat s Reg.FRT_UNREACH 15 0) q

/-- The frame put on its port, without an UNREACH where there is none. -/
def sendPlain (s : State) (q : FTx) : State :=
  match route s q.m.dst with
  | .port p => enqueue s p q
  | _ => dropFrame s q false

/-- An unreachable INTAKE or TXN_REQ of another device is answered with UNREACH; the own one ends with `fabSweep` (R443, R448). -/
def unreachable (s : State) (q : FTx) (ttl : Bool) : State :=
  let s := dropFrame s q ttl
  if q.m.kind = 3 && decide (q.m.msg ≤ 1) && q.m.asg && !(assigned s && q.m.src == ownAddr s) then
    let h := q.m.body.take 5 ++ [byte stPARTNER] ++ (q.m.body.drop 6).take 10
    sendPlain s ⟨ownMsg s 3 4 q.m.src (ownTtl s) h, none⟩
  else s

/-- A frame of the device, or one that returns from a port that left ACTIVE, routed. -/
def sendRouted (s : State) (q : FTx) : State :=
  match route s q.m.dst with
  | .port p => enqueue s p q
  | _ => unreachable s q false

/-- A copy of a broadcast on each ACTIVE ring port; the first carries the SEND's note. -/
def sendBroadcast (s : State) (msg : Nat) (body : Bytes) (note : Option (Nat × Nat)) : State :=
  let c := (s.fab.bctr + 1) % 65536
  let s := setFab s { s.fab with bctr := c }
  let m := ownMsg s 3 msg 0xFFFF (ownTtl s) (leBytes 2 c ++ [0#8, 0#8] ++ body)
  let ps := (List.range 4).filter fun p => (role s p == 1 || role s p == 2) && portUp s p
  match ps with
  | [] => dropFrame s ⟨m, note⟩ false
  | p :: rest => rest.foldl (fun s p => enqueue s p ⟨m, none⟩) (enqueue s p ⟨m, note⟩)

/-- The NOTIFY frames that the event router asked for (R445). -/
def fabNotes (s : State) : State :=
  let ns := s.router.notes
  let s := { s with router := { s.router with notes := [] } }
  ns.foldl (fun s n =>
    let body := leBytes 2 n.1 ++ [0#8, 0#8] ++ leBytes 4 (rtcSecs s) ++ zeros 8
    if !assigned s then bumpSat s Reg.FRT_UNREACH 15 0
    else if n.2 = 0xFFFF then sendBroadcast s 3 body none
    else sendRouted s ⟨ownMsg s 3 3 n.2 (ownTtl s) body, none⟩) s

/-! ### Credits and DISCOVERY (R435, R438) -/

/-- The receive buffers that a port advertises: reliable and best effort. -/
def fabCredit (s : State) (p : Nat) : Nat × Nat :=
  let w := rd s (fabReg p 0x84)
  if 1024 < fld w 25 16 + fld w 9 0 then (0x300, 0x100) else (fld w 9 0, fld w 25 16)

/-- DISCOVERY given to an ACTIVE port. -/
def sendDiscovery (s : State) (p : Nat) : State :=
  if portUp s p then
    let (rel, be) := fabCredit s p
    let flags := b2n (assigned s) + 2 * b2n (fld (rd s Reg.FRT_CFG) 30 29 == 1)
    let body := leBytes 2 (ownAddr s) ++ [byte flags, byte (role s p)] ++ leBytes 2 rel ++ leBytes 2 be ++ serial ++ zeros 8
    enqueue s p ⟨ownMsg s 2 0 0 0 body, none⟩
  else s

/-- DISCOVERY on every ACTIVE port. -/
def discoverAll (s : State) : State := (List.range 4).foldl sendDiscovery s

/-- A frame leaves the receive buffer: its units are returned (R435). -/
def rxTake (s : State) (p : Nat) (r : FRx) (rest : List FRx) : State :=
  let x := getPort s p
  setPort s p { x with
    rx := rest, retRel := if r.m.best then x.retRel else x.retRel + r.units, retBe := if r.m.best then x.retBe + r.units else x.retBe }

/-- The first received frame of a KIND and MSG that is for this device: LINK frames, and ROUTED ones once they are routed here. -/
def rxFind (s : State) (p kind : Nat) (ok : FMsg → Bool) : Option (FRx × List FRx) :=
  takeFirst (fun r : FRx => r.m.kind == kind && (kind == 2 || r.here) && ok r.m) (getPort s p).rx

/-! ### Leaving ACTIVE (R423, R429, R437, R442) -/

/-- A session entry of the vault ends: its key goes, its generation stays. -/
def dropSess (s : State) (h : Nat) : State :=
  if hKind h = 2 && (entryOf s h).isSome then setVsess s (hIdx h) { vsess s (hIdx h) with key := none } else s

/-- The handshake of a port ends: its ephemeral keys are destroyed. -/
def dropHsk (s : State) (p : Nat) : State :=
  match (getPort s p).hsk with
  | some h => setPort (h.eph.foldl dropSess s) p { getPort s p with hsk := none }
  | none => s

/-- The routes through a trunk port lose VALID (R442). -/
def dropTrunk (s : State) (p : Nat) : State :=
  let hit (k : Nat) : Bool := let r := rd s (Reg.FRT_ROUTE + 4 * k); bit r 31 && fld r 29 28 == 1 && fld r 25 24 == p
  frtRaise (((List.range 16).filter hit).foldl (fun s k => wrBit s (Reg.FRT_ROUTE + 4 * k) 31 false) s) 2

/-- A port leaves its state for HOLDOFF or DISABLED; one that was ACTIVE raises LINKDOWN and DISC, loses its key, and gives its
frames back to routing in their order. -/
def leavePort (s : State) (p : Nat) (st : LState) : State :=
  let x := getPort s p
  let s := dropSess (dropHsk s p) x.handle
  let was := decide (x.st = .active)
  let back := x.replay.map (fun r => (⟨r.2, none⟩ : FTx)) ++ x.queue
  let s := setLstate (setPort s p { FPort.idle with st := x.st, rx := x.rx }) p st
  if was then
    let s := frtRaise (fabRaise s p 1) 0
    let s := if role s p = 3 then dropTrunk s p else s
    back.foldl (fun s q => if q.m.kind = 3 && q.m.dst != 0xFFFF then sendRouted s q else dropNote s q) s
  else s

/-- A port goes to HOLDOFF with a cause. -/
def holdoff (s : State) (p cause : Nat) : State := leavePort (fabRaise s p cause) p .holdoff

/-- FAB_CMD DOWN: the port goes to DISABLED, with BYE if it was ACTIVE. -/
def portDown (s : State) (p : Nat) : State :=
  if (getPort s p).st = .disabled then s
  else leavePort (if portUp s p then sendCtrl s p true else s) p .disabled

/-- Every port to DISABLED with BYE (R424). -/
def fabDown (s : State) : State := (List.range 4).foldl portDown s

/-- TRAIN: the port goes from DISABLED to DETECT where it may. -/
def portTrain (s : State) (p : Nat) : State :=
  if (getPort s p).st = .disabled && fabOn s p then setLstate s p .detect else s

/-! ### Retransmission (R434) -/

/-- The replay buffer sent again with new counters. -/
def resend (s : State) (p : Nat) : State := (getPort s p).replay.foldl (fun s r => sendFrame s p r.2 r.1 false) s

/-- A round of retransmission; after eight without progress, the retry limit. -/
def round (s : State) (p : Nat) : State :=
  let x := getPort s p
  if x.replay.isEmpty then s
  else if 8 ≤ x.rounds then holdoff s p 3
  else resend (bumpSat (setPort s p { x with rounds := x.rounds + 1 }) (fabReg p 0xB4) 15 8) p

/-- An acknowledgement takes frames out of the replay buffer. -/
def ackTo (s : State) (p ack : Nat) : State :=
  let x := getPort s p
  let left := x.replay.dropWhile fun r => decide ((ack + 4096 - r.1) % 4096 < 2048)
  setPort s p { x with replay := left, rounds := if left.length < x.replay.length then 0 else x.rounds }

/-! ### Receipt (R426, R427, R433) -/

/-- Whether a KIND, MSG and class are permitted, and CTRL carries no payload (R426). -/
def frameOk (kind msg cls len : Nat) : Bool :=
  if kind = 0 then msg == 0 && len == 0
  else if kind = 2 then cls == 0 && (msg == 0 || (msg == 1 && decide (1 ≤ len) && decide (len ≤ 496)))
  else if kind = 3 then decide (msg ≤ 5) && cls == b2n (msg == 3) && (msg != 5 || (decide (1 ≤ len) && decide (len ≤ 496)))
  else false

/-- Whether a received frame fits the buffer of its class. -/
def fitsRx (s : State) (p : Nat) (m : FMsg) : Bool :=
  let (rel, be) := fabCredit s p
  let used := ((getPort s p).rx.filter fun r => r.m.best == m.best).foldl (fun a r => a + r.units) 0
  decide (used + m.units ≤ if m.best then be else rel)

/-- A LINK or ROUTED frame in its sequence (R433). -/
def rxSeq (s : State) (p : Nat) (m : FMsg) (seq : Nat) : State :=
  let x := getPort s p
  if seq = x.exp && fitsRx s p m then
    setPort s p { x with exp := (x.exp + 1) % 4096, rx := x.rx ++ [⟨m, m.units, false⟩], ackDue := true }
  else if 1 ≤ (x.exp + 4096 - seq) % 4096 && (x.exp + 4096 - seq) % 4096 ≤ 2048 then setPort s p { x with ackDue := true }
  else sendCtrl (bumpSat (setPort s p { x with nak := true }) (fabReg p 0xB4) 23 16) p false

/-- A tag failure: counted, and with AUTH_MAX of them within a second the port goes to HOLDOFF. -/
def tagFail (s : State) (p : Nat) : State :=
  let x := getPort s p
  let fs := (x.fails.filter fun t => decide (s.tick < t + 1000000)) ++ [s.tick]
  let s := bumpSat (setPort s p { x with fails := fs }) (fabReg p 0xB4) 31 24
  if decide (x.st = .active) && decide (max 1 (fld (rd s (fabReg p 0x80)) 23 16) ≤ fs.length) then holdoff s p 2 else s

/-- The initiator's first protected frame completes its handshake (R432). -/
def firstFrame (s : State) (p : Nat) : State :=
  if (getPort s p).st = .hsk then
    let s := fabRaise (setLstate (dropHsk s p) p .active) p 0
    sendDiscovery (setPort s p { getPort s p with heard := true }) p
  else setPort s p { getPort s p with heard := true }

/-- The header fields of a valid frame, and then the frame. -/
def rxValid (s : State) (p c : Nat) (m : FMsg) (w2 w4 w6 : Nat) : State :=
  let s := firstFrame (bumpMod (setPort s p { getPort s p with last := c }) (fabReg p 0xB0)) p
  let s := if w4 / 4096 % 2 = 1 then ackTo s p (w4 % 4096) else s
  let crd := w6 / 1024
  let x := getPort s p
  let s := setPort s p (if w4 / 16384 % 2 = 1 then { x with be := x.be + crd } else { x with rel := x.rel + crd })
  if w4 / 32768 % 2 = 1 then holdoff s p 1
  else
    let s := if w4 / 8192 % 2 = 1 then round s p else s
    if !portUp s p then s
    else
      let s := if m.kind = 0 then s else rxSeq s p m (w2 % 4096)
      pump s p

/-- A protected frame arrives on a port (R426, R427, R433). -/
def frameIn (s : State) (p : Nat) (wire : Bytes) : State :=
  let x := getPort s p
  match linkKey s x with
  | none => s
  | some key =>
    let f (off n : Nat) : Nat := leNat ((wire.drop off).take n)
    if (decide (x.st = .hsk) && !x.initiator) || f 0 1 % 16 == 1 then s
    else
    let b0 := f 0 1
    let w2 := f 2 2
    let w6 := f 6 2
    let len := w6 % 1024
    let asg := b0 / 64 % 2 == 1
    let m : FMsg := { kind := b0 % 16, msg := w2 / 4096, asg := asg, dst := f 8 2, src := f 10 2, ttl := f 1 1, body := [] }
    let bad := wire.length != 32 + len || 512 < len || 128 ≤ b0 || 2 ≤ b0 / 16 % 4 || !frameOk m.kind m.msg (b0 / 16 % 4) len ||
      (m.kind == 3 && !asg)
    if bad then fabRaise (noteDiscard s p) p 5
    else
      let n := f 12 4
      let c0 := x.last - x.last % 2 ^ 32 + n
      let c := if c0 ≤ x.last then c0 + 2 ^ 32 else c0
      let iv := frameNonce (!x.initiator) c
      let ct := (wire.drop 16).take len
      if gcmTag key iv (wire.take 16) ct = wire.drop (16 + len) then
        rxValid s p c { m with body := gcmCrypt key iv ct } w2 (f 4 2) w6
      else tagFail s p

/-- Whether a frame's header says CTRL. -/
def isCtrl (wire : Bytes) : Bool := leNat (wire.take 1) % 16 == 0

/-- FRAME_RECEIVE: a frame other than CTRL arrives. -/
def doFrameReceive (p : Fin 4) (wire : Bytes) (s : State) : State := if isCtrl wire then s else frameIn s p.val wire

/-- CTRL_FRAME: a CTRL frame arrives. -/
def doCtrlFrame (p : Fin 4) (wire : Bytes) (s : State) : State := if isCtrl wire then frameIn s p.val wire else s

/-- REPLAY_TIMEOUT (R434). -/
def doReplayTimeout (p : Fin 4) (s : State) : State := if portUp s p.val then round s p.val else s

/-- KEEPALIVE_SEND (R436). -/
def doKeepaliveSend (p : Fin 4) (s : State) : State := if portUp s p.val then sendCtrl s p.val false else s

/-- ACK_SEND (R433). -/
def doAckSend (p : Fin 4) (s : State) : State :=
  if portUp s p.val && (getPort s p.val).ackDue then sendCtrl s p.val false else s

/-- CREDIT_STALL: a reliable frame has waited 10 ms for credit; once per stall (R435). -/
def doCreditStall (p : Fin 4) (s : State) : State :=
  let x := getPort s p.val
  match x.queue with
  | q :: _ =>
    if decide (x.st = .active) && !q.m.best && !x.stalled && decide (x.rel < q.m.units) then
      fabRaise (setPort s p.val { x with stalled := true }) p.val 4
    else s
  | [] => s

/-! ### Port commands and events (R423) -/

/-- FAB_TRAIN: FAB_CMD TRAIN by an initiator, or AUTO. -/
def doFabTrain (i : Option Initiator) (p : Fin 4) (s : State) : State :=
  match i with
  | some i => guardW s i (fabReg p.val 0x88) fun s => portTrain s p.val
  | none => if bit (rd s (fabReg p.val 0x80)) 31 then portTrain s p.val else s

/-- FAB_DOWN: FAB_CMD DOWN. -/
def doFabDown (i : Initiator) (p : Fin 4) (s : State) : State := guardW s i (fabReg p.val 0x88) fun s => portDown s p.val

/-- REKEY: DOWN followed by TRAIN. -/
def doRekey (i : Initiator) (p : Fin 4) (s : State) : State :=
  guardW s i (fabReg p.val 0x88) fun s => portTrain (portDown s p.val) p.val

/-- BLOCK_LOCK_LOST: lost for 1 ms. -/
def doBlockLockLost (p : Fin 4) (s : State) : State :=
  match (getPort s p.val).st with
  | .hsk => holdoff s p.val 5
  | .active => holdoff s p.val 5
  | _ => s

/-- KEEPALIVE_MISS: no valid protected frame for 30 ms. -/
def doKeepaliveMiss (p : Fin 4) (s : State) : State := if portUp s p.val then holdoff s p.val 6 else s

/-- HOLDOFF_EXPIRY: 100 ms have passed; a port stays in HOLDOFF while the engines are halted (R498). -/
def doHoldoffExpiry (p : Fin 4) (s : State) : State :=
  if (getPort s p.val).st = .holdoff && !halted s then
    let auto := bit (rd s (fabReg p.val 0x80)) 31 && !outOfService s (0x40 + p.val)
    setLstate s p.val (if auto then .detect else .disabled)
  else s

/-- FAB_LANE_MISMATCH: the inverse check of the port's lane mismatches, and its self-test passes or fails (R429). -/
def doFabLaneMismatch (p : Fin 4) (ok : Bool) (s : State) : State :=
  match (getPort s p.val).st with
  | .active =>
    let s := bumpSat s (fabReg p.val 0xC8) 15 0
    let s := holdoff s p.val 7
    if ok then s else wrBit s (fabReg p.val Off.STAT) 5 true
  | _ => s

/-- DISCOVERY: a received DISCOVERY is recorded (R438). -/
def doDiscovery (p : Fin 4) (s : State) : State :=
  match rxFind s p.val 2 (fun m => m.msg == 0) with
  | none => s
  | some (r, rest) =>
    let s := rxTake s p.val r rest
    let f (off n : Nat) : Nat := leNat ((r.m.body.drop off).take n)
    let flags := f 2 1
    let link := f 0 2 + 0x80000000 * (flags % 2) + 0x40000000 * (flags / 2 % 2) + 0x1000000 * ((f 3 1 + 3) % 4)
    let s := wr s (fabReg p.val 0x8C) (word link)
    let x := getPort s p.val
    let s := setPort s p.val { x with rel := x.rel + f 4 2 - x.pRel, be := x.be + f 6 2 - x.pBe, pRel := f 4 2, pBe := f 6 2 }
    pump (frtRaise s 0) p.val

/-- FRT_ADDR_WRITE (R440). -/
def doFrtAddrWrite (i : Initiator) (v : Word) (s : State) : State :=
  guardW s i Reg.FRT_ADDR fun s =>
    if bit v 31 && (15 < fld v 15 8 || 15 < fld v 7 0) then noteErr s i 0x44 0x84 3 true
    else
      let s := wr s Reg.FRT_ADDR (v &&& 0x8000FFFF#32)
      if bit v 31 then
        let s := wr s Reg.DIR_SELF (word (0x80000000 + fld v 11 8 * 16 + fld v 3 0))
        discoverAll (frtRaise s 1)
      else discoverAll (wr s Reg.DIR_SELF 0#32)

/-- FAB_CREDIT_WRITE (R438). -/
def doFabCreditWrite (i : Initiator) (p : Fin 4) (v : Word) (s : State) : State :=
  guardW s i (fabReg p.val 0x84) fun s =>
    let t := storeReg s i (fabReg p.val 0x84) v
    if rd s (fabReg p.val 0x84) = rd t (fabReg p.val 0x84) then t else sendDiscovery t p.val

/-! ### The commands -/

/-- FRAME_RECEIVE (R433). -/
def execFrameReceive (p : Fin 4) (wire : Bytes) (s : State) : Host.Outcome State Fault Refusal := finish s (doFrameReceive p wire s)

/-- CTRL_FRAME (R434). -/
def execCtrlFrame (p : Fin 4) (wire : Bytes) (s : State) : Host.Outcome State Fault Refusal := finish s (doCtrlFrame p wire s)

/-- REPLAY_TIMEOUT (R434). -/
def execReplayTimeout (p : Fin 4) (s : State) : Host.Outcome State Fault Refusal := finish s (doReplayTimeout p s)

/-- KEEPALIVE_SEND (R436). -/
def execKeepaliveSend (p : Fin 4) (s : State) : Host.Outcome State Fault Refusal := finish s (doKeepaliveSend p s)

/-- ACK_SEND (R433). -/
def execAckSend (p : Fin 4) (s : State) : Host.Outcome State Fault Refusal := finish s (doAckSend p s)

/-- CREDIT_STALL (R435). -/
def execCreditStall (p : Fin 4) (s : State) : Host.Outcome State Fault Refusal := finish s (doCreditStall p s)

/-- FAB_TRAIN (R423). -/
def execFabTrain (i : Option Initiator) (p : Fin 4) (s : State) : Host.Outcome State Fault Refusal := finish s (doFabTrain i p s)

/-- FAB_DOWN (R423). -/
def execFabDown (i : Initiator) (p : Fin 4) (s : State) : Host.Outcome State Fault Refusal := finish s (doFabDown i p s)

/-- REKEY (R423). -/
def execRekey (i : Initiator) (p : Fin 4) (s : State) : Host.Outcome State Fault Refusal := finish s (doRekey i p s)

/-- BLOCK_LOCK_LOST (R423). -/
def execBlockLockLost (p : Fin 4) (s : State) : Host.Outcome State Fault Refusal := finish s (doBlockLockLost p s)

/-- KEEPALIVE_MISS (R423). -/
def execKeepaliveMiss (p : Fin 4) (s : State) : Host.Outcome State Fault Refusal := finish s (doKeepaliveMiss p s)

/-- HOLDOFF_EXPIRY (R423). -/
def execHoldoffExpiry (p : Fin 4) (s : State) : Host.Outcome State Fault Refusal := finish s (doHoldoffExpiry p s)

/-- FAB_LANE_MISMATCH (R429). -/
def execFabLaneMismatch (p : Fin 4) (ok : Bool) (s : State) : Host.Outcome State Fault Refusal := finish s (doFabLaneMismatch p ok s)

/-- DISCOVERY (R438). -/
def execDiscovery (p : Fin 4) (s : State) : Host.Outcome State Fault Refusal := finish s (doDiscovery p s)

/-- FRT_ADDR_WRITE (R440). -/
def execFrtAddrWrite (i : Initiator) (v : Word) (s : State) : Host.Outcome State Fault Refusal := finish s (doFrtAddrWrite i v s)

/-- FAB_CREDIT_WRITE (R438). -/
def execFabCreditWrite (i : Initiator) (p : Fin 4) (v : Word) (s : State) : Host.Outcome State Fault Refusal := finish s (doFabCreditWrite i p v s)

end Sys2Proof.Machine
end

