-- ==== Sys2Proof/Machine/FabHsk.lean ====
section
/-! DEFINITION. The fabric handshake and its link key (R430 to R432). -/

namespace Sys2Proof.Machine

open Sys2Proof

/-- The bytes of a message from an offset on. -/
def part (m : Bytes) (off n : Nat) : Bytes := (m.drop off).take n

/-- FABRIC_ID of this device. -/
def fabId (s : State) : Bytes := leBytes 4 (rd s Reg.FRT_FABID).toNat ++ leBytes 4 (rd s (Reg.FRT_FABID + 4)).toNat

/-- The device's credential in SRAM, where FRT_CRED names one (R431, R578). -/
def ownCred (s : State) : Option Bytes :=
  let a := (rd s Reg.FRT_CRED).toNat
  if fld (rd s Reg.FRT_CREDLEN) 15 0 = 3501 && rangeSram a 3501 && banksUp s a 3501 && !poisoned s a 3501 then some (sramRead s a 3501)
  else none

/-- The device's GETID output (R204). -/
def ownId (s : State) : Option Bytes :=
  match slotKey s 0, slotKey s 1 with
  | some a, some b => some ((pubOf a).getD [] ++ (pubOf b).getD [])
  | _, _ => none

/-- Whether two signatures, P-384 and ML-DSA-65, are those of a pair of keys over a message. -/
def pairVerify (ec pq m sig : Bytes) : Bool :=
  (match ecSec1 p384 ec with | some pt => ecdsaVerify p384 pt (sha384 m) (sig.take 96) | none => false) &&
    dsaVerify (dsaParam 1) pq [] m (sig.drop 96)

/-- Whether a credential has its format, names a serial, and carries both owner signatures (R431, check 3). -/
def credOk (s : State) (c ser : Bytes) : Bool :=
  c.length == 3501 && decide (c.take 4 = [0x4A#8, 0x51#8, 0x46#8, 0x43#8]) && decide (part c 4 4 = [1#8, 0#8, 0#8, 0#8]) &&
    decide (part c 84 12 = zeros 12) && decide (part c 8 16 = ser) &&
    (match anchorOf s 1 with
     | some (ec, pq) => pairVerify (4#8 :: ec) pq (c.take 96) (c.drop 96)
     | none => false)

/-- Whether NOT_AFTER has not passed, while the RTC is valid (check 4). -/
def credInTime (s : State) (c : Bytes) : Bool :=
  let n := leNat (part c 80 4)
  n == 0 || !bit (rd s axsStat) 8 || decide (rtcSecs s % 2 ^ 32 ≤ n)

/-- Whether GETID output has the credential's digest (check 5). -/
def credId (c ident : Bytes) : Bool := decide (sha384 ident = part c 24 48)

/-- The own credential, valid for this device (check 1). -/
def credSelf (s : State) : Option Bytes :=
  match ownCred s, ownId s with
  | some c, some ident => if credOk s c serial && part c 72 8 = fabId s && credInTime s c && credId c ident then some c else none
  | _, _ => none

/-- The checks 3 to 5 of a partner's credential and identity: the failing REASON, or 0. -/
def partnerChecks (s : State) (ser cred ident : Bytes) : Nat :=
  if !credOk s cred ser then 3 else if !credInTime s cred then 4 else if !credId cred ident then 5 else 0

/-- Whether transcript signatures are those of a partner's identity keys (check 6). -/
def partnerSigs (ident t sig : Bytes) : Bool := pairVerify (ident.take 97) (ident.drop 97) (ascii "JQLINK1" ++ t) sig

/-- A handshake fails with a REASON (R423, R431). -/
def hskFail (s : State) (p reason : Nat) : State := holdoff (wr s (fabReg p 0xB8) (word (0x80000000 + reason))) p 2

/-- A handshake message sent in HSK frames of at most 508 bytes of it (R430). -/
def sendHsk (s : State) (p code : Nat) (m : Bytes) : State :=
  let fs := pieces 508 (m.length / 508 + 1) m
  let go (s : State) (kf : Bytes × Nat) : State :=
    let body := [byte code, byte kf.2, byte fs.length, 0#8] ++ kf.1
    let h := frameHdr { ownMsg s 1 code 0 0 body with asg := assigned s } 0 0xFFF 0 false false false 0
    emit s (.fabTx p (h ++ body ++ zeros 16))
  fs.zipIdx.foldl go s

/-- The OFFER sent: it needs a valid credential, and the DRBG (R430, R431). -/
def sendOffer (s : State) (p : Nat) : State :=
  match credSelf s with
  | none => hskFail s p 1
  | some _ =>
    match drbg s 32 with
    | none => s
    | some (nonce, s) =>
      let m := serial ++ fabId s ++ nonce ++ [byte (role s p), byte p, 0#8, 0#8]
      let h : Hsk := { own := m, peer := none, scalar := 0, seed := [], eph := [], init := [], reply := [], t2 := [], todo := false, sent := m, tries := 0 }
      sendHsk (setPort s p { getPort s p with hsk := some h }) p 0 m

/-- LINK_TRAINED: DETECT to HSK, and OFFER. -/
def doLinkTrained (p : Fin 4) (s : State) : State :=
  if (getPort s p.val).st = .detect then sendOffer (setLstate s p.val .hsk) p.val else s

/-- An ephemeral ECDH key in a session entry: its scalar and handle. -/
def ephEcdh (s : State) (p : Nat) : Option (State × Nat × Nat) :=
  match drbg s 40 with
  | none => none
  | some (r, s) =>
    let d := beNat r % (p256.n - 1) + 1
    (newSess s (sessRec 0x10 (32 + pageDomain s (0x40 + p) * 2 ^ 16) 0 (beBytes 32 d))).map fun (s, h) => (s, d, h)

/-- An ephemeral ML-KEM-768 key in a session entry: its seed and handle. -/
def ephKem (s : State) (p : Nat) : Option (State × Bytes × Nat) :=
  match drbg s 64 with
  | none => none
  | some (r, s) => (newSess s (sessRec 0x29 (32 + pageDomain s (0x40 + p) * 2 ^ 16) 0 r)).map fun (s, h) => (s, r, h)

/-- INIT made and sent by the initiator; where no entry or no random bytes can be had, nothing is sent. -/
def sendInit (s : State) (p : Nat) (h : Hsk) : State :=
  match ephEcdh s p with
  | none => s
  | some (s1, d, hd) =>
    match ephKem s1 p with
    | none => s
    | some (s2, seed, hk) =>
      let m := ecPub p256 d ++ (kemKeyGen (kemParam 1) (seed.take 32)).1 ++ (ownCred s).getD [] ++ (ownId s).getD []
      sendHsk (setPort s2 p { getPort s2 p with hsk := some { h with scalar := d, seed := seed, eph := [hd, hk], init := m, sent := m } }) p 1 m

/-- OFFER: the partner's OFFER decides the initiator; the FABRIC_IDs and serials are compared (R430, R431). -/
def doHskOffer (p : Fin 4) (m : Bytes) (s : State) : State :=
  let x := getPort s p.val
  match x.hsk with
  | some h =>
    if h.peer.isSome || m.length != 60 then s
    else
      let ser := m.take 16
      let s := (List.range 4).foldl (fun s k => wr s (fabReg p.val (0x90 + 4 * k)) (word (leNat (part ser (4 * k) 4)))) s
      if part m 16 8 ≠ fabId s then hskFail s p.val 2
      else if ser = serial then hskFail s p.val 8
      else
        let ini := decide (beNat serial < beNat ser)
        let h := { h with peer := some m, tries := 0 }
        let s := setPort s p.val { x with initiator := ini, hsk := some h }
        if ini then sendInit s p.val h else s
  | none => s

/-- A message stored until its checks end; one of another length or out of turn is dropped. -/
def hskStore (s : State) (p len : Nat) (ini : Bool) (m : Bytes) (turn : Hsk → Bool) (put : Hsk → Hsk) : State :=
  let x := getPort s p
  match x.hsk with
  | some h =>
    if x.initiator == ini && h.peer.isSome && m.length == len && !h.todo && turn h then
      setPort s p { x with hsk := some { put h with todo := true, tries := 0 } }
    else s
  | none => s

/-- INIT: the responder has it whole. -/
def doHskInit (p : Fin 4) (m : Bytes) (s : State) : State :=
  hskStore s p.val 6799 false m (fun h => h.init.isEmpty) fun h => { h with init := m }

/-- REPLY: the initiator has it whole. -/
def doHskReply (p : Fin 4) (m : Bytes) (s : State) : State :=
  hskStore s p.val 10108 true m (fun h => !h.init.isEmpty && h.reply.isEmpty) fun h => { h with reply := m }

/-- T1 (R430): the OFFERs, the initiator's first, INIT, and REPLY without its signatures. -/
def hskT1 (x : FPort) (h : Hsk) (reply : Bytes) : Bytes :=
  let peer := h.peer.getD []
  let offers := if x.initiator then h.own ++ peer else peer ++ h.own
  sha384 (offers ++ h.init ++ reply.take 6703)

/-- The link key as a session entry (R432): `k` is the input of the derivation. -/
def linkSess (s : State) (p : Nat) (x : FPort) (h : Hsk) (k t2 : Bytes) : Option (State × Nat) :=
  let peer := (h.peer.getD []).take 16
  let ctx := (if x.initiator then serial ++ peer else peer ++ serial) ++ t2
  newSess s (sessRec 3 (2 ^ 11 + pageDomain s (0x40 + p) * 2 ^ 16 + 2 ^ 22) 0 (kdf k (ascii "JQLINK") ctx))

/-- The responder's checks of INIT, and its REPLY. -/
def checkInit (s : State) (p : Nat) (x : FPort) (h : Hsk) : State :=
  let pt := h.init.take 65
  let ek := part h.init 65 1184
  let bad := partnerChecks s ((h.peer.getD []).take 16) (part h.init 1249 3501) (part h.init 4750 2049)
  if bad ≠ 0 then hskFail s p bad
  else match ecSec1 p256 pt with
    | none => hskFail s p 7
    | some q =>
      if !kemPubOk (kemParam 1) ek then hskFail s p 7
      else match ephEcdh s p with
        | none => s
        | some (s1, d, hd) =>
          match drbg s1 32, ecdh p256 d q with
          | some (r, s1), some z =>
            let (ct, ss) := kemEncaps (kemParam 1) ek r
            let r0 := ecPub p256 d ++ ct ++ (ownCred s).getD [] ++ (ownId s).getD []
            match identSign s1 (ascii "JQLINK1" ++ hskT1 x h r0) with
            | (s1, .inr sig) =>
              let t2 := sha384 (hskT1 x h r0 ++ sig)
              (match linkSess s1 p x h (ss ++ z) t2 with
               | some (s1, k) =>
                 let h := { h with scalar := d, eph := [hd], reply := r0 ++ sig, t2 := t2, todo := false, sent := r0 ++ sig }
                 sendHsk (setPort s1 p { x with hsk := some h, handle := k }) p 2 (r0 ++ sig)
               | none => s)
            | (_, .inl _) => s
          | _, none => hskFail s p 7
          | none, _ => s

/-- The initiator's checks of REPLY, and its CONFIRM. -/
def checkReply (s : State) (p : Nat) (x : FPort) (h : Hsk) : State :=
  let ident := part h.reply 4654 2049
  let t1 := hskT1 x h h.reply
  let bad := partnerChecks s ((h.peer.getD []).take 16) (part h.reply 1153 3501) ident
  if bad ≠ 0 then hskFail s p bad
  else if !partnerSigs ident t1 (h.reply.drop 6703) then hskFail s p 6
  else match (ecSec1 p256 (h.reply.take 65)).bind (ecdh p256 h.scalar) with
    | none => hskFail s p 7
    | some z =>
      let t2 := sha384 (t1 ++ h.reply.drop 6703)
      let ss := kemDecaps (kemParam 1) h.seed (part h.reply 65 1088)
      match identSign s (ascii "JQLINK1" ++ t2) with
      | (s1, .inr sig) =>
        (match linkSess s1 p x h (ss ++ z) t2 with
         | some (s1, k) =>
           sendHsk (setPort s1 p { x with hsk := some { h with t2 := t2, todo := false, sent := sig }, handle := k }) p 3 sig
         | none => s)
      | (_, .inl _) => s

/-- HSK_CHECKS_DONE: the checks of the message that waits for them; they wait for a big-number lane of the INTERNAL class. -/
def doHskChecksDone (p : Fin 4) (s : State) : State :=
  let x := getPort s p.val
  match x.hsk with
  | some h =>
    if !h.todo || !bneInternal s then s
    else if x.initiator then checkReply s p.val x h
    else checkInit s p.val x h
  | none => s

/-- CONFIRM: the responder verifies it, and the port goes ACTIVE and sends DISCOVERY (R423, R430, R432). -/
def doHskConfirm (p : Fin 4) (m : Bytes) (s : State) : State :=
  let x := getPort s p.val
  match x.hsk with
  | some h =>
    if x.initiator || h.todo || h.reply.isEmpty || m.length != 3405 then s
    else if !partnerSigs (part h.init 4750 2049) h.t2 m then hskFail s p.val 6
    else sendDiscovery (fabRaise (setLstate (dropHsk s p.val) p.val .active) p.val 0) p.val
  | none => s

/-- The code of the message that a port has sent last. -/
def hskCode (x : FPort) (h : Hsk) : Nat :=
  if h.reply.isEmpty then (if x.initiator && !h.init.isEmpty then 1 else 0) else if x.initiator then 3 else 2

/-- HSK_TIMEOUT: a message is not complete within 20 ms; the third time ends the handshake (R423). -/
def doHskTimeout (p : Fin 4) (s : State) : State :=
  let x := getPort s p.val
  if x.st ≠ .hsk then s
  else match x.hsk with
    | none => sendOffer s p.val
    | some h =>
      if 2 ≤ h.tries then
        let (k, s) := fresh s
        hskFail s p.val (Config.free 8 k).toNat
      else
        let s := setPort s p.val { x with hsk := some { h with tries := h.tries + 1 } }
        if x.initiator && h.init.isEmpty then sendInit s p.val { h with tries := h.tries + 1 }
        else sendHsk s p.val (hskCode x h) h.sent

/-! ### The commands -/

/-- LINK_TRAINED (R423). -/
def execLinkTrained (p : Fin 4) (s : State) : Host.Outcome State Fault Refusal := finish s (doLinkTrained p s)

/-- OFFER (R430). -/
def execHskOffer (p : Fin 4) (m : Bytes) (s : State) : Host.Outcome State Fault Refusal := finish s (doHskOffer p m s)

/-- INIT (R430). -/
def execHskInit (p : Fin 4) (m : Bytes) (s : State) : Host.Outcome State Fault Refusal := finish s (doHskInit p m s)

/-- REPLY (R430). -/
def execHskReply (p : Fin 4) (m : Bytes) (s : State) : Host.Outcome State Fault Refusal := finish s (doHskReply p m s)

/-- HSK_CHECKS_DONE (R431). -/
def execHskChecksDone (p : Fin 4) (s : State) : Host.Outcome State Fault Refusal := finish s (doHskChecksDone p s)

/-- CONFIRM (R430). -/
def execHskConfirm (p : Fin 4) (m : Bytes) (s : State) : Host.Outcome State Fault Refusal := finish s (doHskConfirm p m s)

/-- HSK_TIMEOUT (R423). -/
def execHskTimeout (p : Fin 4) (s : State) : Host.Outcome State Fault Refusal := finish s (doHskTimeout p s)

end Sys2Proof.Machine
end

