-- ==== Sys2Proof/Machine/FabTxn.lean ====
section
/-! DEFINITION. The fabric's messages: transactions and the dedup cache (R446 to R449), remote operations and leases (R450 to R452),
CLEAR, QUERY and SEND (R453, R454), AGENT and NOTIFY (R445, R455), and forwarding (R441 to R444). -/

namespace Sys2Proof.Machine

open Sys2Proof

/-! ### Transactions (R447, R448) -/

/-- The transaction header. -/
def txnHdr (txid op status retry epoch arg : Nat) : Bytes :=
  leBytes 4 txid ++ [byte op, byte status] ++ leBytes 2 retry ++ leBytes 4 epoch ++ leBytes 4 arg

/-- The next TXID; the counter starts at a random value. -/
def nextTxid (s : State) : Nat × State :=
  match s.fab.txid with
  | some t => (t, setFab s { s.fab with txid := some ((t + 1) % 2 ^ 32) })
  | none =>
    let (k, s) := fresh s
    let t := (Config.free 32 k).toNat
    (t, setFab s { s.fab with txid := some ((t + 1) % 2 ^ 32) })

/-- Whether an address is the device's own. -/
def isSelf (s : State) (a : Nat) : Bool := assigned s && a == ownAddr s

/-- A request opened and sent; an operation at the device itself joins those that wait for the gate. None where the 256 entries are
taken. -/
def fabOpen (s : State) (dst msg op arg dom : Nat) (body : Bytes) (use : TxUse) : Option State :=
  if 256 ≤ s.fab.txns.length then none
  else
    let (t, s) := nextTxid s
    let epoch := (rd s Reg.DIR_EPOCH).toNat
    let b := txnHdr t op 0 0 epoch arg ++ body
    let s := setFab s { s.fab with txns := s.fab.txns ++ [{ txid := t, dst := dst, msg := msg, body := b, use := use, tries := 0 }] }
    if isSelf s dst && msg = 1 then
      some (setFab s { s.fab with ops := s.fab.ops ++
        [{ wire := false, src := dst, txid := t, epoch := epoch, dom := dom, op := op, arg := arg, body := body }] })
    else some (sendRouted s ⟨ownMsg s 3 msg dst (ownTtl s) b, none⟩)

/-- LEDGER_COUNT in the first 128 bytes of a record. -/
def recCount (r : Bytes) : Nat := leNat (part r 0x20 8)

/-! ### CLEAR (R453) -/

/-- A clearing ends: its completion. -/
def clearEnd (s : State) (c : FClear) (status outcome retry count : Nat) : State :=
  let s := setFab s { s.fab with clears := s.fab.clears.filter fun x => !(x.n == c.n && x.tag == c.tag) }
  endByTag s c.n c.tag status ([byte outcome, byte c.phase] ++ leBytes 2 retry ++ leBytes 8 count)

/-- RELEASE of a lease, which nothing waits for. -/
def clearRelease (s : State) (c : FClear) (dev lease acct : Nat) : State :=
  (fabOpen s dev 1 0x14 (lease * 65536 + acct) (chanDom s c.n) [] .none).getD s

/-- The next step of a clearing; NO_RESOURCE where no transaction entry is free. -/
def clearGo (s : State) (c : FClear) (phase : Nat) : State :=
  let c := { c with phase := phase }
  let s := setFab s { s.fab with clears := s.fab.clears.map fun x => if x.n == c.n && x.tag == c.tag then c else x }
  let dom := chanDom s c.n
  let r := match phase with
    | 1 => fabOpen s c.srcDev 1 0x10 (c.ms * 65536 + c.srcAcct) dom [] (.clear c.n c.tag)
    | 2 => fabOpen s c.dstDev 1 0x11 (c.ms * 65536 + c.dstAcct) dom c.record (.clear c.n c.tag)
    | 3 => fabOpen s c.dstDev 1 0x12 (c.leaseT * 65536 + c.dstAcct) dom [] (.clear c.n c.tag)
    | _ => fabOpen s c.srcDev 1 0x13 (c.leaseS * 65536 + c.srcAcct) dom [] (.clear c.n c.tag)
  match r with
  | some s => s
  | none =>
    let s := if phase = 2 || phase = 3 then clearRelease s c c.srcDev c.leaseS c.srcAcct else s
    clearEnd s c stNORES (if phase = 4 then 2 else 0) 0 (if phase = 4 then recCount c.record + 1 else 0)

/-- A step of a clearing ends: answered by its device, or by the transaction engine. -/
def clearStep (s : State) (c : FClear) (answered : Bool) (status retry arg : Nat) (body : Bytes) : State :=
  let ok := answered && status == stOK
  match c.phase with
  | 1 =>
    if ok then
      let c := { c with leaseS := arg / 65536, record := (body ++ zeros 128).take 128 }
      clearGo s c 2
    else clearEnd s c status 0 retry 0
  | 2 =>
    if ok then
      let c := { c with leaseT := arg / 65536 }
      if !isSelf s c.srcDev && decide (route s c.srcDev = .none) then
        clearEnd (clearRelease s c c.dstDev c.leaseT c.dstAcct) c stPARTNER 0 0 0
      else clearGo s c 3
    else clearEnd (clearRelease s c c.srcDev c.leaseS c.srcAcct) c (if answered then status else stPARTNER) 0 retry 0
  | 3 =>
    if ok then clearGo s c 4
    else clearEnd s c status (if answered then 0 else 3) retry 0
  | _ => clearEnd s c status (if ok then 1 else 2) retry (recCount c.record + 1)

/-- A transaction ends (R448): `answered` by a response, else by the engine. -/
def txnEnd (s : State) (t : FTxn) (answered : Bool) (status retry arg : Nat) (body : Bytes) : State :=
  let s := setFab s { s.fab with txns := s.fab.txns.filter fun x => x.txid != t.txid }
  match t.use with
  | .intake n tag seq => frameReply s n tag status 0xFFFF retry seq
  | .query n tag =>
    let b := if answered && status = stOK then body.take 8 ++ part body 16 8 else zeros 12
    endByTag s n tag status ((b.take 4) ++ b.drop 8)
  | .clear n tag =>
    match s.fab.clears.find? fun c => c.n == n && c.tag == tag with
    | some c => clearStep s c answered status retry arg body
    | none => s
  | .none => s

/-- Transactions whose destination has become unreachable end with PARTNER_LOST (R448). -/
def fabSweepN : Nat → State → State
  | 0, s => s
  | k + 1, s =>
    match s.fab.txns.find? fun t => !isSelf s t.dst && decide (route s t.dst = .none) with
    | some t => fabSweepN k (txnEnd s t false stPARTNER 0 0 [])
    | none => s

/-- The sweep over all transactions. -/
def fabSweep (s : State) : State := fabSweepN 600 s

/-- TXN_TIMEOUT: the k-th transaction is sent again, or ends with TIMEOUT. -/
def doTxnTimeout (k : Nat) (s : State) : State :=
  match s.fab.txns[k]? with
  | none => s
  | some t =>
    if isSelf s t.dst then s
    else if t.tries < fld (rd s Reg.FRT_TXCFG) 3 0 then
      let s := setFab s { s.fab with txns := s.fab.txns.map fun x => if x.txid == t.txid then { x with tries := x.tries + 1 } else x }
      fabSweep (sendRouted s ⟨ownMsg s 3 t.msg t.dst (ownTtl s) t.body, none⟩)
    else fabSweep (txnEnd s t false stTIMEOUT 0 0 [])

/-- The fields of a received transaction header. -/
def mHdr (m : FMsg) (off n : Nat) : Nat := leNat (part m.body off n)

/-- A response or UNREACH ends the transaction it names; where none is outstanding it is discarded. -/
def rspTake (s : State) (p msg : Nat) (ok : FTxn → Bool) (other : Bool) : State :=
  let find (m : FMsg) : Option FTxn := s.fab.txns.find? fun t => t.txid == mHdr m 0 4
  match rxFind s p 3 (fun m => m.msg == msg && (match find m with | some t => ok t | none => other)) with
  | none => s
  | some (r, rest) =>
    let m := r.m
    let s := rxTake s p r rest
    match find m with
    | none => s
    | some t => fabSweep (txnEnd s t (msg == 2) (if msg = 2 then mHdr m 5 1 else stPARTNER) (mHdr m 6 2) (mHdr m 12 4) (m.body.drop 16))

/-- Whether a transaction is a forwarded frame's. -/
def FTxn.isIntake (t : FTxn) : Bool := match t.use with | .intake _ _ _ => true | _ => false

/-- TXN_RSP: a response other than to a forwarded frame. -/
def doTxnRsp (p : Fin 4) (s : State) : State := rspTake s p.val 2 (fun t => !t.isIntake) true

/-- FORWARD_RESPONSE: the owner's answer to a forwarded frame (R78, R548). -/
def doForwardResponse (p : Fin 4) (s : State) : State := rspTake s p.val 2 FTxn.isIntake false

/-- UNREACH. -/
def doUnreach (p : Fin 4) (s : State) : State := rspTake s p.val 4 (fun _ => true) true

/-! ### The dedup cache (R449) -/

/-- The response to a request, sent. -/
def sendRsp (s : State) (dst : Nat) (b : Bytes) : State := sendRouted s ⟨ownMsg s 3 2 dst (ownTtl s) b, none⟩

/-- Whether an entry has a key. -/
def Dedup.is (d : Dedup) (src txid : Nat) : Bool := d.src == src && d.txid == txid

/-- A request answered: stored and sent, or sent alone with BUSY_RETRY. -/
def dedupAnswer (s : State) (src txid op epoch status retry arg : Nat) (body : Bytes) : State :=
  let b := txnHdr txid op status retry epoch arg ++ body
  let keep (d : Dedup) : Option Dedup :=
    if d.is src txid then (if status = stBUSY then none else some { d with resp := some b, at_ := s.tick }) else some d
  sendRsp (setFab s { s.fab with dedup := s.fab.dedup.filterMap keep }) src b

/-- The entry of a request removed. -/
def dedupDrop (s : State) (src txid : Nat) : State := setFab s { s.fab with dedup := s.fab.dedup.filter fun d => !d.is src txid }

/-- The µs until the oldest entry with a response expires. -/
def dedupRetry (s : State) : Nat :=
  let ends := s.fab.dedup.filterMap fun d => d.resp.map fun _ => d.at_ + 1000 * fld (rd s Reg.FRT_TXCFG) 31 16 - s.tick
  min 65535 (ends.foldl min 65535)

/-- A request handled by the cache; `run` executes a new one. -/
def dedupRun (s : State) (m : FMsg) (run : State → State) : State :=
  let txid := mHdr m 0 4
  match s.fab.dedup.find? fun d => d.is m.src txid with
  | some d => (match d.resp with | some b => sendRsp s m.src b | none => s)
  | none =>
    if 1024 ≤ s.fab.dedup.length then
      let s := frtRaise (bumpSat s Reg.FRT_DEDUP 15 0) 4
      sendRsp s m.src (txnHdr txid (mHdr m 4 1) stBUSY (dedupRetry s) (mHdr m 8 4) 0)
    else run (setFab s { s.fab with dedup := s.fab.dedup ++ [{ src := m.src, txid := txid, resp := none, at_ := 0 }] })

/-- DEDUP_EXPIRE: the k-th entry, which has a response, reaches DEDUP_MS. -/
def doDedupExpire (k : Nat) (s : State) : State :=
  match s.fab.dedup[k]? with
  | some d => if d.resp.isSome then setFab s { s.fab with dedup := s.fab.dedup.eraseIdx k } else s
  | none => s

/-- TXN_REQ: a request is answered from the cache, or its operation waits for the gate. -/
def doTxnReq (p : Fin 4) (s : State) : State :=
  match rxFind s p.val 3 (fun m => m.msg == 1) with
  | none => s
  | some (r, rest) =>
    let m := r.m
    let op := mHdr m 4 1
    let txid := mHdr m 0 4
    dedupRun (rxTake s p.val r rest) m fun s =>
      if op < 0x10 || 0x15 < op then dedupAnswer s m.src txid op (mHdr m 8 4) stBADPROF 0 0 []
      else setFab s { s.fab with ops := s.fab.ops ++
        [{ wire := true, src := m.src, txid := txid, epoch := mHdr m 8 4, dom := pageDomain s (0x40 + p.val), op := op,
           arg := mHdr m 12 4, body := m.body.drop 16 }] }

/-- FORWARDED_INTAKE: a forwarded frame is presented to the intake, or refused with its hint where the buffer is full (R446, R546). -/
def doForwardedIntake (p : Fin 4) (s : State) : State :=
  match rxFind s p.val 3 (fun m => m.msg == 0) with
  | none => s
  | some (r, rest) =>
    let m := r.m
    let txid := mHdr m 0 4
    let epoch := mHdr m 8 4
    let s := rxTake s p.val r rest
    let s :=
      if epoch = (rd s Reg.DIR_EPOCH).toNat then s
      else
        let s := bumpSat s Reg.FRT_EPSKEW 15 0
        if s.fab.epSeen then s else frtRaise (setFab s { s.fab with epSeen := true }) 3
    dedupRun s m fun s =>
      let x := s.intake
      if 256 ≤ x.frames.length then
        dedupAnswer s m.src txid 0 epoch stBUSY (retryHint (x.frames.length + x.reqs.length) 667) 0 []
      else
        let f := m.body.drop 16
        setIntake s { x with reqs := x.reqs ++
          [{ src := .fabric p.val m.src txid epoch m.ttl, dom := pageDomain s (0x40 + p.val), profile := mHdr m 12 4 % 32, len := f.length,
             recEn := false, noFwd := false, frameAddr := 0, recAddr := 0, recLen := 0, data := some f }] }

/-! ### Remote operations and leases (R450 to R452) -/

/-- An operation ends: its response, or the end of the device's own transaction. -/
def opDone (s : State) (o : FOp) (status retry arg : Nat) (body : Bytes) : State :=
  let s := setFab s { s.fab with ops := s.fab.ops.filter fun x => !(decide (x = o)) }
  if o.wire then dedupAnswer s o.src o.txid o.op o.epoch status retry arg body
  else match s.fab.txns.find? fun t => t.txid == o.txid with
    | some t => fabSweep (txnEnd s t true status retry arg body)
    | none => s

/-- The account of an operation, and the upper half of ARG. -/
def FOp.acct (o : FOp) : Nat := o.arg % 1024
/-- LEASE_MS or the lease number. -/
def FOp.hi (o : FOp) : Nat := o.arg / 65536

/-- Whether a domain passes for an operation: an account's DOMAIN is that of the operation, or D0. -/
def opDom (o : FOp) (d : Nat) : Bool := d == o.dom || d == 0

/-- The first operation with a code, once its account is free. -/
def opNext (s : State) (code : Nat) : Option FOp :=
  match s.fab.ops.find? fun o => o.op == code with
  | some o => if acctHeld s o.acct then none else some o
  | none => none

/-- A lease made: its number is a free value. -/
def newLease (s : State) (addr : Bytes) (acct ms : Nat) (staged : Option Bytes) : Nat × State :=
  let (k, s) := fresh s
  let n := (Config.free 16 k).toNat
  (n, setFab s { s.fab with leases := s.fab.leases ++ [{ num := n, addr := addr, acct := acct, staged := staged, till := s.tick + 1000 * ms }] })

/-- The lease that an operation names. -/
def opLease (s : State) (o : FOp) (t : Bool) : Option Lease :=
  s.fab.leases.find? fun l => l.num == o.hi && l.acct == o.acct && l.staged.isSome == t && decide (s.tick < l.till)

/-- LEASE_READ. -/
def doLeaseRead (s : State) : State :=
  match opNext s 0x10 with
  | none => s
  | some o =>
    let a := o.acct
    if o.hi = 0 || 10000 < o.hi then opDone s o stBADPROF 0 0 []
    else if acctLeased s a then opDone s o stLOCKED 0 0 []
    else if !acctFlag s a 0 || !opDom o (acctFld s a 0x0A 1) then opDone s o stNOTOWN 0 0 []
    else if 64 ≤ s.fab.leases.length then opDone s o stNORES 0 0 []
    else
      let r := sramRead s (acctAddr a) 128
      let (n, s) := newLease s (acctAddrOf s a) a o.hi none
      opDone s o stOK 0 (n * 65536) r

/-- STAGE. -/
def doFrtStage (s : State) : State :=
  match opNext s 0x11 with
  | none => s
  | some o =>
    let a := o.acct
    let m := o.body.take 8
    if o.hi = 0 || 10000 < o.hi || o.body.length != 128 then opDone s o stBADPROF 0 0 []
    else if !opDom o (leNat (part o.body 0x0A 1)) then opDone s o stNOTOWN 0 0 []
    else if acctFlag s a 0 then opDone s o stNORES 0 0 []
    else if addrHeld s m then opDone s o stDUP 0 0 []
    else if 8 ≤ (chainOf s (localBucket m)).length || 64 ≤ s.fab.leases.length then opDone s o stNORES 0 0 []
    else
      let (n, s) := newLease s m a o.hi (some o.body)
      opDone s o stOK 0 (n * 65536) []

/-- The account built from its staged bytes (R452). -/
def buildStaged (s : State) (a : Nat) (r : Bytes) : State :=
  let flags := Nat.land (leNat (part r 9 1)) 0x60 + 1
  let r := r.take 9 ++ [byte flags] ++ part r 0x0A 0x6E ++ zeros 8
  let s := linkAcct (acctPut s a 0 (r ++ zeros 128)) a
  let clr (s : State) (k : Nat) : State :=
    bankWrite s .intake (keyAddr a + 48 * k) [byte (leNat (sramRead s (keyAddr a + 48 * k) 1) / 2 * 2)]
  let s := adminRecord (clr (clr s 0) 1) a 0x14
  markDirty (acctPut s a 0x7C (leBytes 4 (crc32 (sramRead s (acctAddr a) 0x7C)).toNat)) a

/-- COMMIT; it waits for a hash lane. -/
def doFrtCommit (s : State) : State :=
  match opNext s 0x12 with
  | none => s
  | some o =>
    match opLease s o true with
    | none => opDone s o stTIMEOUT 0 0 []
    | some l =>
      let r := l.staged.getD []
      if !opDom o (leNat (part r 0x0A 1)) then opDone s o stNOTOWN 0 0 []
      else if acctFlag s o.acct 0 || 8 ≤ (chainOf s (localBucket l.addr)).length then opDone s o stNORES 0 0 []
      else if (unitLane s 31).isNone then s
      else
        let s := setFab s { s.fab with leases := s.fab.leases.filter fun x => !(decide (x = l)) }
        opDone (buildStaged s o.acct r) o stOK 0 0 []

/-- DISPOSE: the account is deleted, and the lease stays until its expiry. -/
def doFrtDispose (s : State) : State :=
  match opNext s 0x13 with
  | none => s
  | some o =>
    match opLease s o false with
    | none => opDone s o stTIMEOUT 0 0 []
    | some _ =>
      let a := o.acct
      if acctFlag s a 0 && !opDom o (acctFld s a 0x0A 1) then opDone s o stNOTOWN 0 0 []
      else opDone (if acctFlag s a 0 then deleteAcct s a else s) o stOK 0 0 []

/-- RELEASE. -/
def doFrtRelease (s : State) : State :=
  match opNext s 0x14 with
  | none => s
  | some o =>
    if acctFlag s o.acct 0 && !opDom o (acctFld s o.acct 0x0A 1) then opDone s o stNOTOWN 0 0 []
    else opDone (setFab s { s.fab with leases := s.fab.leases.filter fun l => !(l.num == o.hi && l.acct == o.acct) }) o stOK 0 0 []

/-- REMOTE_QUERY. -/
def doRemoteQuery (s : State) : State :=
  match opNext s 0x15 with
  | none => s
  | some o =>
    let a := o.acct
    if acctFlag s a 0 && !opDom o (acctFld s a 0x0A 1) then opDone s o stNOTOWN 0 0 []
    else
      let q := b2n (acctFlag s a 0) + 2 * b2n (acctFlag s a 1) + 4 * b2n (acctLeased s a)
      opDone s o stOK 0 0 (byte q :: zeros 7 ++ acctAddrOf s a ++ sramRead s (acctAddr a + 0x20) 40)

/-- LEASE_EXPIRE: the k-th lease ends, with cause LEASE_EXP. -/
def doLeaseExpire (k : Nat) (s : State) : State :=
  if k < s.fab.leases.length then frtRaise (setFab s { s.fab with leases := s.fab.leases.eraseIdx k }) 5 else s

/-! ### AGENT and NOTIFY (R445, R455) -/

/-- An AGENT packet for the agent till: none where it must wait for room; discarded where the till does not take it. -/
def agentPacket (s : State) (src mode port : Nat) (asg : Bool) (body : Bytes) : Option State :=
  let w := rd s Reg.FRT_AGENT
  let t := fld w 6 0
  let n := 1 + (body.length + 7) / 8
  if !bit w 31 || !tillOpenFor s t || tillProd s t != 0 then some (bumpSat s Reg.FRT_AGDROP 15 0)
  else if !hwMayReserve s t n then none
  else
    let pre := leBytes 2 src ++ [byte mode, byte port] ++ leBytes 2 body.length ++ [byte (b2n asg), 0#8]
    some (tillDeliver (tillReserve s t n) t n (pre ++ body))

/-- AGENT: the first received AGENT message is delivered. -/
def doAgent (p : Fin 4) (s : State) : State :=
  match takeFirst (fun r : FRx => (r.m.kind == 2 && r.m.msg == 1) || (r.m.kind == 3 && r.m.msg == 5 && r.here)) (getPort s p.val).rx with
  | none => s
  | some (r, rest) =>
    match agentPacket s r.m.src (b2n (r.m.kind == 2)) p.val r.m.asg r.m.body with
    | none => s
    | some s => rxTake s p.val r rest

/-- A notification latched. -/
def notifyLatch (s : State) (src ev : Nat) : State := frtRaise (wr s Reg.FRT_NOTIFY (word (src * 65536 + ev % 1024))) 6

/-- NOTIFY: a received notification. -/
def doNotify (p : Fin 4) (s : State) : State :=
  match rxFind s p.val 3 (fun m => m.msg == 3) with
  | none => s
  | some (r, rest) => notifyLatch (rxTake s p.val r rest) r.m.src (mHdr r.m 0 2)

/-! ### Forwarding (R441 to R444) -/

/-- A broadcast copy: it goes on in its direction, and the first one is for this device. -/
def broadcastIn (s : State) (p : Nat) (r : FRx) (rest : List FRx) : State :=
  let m := r.m
  let node := m.src % 256
  let c := leNat (m.body.take 2)
  let kept := mget 0 s.fab.bseen node
  let d := (c + 65536 - (kept + 65535) % 65536) % 65536
  let new := kept == 0 || (1 ≤ d && d ≤ 32768)
  let s := if new then setFab s { s.fab with bseen := mset 0 s.fab.bseen node (c + 1) } else s
  let out := match role s p with | 1 => ringPort s true | 2 => ringPort s false | _ => none
  let s := if new then setPort s p { getPort s p with rx := ⟨{ m with body := m.body.drop 4 }, r.units, true⟩ :: rest } else rxTake s p r rest
  match out with
  | some q =>
    let link := rd s (fabReg q 0x8C)
    if portUp s q && m.ttl != 0 && !(bit link 31 && fld link 15 0 == m.src) then enqueue s q ⟨{ m with ttl := m.ttl - 1 }, none⟩ else s
  | none => s

/-- ROUTED_FORWARD: the first ROUTED frame of a port's buffer that has not been routed yet. -/
def doRoutedForward (p : Fin 4) (s : State) : State :=
  match takeFirst (fun r : FRx => r.m.kind == 3 && !r.here) (getPort s p.val).rx with
  | none => s
  | some (r, rest) =>
    let m := r.m
    if m.dst = 0xFFFF then
      if m.msg = 3 || m.msg = 5 then broadcastIn s p.val r rest
      else unreachable (rxTake s p.val r rest) ⟨m, none⟩ false
    else match route s m.dst with
      | .here =>
        let x := getPort s p.val
        setPort s p.val { x with rx := x.rx.map fun y => if y = r then { y with here := true } else y }
      | .port q =>
        let s := rxTake s p.val r rest
        if m.ttl = 0 then unreachable s ⟨m, none⟩ true else enqueue s q ⟨{ m with ttl := m.ttl - 1 }, none⟩
      | .none => unreachable (rxTake s p.val r rest) ⟨m, none⟩ false

/-- A frame of the intake that another device owns, forwarded again: SRC and TXID stay (R77, R446). -/
def forwardAgain (s : State) (origin txid epoch ttl profile dst : Nat) (frame : Bytes) : State :=
  let s := dedupDrop s origin txid
  let m : FMsg := { kind := 3, msg := 0, asg := true, dst := dst, src := origin, ttl := ttl - 1, body := txnHdr txid 0 0 0 epoch profile ++ frame }
  match route s dst with
  | .port q => if ttl = 0 then unreachable s ⟨m, none⟩ true else enqueue s q ⟨m, none⟩
  | _ => unreachable s ⟨m, none⟩ false

/-! ### The channel operations (R453, R454) -/

/-- Whether the body of a fabric operation has its reserved bytes 0 and its fields in range (R453, R454, R581). -/
def fabricBodyOk (d : Desc) : Bool :=
  match descOp d with
  | 0x40 =>
    let len := descFld d 20 2
    decide (descFld d 18 1 ≤ 1) && decide (descFld d 19 1 ≤ 3) && decide (1 ≤ len) &&
      decide (len ≤ if descFld d 16 2 = 0xFFFF && descFld d 18 1 = 0 then 492 else 496) && descZero d 22 2 && descZero d 32 32
  | 0x41 =>
    decide (descFld d 18 2 < 1024) && decide (descFld d 22 2 < 1024) && decide (1 ≤ descFld d 24 2) && decide (descFld d 24 2 ≤ 10000) &&
      descZero d 26 38
  | 0x42 => decide (descFld d 18 2 < 1024) && descZero d 20 44
  | _ => false

/-- Whether a channel may use the fabric operations: its domain is FRT's owner, or D0. -/
def fabricMay (s : State) (n : Nat) : Bool := chanDom s n == pageDomain s 0x44 || chanDom s n == 0

/-- An active operation that its unit takes up; `k` runs once it is marked. -/
def takeOp (s : State) (n op : Nat) (k : State → ActOp → State) : State :=
  let c := getChan s n
  match c.active.find? fun o => descOp o.d == op && !o.begun with
  | none => s
  | some o =>
    let act := c.active.map fun x => if x = o then { x with begun := true, at_ := s.tick } else x
    k (setChan s n { c with active := act }) o

/-- SEND: an AGENT frame, routed, broadcast or link-local. -/
def doClrSend (n : Fin 64) (d : DmaData) (s : State) : State :=
  takeOp s n.val 0x40 fun t o =>
    let tag := descTag o.d
    let dst := descFld o.d 16 2
    let port := descFld o.d 19 1
    match dmaRead t n.val (descFld o.d 24 8) (descFld o.d 20 2) d with
    | (t, .inl st) => endByTag t n.val tag st []
    | (t, .inr body) =>
      if descFld o.d 18 1 = 1 then
        if portUp t port then enqueue t port ⟨ownMsg t 2 1 0 0 body, some (n.val, tag)⟩ else endByTag t n.val tag stPARTNER []
      else if dst = 0xFFFF && assigned t then sendBroadcast t 5 body (some (n.val, tag))
      else if isSelf t dst then
        match agentPacket t dst 0 0 true body with
        | some t => endByTag t n.val tag stOK []
        | none => s
      else sendRouted t ⟨ownMsg t 3 5 dst (ownTtl t) body, some (n.val, tag)⟩

/-- CLEAR. -/
def doClrClear (n : Fin 64) (s : State) : State :=
  takeOp s n.val 0x41 fun s o =>
    let f (off : Nat) : Nat := descFld o.d off 2
    let c : FClear := { n := n.val, tag := descTag o.d, srcDev := f 16, srcAcct := f 18, dstDev := f 20, dstAcct := f 22, ms := f 24,
                        phase := 1, leaseS := 0, leaseT := 0, record := [] }
    fabSweep (clearGo (setFab s { s.fab with clears := s.fab.clears ++ [c] }) c 1)

/-- QUERY. -/
def doClrQuery (n : Fin 64) (s : State) : State :=
  takeOp s n.val 0x42 fun s o =>
    match fabOpen s (descFld o.d 16 2) 1 0x15 (descFld o.d 18 2) (chanDom s n.val) [] (.query n.val (descTag o.d)) with
    | some s => fabSweep s
    | none => endByTag s n.val (descTag o.d) stNORES []

/-! ### The commands -/

/-- TXN_TIMEOUT (R448). -/
def execTxnTimeout (k : Nat) (s : State) : Host.Outcome State Fault Refusal := finish s (doTxnTimeout k s)

/-- TXN_RSP (R448). -/
def execTxnRsp (p : Fin 4) (s : State) : Host.Outcome State Fault Refusal := finish s (doTxnRsp p s)

/-- FORWARD_RESPONSE (R78). -/
def execForwardResponse (p : Fin 4) (s : State) : Host.Outcome State Fault Refusal := finish s (doForwardResponse p s)

/-- UNREACH (R443). -/
def execUnreach (p : Fin 4) (s : State) : Host.Outcome State Fault Refusal := finish s (doUnreach p s)

/-- DEDUP_EXPIRE (R449). -/
def execDedupExpire (k : Nat) (s : State) : Host.Outcome State Fault Refusal := finish s (doDedupExpire k s)

/-- TXN_REQ (R449). -/
def execTxnReq (p : Fin 4) (s : State) : Host.Outcome State Fault Refusal := finish s (doTxnReq p s)

/-- FORWARDED_INTAKE (R446). -/
def execForwardedIntake (p : Fin 4) (s : State) : Host.Outcome State Fault Refusal := finish s (doForwardedIntake p s)

/-- LEASE_READ (R450). -/
def execLeaseRead (s : State) : Host.Outcome State Fault Refusal := finish s (doLeaseRead s)

/-- STAGE (R450). -/
def execFrtStage (s : State) : Host.Outcome State Fault Refusal := finish s (doFrtStage s)

/-- COMMIT (R452). -/
def execFrtCommit (s : State) : Host.Outcome State Fault Refusal := finish s (doFrtCommit s)

/-- DISPOSE (R452). -/
def execFrtDispose (s : State) : Host.Outcome State Fault Refusal := finish s (doFrtDispose s)

/-- RELEASE (R450). -/
def execFrtRelease (s : State) : Host.Outcome State Fault Refusal := finish s (doFrtRelease s)

/-- REMOTE_QUERY (R450). -/
def execRemoteQuery (s : State) : Host.Outcome State Fault Refusal := finish s (doRemoteQuery s)

/-- LEASE_EXPIRE (R451). -/
def execLeaseExpire (k : Nat) (s : State) : Host.Outcome State Fault Refusal := finish s (doLeaseExpire k s)

/-- AGENT (R455). -/
def execAgent (p : Fin 4) (s : State) : Host.Outcome State Fault Refusal := finish s (doAgent p s)

/-- NOTIFY (R445). -/
def execNotify (p : Fin 4) (s : State) : Host.Outcome State Fault Refusal := finish s (doNotify p s)

/-- ROUTED_FORWARD (R441). -/
def execRoutedForward (p : Fin 4) (s : State) : Host.Outcome State Fault Refusal := finish s (doRoutedForward p s)

/-- SEND (R454). -/
def execClrSend (n : Fin 64) (d : DmaData) (s : State) : Host.Outcome State Fault Refusal := finish s (doClrSend n d s)

/-- CLEAR (R453). -/
def execClrClear (n : Fin 64) (s : State) : Host.Outcome State Fault Refusal := finish s (doClrClear n s)

/-- QUERY (R454). -/
def execClrQuery (n : Fin 64) (s : State) : Host.Outcome State Fault Refusal := finish s (doClrQuery n s)

end Sys2Proof.Machine
end

