-- ==== Sys2Proof/Machine/Seals.lean ====
section
/-! DEFINITION. The LMS sequencer (R241 to R250, R257) and the seal engine (R251 to R255). -/

namespace Sys2Proof.Machine

open Sys2Proof

/-- The state with the lanes' part replaced. -/
def setLanes (s : State) (x : LanesSt) : State := { s with lanes := x }

/-! ### Keys and indices (R246, R247) -/

/-- No state held of a key. -/
def LmsKey.none_ : LmsKey := { c := 0, next := 0, limit := 0, adv := false }

/-- The state of the key bound to a counter, taken from the counter at its first use. -/
def lmsKey (s : State) (ctr : Nat) : LmsKey :=
  let k := mget LmsKey.none_ s.lanes.lmsKeys ctr
  if k = LmsKey.none_ then { c := ctrValue s ctr, next := 64 * ctrValue s ctr, limit := 64 * ctrValue s ctr, adv := false } else k
/-- The state with a key's state replaced. -/
def setLmsKey (s : State) (ctr : Nat) (k : LmsKey) : State := setLanes s { s.lanes with lmsKeys := mset LmsKey.none_ s.lanes.lmsKeys ctr k }

/-- What the sequencer finds for a message: an index, an advance to wait for, or an exhausted key. -/
inductive LmsIdx where
  | idx (g : Nat) | wait | full
  deriving DecidableEq, Repr

/-- The assignment of an index under a key of `m` messages (R246). -/
def lmsAssign (s : State) (ctr m : Nat) : State × LmsIdx :=
  let k := lmsKey s ctr
  if m ≤ k.next then (setLmsKey s ctr k, .full)
  else if k.limit ≤ k.next then (setLmsKey s ctr { k with adv := true }, .wait)
  else (setLmsKey s ctr { k with next := k.next + 1 }, .idx k.next)

/-- After a signature the next advance begins in the background where the reservation runs low (R246). -/
def lmsBackground (s : State) (ctr m : Nat) : State :=
  let k := lmsKey s ctr
  let low := max 1 (fld (rd s Reg.LMS_CFG) 7 0)
  if k.limit - k.next ≤ low && decide (k.limit < m) then setLmsKey s ctr { k with adv := true } else s

/-- The counter of a key advances, verified: 64 more indices are reserved; none where it refuses. -/
def lmsAdvanced (s : State) (ctr m : Nat) : Option State :=
  let k := lmsKey s ctr
  (ctrAdvance s ctr).map fun s => setLmsKey s ctr { k with c := k.c + 1, limit := min (64 * (k.c + 1)) m, adv := false }

/-- The key whose slot a counter is bound to. -/
def lmsOfCtr (s : State) (ctr : Nat) : Option KeyRec :=
  match mget 0 s.nv.bound ctr with
  | 0 => none
  | k + 1 => match (vslot s k).key with
    | some r => if r.ktype = 0x30 && r.nvctr == ctr then some r else none
    | none => none

/-- The messages a key signs (R242). -/
def lmsTotal (r : KeyRec) : Nat := match hssParam r.param with | some p => 2 ^ p.total | none => 0

/-- The sequencer may work: its page takes work, and a hash lane permits its class (R240). -/
def lmsUp (s : State) : Bool := accepting s 0x0F && (unitLane s 29).isSome && !kuwWaits s

/-- Cause ATTN of the LMS page. -/
def lmsAttn (s : State) : State := raise s 0x0F 1

/-- The blocks of a signature depend on the path cache, which no rule lays open: HSH_BLOCKS after one is free. -/
def lmsBlocks (s : State) : State :=
  let (k, s) := fresh s
  wr (wr s (laneReg true 0 0xA8) (Config.free 32 k)) (laneReg true 1 0xA8) (Config.free 32 (k + 1))

/-- A signature with an index: the randomiser from the DRBG, and ATTN where fewer than 1 % of the indices remain (R244, R257). -/
def lmsRelease (s : State) (r : KeyRec) (g : Nat) (m : Bytes) : State × (Nat ⊕ Bytes) :=
  match drbg s 32, hssParam r.param with
  | some (c, s), some p =>
    let s := lmsBackground (lmsBlocks s) r.nvctr (2 ^ p.total)
    let s := if (2 ^ p.total - (lmsKey s r.nvctr).next) * 100 < 2 ^ p.total then lmsAttn s else s
    (s, .inr (hssSign p r.mat g c m))
  | _, _ => (s, .inl stNORES)

/-! ### Sign jobs (R250) -/

/-- A sign request arrives (R41, R250). -/
def lmsAdmit (s : State) (src : JobSrc) (dom : Nat) (blk : Bytes) : Admit :=
  if !enabled s 0x0F || lmem 0x0F s.enOff || bit (rd s (hdr 0x0F Off.OWNER)) 31 then .refused stNORES 0
  else .taken (setLanes s { s.lanes with lmsQ := s.lanes.lmsQ ++ [{ src := src, dom := dom, blk := blk }] })

/-- LMS_JOBCMD. -/
def doLmsJobcmd (i : Initiator) (s : State) : State :=
  let fail (s : State) (st : Nat) : State := lmsEnd s { src := .page, dom := 0, blk := [] } st 0 0
  pageGo s i 0x0F 0x88 32 fail fun s blk =>
    match lmsAdmit s .page (pageDomain s 0x0F) blk with
    | .taken s => s
    | .refused st _ => fail s st

/-- A request whose key, message and lengths are in order is assigned an index. -/
def lmsBegin (s : State) (q : LReq) (slot : Nat) (r : KeyRec) (m : Bytes) : State :=
  match lmsAssign s r.nvctr (lmsTotal r) with
  | (s, .full) => lmsEnd (lmsAttn s) q stEXHAUST 0 0
  | (s, .wait) => setLanes s { s.lanes with lmsRun := some { req := q, slot := slot, msg := m, idx := none } }
  | (s, .idx g) => setLanes s { s.lanes with lmsRun := some { req := q, slot := slot, msg := m, idx := some g } }

/-- LMS_SIGN_START: the sequencer takes its next request (R246, R248, R250). -/
def doLmsSignStart (s : State) : State :=
  match s.lanes.lmsRun, s.lanes.lmsQ with
  | none, q :: rest =>
    if !lmsUp s || s.pmu.window then s
    else
      let s := setLanes s { s.lanes with lmsQ := rest }
      let h := bfld q.blk 4 4
      let n := bfld q.blk 24 2
      if bfld q.blk 0 1 ≠ 1 || n = 0 || 4096 < n then lmsEnd s q stBADPROF 0 0
      else match keyFor s h q.dom fun k => k.ktype == 0x30 && nbit k.attr aSIGN && hKind h == 1 with
        | (s, .inl st) => lmsEnd s q st 0 0
        | (s, .inr r) =>
          match hssParam r.param with
          | none => lmsEnd s q stKEY 0 0
          | some p =>
            if bfld q.blk 26 2 < p.sigLen || !drbgReady s then lmsEnd s q stNORES 0 0
            else match jobRead s q.src q.dom (bfld q.blk 8 8) n [] with
              | (s, .inl st) => lmsEnd s q st 0 0
              | (s, .inr m) => lmsBegin s q (hIdx h) r m
  | _, _ => s

/-- LMS_ADVANCE_DONE: an advance of a key's counter is verified, or the counter refuses (R246). -/
def doLmsAdvanceDone (k : Fin 256) (s : State) : State :=
  if !(mget LmsKey.none_ s.lanes.lmsKeys k.val).adv || !writeReady s then s
  else match lmsOfCtr s k.val with
    | none => setLmsKey s k.val { lmsKey s k.val with adv := false }
    | some r =>
      let waits := match s.lanes.lmsRun with
        | some x => if x.idx.isNone && (mget 0 s.nv.bound k.val == x.slot + 1) then some x else none
        | none => none
      match lmsAdvanced s k.val (lmsTotal r), waits with
      | none, some x =>
        let s := setLmsKey s k.val { lmsKey s k.val with adv := false }
        lmsEnd (lmsAttn (ctrExhausted (setLanes s { s.lanes with lmsRun := none }))) x.req stEXHAUST 0 0
      | none, none => ctrExhausted (setLmsKey s k.val { lmsKey s k.val with adv := false })
      | some s, some x => lmsBegin s x.req x.slot r x.msg
      | some s, none => s

/-- LMS_SIGN_DONE: the signature is released (R250). -/
def doLmsSignDone (s : State) : State :=
  match s.lanes.lmsRun with
  | some x =>
    match x.idx, (vslot s x.slot).key with
    | some g, some r =>
      if !lmsUp s then s
      else
        let s := setLanes s { s.lanes with lmsRun := none }
        match lmsRelease s r g x.msg with
        | (s, .inl st) => lmsEnd s x.req st 0 0
        | (s, .inr sig) =>
          match jobWrite s x.req.src x.req.dom (bfld x.req.blk 16 8) sig with
          | (s, st) => if st = stOK then lmsEnd s x.req stOK sig.length g else lmsEnd s x.req st 0 0
    | _, _ => s
  | none => s

/-- The work of the sequencer ends because a hash lane withheld it (R236, R257). -/
def lmsWithheld (s : State) : State :=
  match s.lanes.lmsRun with
  | some x => raise (lmsEnd (setLanes s { s.lanes with lmsRun := none }) x.req stLANE 0 0) 0x0F 2
  | none => raise s 0x0F 2

/-- The opening of the service window (R248): requests without an index end with ABORTED. -/
def lmsWindow (s : State) : State :=
  let q := s.lanes.lmsQ
  let s := setLanes s { s.lanes with lmsQ := [] }
  let s := q.foldl (fun s x => lmsEnd s x stABORT 0 0) s
  match s.lanes.lmsRun with
  | some x => if x.idx.isNone then lmsEnd (setLanes s { s.lanes with lmsRun := none }) x.req stABORT 0 0 else s
  | none => s

/-- The private state cleared (R247): every reserved index is burned. -/
def lmsClear (s : State) : State :=
  let burned := s.lanes.lmsKeys.foldl (fun n k => n + (k.2.limit - k.2.next)) 0
  let s := setLanes s { s.lanes with lmsKeys := [], lmsQ := [], lmsRun := none, sealing := none }
  wr s Reg.LMS_BURNED (word (min (2 ^ 32 - 1) burned))

/-- LMS_KSEL: a key's state captured (R257); whether its path cache is warm is free. -/
def doLmsKsel (i : Initiator) (v : Word) (s : State) : State :=
  guardW s i Reg.LMS_KSEL fun s =>
    let s := wr s Reg.LMS_KSEL (v &&& 0xFF#32)
    let put (s : State) (next limit : Nat) (stat : Word) : State :=
      let s := wr (wr s Reg.LMS_KNEXT (word next)) (Reg.LMS_KNEXT + 4) (word (next / 2 ^ 32))
      wr (wr (wr s Reg.LMS_KLIMIT (word limit)) (Reg.LMS_KLIMIT + 4) (word (limit / 2 ^ 32))) Reg.LMS_KSTAT stat
    match (vslot s (fld v 7 0)).key with
    | some r =>
      if r.ktype ≠ 0x30 then put s 0 0 0#32
      else
        let k := mget LmsKey.none_ s.lanes.lmsKeys r.nvctr
        if k = LmsKey.none_ then put s 0 0 (word r.nvctr)
        else
          let (f, s) := fresh s
          let warm := b2n (Config.free 1 f == 1#1)
          put s k.next k.limit (word (0x80000000 + warm * 0x40000000 + b2n k.adv * 0x20000000 +
            b2n (decide (lmsTotal r ≤ k.next)) * 0x10000000 + r.nvctr))
    | none => put s 0 0 0#32

/-! ### Seals -/

/-- A request of MC joins the seal queue, unless that is full (R251). -/
def sealRequest (s : State) (profile : Nat) : Option State :=
  if 16 ≤ s.seals.length then none
  else some { s with seals := s.seals ++ [{ profile := profile, posting := 0xFFFF, late := false, cmp := 0, closing := none }] }

/-- LMS_SEALCMD: a GO queues a seal request, or reports that the queue is full (R251). -/
def doLmsSealcmd (i : Initiator) (v : Word) (s : State) : State :=
  guardW s i Reg.LMS_SEALCMD fun s =>
    let refuse (s : State) (st : Nat) : State := wr s Reg.LMS_SEALSTAT (word (0x80000000 + st))
    if !bit v 31 then s
    else if !enabled s 0x0F || lmem 0x0F s.enOff then refuse s stNORES
    else match sealRequest s (fld v 3 0) with
      | none => refuse s stBUSY
      | some s => wrBit s Reg.LMS_SEALSTAT 31 false

/-- The key type of a SIGALG. -/
def sealKtype (alg : Nat) : Nat := [0x30, 0x10, 0x11, 0x2D].getD alg 0

/-- A seal's key (R252): the requesting domain is the page's owner, and a key of D1 is accepted. -/
def sealKey (s : State) (h alg : Nat) : State × (Nat ⊕ KeyRec) :=
  let dom := match entryOf s h with | some k => if attrDom k.attr = 1 then 1 else pageDomain s 0x0F | none => pageDomain s 0x0F
  keyFor s h dom fun k => k.ktype == sealKtype alg && nbit k.attr aSIGN && (alg != 0 || hKind h == 1)

/-- The length of a seal's signature. -/
def sealSigLen (alg : Nat) (k : KeyRec) : Nat :=
  match alg with
  | 0 => match hssParam k.param with | some p => p.sigLen | none => 0
  | 1 => 64
  | 2 => 96
  | _ => 3309

/-- The range of a profile: FIRST and COUNT. -/
def sealRange (acct : Word) : Nat × Nat := (fld acct 9 0, fld acct 26 16)

/-- Step 2 of R252: the failing status, or the length of the signature. -/
def sealCheck (s : State) (cfg acct key : Word) : State × (Nat ⊕ Nat) :=
  let (first, count) := sealRange acct
  let alg := fld cfg 27 24
  if !bit cfg 31 || decide (3 < alg) || decide (1024 < first + count) then (s, .inl stBADPROF)
  else match sealKey s key.toNat alg with
    | (s, .inl st) => (s, .inl (if st = stPROT then stKEY else st))
    | (s, .inr k) => (s, .inr (sealSigLen alg k))

/-- The 50 bytes of an account's leaf (R253). -/
def sealLeaf (s : State) (a : Nat) : Bytes :=
  leBytes 2 a ++ (if acctFlag s a 0 then sramRead s (acctAddr a) 8 ++ sramRead s (acctAddr a + 0x20) 40 else zeros 48)

/-- The captures from account `a` on, up to the first that is held (R252 step 4). -/
def sealCapture (s : State) : Nat → Nat → SealRun → SealRun
  | 0, _, r => r
  | n + 1, a, r =>
    if acctHeld s a then r
    else sealCapture s n (a + 1) { r with caps := r.caps ++ [⟨a, sealLeaf s a⟩], tickA := if r.caps.isEmpty then s.tick else r.tickA
                                          tickB := s.tick }

/-- The captures that can be taken now. -/
def sealCaptures (s : State) (r : SealRun) : SealRun :=
  let (first, count) := sealRange r.acct
  sealCapture s (count - r.caps.length) (first + r.caps.length) r

/-- SEAL_START: the engine takes the head request once its till has room (R252 steps 1 and 2, and the first captures). -/
def doSealStart (s : State) : State :=
  match s.lanes.sealing, s.seals with
  | none, q :: rest =>
    if !accepting s 0x0F || s.pmu.window || kuwWaits s then s
    else
      let at_ (k : Nat) : Word := rd s (Reg.LMS_SPCFG + 16 * q.profile + 4 * k)
      let (cfg, acct, key) := (at_ 0, at_ 1, at_ 2)
      let (s', chk) := sealCheck s cfg acct key
      let len := match chk with
        | .inl _ => 128
        | .inr n => 128 + n + b2n (bit cfg 29) * (10 * (sealRange acct).2)
      let words := (len + 7) / 8
      let till := fld cfg 6 0
      if !hwMayReserve s till words then s
      else
        let s := tillReserve { s' with seals := rest } till words
        let st := match chk with | .inl st => st | .inr _ => stOK
        let r : SealRun := { req := q, cfg := cfg, acct := acct, key := key, resv := words, status := st, caps := [], tickA := 0, tickB := 0
                             root := none, no := 0, header := [], sig := none }
        setLanes s { s.lanes with sealing := some (if st = stOK then sealCaptures s r else r) }
  | _, _ => s

/-- A level of the tree from the one below it (R253). -/
def sealLevel : List Bytes → List Bytes
  | a :: b :: rest => sha256 ([1#8] ++ a ++ b) :: sealLevel rest
  | x => x

/-- The root over leaves, with fuel for the levels. -/
def sealRoot : Nat → List Bytes → Bytes
  | 0, x => x.headD []
  | n + 1, x => if x.length ≤ 1 then x.headD [] else sealRoot n (sealLevel x)

/-- The closing that a request carries. -/
def sealClosing (s : State) (q : SealReq) : Option Bytes :=
  match q.closing with
  | some n => (s.cal.store.find? fun c => c.id == n).map fun c => c.bytes
  | none => none

/-- SEAL_TREE_DONE: the remaining captures are taken, and once all are, the root is ready (R253). -/
def doSealTreeDone (s : State) : State :=
  match s.lanes.sealing, unitLane s 30 with
  | some r, some n =>
    if r.status ≠ stOK || r.root.isSome then s
    else
      let r := sealCaptures s r
      let s := setLanes s { s.lanes with sealing := some r }
      if r.caps.length ≠ (sealRange r.acct).2 then s
      else
        let head := match sealClosing s r.req with | some c => [c] | none => []
        let leaves := head.map (fun c => sha256 ([0#8, 2#8] ++ c)) ++ r.caps.map fun c => sha256 ([0#8, 1#8] ++ c.leaf)
        if leaves.isEmpty then setLanes s { s.lanes with sealing := some { r with status := stNORES, root := some [] } }
        else
          let blocks := (match head with | c :: _ => (c.length + 2 + 9 + 63) / 64 | [] => 0) + r.caps.length + 2 * (leaves.length - 1)
          let s := hshCount s n blocks
          let len := match head with | c :: _ => c.length | [] => 0
          setLanes s { s.lanes with sealing := some { r with root := some (sealRoot 11 leaves), header := leBytes 4 len } }
  | _, _ => s

/-- The 128-byte header (R254); `CLOSE_LEN` is what the tree step left in `header`. -/
def sealHeader (s : State) (r : SealRun) (status siglen keyId : Nat) : Bytes :=
  let (first, count) := sealRange r.acct
  let flags := b2n r.req.closing.isSome + 2 * b2n (bit r.cfg 29) + 4 * b2n r.req.late
  [0x4A#8, 0x51#8, 0x53#8, 0x4C#8, 1#8, byte (fld r.cfg 27 24), byte r.req.profile, byte flags] ++ serial ++ leBytes 8 r.no ++
    leBytes 2 r.req.posting ++ leBytes 2 first ++ leBytes 2 count ++ [byte status, 0#8] ++ leBytes 8 r.req.cmp ++ leBytes 8 r.tickA ++
    leBytes 8 r.tickB ++ leBytes 4 (rtcSecs s) ++ (r.header ++ zeros 4).take 4 ++ ((r.root.getD []) ++ zeros 32).take 32 ++
    leBytes 4 keyId ++ leBytes 4 siglen ++ zeros 16

/-- A header signed under a seal's key (R252 step 5); none while its index waits for an advance. -/
def sealSign (s : State) (alg : Nat) (k : KeyRec) (m : Bytes) : Option (State × (Nat ⊕ Bytes)) :=
  match alg with
  | 0 =>
    if s.lanes.lmsRun.isSome || !lmsUp s then none
    else if !drbgReady s then some (s, .inl stNORES)
    else match lmsAssign s k.nvctr (lmsTotal k) with
      | (s, .full) => some (lmsAttn s, .inl stEXHAUST)
      | (_, .wait) => if ctrMax k.nvctr ≤ ctrValue s k.nvctr then some (lmsAttn (ctrExhausted s), .inl stEXHAUST) else none
      | (s, .idx g) => some (lmsRelease s k g m)
  | 3 =>
    if !bneInternal s then none
    else match drbg s 32 with
      | none => some (s, .inl stNORES)
      | some (r, s) => match dsaSign (dsaParam 1) k.mat [] m r with
        | some sg => some (s, .inr sg)
        | none => some (s, .inl stLANE)
  | _ =>
    if !bneInternal s then none
    else match drbg s 56 with
      | none => some (s, .inl stNORES)
      | some (r, s) =>
        let (c, h) := if alg = 1 then (p256, sha256 m) else (p384, sha384 m)
        some (s, .inr (ecdsaSign c (beNat k.mat) (beNat r % (c.n - 1) + 1) h))

/-- The seal in progress replaced. -/
def setSealing (s : State) (r : SealRun) : State := setLanes s { s.lanes with sealing := some r }

/-- The seal counter advances once (R252 step 3); `no` 0 says that it has not. -/
def sealNumber (s : State) (r : SealRun) : State × SealRun :=
  if r.no ≠ 0 then (s, r)
  else match ctrAdvance s 3 with
    | none => (lmsAttn (ctrExhausted s), { r with status := stEXHAUST })
    | some s => (s, { r with no := ctrValue s 3 })

/-- SEAL_SIGNED: the advance of counter 3 is verified and the header signed (R252 steps 3 and 5). A signature whose index waits for
an advance leaves the seal at step 5, and the advance begins. -/
def doSealSigned (s : State) : State :=
  match s.lanes.sealing with
  | none => s
  | some r =>
    if r.root.isNone || r.sig.isSome || (r.no == 0 && !writeReady s) || kuwWaits s then s
    else
      let (s, r') := sealNumber s r
      let s := setSealing s r'
      if r'.status ≠ stOK then setSealing s { r' with sig := some [] }
      else
        let alg := fld r.cfg 27 24
        match sealKey s r.key.toNat alg with
        | (s, .inl _) => setSealing s { r' with status := stKEY, sig := some [] }
        | (s, .inr k) =>
          let h := sealHeader s r' stOK (sealSigLen alg k) k.keyId
          match sealSign s alg k h with
          | none => if alg = 0 && lmsUp s && s.lanes.lmsRun.isNone then (lmsAssign s k.nvctr (lmsTotal k)).1 else s
          | some (s, .inl st) => setSealing s { r' with status := st, sig := some [] }
          | some (s, .inr sg) => setSealing s { r' with header := h, sig := some sg }

/-- The list of a seal record (R254). -/
def sealList (r : SealRun) : Bytes :=
  if bit r.cfg 29 then r.caps.flatMap fun c => c.leaf.take 2 ++ (c.leaf.drop 10).take 8 else []

/-- The sector of the oldest page of the seal ring. -/
def oldestSeal (s : State) : Option Nat :=
  (validPages s 14).foldl (fun (a : Option (Nat × Nat)) kv =>
    match a with
    | some (q, _) => if tagSeq kv.2 < q then some (tagSeq kv.2, kv.1 / 32) else a
    | none => some (tagSeq kv.2, kv.1 / 32)) none |>.map (·.2)

/-- The pages of a seal record into the ring; the oldest seal sector is erased where no page is free (R460). -/
def sealProgram : List NvWrite → State → State
  | .page r lid flags d :: ws, s =>
    let s := if (placeOf s r lid).isNone then (match oldestSeal s with | some x => wipeSector s x | none => s) else s
    sealProgram ws (programPage s r lid flags 0 d true)
  | _, s => s

/-- The write of a seal to NV (R252 step 6); NVC_SEALPTR names it. -/
def sealToNv (s : State) (no : Nat) (bs : Bytes) : State :=
  let first := placeOf s 14 (no % 65536)
  let s := sealProgram (recordPages 14 (no % 65536) bs) s
  match first with
  | some p => wr s Reg.NVC_SEALPTR (word (p * 256))
  | none => s

/-- SEAL_DELIVERED: the seal is written to NV where the profile says so, and delivered (R252 steps 6 and 7). -/
def doSealDelivered (s : State) : State :=
  match s.lanes.sealing with
  | none => s
  | some r =>
    let ok := r.status == stOK
    let nv := ok && bit r.cfg 30
    if (r.sig.isNone && (ok || r.root.isSome)) || (nv && !writeReady s) then s
    else
      let sig := r.sig.getD []
      let h := if ok then r.header else sealHeader s r r.status 0 0
      let s := if nv then sealToNv s r.no (h ++ sig) else s
      let s := tillDeliver s (fld r.cfg 6 0) r.resv (if ok then h ++ sig ++ sealList r else h)
      let s := wrFld s Reg.LMS_SEALSTAT 7 0 r.status
      let s := wr (wr s Reg.LMS_SEALNO (word r.no)) (Reg.LMS_SEALNO + 4) (word (r.no / 2 ^ 32))
      let s := raise (setLanes s { s.lanes with sealing := none }) 0x0F 0
      if ok then s else lmsAttn s

/-- The seal in progress fails because a hash lane withheld its work (R236, R257). -/
def sealWithheld (s : State) : State :=
  let s := raise s 0x0F 2
  match s.lanes.sealing with
  | some r => setSealing s { r with status := stLANE, sig := some [] }
  | none => s

/-! ### The commands -/

/-- LMS_JOBCMD (R250). -/
def execLmsJobcmd (i : Initiator) (s : State) : Host.Outcome State Fault Refusal := finish s (doLmsJobcmd i s)

/-- LMS_SIGN_START (R246). -/
def execLmsSignStart (s : State) : Host.Outcome State Fault Refusal := finish s (doLmsSignStart s)

/-- LMS_ADVANCE_DONE (R246). -/
def execLmsAdvanceDone (k : Fin 256) (s : State) : Host.Outcome State Fault Refusal := finish s (doLmsAdvanceDone k s)

/-- LMS_SIGN_DONE (R250). -/
def execLmsSignDone (s : State) : Host.Outcome State Fault Refusal := finish s (doLmsSignDone s)

/-- LMS_KSEL (R257). -/
def execLmsKsel (i : Initiator) (v : Word) (s : State) : Host.Outcome State Fault Refusal := finish s (doLmsKsel i v s)

/-- LMS_SEALCMD (R251). -/
def execLmsSealcmd (i : Initiator) (v : Word) (s : State) : Host.Outcome State Fault Refusal := finish s (doLmsSealcmd i v s)

/-- SEAL_START (R252). -/
def execSealStart (s : State) : Host.Outcome State Fault Refusal := finish s (doSealStart s)

/-- SEAL_TREE_DONE (R253). -/
def execSealTreeDone (s : State) : Host.Outcome State Fault Refusal := finish s (doSealTreeDone s)

/-- SEAL_SIGNED (R252). -/
def execSealSigned (s : State) : Host.Outcome State Fault Refusal := finish s (doSealSigned s)

/-- SEAL_DELIVERED (R252). -/
def execSealDelivered (s : State) : Host.Outcome State Fault Refusal := finish s (doSealDelivered s)

end Sys2Proof.Machine
end

