-- ==== Sys2Proof/Machine/Intake.lean ====
section
/-! DEFINITION. The account intake (R62 to R99): admission and stages 1 to 3, the gate, keys, verification, total rules, ledger,
commit and delivery; the directory swap (R79); and the lane mismatches that reach it (R69, R228, R236). -/

namespace Sys2Proof.Machine

open Sys2Proof

/-! ### Profiles (R70 to R75) -/

/-- The sixteen words of a profile. -/
def profWords (s : State) (p : Nat) : List Word := (List.range 16).map fun k => rd s (Reg.FPR_PCTL + 0x40 * p + 4 * k)

/-- What stage 1 locates in a frame. -/
structure Fields where
  mode : Nat
  ext : Bool
  bits : Nat
  addr : Bytes
  v : Nat
  hdr : Bytes
  ct : Bytes
  mac : Bytes

/-- Stage 1: the fields of a frame under its profile; none where it completes with BAD_PROFILE. -/
def locate (prof : List Word) (bs : Bytes) : Option Fields :=
  let w (k : Nat) : Word := prof.getD k 0#32
  let n := bs.length
  let mode := fld (w 0) 30 29
  let ext := bit (w 0) 28
  let sw := fld (w 1) 15 14
  let sb := 2 ^ sw
  let ao := fld (w 1) 31 24
  let so := fld (w 1) 23 16
  let ho := fld (w 2) 31 24
  let hl := fld (w 2) 23 16
  let co := fld (w 2) 15 8
  let ml := if mode = 0 then 0 else if mode = 1 then 8 else 12
  let atEnd := bit (w 3) 23 && mode != 0
  let mo := if mode = 0 then 0 else if atEnd then n - ml else fld (w 3) 31 24
  let ce := if atEnd then n - ml else n
  let l := ce - co
  if !bit (w 0) 31 || mode == 3 || (ext && sw == 3) || decide (n < fld (w 0) 23 16) || decide (n < ao + 8) || decide (n < so + sb) ||
      (hl != 0 && decide (n < ho + hl)) || decide (n < mo + ml) || decide (ce < co) || l == 0 || decide (256 < l) ||
      (mode != 2 && l % 16 != 0) then none
  else
    let raw := part bs so sb
    some {
      mode := mode, ext := ext, bits := 8 * sb, addr := part bs ao 8, v := if bit (w 1) 13 then beNat raw else leNat raw
      hdr := ((List.range hl).map (ho + ·)).filterMap fun k => if mo ≤ k && k < mo + ml then none else bs[k]?
      ct := part bs co l, mac := part bs mo ml }

/-- The MAC fingerprint of a frame (R85). -/
def fingerprint (f : Fields) : Nat :=
  let x := leNat (if f.mode = 0 then part f.ct (f.ct.length - 16) 2 else f.mac.take 2)
  if x = 0 then 1 else x

/-! ### Security modes (R73, R74, R583, R584) -/

/-- The IV of mode 5: the address, and the access number eight times. -/
def iv5 (f : Fields) : Bytes := f.addr ++ List.replicate 8 (byte (f.v % 256))
/-- A derived key of mode 7. -/
def key7 (key : Bytes) (c : Byte) (f : Fields) : Bytes :=
  cmac key ([c] ++ leBytes 4 f.v ++ part f.addr 2 4 ++ List.replicate 7 7#8)
/-- The IV of mode 9: the address and the message counter. -/
def iv9 (f : Fields) : Bytes := f.addr ++ leBytes 4 f.v

/-- Whether a frame verifies under an account key. -/
def modeOk (f : Fields) (key : Bytes) : Bool :=
  if f.mode = 0 then decide ((cbcDec key (iv5 f) (f.ct.take 16)).take 2 = [0x2F#8, 0x2F#8])
  else if f.mode = 1 then decide ((cmac (key7 key 1#8 f) (f.hdr ++ f.ct)).take 8 = f.mac)
  else decide ((gcmTag key (iv9 f) f.hdr f.ct).take 12 = f.mac)

/-- The plaintext of a frame under an account key. -/
def modeDec (f : Fields) (key : Bytes) : Bytes :=
  if f.mode = 0 then cbcDec key (iv5 f) f.ct
  else if f.mode = 1 then cbcDec (key7 key 0#8 f) (zeros 16) f.ct
  else gcmCrypt key (iv9 f) f.ct

/-! ### Ends of a frame (R64, R95, R96) -/

/-- The words reserved for a record in a till: those of the largest record of the frame. -/
def recWords (len : Nat) : Nat := (32 + min 256 len + 7) / 8

/-- A presented frame refused or ended without a local account: a completion only. -/
def reqEnd (s : State) (r : FrameReq) (status retry seq : Nat) : State :=
  match r.src with
  | .chan n tag => frameReply s n tag status 0xFFFF retry seq
  | .fabric _ o t e _ => countStatus (dedupAnswer s o t 0 e status retry 0 []) status

/-- The reservation of a frame given back. -/
def giveBack (s : State) (f : Frame) : State :=
  match f.till with
  | some t => tillRelease s t (recWords f.bytes.length)
  | none => s

/-- The record of a frame delivered, and its completion (R64, R95). -/
def deliverFrame (s : State) (f : Frame) (status rflags : Nat) (addr : Bytes) (retry seq pos rtc : Nat) (plain : Bytes) : State :=
  let fab := match f.req.src with | .fabric _ _ _ _ _ => 4 | _ => 0
  let h := recHeader status (rflags + fab) f.req.profile f.acct plain.length addr seq pos rtc
  let s := match f.till with
    | some t => tillDeliver s t (recWords f.bytes.length) (h ++ plain)
    | none => match f.req.src with
      | .chan n _ => (dmaWrite s n f.req.recAddr (h ++ plain)).1
      | _ => s
  match f.req.src with
  | .chan n tag => frameReply s n tag status f.acct retry seq
  | .fabric _ _ _ _ _ => countStatus s status

/-- A cipher lane after an intake frame has left it: a CLRKEY that waited takes effect (R212). -/
def frameOff (s : State) (f : Frame) : State :=
  match f.lane, f.stage with
  | some n, .loaded => if (getLane s false n).clr then laneClear s false n else s
  | _, _ => s

/-- The k-th frame taken out of the intake; an account command that waited then runs. -/
def takeFrame (s : State) (k : Nat) : State :=
  gateNext (setIntake s { s.intake with frames := s.intake.frames.eraseIdx k })

/-- The k-th frame ends with a final status that changes no account state: a header-only record (R95). -/
def endFrame (s : State) (k : Nat) (f : Frame) (status : Nat) : State :=
  let addr := acctAddrOf s f.acct
  let pos := acctCount s f.acct
  let s := deliverFrame s f status 0 addr 0 f.seq pos (rtcSecs s) []
  frameOff (takeFrame s k) f

/-! ### Admission (R65, R66, R104, R545 to R547) -/

/-- The place of a source in the order of R545. -/
def srcPlace (r : FrameReq) : Nat := match r.src with | .fabric p _ _ _ _ => p | .chan n _ => 4 + n

/-- The request admitted next: the first of the source that follows the one admitted last. -/
def nextReq (s : State) : Option (FrameReq × List FrameReq) :=
  let places := (List.range 68).map fun k => (s.intake.rr + 1 + k) % 68
  match places.find? fun p => s.intake.reqs.any fun r => srcPlace r == p with
  | some p => takeFirst (fun r => srcPlace r == p) s.intake.reqs
  | none => none

/-- The delivery till of a frame: the profile's, or ACC_CFG's. -/
def deliveryTill (s : State) (p : Nat) : Option Nat :=
  let w := rd s (Reg.FPR_DLV + 0x40 * p)
  let c := rd s Reg.ACC_CFG
  if bit w 31 then some (fld w 6 0) else if bit c 7 then some (fld c 6 0) else none

/-- The record space reserved: the till, if it is one, or the status and hint of the refusal. -/
def reserveRec (s : State) (r : FrameReq) (len : Nat) : State × (Option Nat ⊕ (Nat × Nat)) :=
  if r.recEn then
    match r.src with
    | .chan n _ => match dmaCheck s n r.recAddr r.recLen true with
      | (s, 0) => (s, .inl none)
      | (s, st) => (s, .inr (st, 0))
    | _ => (s, .inl none)
  else match deliveryTill s r.profile with
    | none => (s, .inr (stNORES, 0))
    | some t =>
      if !tillOpenFor s t || tillProd s t != 0 || decide (tillSize s t < recWords len) then (s, .inr (stNORES, 0))
      else if tillRoom s t < recWords len then (s, .inr (stBUSY, retryHint (getTill s t).packets.length 1000))
      else (tillReserve s t (recWords len), .inl (some t))

/-- The owner entry of a meter address in the active table: the device that it names, if any. -/
def ownerOf (s : State) (addr : Bytes) : Option Nat :=
  let w := mget 0#32 s.intake.owner (ownerBucket addr)
  if bit w 15 then some (fld w 7 4 * 256 + fld w 3 0) else none

/-- Whether an owner is this device. -/
def ownerSelf (s : State) (o : Nat) : Bool :=
  let w := rd s Reg.DIR_SELF
  bit w 31 && o == fld w 7 4 * 256 + fld w 3 0

/-- A frame that another device owns (R77, R78). -/
def forwardFrame (s : State) (f : Frame) (x : Fields) (dst : Nat) : State :=
  let s := giveBack s f
  match f.req.src with
  | .chan n tag =>
    if f.req.noFwd then reqEnd s f.req stNOTOWN 0 x.v
    else if !assigned s then reqEnd s f.req stPARTNER 0 x.v
    else match fabOpen s dst 0 0 f.req.profile f.req.dom f.bytes (.intake n tag x.v) with
      | some s => fabSweep s
      | none => reqEnd s f.req stNORES 0 x.v
  | .fabric _ o t e ttl => fabSweep (forwardAgain s o t e ttl f.req.profile dst f.bytes)

/-- The owner's answer to a frame that it has admitted (R446). -/
def answerAdmit (s : State) (r : FrameReq) : State :=
  match r.src with
  | .fabric _ o t e _ => dedupAnswer s o t 0 e stFWD 0 0 []
  | _ => s

/-- A final status of a frame without a local account, after admission. -/
def dropAdmitted (s : State) (f : Frame) (status retry seq : Nat) : State :=
  let s := giveBack s f
  match f.req.src with
  | .chan n tag => frameReply s n tag status 0xFFFF retry seq
  | .fabric _ _ _ _ _ => countStatus s status

/-- A final status of a frame with a local account at stage 3: its header-only record. -/
def dropResolved (s : State) (f : Frame) (status retry : Nat) (addr : Bytes) : State :=
  deliverFrame s f status 0 addr retry f.v (acctCount s f.acct) (rtcSecs s) []

/-- Stage 3 (R80, R81, R451). -/
def stage3 (s : State) (f : Frame) (x : Fields) : State :=
  let s := answerAdmit s f.req
  let lease := leaseOf s x.addr
  let hint := match lease with | some l => min 65535 (l.till - s.tick) | none => 0
  match findAcct s x.addr with
  | none => dropAdmitted s f (if lease.isSome then stBUSY else stNOTOWN) hint x.v
  | some a =>
    let f := { f with acct := a }
    if lease.isSome then dropResolved s f stBUSY hint x.addr
    else if acctFld s a 8 1 ≠ f.req.profile then dropResolved s f stBADPROF 0 x.addr
    else if !acctFlag s a 1 then dropResolved s f stLOCKED 0 x.addr
    else if f.req.dom ≠ 0 && f.req.dom ≠ acctFld s a 0x0A 1 then dropResolved s f stNOTOWN 0 x.addr
    else setIntake s { s.intake with frames := s.intake.frames ++ [f] }

/-- Stages 1 and 2 of an admitted frame (R68, R77). -/
def stage12 (s : State) (f : Frame) : State :=
  match locate f.prof f.bytes with
  | none => dropAdmitted (answerAdmit s f.req) f stBADPROF 0 0
  | some x =>
    let f := { f with v := x.v, seq := x.v }
    if f.req.recEn && decide (f.req.recLen < 32 + x.ct.length) then dropAdmitted s f stNORES 0 x.v
    else if bit (rd s Reg.DIR_CFG) 0 then stage3 s f x
    else match ownerOf s x.addr with
      | none => dropAdmitted (answerAdmit s f.req) f stNOTOWN 0 x.v
      | some o => if ownerSelf s o then stage3 s f x else forwardFrame s f x o

/-- An admitted frame before stage 1. -/
def newFrame (r : FrameReq) (bs : Bytes) (prof : List Word) (till : Option Nat) : Frame :=
  { req := r, bytes := bs, prof := prof, till := till, stage := .waitGate, acct := 0, v := 0, seq := 0, check := false, toUnwrap := [],
    cands := [], lane := none, plain := [], status := 0, promoted := false, suspect := false, gap := false, totals := [], rtc := 0,
    count := 0, head := [] }

/-- The bytes of a presented frame: those that came with it, or those at its address. -/
def frameData (s : State) (r : FrameReq) (d : DmaData) : State × (Nat ⊕ Bytes) :=
  match r.data, r.src with
  | some bs, _ => (s, .inr bs)
  | none, .chan n _ => dmaRead s n r.frameAddr r.len d
  | none, _ => (s, .inl stNORES)

/-- FRAME_ADMIT: the next presented frame is admitted and runs stages 1 to 3, or is refused; `d` is what host memory answers. -/
def doFrameAdmit (d : DmaData) (s : State) : State :=
  match nextReq s with
  | none => s
  | some (r, rest) =>
    let go (s : State) : State := setIntake s { s.intake with reqs := rest, rr := srcPlace r }
    if !enabled s 0x18 || lmem 0x18 s.enOff then reqEnd (go s) r stNORES 0 0
    else if s.intake.closed then reqEnd (go s) r stBUSY 0 0
    else if !accepting s 0x18 || decide (256 ≤ s.intake.frames.length) then s
    else if r.len < 12 || 320 < r.len then reqEnd (go s) r stBADPROF 0 0
    else match frameData (go s) r d with
      | (s, .inl st) => reqEnd s r st 0 0
      | (s, .inr bs) =>
        match reserveRec s r bs.length with
        | (s, .inr (st, hint)) => reqEnd s r st hint 0
        | (s, .inl till) => stage12 s (newFrame r bs (profWords s r.profile) till)

/-- INTAKE: the first INTAKE descriptor of a channel not yet taken up is presented for admission (R63, R66). -/
def doIntake (n : Fin 64) (s : State) : State :=
  takeOp s n.val 0x21 fun s o =>
    let d := o.d
    let fl := descFld d 27 1
    let r : FrameReq :=
      { src := .chan n.val (descTag d), dom := chanDom s n.val, profile := descFld d 26 1, len := descFld d 24 2, recEn := fl % 2 == 1,
        noFwd := fl / 2 == 1, frameAddr := descFld d 16 8, recAddr := descFld d 32 8, recLen := descFld d 40 2, data := none }
    if !enabled s 0x18 || lmem 0x18 s.enOff then reqEnd s r stNORES 0 0
    else setIntake s { s.intake with reqs := s.intake.reqs ++ [r] }

/-! ### The gate: stages 4 and 5 (R85 to R90, R99, R103) -/

/-- The extended sequence (R85). -/
def extendSeq (init ext : Bool) (w hwm v : Nat) : Nat :=
  if !init || !ext then v
  else
    let m : Int := 2 ^ w
    let half : Int := 2 ^ (w - 1)
    let h : Int := hwm
    let s : Int := h - h % m + v
    let s := if s > h + half then s - m else if s + half ≤ h then s + m else s
    (if s < 0 then s + m else s).toNat

/-- What stage 4 finds (R86, R87): a final status, or whether the frame is CHECK_DUP. -/
def classify (s : State) (a : Nat) (f : Fields) (seq : Nat) : Nat ⊕ Bool :=
  let hwm := acctFld s a 0x10 8
  let init := acctFlag s a 6
  let spent := if f.ext then decide (2 ^ 64 - 2 ^ f.bits < hwm) else hwm == 2 ^ f.bits - 1
  if !init then .inr false
  else if spent then .inl stEXHAUST
  else if hwm < seq then .inr false
  else if 64 ≤ hwm - seq then .inl stREPLAY
  else
    let i := hwm - seq
    if acctFld s a 0x18 8 / 2 ^ i % 2 = 0 then .inr false
    else
      let fp := acctFld s a (0x80 + 2 * i) 2
      if fp = 0 || fp = fingerprint f then .inr true else .inl stREPLAY

/-- Whether a key entry may be a candidate: PRESENT, with a length of 16 (R90). -/
def entryUsable (s : State) (a e : Nat) : Bool :=
  let b := sramRead s (keyAddr a + 48 * e) 2
  leNat (b.take 1) % 2 == 1 && leNat (b.drop 1) == 16

/-- The candidate entries of a frame (R90): the current one, then the pending one. -/
def candidates (s : State) (a : Nat) (check : Bool) : List Nat :=
  let cur := b2n (acctFlag s a 2)
  let pend := !check && acctFlag s a 3 && !acctFlag s a 4
  [cur, 1 - cur].filter fun e => (e == cur || pend) && entryUsable s a e

/-- The pages that are dirty, or will be by the frames between the gate and their commit. -/
def dirtyLoad (s : State) : Nat :=
  s.intake.dirty.length +
    (((s.intake.frames.filter fun f => decide (f.stage ≠ .waitGate)).map fun f => f.acct / 2).eraseDups.filter fun k => !isDirty s k).length

/-- DIRTY_MAX as it acts. -/
def ckptLimit (s : State) : Nat := min 48 (max 1 (fld (rd s Reg.ACC_CKPT) 5 0))

/-- Whether a frame of an account is held in front of stage 4 (R103). -/
def ckptHolds (s : State) (a : Nat) : Bool := !isDirty s (a / 2) && decide (ckptLimit s ≤ dirtyLoad s)

/-- HOLD: a frame waits for the checkpoint writer. -/
def intakeHold (s : State) : Bool := s.intake.frames.any fun f => decide (f.stage = .waitGate) && ckptHolds s f.acct

/-- The general lane that takes a frame next (R580): one that works and permits the intake, holds no waiting frame, and has the fewest. -/
def chooseLane (s : State) : Option Nat :=
  let ok (n : Nat) : Bool := laneUp s (lanePage false n) && bit (rd s (laneReg false n 0x80)) 31 && (laneFrames s n).isEmpty
  match (List.range 4).find? fun n => ok n && !frameRuns s n with
  | some n => some n
  | none => (List.range 4).find? ok

/-- The k-th frame replaced. -/
def setFrame (s : State) (k : Nat) (f : Frame) : State := setIntake s { s.intake with frames := s.intake.frames.set k f }

/-- GATE_ENTER: the k-th frame enters the gate of its account, unless an earlier order is there or the writer holds it. -/
def doGateEnter (k : Nat) (s : State) : State :=
  match s.intake.frames[k]? with
  | none => s
  | some f =>
    let a := f.acct
    let ahead := (s.intake.frames.take k).any fun g => g.acct == a
    let cmd := match s.intake.cmd with | some (_, b) => b == a | none => false
    if f.stage ≠ .waitGate || ahead || cmd || acctHeld s a || !bankUp s 30 then s
    else if ckptHolds s a then raise s 0x18 0
    else if poisoned s (acctAddr a) 256 then endFrame (noteEcc s .intake false (acctAddr a) true) k f stLANE
    else if !acctFlag s a 1 then endFrame s k f stLOCKED
    else match locate f.prof f.bytes with
      | none => s
      | some x =>
        let seq := extendSeq (acctFlag s a 6) x.ext x.bits (acctFld s a 0x10 8) x.v
        let f := { f with seq := seq }
        match classify s a x seq with
        | .inl st => endFrame s k f st
        | .inr check =>
          let es := candidates s a check
          if es.isEmpty then endFrame s k f stKEY
          else setFrame s k { f with stage := .keys, check := check, toUnwrap := es, lane := chooseLane s }

/-! ### Stage 6: keys (R90, R184, R210, R580) -/

/-- Whether a frame may run on its lane now. -/
def frameMayRun (s : State) (f : Frame) : Bool :=
  match f.lane, f.stage with
  | some _, .loaded => true
  | some n, .keys => laneFree s false n && decide (laneNext s false n = .frame)
  | _, _ => false

/-- The account key unwrapped from an entry. -/
def unwrapEntry (s : State) (a e : Nat) : Option Bytes := keyUnwrap (akwk s) (sramRead s (keyAddr a + 48 * e + 8) 24)

/-- INTAKE_UNWRAP: the k-th frame takes a lane, and once the lane is its own, KUW unwraps its next candidate; `fault` where KUW's
datapaths differ (R205). -/
def doIntakeUnwrap (k : Nat) (fault : Bool) (s : State) : State :=
  match s.intake.frames[k]? with
  | none => s
  | some f =>
    let f := if f.stage = .keys && f.lane.isNone then { f with lane := chooseLane s } else f
    let s := setFrame s k f
    match f.toUnwrap with
    | [] => s
    | e :: rest =>
      if !frameMayRun s f || kuwWaits s then s
      else if fault then goOos (endFrame s k f stLANE) 0x0C
      else
        let ad := keyAddr f.acct + 48 * e
        if poisoned s ad 48 then endFrame (noteEcc s .intake false ad true) k { f with stage := .loaded } stLANE
        else
          let s := bumpMod s Reg.KUW_CNT
          match unwrapEntry s f.acct e with
          | some key =>
            let n := f.lane.getD 0
            let s := setLane s false n { getLane s false n with key := some { handle := 0, ktype := 1, attr := 0, acct := true, mat := key } }
            setFrame s k { f with stage := .loaded, toUnwrap := rest, cands := f.cands ++ [⟨e, key⟩] }
          | none =>
            let f := { f with stage := .loaded, toUnwrap := rest }
            if rest.isEmpty && f.cands.isEmpty then endFrame (icvFail s) k f stKEY else setFrame (icvFail s) k f

/-! ### Stages 7 and 8 (R89, R91, R92) -/

/-- An authentication failure: counted, with event 247 at its threshold (R91). -/
def authFail (s : State) (a : Nat) : State :=
  let n := min 65535 (acctFld s a 0x0E 2 + 1)
  let s := if n = fld (rd s Reg.ACC_AUTHTHR) 15 0 && n ≠ acctFld s a 0x0E 2 then raise s 0x18 3 else s
  acctPut s a 0x0E (leBytes 2 n)

/-- The value of total t in a plaintext: none where its bytes reach beyond the end. -/
def totalValue (w : Word) (plain : Bytes) : Option Nat :=
  let n := 2 + 2 * fld w 29 28
  let off := fld w 7 0
  if plain.length < off + n then none
  else some (if bit w 30 then beNat (part plain off n) else leNat (part plain off n))

/-- Whether total t passes the rules of R92; `e` is the time since the last totals. -/
def totalOk (s : State) (a t : Nat) (wa wb : Word) (e n : Nat) : Bool :=
  let old := acctFld s a (0x48 + 8 * t) 8
  let iv := fld wa 23 8
  if acctFld s a 0x0B 1 / 2 ^ (4 + t) % 2 = 0 then true
  else decide (old ≤ n) && (iv == 0 || decide (n - old ≤ min (2 ^ 64 - 1) (wb.toNat * (1 + e / iv))))

/-- The totals of a frame, or none where one breaks a rule. -/
def totalsOf (s : State) (a rtc : Nat) (prof : List Word) (plain : Bytes) : Option (List (Nat × Nat)) :=
  let e := (rtc + 2 ^ 32 - acctFld s a 0x6C 4) % 2 ^ 32
  let step (acc : Option (List (Nat × Nat))) (t : Nat) : Option (List (Nat × Nat)) :=
    let wa := prof.getD (4 + 2 * t) 0#32
    let wb := prof.getD (5 + 2 * t) 0#32
    match acc with
    | none => none
    | some l =>
      if !bit wa 31 then some l
      else match totalValue wa plain with
        | none => none
        | some n => if totalOk s a t wa wb e n then some (l ++ [(t, n)]) else none
  (List.range 4).foldl step (some [])

/-- Whether an accepted frame lies in the gap (R106). -/
def inGap (s : State) (a seq : Nat) : Bool := acctFlag s a 5 && decide (seq ≤ acctFld s a 0x70 8)

/-- A NEW frame that verifies: decrypted under the winner, its totals checked, and its status fixed (R91, R92, R97). -/
def acceptFrame (s : State) (k : Nat) (f : Frame) (x : Fields) (win : Bytes) (promoted suspect : Bool) : State :=
  let n := f.lane.getD 0
  let plain := modeDec x win
  let rtc := rtcSecs s % 2 ^ 32
  let gap := inGap s f.acct f.seq
  let tot := totalsOf s f.acct rtc f.prof plain
  let status := if tot.isNone then stTOTAL else if gap then stGAP else if promoted then stPROMO else stOK
  let s := aesReleased s n ((plain.length + 15) / 16)
  let g := { f with stage := .ledger, lane := none, toUnwrap := [], cands := [], plain := plain, status := status, promoted := promoted,
                    suspect := suspect, gap := gap, totals := tot.getD [], rtc := rtc }
  frameOff (setFrame s k g) f

/-- DECRYPT_VERIFY: stage 7 decides the k-th frame, and stage 8 checks its totals. -/
def doDecryptVerify (k : Nat) (s : State) : State :=
  match s.intake.frames[k]? with
  | none => s
  | some f =>
    if f.stage ≠ .loaded || !f.toUnwrap.isEmpty then s
    else match locate f.prof f.bytes with
      | none => s
      | some x =>
        let cur := b2n (acctFlag s f.acct 2)
        let keyOf (e : Nat) : Option Bytes := (f.cands.find? fun c => c.entry == e && modeOk x c.key).map (·.key)
        if f.check then endFrame s k f (if (keyOf cur).isSome then stDUP else stREPLAY)
        else match keyOf cur, keyOf (1 - cur) with
          | some w, p => acceptFrame s k f x w false p.isSome
          | none, some w => acceptFrame s k f x w true false
          | none, none => endFrame (authFail s f.acct) k f stAUTH

/-! ### Stage 9 and the commit (R88, R91, R93, R97 to R99) -/

/-- RFLAGS of an accepted frame. -/
def frameFlags (f : Frame) : Nat := b2n f.promoted + 2 * b2n f.gap + 8 * b2n f.suspect

/-- LEDGER_EXTEND: a hash lane computes the new head of the k-th frame's ledger; with no lane it waits. -/
def doLedgerExtend (k : Nat) (s : State) : State :=
  match s.intake.frames[k]?, unitLane s 31 with
  | some f, some n =>
    if f.stage ≠ .ledger then s
    else
      let a := f.acct
      let count := (acctCount s a + 1) % 2 ^ 64
      let fab := match f.req.src with | .fabric _ _ _ _ _ => 4 | _ => 0
      let h := recHeader f.status (frameFlags f + fab) f.req.profile a f.plain.length (acctAddrOf s a) f.seq count f.rtc
      let head := sha256 (sramRead s (acctAddr a + 0x28) 32 ++ h ++ f.plain)
      setFrame (hshCount s n ((64 + f.plain.length + 9 + 63) / 64)) k { f with stage := .commit, count := count, head := head }
  | _, _ => s

/-- The window and fingerprints after a NEW frame (R88). -/
def advanceWindow (s : State) (a seq fp : Nat) : State :=
  let hwm := acctFld s a 0x10 8
  let w := acctFld s a 0x18 8
  let fps := sramRead s (acctAddr a + 0x80) 128
  let put (h w : Nat) (f : Bytes) : State := acctPut (acctPut s a 0x10 (leBytes 8 h ++ leBytes 8 w)) a 0x80 f
  if !acctFlag s a 6 then acctSetFlags (put seq 1 (leBytes 2 fp ++ zeros 126)) a [(6, true)]
  else if hwm < seq then
    let d := seq - hwm
    if 64 ≤ d then put seq 1 (leBytes 2 fp ++ zeros 126)
    else put seq (w * 2 ^ d + 1) ((leBytes 2 fp ++ zeros (2 * (d - 1)) ++ fps).take 128)
  else
    let i := hwm - seq
    put hwm (if w / 2 ^ i % 2 = 1 then w else w + 2 ^ i) (fps.take (2 * i) ++ leBytes 2 fp ++ fps.drop (2 * i + 2))

/-- The key change of a promotion (R91). -/
def promote (s : State) (a : Nat) : State :=
  let cur := acctFlag s a 2
  let ad := keyAddr a + 48 * b2n cur
  let s := bankWrite s .intake ad [byte (leNat (sramRead s ad 1) / 2 * 2)]
  acctSetFlags s a [(2, !cur), (3, false)]

/-- The totals of a frame that passed committed (R93). -/
def commitTotals (s : State) (a rtc : Nat) (ts : List (Nat × Nat)) : State :=
  if ts.isEmpty then s
  else
    let s := ts.foldl (fun s tn => acctPut s a (0x48 + 8 * tn.1) (leBytes 8 tn.2)) s
    let feed := ts.foldl (fun n tn => putBit n (4 + tn.1) true) (acctFld s a 0x0B 1)
    acctPut (acctPut s a 0x0B [byte feed]) a 0x6C (leBytes 4 rtc)

/-- The slot feed of committed totals (R98). -/
def feedSlots (s : State) (a : Nat) (ts : List (Nat × Nat)) : State :=
  ts.foldl (fun s tn =>
    if acctFld s a 0x0B 1 / 2 ^ tn.1 % 2 = 0 then s
    else match slotWrite s (acctFld s a (0x68 + tn.1) 1) (.acct a) (some tn.2) with
      | (s, true) => s
      | (s, false) => raise s 0x18 5) s

/-- FRAME_COMMIT: the gate writes all of the k-th frame's account state, feeds the slots, and delivers the record. -/
def doFrameCommit (k : Nat) (s : State) : State :=
  match s.intake.frames[k]? with
  | none => s
  | some f =>
    match locate f.prof f.bytes with
    | none => s
    | some x =>
      if f.stage ≠ .commit then s
      else
        let a := f.acct
        let breach := f.status == stTOTAL
        let s := if f.promoted then promote s a else if f.suspect then acctSetFlags s a [(4, true)] else s
        let s := if acctFlag s a 5 && !f.gap then acctSetFlags s a [(5, false)] else s
        let s := advanceWindow s a f.seq (fingerprint x)
        let s := if breach then s else commitTotals s a f.rtc f.totals
        let s := markDirty (acctPut s a 0x20 (leBytes 8 f.count ++ f.head)) a
        let s := if f.suspect then raise s 0x18 2 else s
        let s := if breach then raise s 0x18 4 else s
        let s := if breach then s else feedSlots s a f.totals
        takeFrame (deliverFrame s f f.status (frameFlags f) x.addr 0 f.seq f.count f.rtc f.plain) k

/-- A level-2 response: frames in stages 6 to 9 end with ABORTED, without a change of account state (R504). -/
def intakeAbort : Nat → State → State
  | 0, s => s
  | n + 1, s =>
    match s.intake.frames.findIdx? fun f => decide (f.stage ≠ .waitGate) with
    | none => s
    | some k => match s.intake.frames[k]? with
      | none => s
      | some f => intakeAbort n (endFrame s k f stABORT)

/-! ### Mismatches in the lanes (R69, R228, R236) -/

/-- AES_CHECK_MISMATCH: the inverse check of a lane fails after `units` blocks; an intake frame that it runs ends with LANE_FAULT. -/
def doAesCheckMismatch (n : Fin 4) (units : Nat) (host : List (Nat × Bytes)) (s : State) : State :=
  match s.intake.frames.findIdx? fun f => decide (f.lane = some n.val) && decide (f.stage = .loaded) with
  | none => aesMismatch n.val units host s
  | some k =>
    match s.intake.frames[k]? with
    | none => s
    | some f =>
      let s := wr s (laneReg false n.val 0xB8) (word (0x83000000 + pageDomain s 0x18 * 65536 + min 65535 units))
      endFrame (aesMismatch n.val 0 host s) k { f with lane := none } stLANE

/-- HSH_CHECK_MISMATCH: the two datapaths of a hash lane differ, in the work named. -/
def doHshCheckMismatch (n : Fin 2) (w : HashWork) (units : Nat) (host : List (Nat × Bytes)) (s : State) : State :=
  let own := pageDomain s 0x18
  match w with
  | .job => hshJobMismatch n.val units host s
  | .ledger =>
    match s.intake.frames.findIdx? fun f => decide (f.stage = .ledger) with
    | none => s
    | some k => match s.intake.frames[k]? with
      | none => s
      | some f => endFrame (hshMismatch n.val 3 own units s) k f stLANE
  | .command =>
    match s.intake.cmd with
    | some (op, _) =>
      if op = 1 || op = 7 || op = 0xC then accDone (setIntake (hshMismatch n.val 3 own units s) { s.intake with cmd := none }) stLANE else s
    | none => s
  | .seal => if s.lanes.sealing.isSome then sealWithheld (hshMismatch n.val 5 (pageDomain s 0x0F) units s) else s
  | .lms => if s.lanes.lmsRun.isSome then lmsWithheld (hshMismatch n.val 6 (pageDomain s 0x0F) units s) else s

/-! ### The directory swap (R79) -/

/-- DIR_SWAP: a write of GO. -/
def doDirSwap (i : Initiator) (s : State) : State :=
  guardW s i Reg.DIR_SWAP fun s =>
    if bit (rd s (hdr 0x1A Off.STAT)) 8 then noteErr s i 0x1A 0x98 4 true else wrBit s (hdr 0x1A Off.STAT) 8 true

/-- DIR_SWAP_APPLY: at the frame boundary the staging table becomes active. -/
def doDirSwapApply (s : State) : State :=
  if bit (rd s (hdr 0x1A Off.STAT)) 8 then
    let s := setIntake s { s.intake with owner := s.intake.staging, staging := s.intake.owner }
    let s := wr (wrBit s (hdr 0x1A Off.STAT) 8 false) Reg.DIR_EPOCH (rd s Reg.DIR_SEPOCH)
    raise (setFab s { s.fab with epSeen := false }) 0x1A 0
  else s

/-! ### The commands -/

/-- FRAME_ADMIT (R65). -/
def execFrameAdmit (d : DmaData) (s : State) : Host.Outcome State Fault Refusal := finish s (doFrameAdmit d s)

/-- INTAKE (R63). -/
def execIntake (n : Fin 64) (s : State) : Host.Outcome State Fault Refusal := finish s (doIntake n s)

/-- GATE_ENTER (R99). -/
def execGateEnter (k : Nat) (s : State) : Host.Outcome State Fault Refusal := finish s (doGateEnter k s)

/-- INTAKE_UNWRAP (R185). -/
def execIntakeUnwrap (k : Nat) (fault : Bool) (s : State) : Host.Outcome State Fault Refusal := finish s (doIntakeUnwrap k fault s)

/-- DECRYPT_VERIFY (R91). -/
def execDecryptVerify (k : Nat) (s : State) : Host.Outcome State Fault Refusal := finish s (doDecryptVerify k s)

/-- LEDGER_EXTEND (R97). -/
def execLedgerExtend (k : Nat) (s : State) : Host.Outcome State Fault Refusal := finish s (doLedgerExtend k s)

/-- FRAME_COMMIT (R99). -/
def execFrameCommit (k : Nat) (s : State) : Host.Outcome State Fault Refusal := finish s (doFrameCommit k s)

/-- AES_CHECK_MISMATCH (R228). -/
def execAesCheckMismatch (n : Fin 4) (units : Nat) (host : List (Nat × Bytes)) (s : State) : Host.Outcome State Fault Refusal := finish s (doAesCheckMismatch n units host s)

/-- HSH_CHECK_MISMATCH (R236). -/
def execHshCheckMismatch (n : Fin 2) (w : HashWork) (units : Nat) (host : List (Nat × Bytes)) (s : State) : Host.Outcome State Fault Refusal := finish s (doHshCheckMismatch n w units host s)

/-- DIR_SWAP (R79). -/
def execDirSwap (i : Initiator) (s : State) : Host.Outcome State Fault Refusal := finish s (doDirSwap i s)

/-- DIR_SWAP_APPLY (R79). -/
def execDirSwapApply (s : State) : Host.Outcome State Fault Refusal := finish s (doDirSwapApply s)

end Sys2Proof.Machine
end

