-- ==== Sys2Proof/Machine/ChannelRows.lean ====
section
/-! DEFINITION. The command channels: doorbells, fetch and arrival of descriptors, completions, and the operations NOP, COPY,
TILL_READ and TILL_WRITE (R357 to R376, R581). -/

namespace Sys2Proof.Machine

open Sys2Proof

/-! ### Jobs of channels (R213, R240, R271, R454) -/

/-- A descriptor reaches its unit: a job joins its lane or ends with the status it is refused with; a fabric operation of a channel
that may not use the fabric ends with DOMAIN_FAULT; the other operations wait for their own commands. -/
def submitChanJob (s : State) (n : Nat) (d : Desc) : State :=
  let op := descOp d
  let blk := d.raw.drop 16
  let src : JobSrc := .chan n (descTag d)
  let dom := chanDom s n
  let mark (s : State) : State :=
    setChan s n { getChan s n with active := (getChan s n).active.map fun o => if o.d = d then { o with begun := true } else o }
  let cipher (h : Bool) (k : Nat) : State :=
    let s := mark s
    match laneAdmit s h k src dom blk with
    | .taken s => s
    | .refused st hint => let j : Job := { src := src, dom := dom, cls := 0, blk := blk }; laneEnd s h k j st 0 (blkTok j) hint
  if op = 0x31 then cipher false (bfld blk 1 1 / 64)
  else if op = 0x32 then cipher true (bfld blk 1 1 / 64 % 2)
  else if op = 0x33 then
    let k := bfld blk 4 1 / 64
    let s := mark s
    match bneAdmit s k src dom blk with
    | .taken s => s
    | .refused st hint => bneEnd s k { src := src, dom := dom, cls := 0, blk := blk } st 0 0 hint
  else if 0x40 ≤ op && op < 0x50 && !fabricMay s n then endActive s n (fun o => decide (o.d = d)) stDOMAIN []
  else s

/-! ### Passing descriptors to their units -/

/-- The body of a descriptor is one its operation allows (R581); the jobs of the lanes are checked by their units. -/
def bodyOk (d : Desc) : Bool :=
  let op := descOp d
  if op = 0x00 then descZero d 16 48
  else if op = 0x01 then decide (1 ≤ descFld d 32 4) && decide (descFld d 32 4 ≤ 1048576) && descZero d 36 28
  else if op = 0x11 then decide (descFld d 16 1 < 128) && descZero d 18 2 && descZero d 36 28
  else if op = 0x12 then decide (descFld d 16 1 < 128) && descZero d 17 3 && decide (1 ≤ descFld d 20 4) && descZero d 32 32
  else if op = 0x21 then
    decide (12 ≤ descFld d 24 2) && decide (descFld d 24 2 ≤ 320) && decide (descFld d 26 1 < 32) &&
      decide (descFld d 27 1 < 4) && descZero d 28 4 && descZero d 42 22
  else if op = 0x31 || op = 0x32 || op = 0x33 then true
  else if 0x40 ≤ op && op < 0x50 then fabricBodyOk d
  else false

/-- Whether the next descriptor may pass: an ordered one only after all earlier ones of the channel have completed, and
none while an ordered one has not (R366). -/
def mayPass (s : State) (n : Nat) (d : Desc) : Bool :=
  let c := getChan s n
  if descOrder d then c.active.isEmpty && (cplOf s n).isEmpty
  else c.active.all (fun o => !descOrder o.d) && (cplOf s n).all (fun q => !q.order)

/-- Bytes 4 to 15 of a completion that no unit wrote: an INTAKE resolved no account (R64). -/
def unresolved (d : Desc) : Bytes := if descOp d = 0x21 then leBytes 2 0xFFFF else []

/-- One descriptor passes to its unit; a bad header or body completes it with BAD_PROFILE (R359, R361, R581). -/
def passDesc (s : State) (n : Nat) (d : Desc) : State :=
  if !headerOk d || !bodyOk d then
    chanDone (if descOp d = 0x21 then countStatus s stBADPROF else s) n (descTag d) (descOrder d) stBADPROF (unresolved d)
  else
    let c := getChan s n
    let s := setChan s n { c with active := c.active ++ [⟨d, false, s.tick⟩] }
    submitChanJob s n d

/-- Descriptors pass in ring order as far as R366 lets them. -/
def passAll (n : Nat) : List Desc → State → State
  | [], s => s
  | d :: ds, s =>
    if mayPass s n d then
      passAll n ds (passDesc (setChan s n { getChan s n with fetched := ds }) n d)
    else s

/-- Pass what a channel has fetched. -/
def passFetched (s : State) (n : Nat) : State := passAll n (getChan s n).fetched s

/-! ### Completions -/

/-- A channel halts (R371): HALTED, cause ERR, and the record in CHN_HALTINFO. -/
def haltChan (s : State) (n status idx : Nat) (cpl : Bool) : State :=
  let s := setChan s n { getChan s n with halted := true, toRead := 0 }
  let s := wr s Reg.CHN_HALTINFO (word (0x80000000 + n * 0x1000000 + status * 0x10000 + b2n cpl * 0x8000 + idx))
  wrBit s (Reg.CHN_EVRAW + 4 * n) 1 true

/-- A written completion counts toward cause CQ (R368). -/
def countCpl (s : State) (n : Nat) : State :=
  let c := getChan s n
  let lim := max 1 (fld (rd s (Reg.CHN_COAL + 32 * n)) 7 0)
  if lim ≤ c.counted + 1 then wrBit (setChan s n { c with counted := 0 }) (Reg.CHN_EVRAW + 4 * n) 0 true
  else setChan s n { c with counted := c.counted + 1, countedAt := if c.counted = 0 then s.tick else c.countedAt }

/-- Write a completion into the next slot (R360, R364, R371). -/
def writeCpl (s : State) (c : Cpl) : State :=
  let n := c.ch
  let tail := cqTail s n
  let phase := bit (rd s (dbReg n 12)) 12
  let a := rd64 s (Reg.CHN_CQBASE0 + 32 * n) + 16 * tail
  let bs := [byte c.status, byte (b2n phase)] ++ leBytes 2 c.tag ++ c.body
  match dmaWrite s n a bs with
  | (s, 0) =>
    let wrap := tail + 1 = cqSize s n
    let s := wr s (dbReg n 12) (word ((if wrap then 0 else tail + 1) + 0x1000 * b2n (phase != decide wrap)))
    countCpl s n
  | (s, st) => haltChan s n st (sqHead s n) true

/-- COMPLETION_WRITE: the oldest completion that waits is written; on bank 0 the core port may reach its word in the same
cycle, with a write (`some true`) or a read (`some false`) (R343, R367). -/
def doCompletionWrite (coll : Option Bool) (s : State) : State :=
  match s.cplq with
  | [] => s
  | c :: rest =>
    let s := { s with cplq := rest }
    let a := rd64 s (Reg.CHN_CQBASE0 + 32 * c.ch) + 16 * cqTail s c.ch
    if (getChan s c.ch).halted || (getChan s c.ch).discard then chanSettle s c.ch
    else
      let s := match coll with
        | some ww => if !isHostAddr a && isSram (sramOf a) && bankOf (sramOf a) = 0 then noteColl s (sramOf a) ww false else s
        | none => s
      passFetched (chanSettle (writeCpl s c) c.ch) c.ch

/-- CQ_COAL_TIMEOUT: the oldest counted completion has waited TIME (R368). -/
def doCqCoalTimeout (n : Fin 64) (s : State) : State :=
  let c := getChan s n.val
  if fld (rd s (Reg.CHN_COAL + 32 * n.val)) 31 16 = 0 || c.counted = 0 then s
  else wrBit (setChan s n.val { c with counted := 0 }) (Reg.CHN_EVRAW + 4 * n.val) 0 true

/-! ### Enable, disable and doorbells -/

/-- CHN_ENABLE: a write of CHN_CFG with EN = 1 (R357): the ring state starts; while EN = 1 a change of another field is
discarded with KIND 4. -/
def doChnEnable (i : Initiator) (n : Fin 64) (cfg : Word) (s : State) : State :=
  let a := Reg.CHN_CFG + 32 * n.val
  guardW s i a fun s =>
    let new := (cfg &&& 0xF03FFF00#32) ||| 0x80000000#32
    if bit (rd s a) 31 then (if rd s a = new then s else noteErr s i 0x30 (a % 4096) 4 true)
    else
      let s := wr s a new
      let burst := fld (rd s (Reg.CHN_TBKT + 32 * n.val)) 15 0
      let s := wr (wr (wr (wr s (dbReg n.val 0) 0#32) (dbReg n.val 4) 0#32) (dbReg n.val 8) 0#32) (dbReg n.val 12) 0x1000#32
      setChan s n.val { Chan.idle with tokens := burst, active := (getChan s n.val).active }

/-- The fetched descriptors of a channel end with ABORTED (R372). -/
def abortFetched (s : State) (n : Nat) : State :=
  let ds := (getChan s n).fetched
  ds.foldl (fun s d => chanDone s n (descTag d) (descOrder d) stABORT (unresolved d)) (setChan s n { getChan s n with fetched := [] })

/-- CHN_DISABLE: a write of EN = 0 (R372). -/
def doChnDisable (i : Initiator) (n : Fin 64) (s : State) : State :=
  guardW s i (Reg.CHN_CFG + 32 * n.val) fun s =>
    if bit (rd s (Reg.CHN_CFG + 32 * n.val)) 31 then
      let s := abortFetched s n.val
      chanSettle (setChan s n.val { getChan s n.val with disabling := true }) n.val
    else s

/-- ABORT: the CHN_CMD command (R372, R385). -/
def doChnAbort (i : Initiator) (n : Fin 64) (s : State) : State :=
  guardW s i Reg.CHN_CMD fun s => wr (abortFetched s n.val) Reg.CHN_CMDSTAT 0#32

/-- DB_SQTAIL: the doorbell (R362, R363, R369). -/
def doDbSqtail (i : Initiator) (n : Fin 64) (v : Word) (s : State) : State :=
  guardW s i (dbReg n.val 0) fun s =>
    let t := fld v 11 0
    if !chanOn s n.val || sqSize s n.val ≤ t then noteErr s i (0x100 + n.val) 0 8 true
    else
      let s := wr s (dbReg n.val 0) (word t)
      if bit (rd s (Reg.CHN_CFG + 32 * n.val)) 28 then s
      else setChan s n.val { getChan s n.val with release := t }

/-- DB_CQHEAD (R363). -/
def doDbCqhead (i : Initiator) (n : Fin 64) (v : Word) (s : State) : State :=
  guardW s i (dbReg n.val 4) fun s =>
    let h := fld v 11 0
    let m := cqSize s n.val
    if !chanOn s n.val || m ≤ h || (cqTail s n.val + m - cqHead s n.val) % m < (h + m - cqHead s n.val) % m then
      noteErr s i (0x100 + n.val) 4 8 true
    else wr s (dbReg n.val 4) (word h)

/-- TOKEN_REFILL: the bucket gains one token (R370, R549). -/
def doTokenRefill (n : Fin 64) (s : State) : State :=
  let burst := fld (rd s (Reg.CHN_TBKT + 32 * n.val)) 15 0
  let c := getChan s n.val
  if !chanOn s n.val || burst = 0 then s else setChan s n.val { c with tokens := min burst (c.tokens + 1) }

/-! ### Fetch and arrival -/

/-- How many descriptors a channel may fetch by the ring and the outstanding limit, by the completion slots, and by the
token bucket (R364). -/
def fetchLimits (s : State) (n : Nat) : Nat × Nat × Nat :=
  let c := getChan s n
  let size := sqSize s n
  let ring := min ((c.release + size - sqHead s n) % size) (size - sqHead s n)
  let slots := cqSize s n - 1 - (cqTail s n + cqSize s n - cqHead s n) % cqSize s n - outstanding s n
  let toks := if fld (rd s (Reg.CHN_TBKT + 32 * n)) 15 0 = 0 then 8 else c.tokens
  (min (min ring (32 - outstanding s n)) 8, slots, toks)

/-- Whether a channel may issue requests on its port (R413, R415). -/
def portOpen (s : State) (n : Nat) : Bool :=
  fld (rd s (Reg.CHN_CFG + 32 * n)) 30 29 != 1 || (s.pcie.bme && !s.pcie.d3hot)

/-- DESC_FETCH: the channel issues a read of up to `k` descriptors (R364). -/
def doDescFetch (n : Fin 64) (k : Nat) (s : State) : State :=
  let c := getChan s n.val
  if !chanOn s n.val || c.halted || c.disabling || c.toRead != 0 || !portOpen s n.val || s.pmu.window then s
  else
    let (ring, slots, toks) := fetchLimits s n.val
    if ring != 0 && toks != 0 && slots == 0 then
      if c.cqwait then s else wrBit (setChan s n.val { c with cqwait := true }) (Reg.CHN_EVRAW + 4 * n.val) 3 true
    else
      let m := min k (min ring (min slots toks))
      let burst := fld (rd s (Reg.CHN_TBKT + 32 * n.val)) 15 0
      setChan s n.val { c with cqwait := false, toRead := m, tokens := if burst = 0 then c.tokens else c.tokens - m }

/-- DESC_ARRIVE: the data of a fetch arrives; the SQ head advances and the descriptors pass to their units in ring order
(R366), or the channel halts (R371). -/
def doDescArrive (n : Fin 64) (d : DmaData) (s : State) : State :=
  let c := getChan s n.val
  let m := c.toRead
  if m = 0 then s
  else
    let h := sqHead s n.val
    match dmaRead s n.val (rd64 s (Reg.CHN_SQBASE0 + 32 * n.val) + 64 * h) (64 * m) d with
    | (s, .inl st) =>
      let s := setChan s n.val { getChan s n.val with toRead := 0 }
      haltChan (writeCpl s ⟨n.val, 0xFFFF, false, st, zeros 12⟩) n.val st h false
    | (s, .inr bs) =>
      let size := sqSize s n.val
      let ds := (pieces 64 m bs).zipIdx.map fun (b, j) => (⟨n.val, (h + j) % size, b⟩ : Desc)
      let s := wr s (dbReg n.val 8) (word ((h + m) % size))
      let s := setChan s n.val { getChan s n.val with toRead := 0, fetched := (getChan s n.val).fetched ++ ds }
      passFetched s n.val

/-! ### Channel operations -/

/-- The first active operation of a channel with an operation code. -/
def firstOp (s : State) (n op : Nat) : Option ActOp := (getChan s n).active.find? fun o => descOp o.d == op

/-- End the first active operation with an operation code, and pass what waited for it. -/
def endOp (s : State) (n op status : Nat) (body : Bytes) : State :=
  passFetched (endActive s n (fun o => descOp o.d == op) status body) n

/-- CHAN_NOP. -/
def doChanNop (n : Fin 64) (s : State) : State := endOp s n.val 0x00 stOK []

/-- Whether two bus ranges of one space share a byte (R374). -/
def overlap (a b n : Nat) : Bool := isHostAddr a == isHostAddr b && decide (a < b + n) && decide (b < a + n)

/-- The bytes of a COPY in pieces that cross no 4 KiB boundary of either side (R356), in ascending order: each piece passes the
filter, is read and is written before the next. Answers the status and the bytes written. -/
def copyPieces (n src dst len : Nat) (data : Bytes) : Nat → Nat → State → State × Nat × Nat
  | 0, done, s => (s, stOK, done)
  | fuel + 1, done, s =>
    if len ≤ done then (s, stOK, done)
    else
      let k := min (len - done) (min (4096 - (src + done) % 4096) (4096 - (dst + done) % 4096))
      match dmaRead s n (src + done) k (.data ((data.drop done).take k)) with
      | (s, .inl st) => (s, st, done)
      | (s, .inr bs) =>
        match dmaWrite s n (dst + done) bs with
        | (s, 0) => copyPieces n src dst len data fuel (done + k) s
        | (s, st) => (s, st, done)

/-- The most pieces a COPY of some bytes has. -/
def copyFuel (len : Nat) : Nat := 2 * (len / 4096) + 4

/-- COPY (R374): `data` is what host memory holds at SRC. -/
def doChanCopy (n : Fin 64) (data : Bytes) (s : State) : State :=
  match firstOp s n.val 0x01 with
  | none => s
  | some o =>
    let src := descFld o.d 16 8
    let dst := descFld o.d 24 8
    let len := descFld o.d 32 4
    if overlap src dst len then endOp s n.val 0x01 stBADPROF []
    else if !busOk src len || !busOk dst len then endOp s n.val 0x01 stDOMAIN []
    else if isHostAddr src && !s.pcie.bme then s
    else
      let (s, st, done) := copyPieces n.val src dst len data (copyFuel len) 0 s
      endOp s n.val 0x01 st (leBytes 4 done)

/-- The packets that fit in a buffer, with their prefixes, and the packets left (R375). -/
def gather (t : Nat) : Nat → List Packet → Bytes × Nat × List Packet
  | _, [] => ([], 0, [])
  | room, p :: ps =>
    let sz := 8 + 8 * p.words.length
    if room < sz then ([], 0, p :: ps)
    else
      let (bs, k, rest) := gather t (room - sz) ps
      (leBytes 2 p.words.length ++ [byte t, 0#8] ++ leBytes 4 p.seq ++ p.words.flatMap (fun w => leBytes 8 w.toNat) ++ bs, k + 1, rest)

/-- The copying step of TILL_READ and its completion. -/
def tillReadRun (s : State) (n : Nat) (o : ActOp) : State :=
  let t := descFld o.d 16 1
  let x := getTill s t
  let (bs, k, rest) := gather t (descFld o.d 32 4) x.packets
  if k = 0 then endOp s n 0x11 (if x.packets.isEmpty then stTIMEOUT else stNORES) []
  else
    match dmaWrite s n (descFld o.d 24 8) bs with
    | (s, 0) =>
      let first := match x.packets with | p :: _ => p.seq | [] => 0
      let last := match (x.packets.take k).getLast? with | some p => p.words.getLast?.getD x.last | none => x.last
      let s := tillTaken s t { x with packets := rest, last := last }
      endOp s n 0x11 stOK (leBytes 4 bs.length ++ leBytes 2 k ++ [0#8, 0#8] ++ leBytes 4 first)
    | (s, st) => endOp s n 0x11 st []

/-- TILL_READ: the operation starts, and copies at once if enough packets are held or it does not wait (R375). -/
def doTillRead (n : Fin 64) (s : State) : State :=
  match firstOp s n.val 0x11 with
  | none => s
  | some o =>
    let t := descFld o.d 16 1
    let cfg := tillCfg s t
    if bit cfg 28 || fld cfg 21 16 != n.val then endOp s n.val 0x11 stNOTOWN []
    else match dmaCheck s n.val (descFld o.d 24 8) (descFld o.d 32 4) true with
      | (s, 0) =>
        if max 1 (descFld o.d 17 1) ≤ (getTill s t).packets.length || descFld o.d 20 4 = 0 then tillReadRun s n.val o
        else
          let c := getChan s n.val
          let first := c.active.find? fun p => descOp p.d == 0x11
          setChan s n.val { c with active := c.active.map fun p => if some p = first && !p.begun then { p with begun := true, at_ := s.tick } else p }
      | (s, st) => endOp s n.val 0x11 st []

/-- TILL_READ_TIMEOUT: WAIT_US has passed since the operation started (R375). -/
def doTillReadTimeout (n : Fin 64) (s : State) : State :=
  match firstOp s n.val 0x11 with
  | some o => if o.begun then tillReadRun s n.val o else s
  | none => s

/-- TILL_WRITE: a buffer becomes one packet (R376). -/
def doTillWrite (n : Fin 64) (d : DmaData) (s : State) : State :=
  match firstOp s n.val 0x12 with
  | none => s
  | some o =>
    let t := descFld o.d 16 1
    let len := descFld o.d 20 4
    let w := (len + 7) / 8
    if tillProd s t != 1 || fld (tillCfg s t) 27 22 != n.val then endOp s n.val 0x12 stNOTOWN []
    else if tillSize s t < w || !tillOpenFor s t then endOp s n.val 0x12 stNORES []
    else if tillRoom s t < w || (isHostAddr (descFld o.d 24 8) && !s.pcie.bme) then s
    else match dmaRead s n.val (descFld o.d 24 8) len d with
      | (s, .inl st) => endOp s n.val 0x12 st []
      | (s, .inr bs) =>
        let seq := (getTill s t).next
        endOp (tillCommit s t (toWords bs)) n.val 0x12 stOK (leBytes 4 len ++ zeros 4 ++ leBytes 4 seq)

/-- Where the address of an operation's source stands in its descriptor (R63, R374, R376, R214, R238). -/
def srcAt (d : Desc) : Nat := if descOp d = 0x01 || descOp d = 0x21 then 16 else 24

/-- End the k-th active operation of a channel with a transfer error (R356). `got` is what its earlier reads brought: a COPY has
written that much (R374). -/
def failActive (s : State) (n k status kind : Nat) (got : Bytes) : State :=
  match (getChan s n).active[k]? with
  | none => s
  | some o =>
    let src : FrameSrc := .chan n (descTag o.d)
    if descOp o.d = 0x21 && o.begun && !s.intake.reqs.any (fun r => decide (r.src = src)) then s
    else
    let a := descFld o.d (srcAt o.d) 8
    let len := descFld o.d 32 4
    let (s, st, done) := if descOp o.d = 0x01 then copyPieces n a (descFld o.d 24 8) (min got.length (len - 1)) got (copyFuel len) 0 s else (s, stOK, 0)
    let s := if st = stOK then noteXfer s n (a + got.length) status false kind else s
    let s := dropJob s n (descTag o.d)
    let s := setIntake s { s.intake with reqs := s.intake.reqs.filter fun r => decide (r.src ≠ src) }
    passFetched (endActive s n (fun p => decide (p = o)) (if st = stOK then status else st) (if descOp o.d = 0x01 then leBytes 4 done else unresolved o.d)) n

/-- DMA_TIMEOUT: a read of the k-th active operation is not answered in time, after reads that brought `got`. -/
def doDmaTimeout (n : Fin 64) (k : Nat) (got : Bytes) (s : State) : State := failActive s n.val k stTIMEOUT 1 got

/-- DMA_READ_ERROR: a read of the k-th active operation is answered with an error, after reads that brought `got`. -/
def doDmaReadError (n : Fin 64) (k : Nat) (e : ReadError) (got : Bytes) (s : State) : State :=
  failActive s n.val k stDOMAIN (match e with | .ur => 2 | .ca => 3 | .poisoned => 4) got

/-! ### Interface resets (R373) -/

/-- An HIR on one channel: EN clears at once, what has not passed is dropped, and what has passed runs to its end with its
completions and its writes to host memory discarded. -/
def hirChan (s : State) (n : Nat) : State :=
  let act := (getChan s n).active
  let s := wrBit { s with cplq := s.cplq.filter fun c => c.ch != n } (Reg.CHN_CFG + 32 * n) 31 false
  setChan s n { Chan.idle with active := act, discard := !act.isEmpty }

/-- An HIR of the interface that PORT names. -/
def hir (s : State) (port : Nat) : State :=
  (List.range 64).foldl (fun s n => if fld (rd s (Reg.CHN_CFG + 32 * n)) 30 29 = port then hirChan s n else s) s

/-- Whether an operation reads host memory: COPY, TILL_WRITE and INTAKE from a source there. -/
def readsHost (d : Desc) : Bool :=
  ((descOp d == 0x01 || descOp d == 0x21) && isHostAddr (descFld d 16 8)) || (descOp d == 0x12 && isHostAddr (descFld d 24 8))

/-- The reads of host memory that are outstanding at an HIR of PCIe end at once, and their operations end with TIMEOUT (R415). -/
def hirReads (s : State) : State :=
  (List.range 64).foldl (fun s n =>
    (getChan s n).active.foldl (fun s o =>
      if readsHost o.d then
        match (getChan s n).active.findIdx? (fun p => decide (p = o)) with
        | some k => failActive s n k stTIMEOUT 1 []
        | none => s
      else s) s) s

/-! ### The commands -/

/-- COMPLETION_WRITE (R367). -/
def execCompletionWrite (coll : Option Bool) (s : State) : Host.Outcome State Fault Refusal := finish s (doCompletionWrite coll s)

/-- CQ_COAL_TIMEOUT (R368). -/
def execCqCoalTimeout (n : Fin 64) (s : State) : Host.Outcome State Fault Refusal := finish s (doCqCoalTimeout n s)

/-- CHN_ENABLE (R357). -/
def execChnEnable (i : Initiator) (n : Fin 64) (cfg : Word) (s : State) : Host.Outcome State Fault Refusal := finish s (doChnEnable i n cfg s)

/-- CHN_DISABLE (R372). -/
def execChnDisable (i : Initiator) (n : Fin 64) (s : State) : Host.Outcome State Fault Refusal := finish s (doChnDisable i n s)

/-- ABORT (R372). -/
def execChnAbort (i : Initiator) (n : Fin 64) (s : State) : Host.Outcome State Fault Refusal := finish s (doChnAbort i n s)

/-- DB_SQTAIL (R362). -/
def execDbSqtail (i : Initiator) (n : Fin 64) (v : Word) (s : State) : Host.Outcome State Fault Refusal := finish s (doDbSqtail i n v s)

/-- DB_CQHEAD (R363). -/
def execDbCqhead (i : Initiator) (n : Fin 64) (v : Word) (s : State) : Host.Outcome State Fault Refusal := finish s (doDbCqhead i n v s)

/-- TOKEN_REFILL (R370). -/
def execTokenRefill (n : Fin 64) (s : State) : Host.Outcome State Fault Refusal := finish s (doTokenRefill n s)

/-- DESC_FETCH (R364). -/
def execDescFetch (n : Fin 64) (k : Nat) (s : State) : Host.Outcome State Fault Refusal := finish s (doDescFetch n k s)

/-- DESC_ARRIVE (R366). -/
def execDescArrive (n : Fin 64) (d : DmaData) (s : State) : Host.Outcome State Fault Refusal := finish s (doDescArrive n d s)

/-- CHAN_NOP (R361). -/
def execChanNop (n : Fin 64) (s : State) : Host.Outcome State Fault Refusal := finish s (doChanNop n s)

/-- COPY (R374). -/
def execChanCopy (n : Fin 64) (data : Bytes) (s : State) : Host.Outcome State Fault Refusal := finish s (doChanCopy n data s)

/-- TILL_READ (R375). -/
def execTillRead (n : Fin 64) (s : State) : Host.Outcome State Fault Refusal := finish s (doTillRead n s)

/-- TILL_READ_TIMEOUT (R375). -/
def execTillReadTimeout (n : Fin 64) (s : State) : Host.Outcome State Fault Refusal := finish s (doTillReadTimeout n s)

/-- TILL_WRITE (R376). -/
def execTillWrite (n : Fin 64) (d : DmaData) (s : State) : Host.Outcome State Fault Refusal := finish s (doTillWrite n d s)

/-- DMA_TIMEOUT (R356). -/
def execDmaTimeout (n : Fin 64) (k : Nat) (got : Bytes) (s : State) : Host.Outcome State Fault Refusal := finish s (doDmaTimeout n k got s)

/-- DMA_READ_ERROR (R356). -/
def execDmaReadError (n : Fin 64) (k : Nat) (e : ReadError) (got : Bytes) (s : State) : Host.Outcome State Fault Refusal := finish s (doDmaReadError n k e got s)

end Sys2Proof.Machine
end

