-- ==== Sys2Proof/Machine/Resets.lean ====
section
/-! DEFINITION. What the resets of R510 clear and keep: the assay partition, everything else, the banks, and the VBAT domain
(R511, R512, R516, R538). -/

namespace Sys2Proof.Machine

open Sys2Proof

/-- Whether a page belongs to the assay partition. -/
def pageD1 (page : Nat) : Bool := match pageRow? page with | some p => decide (p.owner = .d1) | none => false

/-- Registers return to their reset values, but for those to be kept. -/
def resetRegs (s : State) (keep : Nat → Bool) : State :=
  { s with regs := s.regs.filter fun kv => keep kv.1, shadow := s.shadow.filter fun kv => keep kv.1 }

/-- The registers of the VBAT domain (R130, R147, R505). -/
def vbatReg (a : Nat) : Bool :=
  (decide (a / 4096 = 0x26) && decide (0x80 ≤ a % 4096)) ||
  (decide (a / 4096 = 0x51) && decide (0x80 ≤ a % 4096) && decide (a ≠ Reg.SHD_SHIELD)) ||
  decide (a = Reg.AXS_RTC) || decide (a = Reg.AXS_RTC + 4)

/-- The registers that show the supplies and the last window and wake, which no reset but POR changes: the rails, the hold-up
reserve, PMU_WINSTAT and PMU_WAKESRC. -/
def supplyReg (por : Bool) (a : Nat) : Bool :=
  lmem a [Reg.PMU_RAILS, Reg.PMU_WINSTAT, Reg.PMU_WAKESRC] || (!por && lmem a [Reg.PMU_HUSTAT, Reg.PMU_HUCAP, Reg.PMU_HUTHR])

/-- TMP_RAWSTAT, bit 31 of TMP_EVRAW and VLOAD_OK show what lasts through a reset: the conditions of the enclosure, an evidence counter
at 119 or more (R504, R508), and VLOAD. -/
def showLasting (s : State) : State :=
  let w := rd s Reg.TMP_RAWSTAT
  let s := wr s Reg.TMP_RAWSTAT (setFld w 28 21 (fld (rd s Reg.SHD_RAW) 7 0))
  let s := if s.tmp.evid.any fun kv => decide (119 ≤ kv.2) then wrBit s Reg.TMP_EVRAW 31 true else s
  wrBit s Reg.LSW_STAT 24 (bit (rd s Reg.PMU_RAILS) 3)

/-! ### Cores -/

/-- A core held in reset, with its tickets cleared (R301, R328). -/
def heldCore (c : CoreId) : Core := match c with | .mc => { Core.zero with psw := 0x00010000#32 } | _ => Core.zero

/-! ### The NV store and the intake -/

/-- What the NV controller loses: with `full`, all work, and an erase cut off leaves its sector half erased (R470); else only what
is not an erase or the work of the assay port. -/
def nvReset (s : State) (full : Bool) : State :=
  if full then
    setNv s { s.nv with tasks := [], erases := [], done := [], bufs := [], readWait := none, assayBusy := false, owed := false,
                        cut := s.nv.erases.foldl (fun c e => linsert e.sector c) s.nv.cut }
  else setNv s { s.nv with tasks := s.nv.tasks.filter (fun t => decide (t.src = .assay)), done := [], bufs := [], readWait := none }

/-- The intake at its reset values. -/
def Intake.none_ : Intake :=
  { reqs := [], frames := [], owner := [], staging := [], heads := [], cmd := none, dirty := [], first := [], ckpt := none,
    closed := false, rr := 67 }

/-- What the intake loses: while the strongroom banks keep the accounts, the local bucket table and the dirty pages are kept, a page
that was being checkpointed among them (R104, R512). -/
def intakeReset (s : State) (full : Bool) : State :=
  if full then setIntake s Intake.none_
  else
    let d := match s.intake.ckpt with | some c => dirtyInsert c.page c.since s.intake.dirty | none => s.intake.dirty
    setIntake s { Intake.none_ with heads := s.intake.heads, dirty := d }

/-! ### The scopes -/

/-- The lanes at their reset values. -/
def LanesSt.none_ : LanesSt :=
  { kuw := [], aes := [], hsh := [], bne := [], aesTok := 1, hshTok := 1, seq := [], bncCrc := none, lmsQ := [], lmsRun := none,
    lmsKeys := [], sealing := none }

/-- The fabric at its reset values (R424). -/
def FabSt.none_ : FabSt :=
  { ports := [], txns := [], dedup := [], ops := [], leases := [], clears := [], txid := none, bctr := 0, bseen := [], epSeen := false }

/-- The contact port through a reset: with `full` it chooses its mode again where CRST_N is high; else it keeps its mode, class,
address and lock (R388, R512). -/
def cptReset (s : State) (full : Bool) : State :=
  if full then
    { s with cpt := { s.cpt with choosing := s.cpt.crst && s.cpt.power, armed := false, swAt := none, failAt := 0, retry := 0, job := none } }
  else { s with cpt := { s.cpt with failAt := s.tick, job := none } }

/-- PCIe through a reset: with `full` the link trains again (R414, R512). -/
def pcieReset (s : State) (full : Bool) : State :=
  if full then
    { s with pcie := { perst := s.pcie.perst, linkUp := false, d3hot := false, l1 := false, width := 0, speed := 0, bme := false,
                       msixEn := false, fmask := false, clkPm := false, msixTab := [] }
             router := { s.router with pba := 0#64 } }
  else s

/-- The registers of blocks outside the assay partition that a reset without the banks keeps; PLL_LOCK of SYS shows the PLL. -/
def softReg (a : Nat) : Bool :=
  lmem a [Reg.CPT_STAT, Reg.CPT_PSEQ, Reg.MEM_RETAIN, hdr 0 Off.STAT] || (decide (Reg.MEM_REPAIR ≤ a) && decide (a < Reg.MEM_REPAIR + 128))

/-- A committed transaction of the contact port takes effect before its command is lost (R403). -/
def lockEnded (s : State) : State :=
  match s.cpt.job, takeDone s (.txn 2 (s.cpt.refs - 1)) with
  | some j, some (0, s) =>
    wr { s with cpt := { s.cpt with lockRec := j.next } } Reg.CPT_PSEQ
      (word (j.next.pseq * 0x10000 + j.next.fails * 0x100 + j.next.pstat))
  | _, _ => s

/-- The AC cores, the D0 and application pages, the lanes, the vault, the fabric, the channels and the intake reset (R510); `full`
where the banks are cleared with them. -/
def resetMain (s : State) (full por : Bool) : State :=
  let s := lockEnded (vaultEnded (setVlt s { s.vlt with queue := [] }))
  let s := resetRegs s fun a => pageD1 (a / 4096) || vbatReg a || supplyReg por a || (!full && softReg a)
  let s := lmsClear s
  let s := vaultClear s
  let s := setVlt s { s.vlt with rngStart := true }
  let s := nvReset (intakeReset s full) full
  let s := pcieReset (cptReset s full) full
  showLasting { s with
    ac0 := { Core.zero with run := .running }, ac1 := Core.zero
    mpu := { rgn := [], stk := [], gate := [] }
    mem := { s.mem with rom := true }
    enOff := s.enOff.filter pageD1
    chans := [], cplq := [], tills := [], held := [], seals := [], tickq := []
    lanes := LanesSt.none_, fab := FabSt.none_
    router := { s.router with svc0 := [], svc1 := [], notes := [] }
    tmp := { s.tmp with start := [], l2src := [], since := 0, zero := .idle, burns := if full then [] else s.tmp.burns }
    bt := { next := 0, sparesDue := false } }

/-- The registers of the assay partition that WDR-M keeps (R511); of LSW_STAT the outputs alone. -/
def wdrmReg (a : Nat) : Bool :=
  lmem a [Reg.AXS_RTCSLEW, Reg.AXS_MAINS, Reg.AXS_MAINS + 4, Reg.MCC_LSCNT, Reg.LSW_STAT]

/-- A tally as WDR-M leaves it: the share of an update that was under way is its own again. -/
def tallyBack (s : State) : State :=
  match s.tal.alu with
  | some u => setTally s u.n { getTally s u.n with share := (getTally s u.n).share + u.share }
  | none => s

/-- The assay partition reset (R510): MC held, its private RAMs and tables cleared, the D1 pages at their reset values; under WDR-M
what R511 names is kept. -/
def resetAssay (s : State) (wdrm : Bool) : State :=
  let valid := bit (rd s axsStat) 8
  let s := if wdrm then tallyBack s else s
  let s := resetRegs s fun a => !pageD1 (a / 4096) || vbatReg a || (wdrm && wdrmReg a)
  let s := wrBit s axsStat 8 valid
  let s := if wdrm then wr s Reg.LSW_STAT (rd s Reg.LSW_STAT &&& 0x0100000F#32) else s
  { s with
    mc := heldCore .mc
    mem := { s.mem with iram := [], dram := [] }
    mcc := { evt := [], kickAt := s.tick }
    enOff := s.enOff.filter fun p => !pageD1 p
    tal := { tallies := if wdrm then s.tal.tallies else [], alu := none, last := 255, carry := [],
             mainsTaken := if wdrm then s.tal.mainsTaken else 0, coef := [], crcBusy := false }
    sns := { slots := [], running := false, step := 0, staged := [], cs := [] }
    axs := { s.axs with netPhase := 0, netSub := 0, lastEdge := none, latch := [], rtcSub := if wdrm then s.axs.rtcSub else 0 }
    cal := { post := [], burst := [], round := 0, closing := false, caps := [], store := [], next := 0 }
    lsw := if wdrm then s.lsw else { openedAt := [], closedAt := [] }
    nv := { s.nv with tasks := s.nv.tasks.filter (fun t => !decide (t.src = .assay)), assayBusy := false }
    router := { s.router with svcM := [] } }

/-- The banks cleared (R340): their contents and every error mark. -/
def clearBanks (s : State) : State :=
  wr { s with mem := { s.mem with sram := [], poison := [] } } Reg.MEM_CLEARING 0xFFFFFFFF#32

/-! ### The resets -/

/-- The boot path that a reset takes (R510, R514). -/
def startBoot (s : State) (code : Nat) (steps : List Nat) : State :=
  { s with boot := { s.boot with steps := steps, code := code, rom := false, mail := [], flags := 0, warm := false, kickAt := s.tick } }

/-- A reset that clears the banks (R24, R510): both partitions, the banks, the device tick and the load switches; the device starts
with a code. -/
def fullReset (s : State) (code : Nat) (ret : Bool) : State :=
  let s := resetAssay (resetMain s true (decide (code = 1))) false
  let s := showLasting (clearBanks { s with tick := 0 })
  let s := setPmu s { s.pmu with mode := .run, window := false, winOk := false, ckpts := 0, whole := false, ckptDone := false,
                                 back := false, entering := false, waking := false, wakeAt := none, slept := 0, due := [] }
  let s := startBoot s code [1, 2, 3, 4, 5, 6, 7, 8, 9]
  let s := { s with mcc := { s.mcc with kickAt := 0 }, boot := { s.boot with rails := 0, loading := false, lockstep := false } }
  wr s Reg.SYS_RSTCAUSE (word (b2n ret * 0x10000 + code))

/-- SWR and WDR-S (R510, R512): the store buffers drain, and the assay partition and the banks are kept. -/
def softReset (s : State) (code : Nat) : State :=
  let s := drain (drain s .ac0) .ac1
  let s := resetMain s false false
  let s := setPmu s { s.pmu with entering := false, due := s.pmu.due.filter fun c => lmem c [3, 6] }
  let s := startBoot s code [3, 4, 5, 7, 9]
  wr s Reg.SYS_RSTCAUSE (word code)

/-- WDR-M (R511): MC's store buffer drains, and the MCC loader runs. -/
def mcReset (s : State) : State :=
  let s := resetAssay (drain s .mc) true
  let s := setPmu s { s.pmu with due := s.pmu.due.filter fun c => c != 6 }
  wrFld { s with boot := { s.boot with loading := true } } Reg.SYS_RSTCAUSE 15 8 6

/-- The resets that wait take effect as far as they can: the widest first, SWR and WDR-S once no daybook transaction is open; in the
service window TMR acts as level 2, and SWR and WDR-S are dropped (R512, R513). -/
def dueResets (s : State) : State :=
  let d := s.pmu.due
  if lmem 3 d && !s.pmu.window then fullReset s 3 false
  else if (lmem 4 d || lmem 5 d) && s.pmu.window then setPmu s { s.pmu with due := d.filter fun c => !lmem c [4, 5] }
  else if (lmem 4 d || lmem 5 d) && (openTxn s).isNone then
    let s := softReset s (if lmem 5 d then 5 else 4)
    if lmem 6 s.pmu.due then mcReset s else s
  else if lmem 6 d then mcReset s
  else s

/-- A reset is asked for. -/
def askReset (s : State) (code : Nat) : State := setPmu s { s.pmu with due := linsert code s.pmu.due }

end Sys2Proof.Machine
end

