-- ==== Sys2Proof/Machine/Images.lean ====
section
/-! DEFINITION. Images: their selection and verification (R19, R515), and the loader of MC (R20, R300, R304, R511). -/

namespace Sys2Proof.Machine

open Sys2Proof

/-- The image of a copy of a partition, where its trailer is valid. -/
def imageOf (s : State) (p : Nat) (b : Bool) : Option Bytes :=
  (trailer s p b).map fun t => flashBytes s ((copyPages (p + 1) b).1 * 256) t.2

/-- The copies with a valid trailer, that with the later SEQ first (R515). -/
def imgOrder (s : State) (p : Nat) : List Bool :=
  match trailer s p false, trailer s p true with
  | some (a, _), some (b, _) => if seqLater b a then [true, false] else [false, true]
  | some _, none => [false]
  | none, some _ => [true]
  | none, none => []

/-- The authority that signs the images of a partition (R19): the owner, or the metrology authority. -/
def imgAuth (p : Nat) : Nat := if p = 0 then 1 else 2

/-- Whether a copy holds an uncorrectable page within its image. -/
def imgTorn (s : State) (p : Nat) (b : Bool) : Bool :=
  match trailer s p b with
  | some (_, n) => nvSectorBad s ((copyPages (p + 1) b).1 * 256) n
  | none => false

/-- Whether a copy's signature verifies (R19, R515). -/
def imgGood (s : State) (p : Nat) (b : Bool) : Bool :=
  match anchorOf s (imgAuth p), imageOf s p b with
  | some (ec, pq), some m => !imgTorn s p b && Config.imageOk p (ec ++ pq) m
  | _, _ => false

/-- The copy of a partition that is selected, and whether it was the second one tried (R515). -/
def selectImage (s : State) (p : Nat) : Option (Bool × Bool) :=
  match imgOrder s p with
  | [] => none
  | [b] => if imgGood s p b then some (b, false) else none
  | b :: b' :: _ => if imgGood s p b then some (b, false) else if imgGood s p b' then some (b', true) else none

/-- SYS_IMGSEL records a selection. -/
def noteImage (s : State) (p : Nat) (sel : Bool × Bool) : State :=
  wrBit (wrBit s Reg.SYS_IMGSEL p sel.1) Reg.SYS_IMGSEL (8 + p) sel.2

/-! ### The loader of MC -/

/-- The loader's findings (R304): FAIL, or the assay image and the state with both copies recorded. -/
def assayFind (s : State) : Nat ⊕ (Bool × Bool) × (Bool × Bool) :=
  let torn p := (imgOrder s p).any fun b => imgTorn s p b
  match selectImage s 1, selectImage s 2 with
  | some a, some t => .inr (a, t)
  | some _, none => .inl (if torn 2 then 5 else 4)
  | none, _ =>
    if (imgOrder s 1).isEmpty then .inl 1
    else if (anchorOf s 2).isNone then .inl 3
    else .inl (if torn 1 then 5 else 2)

/-- The private RAMs of MC for an image, of `n` bytes from address `a` on. -/
def assayBytes (img : Bytes) (a n : Nat) : Sparse Byte :=
  (List.range n).filterMap fun k => if Config.assayRam img (a + k) = 0#8 then none else some (a + k, Config.assayRam img (a + k))

/-- The loader verifies the assay image and its tables, and on success loads MC and releases it (R300, R511); else MC stays in
reset (R20). -/
def loadAssay (s : State) : State :=
  match assayFind s with
  | .inl fail => wr s Reg.MCC_IMGSTAT (word (b2n (lmem fail [4]) * 0x40000000 + fail * 0x1000000))
  | .inr (a, t) =>
    let img := (imageOf s 1 a.1).getD []
    let s := noteImage (noteImage s 1 a) 2 t
    let s := wr s Reg.MCC_IMGSTAT (word (0xE0000000 + (Config.imageField 2 img).toNat % 65536))
    let s := wrWords s Reg.MCC_IMGID 8 (leNat (sha256 img))
    { s with mem := { s.mem with iram := assayBytes img 0 0x20000, dram := assayBytes img 0x20000 0x20000 }
             mc := { heldCore .mc with run := .running, pc := 0x100#32 } }

end Sys2Proof.Machine
end

