-- ==== Sys2Proof/Machine/CoreRows.lean ====
section
/-! DEFINITION. The commands on the control pages of the cores (R301, R302), on the MCC page (R304), lockstep and WDR-M (R298,
R511), and the claims of the event router (R55). -/

namespace Sys2Proof.Machine

open Sys2Proof

/-! ### AC1 and the gate stacks -/

/-- AC1 released at CORE_ENTRY, or held once its store buffer has drained (R301). -/
def ac1Enable (s : State) (en : Bool) : State :=
  let was := bit (rd s (hdr 0x61 8)) 0
  if en = was then s
  else
    let s := wrBit s (hdr 0x61 8) 0 en
    if en then { s with ac1 := { Core.zero with run := .running, pc := rd s (hdr 0x61 0x80) } }
    else { drain s .ac1 with ac1 := Core.zero }

/-- AC1_CTRL_EN (R301). -/
def doAc1CtrlEn (i : Initiator) (en : Bool) (s : State) : State := guardW s i (hdr 0x61 8) fun s => ac1Enable s en

/-- The core of a control page. -/
def pageCore (c : Fin 2) : CoreId := if c = 0 then .ac0 else .ac1

/-- Whether a gate stack may be written: by its own core in D0 with EXC = 1, or while the core is halted or held (R302). -/
def gstMay (s : State) (i : Initiator) (c : Fin 2) : Bool :=
  let k := getCore s (pageCore c)
  decide (k.run = .halted) || decide (k.run = .held) || (decide (coreOf i = some (pageCore c)) && domOf k == 0 && bit k.psw 1)

/-- A write that changes a gate stack: discarded with KIND 4 where it may not. -/
def gstWrite (s : State) (i : Initiator) (c : Fin 2) (off : Nat) (k : State → Core → State) : State :=
  if gstMay s i c then k s (getCore s (pageCore c)) else noteErr s i (0x60 + c.val) off 4 true

/-- The place of the gate stack word that CORE_GIDX selects. -/
def gstIndex (s : State) (c : Fin 2) : Nat :=
  let x := rd s (hdr (0x60 + c.val) 0x9C)
  4 * fld x 2 0 + fld x 9 8

/-- CORE_GDATA written. -/
def gdataWrite (s : State) (i : Initiator) (c : Fin 2) (v : Word) : State :=
  gstWrite s i c 0xA0 fun s k => setCore s (pageCore c) { k with gst := mset 0#32 k.gst (gstIndex s c) v }

/-- CORE_GDATA_WRITE (R302). -/
def doCoreGdataWrite (i : Initiator) (c : Fin 2) (v : Word) (s : State) : State :=
  guardW s i (hdr (0x60 + c.val) 0xA0) fun s => gdataWrite s i c v

/-- CORE_GSET written: a value above 8 is discarded with KIND 3. -/
def gsetWrite (s : State) (i : Initiator) (c : Fin 2) (v : Word) : State :=
  gstWrite s i c 0xA4 fun s k =>
    if 8 < fld v 3 0 then noteErr s i (0x60 + c.val) 0xA4 3 true
    else setCore s (pageCore c) { k with gdepth := fld v 3 0 }

/-- CORE_GSET (R302). -/
def doCoreGset (i : Initiator) (c : Fin 2) (v : Word) (s : State) : State :=
  guardW s i (hdr (0x60 + c.val) 0xA4) fun s => gsetWrite s i c v

/-- The low word of a core's cycle counter. -/
def cycReg : CoreId → Nat
  | .ac0 => hdr 0x60 0xB0
  | .ac1 => hdr 0x61 0xB0
  | .mc => Reg.MCC_CYC

/-- The cycles of a core are a free value, whose high word a read of the low word captures. -/
def cycRead (s : State) (c : CoreId) : State × Word :=
  let (k, s) := fresh s
  let v := (Config.free 64 k).toNat
  (wr s (cycReg c + 4) (word (v / 2 ^ 32)), word v)

/-- CORE_CYC_READ (R302, R304). -/
def doCoreCycRead (i : Initiator) (c : CoreId) (s : State) : State :=
  guardR s i (cycReg c) fun s => let (s, v) := cycRead s c; answer s v

/-! ### Claims -/

/-- The events in service on a core. -/
def svcOf (s : State) : CoreId → List Nat
  | .ac0 => s.router.svc0
  | .ac1 => s.router.svc1
  | .mc => s.router.svcM

/-- The state with a core's events in service replaced. -/
def setSvc (s : State) (c : CoreId) (l : List Nat) : State :=
  match c with
  | .ac0 => { s with router := { s.router with svc0 := l } }
  | .ac1 => { s with router := { s.router with svc1 := l } }
  | .mc => { s with router := { s.router with svcM := l } }

/-- A claim (R55): the event of the highest level, the lowest number among equals, is in service and its word is answered. -/
def claim (s : State) (c : CoreId) : State × Word :=
  match bestClaim (claimableOf s c) with
  | none => (s, 0#32)
  | some (ev, l) => (setSvc s c (linsert ev (svcOf s c)), word (0x80000000 + l * 0x10000 + ev))

/-- The end of a service (R55): an event not in service is discarded with KIND 3. -/
def claimDone (s : State) (i : Initiator) (c : CoreId) (a : Nat) (v : Word) : State :=
  let ev := fld v 9 0
  if lmem ev (svcOf s c) then setSvc s c (lerase ev (svcOf s c)) else noteErr s i (a / 4096) (a % 4096) 3 true

/-- EVR_CLAIM (R55). -/
def doEvrClaim (i : Initiator) (n : Fin 2) (s : State) : State :=
  guardR s i (Reg.EVR_CLAIM0 + 4 * n.val) fun s => let (s, v) := claim s (pageCore n); answer s v

/-- EVR_DONE (R55). -/
def doEvrDone (i : Initiator) (n : Fin 2) (v : Word) (s : State) : State :=
  guardW s i (Reg.EVR_DONE0 + 4 * n.val) fun s => claimDone s i (pageCore n) (Reg.EVR_DONE0 + 4 * n.val) v

/-- MCC_CLAIM (R304). -/
def doMccClaim (i : Initiator) (s : State) : State :=
  guardR s i Reg.MCC_CLAIM fun s => let (s, v) := claim s .mc; answer s v

/-- MCC_DONE (R304). -/
def doMccDone (i : Initiator) (v : Word) (s : State) : State :=
  guardW s i Reg.MCC_DONE fun s => claimDone s i .mc Reg.MCC_DONE v

/-- MCC_SWDB_SET (R304). -/
def doMccSwdbSet (i : Initiator) (v : Word) (s : State) : State :=
  guardW s i Reg.MCC_SWDB_SET fun s => upd s Reg.MCC_SWDB fun w => w ||| (v &&& 0xFFFF#32)

/-! ### The metrology watchdog, lockstep and WDR-M -/

/-- The metrology watchdog is enabled. -/
def mccWdOn (s : State) : Bool := bit (rd s Reg.MCC_WDCFG) 31

/-- MCC_WDKICK written: the watchdog restarts, or any other value counts as its expiry (R304). -/
def mccKick (s : State) (v : Word) : State :=
  if v = 0x4B1C#32 then { s with mcc := { s.mcc with kickAt := s.tick } }
  else if mccWdOn s then askReset s 6
  else s

/-- MCC_WDKICK (R304). -/
def doMccWdkick (i : Initiator) (v : Word) (s : State) : State := guardW s i Reg.MCC_WDKICK fun s => mccKick s v

/-- METROLOGY_WATCHDOG_WARN: event 3 is asserted (R304). -/
def doMetrologyWatchdogWarn (s : State) : State :=
  if mccWdOn s then raise s 0x29 1 else s

/-- LOCKSTEP_MISMATCH: MC stops before its outputs reach anything, and WDR-M follows (R298). -/
def doLockstepMismatch (s : State) : State :=
  if s.mc.run = .held then s
  else
    let s := bumpSat { s with mc := { s.mc with run := .held }, boot := { s.boot with lockstep := true } } Reg.MCC_LSCNT 15 0
    askReset s 6

/-- WDR_M: the metrology watchdog expires, or WDR-M waits (R304, R511). -/
def doWdrM (s : State) : State := if mccWdOn s || lmem 6 s.pmu.due then mcReset s else s

/-- MCC_LOAD_DONE: the loader ends, and a lockstep mismatch before it shows as cause LOCKSTEP (R298, R511). -/
def doMccLoadDone (s : State) : State :=
  if !s.boot.loading then s
  else
    let ls := s.boot.lockstep
    let s := loadAssay { s with boot := { s.boot with loading := false, lockstep := false } }
    if ls then raise s 0x29 0 else s

/-! ### The commands -/

/-- AC1_CTRL_EN (R301). -/
def execAc1CtrlEn (i : Initiator) (en : Bool) (s : State) : Host.Outcome State Fault Refusal := finish s (doAc1CtrlEn i en s)

/-- CORE_GDATA_WRITE (R302). -/
def execCoreGdataWrite (i : Initiator) (c : Fin 2) (v : Word) (s : State) : Host.Outcome State Fault Refusal := finish s (doCoreGdataWrite i c v s)

/-- CORE_GSET (R302). -/
def execCoreGset (i : Initiator) (c : Fin 2) (v : Word) (s : State) : Host.Outcome State Fault Refusal := finish s (doCoreGset i c v s)

/-- CORE_CYC_READ (R302). -/
def execCoreCycRead (i : Initiator) (c : CoreId) (s : State) : Host.Outcome State Fault Refusal := finish s (doCoreCycRead i c s)

/-- EVR_CLAIM (R55). -/
def execEvrClaim (i : Initiator) (n : Fin 2) (s : State) : Host.Outcome State Fault Refusal := finish s (doEvrClaim i n s)

/-- EVR_DONE (R55). -/
def execEvrDone (i : Initiator) (n : Fin 2) (v : Word) (s : State) : Host.Outcome State Fault Refusal := finish s (doEvrDone i n v s)

/-- MCC_CLAIM (R304). -/
def execMccClaim (i : Initiator) (s : State) : Host.Outcome State Fault Refusal := finish s (doMccClaim i s)

/-- MCC_DONE (R304). -/
def execMccDone (i : Initiator) (v : Word) (s : State) : Host.Outcome State Fault Refusal := finish s (doMccDone i v s)

/-- MCC_SWDB_SET (R304). -/
def execMccSwdbSet (i : Initiator) (v : Word) (s : State) : Host.Outcome State Fault Refusal := finish s (doMccSwdbSet i v s)

/-- MCC_WDKICK (R304). -/
def execMccWdkick (i : Initiator) (v : Word) (s : State) : Host.Outcome State Fault Refusal := finish s (doMccWdkick i v s)

/-- METROLOGY_WATCHDOG_WARN (R304). -/
def execMetrologyWatchdogWarn (s : State) : Host.Outcome State Fault Refusal := finish s (doMetrologyWatchdogWarn s)

/-- LOCKSTEP_MISMATCH (R298). -/
def execLockstepMismatch (s : State) : Host.Outcome State Fault Refusal := finish s (doLockstepMismatch s)

/-- WDR_M (R511). -/
def execWdrM (s : State) : Host.Outcome State Fault Refusal := finish s (doWdrM s)

/-- MCC_LOAD_DONE (R511). -/
def execMccLoadDone (s : State) : Host.Outcome State Fault Refusal := finish s (doMccLoadDone s)

end Sys2Proof.Machine
end

