-- ==== Sys2Proof/Machine/Blocks.lean ====
section
/-! DEFINITION. The engine bits of the common header: EN, QUIESCE and SELFTEST of a block (R10, R41 to R43). -/

namespace Sys2Proof.Machine

open Sys2Proof

/-- A page whose header implements the engine bits (R40). -/
def isEngine (page : Nat) : Bool := match pageRow? page with | some p => p.engine | none => false

/-- Whether a block has dispatched work in flight. -/
def pageBusy (s : State) (page : Nat) : Bool :=
  if 0x08 ≤ page && page < 0x0C then (getLane s false (page - 0x08)).cur.isSome || s.intake.frames.any fun f => decide (f.lane = some (page - 0x08))
  else if page = 0x0D || page = 0x0E then (getLane s true (page - 0x0D)).cur.isSome
  else if page = 0x0F then s.lanes.lmsRun.isSome || s.lanes.sealing.isSome || s.lanes.lmsKeys.any fun k => k.2.adv
  else if 0x10 ≤ page && page < 0x14 then (getBne s (page - 0x10)).cur.isSome
  else if page = 0x14 then s.lanes.bncCrc.isSome || [0, 1, 2, 3].any fun n => (getBne s n).cur.isSome
  else if page = 0x18 then !s.intake.frames.isEmpty || s.intake.cmd.isSome || s.intake.ckpt.isSome
  else if 0x20 ≤ page && page < 0x24 then match s.tal.alu with | some u => u.n / 64 == page - 0x20 | none => false
  else if page = 0x24 then s.tal.crcBusy
  else if page = 0x27 then s.sns.running
  else if 0x40 ≤ page && page < 0x44 then
    !(getPort s (page - 0x40)).queue.isEmpty || !(getPort s (page - 0x40)).replay.isEmpty
  else if page = 0x48 then !s.nv.tasks.isEmpty || !s.nv.erases.isEmpty || s.nv.readWait.isSome
  else false

/-- STAT.QUIESCED. -/
def setQuiesced (s : State) (page : Nat) (b : Bool) : State := wrBit s (hdr page Off.STAT) 2 b

/-- Whether a block is to come to rest: QUIESCE or SELFTEST is set, or EN is 0 or is being cleared. -/
def resting (s : State) (page : Nat) : Bool :=
  let c := rd s (hdr page Off.CTRL)
  !bit c 0 || bit c 1 || bit c 2 || lmem page s.enOff

/-- A resting block without work in flight reports QUIESCED, and an EN that was being cleared reads 0 (R41, R42). -/
def quiesced (s : State) (page : Nat) : State :=
  if !resting s page || pageBusy s page then s
  else
    let s := setQuiesced s page true
    if lmem page s.enOff then wrBit { s with enOff := lerase page s.enOff } (hdr page Off.CTRL) 0 false else s

/-- EN of a block written (R41); a fabric port whose EN is cleared goes to DISABLED (R423). -/
def setEn (s : State) (page : Nat) (b : Bool) : State :=
  if b then
    let s := wrBit { s with enOff := lerase page s.enOff } (hdr page Off.CTRL) 0 true
    if resting s page then s else setQuiesced s page false
  else if enabled s page then
    let s := if 0x40 ≤ page && page < 0x44 then portDown s (page - 0x40) else s
    quiesced { s with enOff := linsert page s.enOff } page
  else s

/-- QUIESCE of a block written: set, it holds new work; cleared, the held work is released (R42). -/
def setQuiesce (s : State) (page : Nat) (b : Bool) : State :=
  let s := wrBit s (hdr page Off.CTRL) 1 b
  if resting s page then quiesced s page else setQuiesced s page false

/-- SELFTEST of a block set (R43). -/
def startTest (s : State) (page : Nat) : State :=
  let s := wrBit s (hdr page Off.CTRL) 2 true
  quiesced (wrBit (wrBit s (hdr page Off.STAT) 3 false) (hdr page Off.STAT) 4 false) page

/-- The blocks with a test of their own: RNG, the lanes, KUW, BNC, the tally ALU on TAL0, and the fabric ports (R43). -/
def hasTest (page : Nat) : Bool :=
  page == 0x06 || (decide (0x08 ≤ page) && decide (page ≤ 0x0E)) || (decide (0x10 ≤ page) && decide (page ≤ 0x14)) || page == 0x20 ||
    (decide (0x40 ≤ page) && decide (page < 0x44))

/-- STAT.OOS of a page; lanes, KUW and BNE raise SERVICE on its change. -/
def setOos (s : State) (page : Nat) (b : Bool) : State :=
  if outOfService s page == b then s
  else
    let s := wrBit s (hdr page Off.STAT) 5 b
    if (0x08 ≤ page && page ≤ 0x0E) || (0x10 ≤ page && page < 0x14) then raise s page 3 else s

/-- What a self-test leaves in its block: a big-number lane is cleared (R270), and the tally ALU returns to service (R123). -/
def testEffect (s : State) (page : Nat) (pass : Bool) : State :=
  if 0x10 ≤ page && page < 0x14 then setBne s (page - 0x10) { getBne s (page - 0x10) with key := none, regs := [] }
  else if page = 0x20 && pass then wrBit s Reg.TAL_ALU 31 false
  else s

/-- A self-test ends (R43): a block without a test datapath passes. -/
def endTest (s : State) (page : Nat) (pass : Bool) : State :=
  let ok := pass || !hasTest page
  let s := wrBit s (hdr page Off.CTRL) 2 false
  let s := wrBit s (hdr page Off.STAT) (if ok then 3 else 4) true
  let s := if hasTest page then setOos (testEffect s page ok) page !ok else s
  if resting s page then s else setQuiesced s page false

/-! ### The rows -/

/-- CTRL_EN_CLEAR: a write of CTRL with EN = 0 (R41). AC0's EN is hard-wired, and AC1's holds the core (R301). -/
def doCtrlEnClear (i : Initiator) (page : Nat) (s : State) : State :=
  guardW s i (hdr page Off.CTRL) fun s =>
    if isEngine page then setEn s page false
    else if page = 0x61 then ac1Enable s false
    else if page = 0x60 then noteErr s i page Off.CTRL 6 true
    else s

/-- QUIESCE: a write of CTRL.QUIESCE (R42). -/
def doQuiesce (i : Initiator) (page : Nat) (on : Bool) (s : State) : State :=
  guardW s i (hdr page Off.CTRL) fun s => if isEngine page then setQuiesce s page on else s

/-- QUIESCED_REACHED: a resting block reaches its work boundary (R42). -/
def doQuiescedReached (page : Nat) (s : State) : State := if isEngine page then quiesced s page else s

/-- SELFTEST: a write of CTRL.SELFTEST (R43). -/
def doSelftest (i : Initiator) (page : Nat) (s : State) : State :=
  guardW s i (hdr page Off.CTRL) fun s => if isEngine page then startTest s page else s

/-- SELFTEST_DONE: the test of a block at rest ends (R43). -/
def doSelftestDone (page : Nat) (pass : Bool) (s : State) : State :=
  if isEngine page && bit (rd s (hdr page Off.CTRL)) 2 && !pageBusy s page then endTest s page pass else s

/-! ### The commands -/

/-- CTRL_EN_CLEAR (R41). -/
def execCtrlEnClear (i : Initiator) (page : Nat) (s : State) : Host.Outcome State Fault Refusal := finish s (doCtrlEnClear i page s)

/-- QUIESCE (R42). -/
def execQuiesce (i : Initiator) (page : Nat) (on : Bool) (s : State) : Host.Outcome State Fault Refusal := finish s (doQuiesce i page on s)

/-- QUIESCED_REACHED (R42). -/
def execQuiescedReached (page : Nat) (s : State) : Host.Outcome State Fault Refusal := finish s (doQuiescedReached page s)

/-- SELFTEST (R43). -/
def execSelftest (i : Initiator) (page : Nat) (s : State) : Host.Outcome State Fault Refusal := finish s (doSelftest i page s)

/-- SELFTEST_DONE (R43). -/
def execSelftestDone (page : Nat) (pass : Bool) (s : State) : Host.Outcome State Fault Refusal := finish s (doSelftestDone page pass s)

end Sys2Proof.Machine
end

