-- ==== Sys2Proof/Machine/Power.lean ====
section
/-! DEFINITION. Power: the recovery writes of the NV store (R470, R482), the hold-up reserve (R529, R530), the power states (R523 to
R528), the service window (R531 to R534), and the supplies and resets that the PMU sees (R510 to R513, R559). -/

namespace Sys2Proof.Machine

open Sys2Proof

/-! ### Recovery of the NV store -/

/-- The daybook entry of a sequence number, as the flash holds it. -/
def dbRead (s : State) (d : Nat) : Bytes :=
  ((fpage s (dbSector (d / 512) * 32 + d % 512 / 16)).data.drop (16 * (d % 16))).take 16

/-- The number of the transaction whose BEGIN has neither a COMMIT nor a ROLLBACK, searched from the newest entry back: as one
transaction is open at a time, it is that of the newest entry of a transaction (R480). -/
def openBegin (s : State) : Nat → Option Nat
  | 0 => none
  | d + 1 =>
    let e := dbRead s d
    match leNat (e.take 1) with
    | 1 => some (leNat ((e.drop 4).take 4))
    | 2 => none
    | 3 => none
    | _ => openBegin s d

/-- The recovery writes: the erases, ROLLBACK and START (R470, R482). -/
def recoverWrites (s : State) : State :=
  let n := s.nv.cut.length
  let s := if n = 0 then s else raise (s.nv.cut.foldl eraseNow s) 0x48 4
  let s := setNv s { s.nv with cut := [] }
  let back := openBegin s s.nv.dseq
  let s := match back with | some t => dbEntry s 3 4 0 t | none => s
  let s := dbEntry s 5 4 0 0
  let s := setNv s { s.nv with clean := false, started := true, owed := false }
  let s := upd s Reg.NVC_RECOV fun w => setFld (setFld (setBit w 31 true) 23 16 (b2n back.isSome)) 7 0 n
  raise s 0x48 5

/-! ### The hold-up reserve -/

/-- The greatest m of so many bits with m² c below t. -/
def rootBelow (c t : Nat) : Nat → Nat → Nat
  | 0, m => m
  | k + 1, m => rootBelow c t k (if (m + 2 ^ k) * (m + 2 ^ k) * c < t then m + 2 ^ k else m)

/-- HUTHR in mV for C in 0.1 mF (R529), rounded up. -/
def huThr (c : Nat) : Nat := min 65535 (max 3600 (rootBelow c (7840000 * c + 4000000000) 16 0 + 1))

/-- Whether the reserve is write-ready. -/
def wready (s : State) : Bool := bit (rd s Reg.PMU_HUSTAT) 31

/-- The capacitor's voltage. -/
def huVolt (s : State) : Nat := fld (rd s Reg.PMU_HUSTAT) 15 0

/-- The reserve becomes write-ready, with event 9; recovery writes that wait are made. -/
def huReady (s : State) : State :=
  if wready s || bit (rd s Reg.PMU_HUSTAT) 30 || huVolt s < fld (rd s Reg.PMU_HUTHR) 15 0 then s
  else
    let s := raise (wrBit s Reg.PMU_HUSTAT 31 true) 1 1
    if s.nv.owed then recoverWrites s else s

/-- The reserve ceases to be write-ready, with event 10 while VMAIN is good. -/
def huLow (s : State) : State :=
  if !wready s then s
  else
    let s := wrBit s Reg.PMU_HUSTAT 31 false
    if s.pmu.vmain then raise s 1 2 else s

/-- C is measured: HUCAP, HUTHR and HU_FAULT follow (R529, R530). -/
def huCap (s : State) (c : Nat) : State :=
  let s := wr s Reg.PMU_HUCAP (word (0x80000000 + min 65535 c))
  let s := wr s Reg.PMU_HUTHR (word (huThr (min 65535 c)))
  if 4800 < huThr (min 65535 c) then
    let s := wrBit s Reg.PMU_HUSTAT 30 true
    if wready s then huLow s else raise s 1 2
  else wrBit s Reg.PMU_HUSTAT 30 false

/-- HU_WRITE_READY (R529). -/
def doHuWriteReady (mv : BitVec 16) (s : State) : State :=
  if s.pmu.vmain && decide (fld (rd s Reg.PMU_HUTHR) 15 0 ≤ mv.toNat) then huReady (wrFld s Reg.PMU_HUSTAT 15 0 mv.toNat) else s

/-- HU_BELOW_THRESHOLD (R529). -/
def doHuBelowThreshold (mv : BitVec 16) (s : State) : State :=
  if mv.toNat < fld (rd s Reg.PMU_HUTHR) 15 0 then huLow (wrFld s Reg.PMU_HUSTAT 15 0 mv.toNat) else s

/-- HU_CHARGE_COMPLETE: the capacitor is at 5.0 V, with a measurement where the charge began below 3.0 V (R529, R530). -/
def doHuChargeComplete (c : Option (BitVec 16)) (s : State) : State :=
  if !s.pmu.vmain || !bit (rd s Reg.PMU_HUSTAT) 29 then s
  else
    let s := wrBit (wrFld s Reg.PMU_HUSTAT 15 0 5000) Reg.PMU_HUSTAT 29 false
    huReady (match c with | some c => huCap s c.toNat | none => s)

/-- HU_CAP_TEST: the periodic test begins (R530). -/
def doHuCapTest (s : State) : State :=
  let h := rd s Reg.PMU_HUSTAT
  if bit (rd s Reg.PMU_HUCFG) 31 && s.pmu.vmain && !s.pmu.window && decide (huVolt s = 5000) && !bit h 28 && !pageBusy s 0x48 then
    wrBit (wrBit s Reg.PMU_HUSTAT 28 true) Reg.PMU_HUSTAT 29 false
  else s

/-- HU_CAP_TEST_DONE: the fall in mV under 100 mA for 100 ms gives C (R530); for a fall of 0 the charge gives none, and C is a
free value. -/
def doHuCapTestDone (fall : BitVec 16) (s : State) : State :=
  if !bit (rd s Reg.PMU_HUSTAT) 28 then s
  else
    let s := wrBit (wrBit s Reg.PMU_HUSTAT 28 false) Reg.PMU_HUSTAT 29 true
    let s := wrFld s Reg.PMU_HUSTAT 15 0 (5000 - fall.toNat)
    if fall = 0#16 then
      let (k, s) := fresh s
      huCap s (Config.free 16 k).toNat
    else huCap s (100000 / fall.toNat)

/-! ### SLEEP (R524 to R527) -/

/-- The pages that SLEEP entry quiesces: AES, KUW, HSH, LMS, BNE and ACC. -/
def sleepPages : List Nat := [0x08, 0x09, 0x0A, 0x0B, 0x0C, 0x0D, 0x0E, 0x0F, 0x10, 0x11, 0x12, 0x13, 0x18]

/-- Whether a life-cycle transition or a zeroization runs. -/
def lifeBusy (s : State) : Bool := s.lcs.isSome || !decide (s.tmp.zero = .idle) || s.tmp.zpend

/-- SLEEP is requested: refused with PROTECTED, or its entry begins and has no status yet. -/
def sleepAsk (s : State) : State × Option Nat :=
  if s.pmu.window || lifeBusy s || s.pmu.entering || !awake s then (s, some stPROT)
  else
    let s := setPmu (wrFld s Reg.PMU_STATE 10 8 3) { s.pmu with entering := true }
    (sleepPages.foldl (fun s p => setQuiesce s p true) (wr s Reg.PMU_CMDSTAT 0x80000000#32), none)

/-- SLEEP entry is abandoned: QUIESCE is cleared, and the state is RUN. -/
def sleepAbandon (s : State) : State :=
  if !s.pmu.entering then s
  else
    let s := setPmu s { s.pmu with entering := false }
    let s := sleepPages.foldl (fun s p => setQuiesce s p false) s
    wr (pmuRun s) Reg.PMU_CMDSTAT (word stABORT)

/-- A wake source is reported, with event 13 (R524, R527). -/
def noteWake (s : State) (src : Nat) : State := raise (wr s Reg.PMU_WAKESRC (word (2 ^ src))) 1 5

/-- A wake source: it abandons an entry, or the wake from SLEEP begins. -/
def wakeFrom (s : State) (src : Nat) : State :=
  if s.pmu.entering then noteWake (sleepAbandon s) src
  else if decide (s.pmu.mode = .sleep) && !s.pmu.waking then
    setPmu (wr s Reg.PMU_WAKESRC (word (2 ^ src))) { s.pmu with waking := true }
  else s

/-- SCLK runs again: the tick and network time advance by the time asleep, the watchdogs go on, and the strongroom banks are
retained (R24, R149, R341). -/
def sclkBack (s : State) : State :=
  let n := s.pmu.slept
  let s := { s with tick := s.tick + n, mcc := { s.mcc with kickAt := s.mcc.kickAt + n }, boot := { s.boot with kickAt := s.boot.kickAt + n } }
  let s := if bit (rd s axsStat) 9 then wrWords s Reg.AXS_NET 2 (rd64 s Reg.AXS_NET + n) else s
  let s := setPmu s { s.pmu with slept := 0, waking := false, wakeAt := none }
  setMode (wrBit s Reg.MEM_RETAIN 0 true) .run

/-- A core that waits or is held, with its store buffer drained. -/
def coreRests (k : Core) : Bool := (decide (k.run = .waiting) || decide (k.run = .held)) && k.sbuf.isEmpty

/-- The first byte of bank 30. -/
abbrev strongroom : Nat := 0x10780000

/-- What SLEEP loses: banks 0–29, the AC cores, the contents of the lanes, and the DRBG's state (R525). -/
def sleepLoses (s : State) : State :=
  let s := wrBit (wrBit (wrBit s (hdr 6 Off.STAT) 8 false) (hdr 6 Off.STAT) 9 false) (hdr 0x61 8) 0 false
  { s with
    ac0 := Core.zero, ac1 := Core.zero
    tickq := s.tickq.filter fun e => decide (e.core = .mc)
    mem := { s.mem with sram := s.mem.sram.filter (fun kv => decide (strongroom ≤ kv.1)), rom := true
                        poison := s.mem.poison.filter fun a => decide (strongroom ≤ a) }
    lanes := { s.lanes with kuw := [], aes := [], hsh := [], bne := [] }
    router := { s.router with svc0 := [], svc1 := [] }
    vlt := { s.vlt with rngStart := true } }

/-- The PCIe interface loses its link or is reset (R373, R415): its channels end, host writes held are discarded, and an event of the PCI
page is raised. -/
def pcieHir (s : State) (cause : Nat) : State :=
  raise { hirReads (hir s 1) with held := [], pcie := { s.pcie with linkUp := false, l1 := false, width := 0, speed := 0 } } 0x39 cause

/-- A loss of the link that is counted. -/
def pcieLost (s : State) : State := if s.pcie.linkUp then bumpSat (pcieHir s 2) Reg.PCI_LINKDN 15 0 else s

/-- SLEEP_ENTER: once all units rest, the page buffers are flushed, the ports and PCIe go down, and SCLK stops (R524). -/
def doSleepEnter (s : State) : State :=
  if !s.pmu.entering || !(sleepPages.all fun p => bit (rd s (hdr p Off.STAT)) 2 && !pageBusy s p) ||
      !s.nv.tasks.isEmpty || !s.nv.erases.isEmpty then s
  else if !s.nv.bufs.isEmpty then addTask s (plainTask .pb (s.nv.bufs.map fun b => .page 11 b.1 3 b.2))
  else if !(coreRests s.ac0 && coreRests s.ac1 && coreRests s.mc) then s
  else
    let s := [0, 1, 2, 3].foldl (fun s p => if (getPort s p).st = .disabled then s else leavePort s p .disabled) s
    let s := pcieLost s
    let at_ := (heapRoot s 0).map fun p => postCmp s p
    let s := sleepLoses (wr s Reg.PMU_CMDSTAT 0#32)
    setMode (setPmu s { s.pmu with entering := false, slept := 0, wakeAt := at_ }) .sleep

/-- WAKE: the rails rise, SCLK runs, MC goes on, banks 0–29 are cleared and AC0 takes the warm path (R527). -/
def doPmuWake (s : State) : State :=
  if !s.pmu.waking then s
  else
    let s := raise (sclkBack s) 1 5
    let s := wr s Reg.MEM_CLEARING 0x3FFFFFFF#32
    { s with ac0 := { Core.zero with run := .running }
             boot := { s.boot with steps := [3, 9], code := 9, rom := false, mail := [], flags := 0, warm := true, rails := s.tick } }

/-! ### The service window (R531 to R534) -/

/-- DIRTY_MAX in force. -/
def dirtyMax (s : State) : Nat := min 48 (max 1 (fld (rd s Reg.ACC_CKPT) 5 0))

/-- The service window opens (R531, R533). -/
def windowOpen (s : State) : State :=
  let s := sleepAbandon s
  let s := if awake s then pmuRun s else raise (wr (sclkBack s) Reg.PMU_WAKESRC 0x20#32) 1 5
  let s := wrBit (raise s 1 0) Reg.PMU_STATE 16 true
  let s := lswWindow s
  let s := fabDown { s with intake := { s.intake with closed := true }, seals := [] }
  let s := lmsWindow (nvWindow s)
  let p := s.pmu
  wr (setPmu s { p with
    window := true, winAt := s.tick, winOk := wready s, ckpts := dirtyMax s, whole := decide (s.intake.dirty.length ≤ dirtyMax s)
    ckptDone := false, back := false, due := p.due.filter fun c => !lmem c [4, 5] }) Reg.PMU_WINSTAT 0#32

/-- OFF is entered (R528): all that POR clears is lost. What the next start reports stays, and so does the wake timer's setting. -/
def enterOff (s : State) (complete hur : Bool) : State :=
  let ms := min 65535 ((s.tick - s.pmu.winAt) / 1000)
  let win := word (0x80000000 + b2n complete * 0x40000000 + b2n hur * 0x20000000 + fld (rd s Reg.PMU_WINSTAT) 23 16 * 0x10000 + ms)
  let keep := [Reg.PMU_WAKECFG, Reg.PMU_WAKETIME, Reg.PMU_WAKETIME + 4].map fun a => (a, rd s a)
  let s := fullReset s 0 false
  let s := keep.foldl (fun s kv => wr s kv.1 kv.2) (wr s Reg.PMU_WINSTAT win)
  let s := setPmu s { s.pmu with mode := .off }
  { s with ac0 := Core.zero, boot := { s.boot with steps := [], code := if hur then 2 else 1 } }

/-- A start out of OFF or by the supply: LMS_BURNED still reports what OFF burned (R247). -/
def start (s : State) (code : Nat) (ret : Bool) : State :=
  let burned := rd s Reg.LMS_BURNED
  let off := decide (s.pmu.mode = .off)
  let s := fullReset s code ret
  let s := if off then wr s Reg.LMS_BURNED burned else s
  wrBit s Reg.PMU_HUSTAT 29 true

/-- VMAIN good or not. -/
def setVmain (s : State) (b : Bool) : State :=
  let s := setPmu s { s.pmu with vmain := b }
  wrBit (wrBit s Reg.PMU_RAILS 0 b) Reg.PMU_HUSTAT 29 b

/-- The window is over and the device is in OFF; where VMAIN came back meanwhile, it starts with RETURN = 1, or after HUR with code
0x02 (R534). -/
def windowEnd (s : State) (complete hur : Bool) : State :=
  let back := s.pmu.back
  let s := enterOff s complete hur
  if s.pmu.vmain && back then start s (if hur then 2 else 1) (!hur) else s

/-- POWER_FAIL (R531, R533); in OFF nothing is left to save. -/
def doPowerFail (s : State) : State :=
  if !s.pmu.vmain then s
  else
    let s := setVmain s false
    let s := setPmu s { s.pmu with back := false }
    if s.pmu.window || decide (s.pmu.mode = .off) then s else windowOpen s

/-- Whether every item of the window's list is done, but for CKPT_DONE (R532). -/
def windowDone (s : State) : Bool :=
  !(s.intake.frames.any fun f => decide (f.stage ≠ .waitGate)) &&
    (!s.pmu.winOk ||
      (s.intake.ckpt.isNone && (s.intake.dirty.isEmpty || !ckptMay s) && (openTxn s).isNone &&
        !s.nv.tasks.any fun t => decide (t.src = .assay) || decide (t.src = .pb)))

/-- WINDOW_COMPLETE: CKPT_DONE is written where R104 permits it, and the device enters OFF (R534). -/
def doWindowComplete (s : State) : State :=
  if !s.pmu.window || !windowDone s then s
  else if s.pmu.winOk && s.pmu.whole && s.intake.dirty.isEmpty then
    let s := bumpSat (dbEntry s 4 4 0 0) Reg.PMU_WINSTAT 23 16
    windowEnd (setNv s { s.nv with clean := true }) true false
  else windowEnd s false false

/-- HUR: the capacitor falls to 2.9 V in the window (R534). -/
def doHur (s : State) : State := if s.pmu.window then windowEnd s false true else s

/-- VMAIN_RETURN: VMAIN becomes good while the window runs (R534). -/
def doVmainReturn (s : State) : State :=
  if s.pmu.window && !s.pmu.vmain then
    let s := setVmain s true
    setPmu s { s.pmu with back := true }
  else s

/-- POR: VMAIN becomes good from absent (R510, R528); after HUR the start has its code, and in the window the window runs on. -/
def doPor (s : State) : State :=
  if s.pmu.window then doVmainReturn s
  else start (setVmain s true) (if decide (s.pmu.mode = .off) && s.boot.code == 2 then 2 else 1) false

/-- PIN_RESET: RESET_N, with VMAIN present; the service window runs on (R510, R528, R569). -/
def doPinReset (s : State) : State := if s.pmu.window || !s.pmu.vmain then s else start s 8 false

/-! ### PMU commands (R540) -/

/-- A PMU command: discarded while BUSY; one without a status yet goes on. -/
def pmuCmd (s : State) (i : Initiator) (k : State → State × Option Nat) : State :=
  guardW s i Reg.PMU_CMD fun s =>
    if bit (rd s Reg.PMU_CMDSTAT) 31 then noteErr s i 1 0x84 4 true
    else
      match k s with
      | (t, some st) => wr t Reg.PMU_CMDSTAT (word st)
      | (t, none) => t

/-- PMU_RUN. -/
def doPmuRun (i : Initiator) (s : State) : State := pmuCmd s i fun s => (pmuRun s, some stOK)

/-- PMU_DOZE: the fabric ports go to DISABLED (R424, R523). -/
def doPmuDoze (i : Initiator) (s : State) : State :=
  pmuCmd s i fun s =>
    if s.pmu.window then (s, some stPROT)
    else
      let s := [0, 1, 2, 3].foldl (fun s p => if (getPort s p).st = .disabled then s else leavePort s p .disabled) s
      (setMode (wrFld s Reg.PMU_STATE 10 8 2) .doze, some stOK)

/-- PMU_SLEEP. -/
def doPmuSleep (i : Initiator) (s : State) : State := pmuCmd s i sleepAsk

/-- PMU_ABORT: a SLEEP entry is abandoned; without one it ends with OK. -/
def doPmuAbort (i : Initiator) (s : State) : State :=
  guardW s i Reg.PMU_CMD fun s => if s.pmu.entering then sleepAbandon s else wr s Reg.PMU_CMDSTAT (word stOK)

/-- PMU_OFF: the service window opens with VMAIN present (R528, R531). -/
def doPmuOff (i : Initiator) (s : State) : State :=
  pmuCmd s i fun s => if s.pmu.window then (s, some stPROT) else (windowOpen s, some stOK)

/-- An OP of PMU_CMD that the table does not list. -/
def pmuOther (s : State) : State := wr s Reg.PMU_CMDSTAT (word stNORES)

/-- IDLE_ENTRY: IDLE while every core waits or is held, RUN again once one runs (R523). -/
def doIdleEntry (s : State) : State :=
  let rest (k : Core) : Bool := decide (k.run = .waiting) || decide (k.run = .held)
  let all := rest s.ac0 && rest s.ac1 && rest s.mc
  match s.pmu.mode with
  | .run => if all then setMode s .idle else s
  | .idle => if all then s else setMode s .run
  | _ => s

/-- WAKE_TIMER: the RTC reaches the calendar's wake timer, or PMU_WAKETIME with WAKECFG.TIMER = 1 (R526, R528). -/
def doWakeTimer (s : State) : State :=
  let rtc := rd64 s Reg.AXS_RTC
  let timer := bit (rd s Reg.PMU_WAKECFG) 0 && decide (rd64 s Reg.PMU_WAKETIME ≤ rtc)
  if decide (s.pmu.mode = .off) then (if timer && s.pmu.vmain then start s 7 false else s)
  else
    match s.pmu.wakeAt with
    | some c => if c ≤ rtc then wakeFrom s 0 else if timer then wakeFrom s 1 else s
    | none => if timer then wakeFrom s 1 else s

/-! ### Supplies, the PLL and the supervisor's resets -/

/-- RAIL_FAULT (R540). -/
def doRailFault (s : State) : State := raise (wrBit s Reg.PMU_RAILS 1 false) 1 3

/-- PLL_LOCK_LOST (R539). -/
def doPllLockLost (s : State) : State := raise (wrBit s (hdr 0 Off.STAT) 8 false) 0 1

/-- VBAT_APPLIED: the VBAT domain takes its reset values (R505, R559). -/
def doVbatApplied (s : State) : State :=
  let s := resetRegs s fun a => !vbatReg a
  let s := wrBit (wrBit s axsStat 8 false) Reg.PMU_RAILS 2 true
  { s with axs := { s.axs with rtcPhase := 0, rtcSub := 0 }, tmp := { s.tmp with log := [], zpend := false, lfsr := [] } }

/-- VBAT_LOSS (R559). -/
def doVbatLoss (s : State) : State := wrBit s Reg.PMU_RAILS 2 false

/-- The supervisor watchdog is enabled. -/
def sysWdOn (s : State) : Bool := bit (rd s Reg.SYS_WDCFG) 31

/-- SUPERVISOR_WATCHDOG_WARN (R539). -/
def doSupervisorWatchdogWarn (s : State) : State := if sysWdOn s then raise s 0 2 else s

/-- WDR_S: the watchdog expires, or a WDR-S that waits takes effect (R512, R539). -/
def doWdrS (s : State) : State :=
  if sysWdOn s || lmem 4 s.pmu.due then dueResets (askReset s 4) else s

/-- SYS_WDKICK written: it restarts the watchdog, or counts as its expiry. -/
def sysKick (s : State) (v : Word) : State :=
  if v = 0x4B1C#32 then { s with boot := { s.boot with kickAt := s.tick } }
  else if sysWdOn s then dueResets (askReset s 4)
  else s

/-- SYS_WDKICK (R539). -/
def doSysWdkick (i : Initiator) (v : Word) (s : State) : State := guardW s i Reg.SYS_WDKICK fun s => sysKick s v

/-- SYS_SWR written. -/
def sysSwr (s : State) (i : Initiator) (v : Word) : State :=
  if v = 0xA55A#32 then dueResets (askReset s 5) else noteErr s i 0 0x84 3 true

/-- SWR (R510, R539). -/
def doSwr (i : Initiator) (v : Word) (s : State) : State := guardW s i Reg.SYS_SWR fun s => sysSwr s i v

/-! ### The commands -/

/-- HU_WRITE_READY (R529). -/
def execHuWriteReady (mv : BitVec 16) (s : State) : Host.Outcome State Fault Refusal := finish s (doHuWriteReady mv s)

/-- HU_BELOW_THRESHOLD (R529). -/
def execHuBelowThreshold (mv : BitVec 16) (s : State) : Host.Outcome State Fault Refusal := finish s (doHuBelowThreshold mv s)

/-- HU_CHARGE_COMPLETE (R529). -/
def execHuChargeComplete (c : Option (BitVec 16)) (s : State) : Host.Outcome State Fault Refusal := finish s (doHuChargeComplete c s)

/-- HU_CAP_TEST (R530). -/
def execHuCapTest (s : State) : Host.Outcome State Fault Refusal := finish s (doHuCapTest s)

/-- HU_CAP_TEST_DONE (R530). -/
def execHuCapTestDone (fall : BitVec 16) (s : State) : Host.Outcome State Fault Refusal := finish s (doHuCapTestDone fall s)

/-- SLEEP_ENTER (R524). -/
def execSleepEnter (s : State) : Host.Outcome State Fault Refusal := finish s (doSleepEnter s)

/-- WAKE (R527). -/
def execPmuWake (s : State) : Host.Outcome State Fault Refusal := finish s (doPmuWake s)

/-- POWER_FAIL (R531). -/
def execPowerFail (s : State) : Host.Outcome State Fault Refusal := finish s (doPowerFail s)

/-- WINDOW_COMPLETE (R534). -/
def execWindowComplete (s : State) : Host.Outcome State Fault Refusal := finish s (doWindowComplete s)

/-- HUR (R534). -/
def execHur (s : State) : Host.Outcome State Fault Refusal := finish s (doHur s)

/-- VMAIN_RETURN (R534). -/
def execVmainReturn (s : State) : Host.Outcome State Fault Refusal := finish s (doVmainReturn s)

/-- POR (R510). -/
def execPor (s : State) : Host.Outcome State Fault Refusal := finish s (doPor s)

/-- PIN_RESET (R569). -/
def execPinReset (s : State) : Host.Outcome State Fault Refusal := finish s (doPinReset s)

/-- PMU_RUN (R523). -/
def execPmuRun (i : Initiator) (s : State) : Host.Outcome State Fault Refusal := finish s (doPmuRun i s)

/-- PMU_DOZE (R523). -/
def execPmuDoze (i : Initiator) (s : State) : Host.Outcome State Fault Refusal := finish s (doPmuDoze i s)

/-- PMU_SLEEP (R524). -/
def execPmuSleep (i : Initiator) (s : State) : Host.Outcome State Fault Refusal := finish s (doPmuSleep i s)

/-- PMU_ABORT (R524). -/
def execPmuAbort (i : Initiator) (s : State) : Host.Outcome State Fault Refusal := finish s (doPmuAbort i s)

/-- PMU_OFF (R528). -/
def execPmuOff (i : Initiator) (s : State) : Host.Outcome State Fault Refusal := finish s (doPmuOff i s)

/-- IDLE_ENTRY (R523). -/
def execIdleEntry (s : State) : Host.Outcome State Fault Refusal := finish s (doIdleEntry s)

/-- WAKE_TIMER (R526). -/
def execWakeTimer (s : State) : Host.Outcome State Fault Refusal := finish s (doWakeTimer s)

/-- RAIL_FAULT (R540). -/
def execRailFault (s : State) : Host.Outcome State Fault Refusal := finish s (doRailFault s)

/-- PLL_LOCK_LOST (R539). -/
def execPllLockLost (s : State) : Host.Outcome State Fault Refusal := finish s (doPllLockLost s)

/-- VBAT_APPLIED (R559). -/
def execVbatApplied (s : State) : Host.Outcome State Fault Refusal := finish s (doVbatApplied s)

/-- VBAT_LOSS (R559). -/
def execVbatLoss (s : State) : Host.Outcome State Fault Refusal := finish s (doVbatLoss s)

/-- SUPERVISOR_WATCHDOG_WARN (R539). -/
def execSupervisorWatchdogWarn (s : State) : Host.Outcome State Fault Refusal := finish s (doSupervisorWatchdogWarn s)

/-- WDR_S (R512). -/
def execWdrS (s : State) : Host.Outcome State Fault Refusal := finish s (doWdrS s)

/-- SYS_WDKICK (R539). -/
def execSysWdkick (i : Initiator) (v : Word) (s : State) : Host.Outcome State Fault Refusal := finish s (doSysWdkick i v s)

/-- SWR (R512). -/
def execSwr (i : Initiator) (v : Word) (s : State) : Host.Outcome State Fault Refusal := finish s (doSwr i v s)

end Sys2Proof.Machine
end

