-- ==== Sys2Proof/Machine/Lcs.lean ====
section
/-! DEFINITION. The life-cycle (R177, R518 to R522): checking a life-cycle message, burning its bits, and completing a transition. -/

namespace Sys2Proof.Machine

open Sys2Proof

/-! ### A transition -/

/-- The OTP bits of a transition by OP: 1 CLAIM, 2 RELEASE, 3 SCRAP, 4 SEAL (R518, R519). -/
def burnOp (o : Otp) (op : Nat) : Otp :=
  match op with
  | 1 => { o with own := linsert o.round o.own }
  | 2 => { o with round := o.round + 1 }
  | 3 => { o with scrapped := true }
  | 4 => { o with sealed_ := true }
  | _ => o

/-- A transition is recorded and its bits are burned (R521 steps 1 and 2). -/
def lcsBurn (s : State) (op : Nat) (ctr : Option (Nat × Nat)) (anchor : List (Nat × KeyRec)) : State :=
  let s := { s with otp := burnOp s.otp op }
  { s with lcs := some { op := op, target := lcode s, ctr := ctr, anchor := anchor, burned := true } }

/-- An anchor key installed under the new root, with ORIGIN 2 and AUTH 0. -/
def putAnchor (s : State) (k : Nat) (r : KeyRec) : State :=
  let x := vslot s k
  setVslot s k { gen := min 16383 (x.gen + 1), key := some { r with origin := 2, auth := 0 }, bad := false, copyB := !x.copyB }

/-- What the vault erases and does in a transition (R177). -/
def vaultTransition (s : State) (op : Nat) : State :=
  if op = 4 then mintIdentity (vaultErase s 0)
  else
    let s := vaultErase s 2
    if op = 3 then setVlt s { s.vlt with helper := s.vlt.helper.map fun h => { h with regionS := false } } else s

/-- Steps 3 to 5 of R521: the vault's actions, the further erases of R519, the anchor that a CLAIM carries, the authority's counter,
the completion mark and event 144. -/
def lcsComplete (s : State) (r : LcsRec) : State :=
  let s := vaultTransition s r.op
  let s := if r.op = 2 || r.op = 3 then eraseRegion s 7 else s
  let s := r.anchor.foldl (fun s kr => putAnchor s kr.1 kr.2) s
  let s := match r.ctr with | some (k, v) => ctrSetNow s k v | none => s
  raise { s with lcs := none } 4 0

/-! ### The message (R520, R521) -/

/-- Check 1: length, MAGIC, VERSION, reserved fields and codes. -/
def lcsForm (m : Bytes) : Bool :=
  m.length == 3469 && decide (m.take 4 = [0x4A#8, 0x51#8, 0x4C#8, 0x43#8]) && mfld m 4 1 == 1 && decide (mfld m 5 1 ≤ 1) &&
    decide (1 ≤ mfld m 6 1) && decide (mfld m 6 1 ≤ 4) && mfld m 7 1 == 0 && ((m.drop 30).take 34).all (· == 0#8)

/-- Check 4: OP and AUTH permitted from the state (R519). -/
def lcsAllowed (code op auth : Nat) : Bool :=
  match op, auth with
  | 4, 0 => code == 1
  | 1, 1 => code == 2 || code == 4
  | 2, 1 => code == 3
  | 3, 1 => code == 3
  | 3, 0 => code == 2 || code == 4
  | _, _ => false

/-- Checks 6 and 7: the signatures over the header. -/
def lcsSigs (m : Bytes) (anchor : Bytes × Bytes) : Bool × Bool :=
  ((match ecPoint p384 anchor.1 with
    | some pt => ecdsaVerify p384 pt (sha384 (m.take 64)) ((m.drop 64).take 96)
    | none => false),
   dsaVerify (dsaParam 1) anchor.2 [] (m.take 64) (m.drop 160))

/-- The checks of R521 in their order: the status and the REASON, 0 where a message passes. -/
def lcsCheck (s : State) (m : Bytes) : State × Nat × Nat :=
  let op := mfld m 6 1
  let auth := mfld m 5 1
  if !lcsForm m then (s, stBADPROF, 1)
  else if (m.drop 8).take 16 ≠ serial then (s, stNOTOWN, 2)
  else if mfld m 28 1 ≠ lcode s || mfld m 29 1 ≠ s.otp.round then (s, stPROT, 3)
  else if !lcsAllowed (lcode s) op auth then (s, stPROT, 4)
  else match anchorOf s auth with
    | none => (s, stKEY, 5)
    | some a =>
      let (ec, pq) := lcsSigs m a
      if !ec then (s, stAUTH, 6)
      else if !pq then (s, stAUTH, 7)
      else if mfld m 24 4 ≤ ctrValue s auth then (s, stREPLAY, 8)
      else
        let (s, g) := nvGate s true
        if g = stPROT then (s, g, 9)
        else if g ≠ stOK then (s, g, 10)
        else if op = 2 && 15 ≤ s.otp.round then (s, stEXHAUST, 11)
        else (s, stOK, 0)

/-- The anchor that a CLAIM carries: the keys of slots 2 and 3. -/
def claimAnchor (s : State) (op : Nat) : List (Nat × KeyRec) :=
  if op = 1 then [2, 3].filterMap fun k => (slotKey s k).map fun r => (k, r) else []

/-- A life-cycle message: refused with its REASON and event 145, or its transition begins. -/
def lcsMessage (s : State) (m : Bytes) : State × Nat :=
  let (s, st, reason) := lcsCheck s m
  if st = stOK then (lcsBurn s (mfld m 6 1) (some (mfld m 5 1, mfld m 24 4)) (claimAnchor s (mfld m 6 1)), stOK)
  else (raise (wr s Reg.LCS_REJECT (word reason)) 4 1, st)

/-- The end of an LCS command. -/
def lcsEnd (s : State) (st : Nat) : State := wr s Reg.LCS_CMDSTAT (word ((if st = stBUSY then chargeMs s else 0) * 0x100 + st))

/-- An LCS command: discarded while BUSY (R541). -/
def lcsCmd (s : State) (i : Initiator) (k : State → State) : State :=
  guardW s i Reg.LCS_CMD fun s => if bit (rd s Reg.LCS_CMDSTAT) 31 then noteErr s i 4 0x84 4 true else k s

/-- LCS_CMD with OP TRANSITION: the message's range is checked first (R578); a transition that begins stays BUSY until the restart. -/
def transition (s : State) : State :=
  let a := (rd s Reg.LCS_BUF).toNat
  let n := fld (rd s Reg.LCS_LEN) 15 0
  if n ≠ 0 && !rangeSram a n then lcsEnd s stDOMAIN
  else if s.lcs.isSome then lcsEnd s stBUSY
  else match unitRead s 0 a n with
    | (s, .inl st) => lcsEnd s st
    | (s, .inr m) =>
      let (s, st) := lcsMessage s m
      if st = stOK then wr s Reg.LCS_CMDSTAT 0x80000000#32 else lcsEnd s st

/-- TRANSITION (R521). -/
def doLcsTransition (i : Initiator) (s : State) : State := lcsCmd s i transition

/-- LIFECYCLE_RESTART: steps 3 to 6 of R521. -/
def doLifecycleRestart (s : State) : State :=
  match s.lcs with
  | some r => if r.burned && !s.pmu.window && awake s then start (lcsComplete s r) 0x0A false else s
  | none => s

/-! ### The commands -/

/-- TRANSITION (R521). -/
def execLcsTransition (i : Initiator) (s : State) : Host.Outcome State Fault Refusal := finish s (doLcsTransition i s)

/-- LIFECYCLE_RESTART (R521). -/
def execLifecycleRestart (s : State) : Host.Outcome State Fault Refusal := finish s (doLifecycleRestart s)

end Sys2Proof.Machine
end

