-- ==== Sys2Proof/Machine/Contact.lean ====
section
/-! DEFINITION. The contact port (R388 to R411): its modes, the commands of ISO mode and of the card bus, the password lock and forced
erase. -/

namespace Sys2Proof.Machine

open Sys2Proof

/-! ### State -/

/-- The contact port replaced. -/
def setCpt (s : State) (x : CptSt) : State := { s with cpt := x }
/-- The mode: 0 none, 1 ISO, 2 card bus. -/
def cptMode (s : State) : Nat := fld (rd s Reg.CPT_STAT) 31 30
/-- A bit of CPT_STAT: 29 ACTIVE, 28 LOCKED, 25 CLASS1, 24 SLEEPING. -/
def cptBit (s : State) (k : Nat) : Bool := bit (rd s Reg.CPT_STAT) k
/-- RADDR. -/
def cptAddr (s : State) : Nat := fld (rd s Reg.CPT_STAT) 19 16
/-- Whether the port can drive and answer: supplied, out of reset, and in a mode. -/
def cptLive (s : State) (mode : Nat) : Bool := s.cpt.power && s.cpt.crst && s.pmu.vmain && cptMode s == mode
/-- A cause of the CPT page. -/
def cptRaise (s : State) (k : Nat) : State := raise s 0x38 k

/-- CPT_PSEQ shows a sequence number, a failure count and a status. -/
def showPseq (s : State) (pseq fails pstat : Nat) : State := wr s Reg.CPT_PSEQ (word (pseq * 0x10000 + fails * 0x100 + pstat))

/-- The unlock delay that remains, in ms (R401). -/
def cptDelay (s : State) : Nat :=
  let f := s.cpt.lockRec.fails
  let d := if f ≤ 2 then 0 else 2 ^ (min f 15 - 3) * 1000000
  (s.cpt.failAt + d - s.tick + 999) / 1000

/-- The mode is left: class 0, no address, and the lock set again where a password is held (R388, R399). -/
def cptDrop (s : State) : State :=
  let s := if cptBit s 29 then cptRaise s 1 else s
  let lock := cptBit s 28 || s.cpt.lockRec.hash.isSome
  let s := wr s Reg.CPT_STAT (word (b2n lock * 2 ^ 28))
  setCpt s { s.cpt with choosing := false, armed := false, swAt := none, job := s.cpt.job.map fun j => { j with asked := false } }

/-! ### Activation (R388 to R391) -/

/-- CRST_N_RISE. -/
def doCrstNRise (s : State) : State := setCpt s { s.cpt with crst := true, choosing := s.cpt.power && cptMode s == 0 }

/-- CRST_N_FALL: an HIR of the contact port. -/
def doCrstNFall (s : State) : State :=
  let s := cptDrop (hir s 2)
  setCpt s { s.cpt with crst := false }

/-- MODE_SELECT: 64 edges of CCLK with CDAT1 high or low; a mode that CPT_CFG disables is not entered. -/
def doModeSelect (cdat1 : Bool) (s : State) : State :=
  if !s.cpt.choosing || !s.cpt.power || !s.cpt.crst || !awake s || !s.pmu.vmain then s
  else
    let s := setCpt s { s.cpt with choosing := false }
    if cdat1 then
      if bit (rd s Reg.CPT_CFG) 0 then upd s Reg.CPT_STAT fun w => setFld (setFld w 31 30 1) 15 0 0x0110 else s
    else if bit (rd s Reg.CPT_CFG) 1 then
      cptRaise (wrBit (wrFld s Reg.CPT_STAT 31 30 2) Reg.CPT_STAT 29 true) 0
    else s

/-- The bytes of the ATR (R390). -/
def atrBytes : Bytes :=
  [0x3B#8, 0x98#8, 0x96#8, 0x80#8, 0xB1#8, 0xFE#8, 0x45#8, 0x1F#8, 0x46#8, 0x80#8, 0x66#8, 0x4A#8, 0x51#8, 0x42#8, 0x00#8, 0x01#8, 0x00#8,
   0x63#8]

/-- ATR: sent where CVCC lies within class B or C (R389, R390). -/
def doAtr (inRange : Bool) (s : State) : State :=
  if !cptLive s 1 || cptBit s 29 || !inRange || !awake s then s
  else cptRaise (wrBit (emit s (.contact atrBytes)) Reg.CPT_STAT 29 true) 0

/-- The XOR of bytes. -/
def xorSum (bs : Bytes) : Byte := bs.foldl (fun a b => a ^^^ b) 0#8

/-- Fi and Di of TA1 in the subset of R389, with Fi/Di at least 16; index 0 and 1 are Fi 372 (PRESUMED, ISO/IEC 7816-3). -/
def fidiOk (ta : Nat) : Bool :=
  let fi := if ta / 16 = 0 || ta / 16 = 1 then 372 else if ta / 16 = 9 then 512 else 0
  let di := if 1 ≤ ta % 16 && ta % 16 ≤ 6 then 2 ^ (ta % 16 - 1) else 0
  fi != 0 && di != 0 && decide (16 * di ≤ fi)

/-- The reply to a PPS request, and T with the Fi and Di indexes from then on; none for a malformed one or a wrong PCK (R391). -/
def ppsReply (m : Bytes) : Option (Bytes × Option (Nat × Nat)) :=
  let p0 := leNat ((m.drop 1).take 1)
  let has (k : Nat) : Bool := p0 / 2 ^ k % 2 == 1
  if m.length ≠ 3 + b2n (has 4) + b2n (has 5) + b2n (has 6) || m.take 1 ≠ [0xFF#8] || xorSum m ≠ 0#8 then none
  else
    let ta := if has 4 then leNat ((m.drop 2).take 1) else 0x11
    let ok := decide (p0 % 16 ≤ 1) && (!has 4 || fidiOk ta)
    let body : Bytes := if ok && has 4 then [0xFF#8, byte (p0 % 32), byte ta] else [0xFF#8, byte (p0 % 16)]
    some (body ++ [xorSum body], if ok then some (p0 % 16, ta) else none)

/-- PPS (R391). -/
def doPps (m : Bytes) (s : State) : State :=
  if !cptLive s 1 || !cptBit s 29 then s
  else match ppsReply m with
    | none => s
    | some (r, v) =>
      let s := emit s (.contact r)
      match v with
      | some (t, ta) => wrFld (wrFld s Reg.CPT_STAT 15 12 t) Reg.CPT_STAT 11 4 ta
      | none => wrFld (wrFld s Reg.CPT_STAT 15 12 0) Reg.CPT_STAT 11 4 0x11

/-! ### Answers (R396, R407) -/

/-- A command has been executed. -/
def cptCount (s : State) (code st : Nat) : State := wr (bumpMod s Reg.CPT_CMDCNT) Reg.CPT_LASTCMD (word (code * 0x100 + st))

/-- The answer in ISO mode. -/
def isoAnswer (s : State) (code st : Nat) (data : Bytes) : State :=
  emit (cptCount s code st) (.contact (if st = stOK then data ++ [0x90#8, 0x00#8] else [0x6F#8, byte st]))

/-- A response frame from an address. -/
def cardSend (s : State) (addr st : Nat) (data : Bytes) : State :=
  let f := [byte (0x80 + addr), byte st] ++ leBytes 2 data.length ++ data
  emit s (.contact (f ++ [xorSum f]))

/-- The answer on the card bus. -/
def cardAnswer (s : State) (code st : Nat) (data : Bytes) : State := cardSend (cptCount s code st) (cptAddr s) st data

/-- The answer of either mode. -/
def cptAnswer (s : State) (code st : Nat) (data : Bytes) : State :=
  if cptMode s = 1 then isoAnswer s code st data else cardAnswer s code st data

/-! ### The command set (R395) -/

/-- What a command's operands come to: an offset or a channel, its data, and a length or a count. -/
structure PortArgs where
  a : Nat
  data : Bytes
  n : Nat
  deriving DecidableEq, Repr

/-- How a command reads its operands: whether P1-P2, and Lc and Le, are in the table, its operands in ISO mode, whether it sends no data
but asks for an answer of one length (0 where it allows several), and its operands on the card bus. -/
structure PortForm where
  pOk : Nat → Bool
  lOk : Nat → Option Nat → Bool
  iso : Nat → Bytes → Option Nat → PortArgs
  fixed : Option Nat
  card : Bytes → Option PortArgs

/-- What a command does: it is answered with a status and data, or it runs on as a persistent command. -/
inductive PortEnd where
  | done (s : State) (st : Nat) (data : Bytes)
  | runs (s : State)
  deriving Repr

/-- The refusal that precedes a command (R395, R404, R517): BUSY_RETRY before CPT_READY, in ROM service and while a persistent command
runs, then LOCKED. -/
def cptGate (s : State) (exempt lockOk : Bool) : Nat :=
  if !exempt && (s.cpt.job.isSome || !bit (rd s Reg.CPT_READY) 0 || s.boot.rom) then stBUSY
  else if !lockOk && cptBit s 28 then stLOCKED
  else stOK

/-- A command of the table with its operands. -/
def cptRun (s : State) (code : Nat) (exempt lockOk : Bool) (x : PortArgs) (k : State → PortArgs → PortEnd) : State :=
  let g := cptGate s exempt lockOk
  if g ≠ stOK then cptAnswer (if g = stBUSY then setCpt s { s.cpt with retry := 0 } else s) code g []
  else match k s x with
    | .done s st data => cptAnswer s code st data
    | .runs s => if cptMode s = 1 then s else cardAnswer s code stOK (leBytes 2 (fld (rd s Reg.CPT_PSEQ) 31 16 + 1))

/-- A command as it arrives in the mode selected (R395, R396, R407). -/
def cptCmd (s : State) (code : Nat) (m : PortCmd) (exempt lockOk : Bool) (f : PortForm) (k : State → PortArgs → PortEnd) : State :=
  match m with
  | .apdu cla p1 p2 data le =>
    if !cptLive s 1 || !cptBit s 29 || !awake s then s
    else
      let p := p1.toNat * 256 + p2.toNat
      let sw (s : State) (a b : Byte) : State := emit s (.contact [a, b])
      if cla ≠ 0x80#8 then sw s 0x6E#8 0x00#8
      else if !f.pOk p then sw s 0x6B#8 0x00#8
      else if !f.lOk data.length le then
        match f.fixed, decide (fld (rd s Reg.CPT_STAT) 15 12 = 0) && data.isEmpty with
        | some 0, true =>
          let (j, s) := fresh s
          sw s 0x6C#8 (Config.free 8 j)
        | some n, true => sw s 0x6C#8 (byte n)
        | _, _ => sw s 0x67#8 0x00#8
      else cptRun s code exempt lockOk (f.iso p data le) k
  | .card c =>
    if !cptLive s 2 || cptBit s 24 || !awake s || cptAddr s = 0 || c.addr.toNat ≠ cptAddr s then s
    else if !c.good then cardAnswer (bumpSat s Reg.CPT_ERRCNT 15 8) code stBADPROF []
    else match f.card c.data with
      | none => cardAnswer s code stBADPROF []
      | some x => cptRun s code exempt lockOk x k

/-- P1-P2 of zero. -/
def zeroP (p : Nat) : Bool := p == 0
/-- The form of a command that carries a fixed number of bytes and gets no data. -/
def dataForm (n : Nat) : PortForm :=
  { pOk := zeroP, lOk := fun lc le => lc == n && le.isNone, iso := fun _ d _ => ⟨0, d, 0⟩, fixed := none
    card := fun d => if d.length = n then some ⟨0, d, 0⟩ else none }

/-! ### The window (R394) -/

/-- The base and length of the window; none where it does not lie wholly in bank 0. -/
def cptWindow (s : State) : Option (Nat × Nat) :=
  let w := rd s Reg.CPT_WIN
  let a := w.toNat / 256 * 256
  let n := (fld w 7 0 + 1) * 256
  if 0x10000000 ≤ a && a + n ≤ 0x10040000 then some (a, n) else none

/-- The address of a range of the window. -/
def inWindow (s : State) (off n : Nat) : Option Nat :=
  match cptWindow s with
  | some (a, len) => if off + n ≤ len && banksUp s (a + off) n then some (a + off) else none
  | none => none

/-- WRITE_BUF. -/
def doWriteBuf (m : PortCmd) (s : State) : State :=
  cptCmd s 0xD6 m false false
    { pOk := fun _ => true, lOk := fun lc le => decide (1 ≤ lc) && decide (lc ≤ 255) && le.isNone, iso := fun p d _ => ⟨p, d, 0⟩, fixed := none
      card := fun d => if 3 ≤ d.length && d.length ≤ 1026 then some ⟨leNat (d.take 2), d.drop 2, 0⟩ else none }
    fun s x => match inWindow s x.a x.data.length with
      | some a => .done (bankWrite s .cport a x.data) stOK []
      | none => .done s stDOMAIN []

/-- Bytes that the engine reads in bank 0. -/
def cptRead (s : State) (a n : Nat) : PortEnd :=
  if poisoned s a n then .done (noteEcc s .cport false (((wordsOf a n).find? fun w => lmem w s.mem.poison).getD a) true) stLANE []
  else .done s stOK (sramRead s a n)

/-- READ_BUF. -/
def doReadBuf (m : PortCmd) (s : State) : State :=
  cptCmd s 0xB0 m false false
    { pOk := fun _ => true, lOk := fun lc le => lc == 0 && (match le with | some n => decide (1 ≤ n) && decide (n ≤ 256) | none => false)
      iso := fun p _ le => ⟨p, [], le.getD 0⟩, fixed := none
      card := fun d =>
        let n := leNat ((d.drop 2).take 2)
        if d.length = 4 && 1 ≤ n && n ≤ 1024 then some ⟨leNat (d.take 2), [], n⟩ else none }
    fun s x => match inWindow s x.a x.n with
      | some a => cptRead s a x.n
      | none => .done s stDOMAIN []

/-! ### Channels 62 and 63 (R397) -/

/-- Whether a channel is enabled with PORT = 2. -/
def cportChan (s : State) (n : Nat) : Bool := decide (n < 64) && chanOn s n && fld (rd s (Reg.CHN_CFG + 32 * n)) 30 29 == 2

/-- P1 a channel of the contact port, P2 0. -/
def chanP (p : Nat) : Bool := p == 0x3E00 || p == 0x3F00

/-- SUBMIT. -/
def doCpSubmit (m : PortCmd) (s : State) : State :=
  cptCmd s 0xC1 m false false
    { pOk := chanP, lOk := fun lc le => lc == 64 && le.isNone, iso := fun p d _ => ⟨p / 256, d, 0⟩, fixed := none
      card := fun d => if d.length = 65 then some ⟨leNat (d.take 1), d.drop 1, 0⟩ else none }
    fun s x =>
      let n := x.a
      if !cportChan s n then .done s stNORES []
      else
        let size := sqSize s n
        let t := sqTail s n
        if size ≤ (t + size - sqHead s n) % size + 1 then .done (setCpt s { s.cpt with retry := 0 }) stBUSY []
        else
          let s := bankWrite s .cport (sramOf (rd64 s (Reg.CHN_SQBASE0 + 32 * n)) + 64 * t) x.data
          if h : n < 64 then .done (doDbSqtail .cport ⟨n, h⟩ (word ((t + 1) % size)) s) stOK [] else .done s stNORES []

/-- REAP. -/
def doCpReap (m : PortCmd) (s : State) : State :=
  cptCmd s 0xC3 m false false
    { pOk := chanP
      lOk := fun lc le => lc == 0 && (match le with | some n => n % 16 == 1 && decide (17 ≤ n) && decide (n ≤ 241) | none => false)
      iso := fun p _ le => ⟨p / 256, [], le.getD 0 / 16⟩, fixed := some 0
      card := fun d =>
        let k := leNat ((d.drop 1).take 1)
        if d.length = 2 && 1 ≤ k && k ≤ 15 then some ⟨leNat (d.take 1), [], k⟩ else none }
    fun s x =>
      let n := x.a
      if !cportChan s n then .done s stNORES []
      else
        let size := cqSize s n
        let h := cqHead s n
        let c := min x.n ((cqTail s n + size - h) % size)
        let base := sramOf (rd64 s (Reg.CHN_CQBASE0 + 32 * n))
        let at_ (j : Nat) : Nat := base + 16 * ((h + j) % size)
        match (List.range c).find? fun j => poisoned s (at_ j) 16 with
        | some j => cptRead s (at_ j) 16
        | none =>
          let bs := (List.range c).flatMap fun j => sramRead s (at_ j) 16
          let s := wr s (dbReg n 4) (word ((h + c) % size))
          .done s stOK ([byte c] ++ bs ++ zeros (16 * (x.n - c)))

/-! ### STATUS (R398) -/

/-- The status block. -/
def statusBlock (s : State) : Bytes :=
  let q := rd s Reg.CPT_PSEQ
  let w := rd s Reg.CPT_WIN
  let d := cptDelay s
  let flags := b2n (bit (rd s Reg.CPT_READY) 0) + 2 * b2n (cptBit s 28) + 4 * b2n s.cpt.lockRec.hash.isSome + 8 * b2n s.cpt.job.isSome +
    16 * b2n (cptBit s 25) + 32 * b2n (bit (rd s Reg.CPT_CFG) 2)
  [1#8, byte (cptMode s), byte flags, byte (cptAddr s)] ++ leBytes 2 (fld q 31 16) ++ leBytes 1 (fld q 7 0) ++ leBytes 1 (fld q 15 8) ++
    leBytes 4 (if d = 0 then s.cpt.retry else d) ++ leBytes 4 (w.toNat / 256 * 256) ++ leBytes 2 (fld w 7 0 + 1) ++ [byte (lcode s), 0#8] ++
    serial ++ zeros 4

/-- STATUS. -/
def doCpStatus (m : PortCmd) (s : State) : State :=
  cptCmd s 0xCA m true true
    { pOk := zeroP, lOk := fun lc le => lc == 0 && decide (le = some 40), iso := fun _ _ _ => ⟨0, [], 0⟩, fixed := some 40
      card := fun d => if d.isEmpty then some ⟨0, [], 0⟩ else none }
    fun s _ => .done s stOK (statusBlock s)

/-! ### Persistent commands (R399 to R404) -/

/-- The lock record in the NV store's system records. -/
def lockPages (r : LockRec) : List NvWrite :=
  recordPages 10 0 ((r.hash.getD (zeros 32)) ++ leBytes 1 (b2n r.hash.isSome) ++ leBytes 1 r.fails ++ leBytes 2 r.pseq ++ leBytes 1 r.pstat)

/-- A transaction of a persistent command joins the queue. -/
def lockSubmit (s : State) (code : Nat) (data : Bytes) (status : Nat) (next : LockRec) (second : Bool) : State × Nat :=
  let (s, st) := txnSubmit s 2 s.cpt.refs next.pseq (lockPages next)
  if st ≠ stOK then (s, st)
  else (setCpt s { s.cpt with refs := s.cpt.refs + 1, job := some { code := code, data := data, status := status, next := next, second := second, asked := true } }, stOK)

/-- The PSEQ of the next persistent command. -/
def nextPseq (s : State) : Nat := (fld (rd s Reg.CPT_PSEQ) 31 16 + 1) % 65536

/-- A persistent command begins: refused while its write may not start, with the charge time as the hint. -/
def persist (s : State) (prot : Bool) (code : Nat) (data : Bytes) (status : Nat) (next : LockRec) : PortEnd :=
  let (s, g) := nvGate s prot
  if g ≠ stOK then .done (setCpt s { s.cpt with retry := if g = stBUSY then chargeMs s else s.cpt.retry }) g []
  else match lockSubmit s code data status next false with
    | (s, 0) => .runs s
    | (s, st) => .done s st []

/-- The hash of a password (R399). -/
def pwHash (pw : Bytes) : Bytes := sha256 (serial ++ pw)

/-- SET_PASSWORD (R400). -/
def doSetPassword (m : PortCmd) (s : State) : State :=
  cptCmd s 0xE1 m false false (dataForm 16) fun s x =>
    if x.data = zeros 16 then .done s stBADPROF []
    else persist s false 0xE1 x.data stOK { s.cpt.lockRec with hash := some (pwHash x.data), pseq := nextPseq s, pstat := stOK }

/-- The first transaction of UNLOCK and CLEAR_PASSWORD counts a failure (R400). -/
def countFail (s : State) (code : Nat) (pw : Bytes) : PortEnd :=
  let r := s.cpt.lockRec
  persist s false code pw stAUTH { r with fails := min 255 (r.fails + 1), pseq := nextPseq s, pstat := stAUTH }

/-- CLEAR_PASSWORD (R400). -/
def doClearPassword (m : PortCmd) (s : State) : State :=
  cptCmd s 0xE2 m false false (dataForm 16) fun s x =>
    if s.cpt.lockRec.hash.isNone then .done s stOK [] else countFail s 0xE2 x.data

/-- UNLOCK (R400, R401). -/
def doCpUnlock (m : PortCmd) (s : State) : State :=
  cptCmd s 0xE3 m false true (dataForm 16) fun s x =>
    if s.cpt.lockRec.hash.isNone then .done (wrBit s Reg.CPT_STAT 28 false) stOK []
    else if cptDelay s ≠ 0 then .done s stBUSY []
    else countFail s 0xE3 x.data

/-- LOCK (R399). -/
def doLockPort (m : PortCmd) (s : State) : State :=
  cptCmd s 0xE4 m true true (dataForm 0) fun s _ => .done (wrBit s Reg.CPT_STAT 28 true) stOK []

/-- FORCE_ERASE (R402). -/
def doForceErase (m : PortCmd) (s : State) : State :=
  cptCmd s 0xEE m false true (dataForm 20) fun s x =>
    let c := lcode s
    if !bit (rd s Reg.CPT_CFG) 2 then .done s stPROT []
    else if x.data ≠ serial ++ [0x45#8, 0x52#8, 0x41#8, 0x53#8] then .done s stBADPROF []
    else if c = 1 || c = 5 then .done s stPROT []
    else if s.lcs.isSome then .done (setCpt s { s.cpt with retry := 0 }) stBUSY []
    else persist s (c == 3) 0xEE x.data stOK { hash := none, fails := 0, pseq := nextPseq s, pstat := stOK }

/-- A persistent command ends: CPT_PSEQ shows it, PBUSY clears, and a host that waits in ISO mode is answered. -/
def persistEnd (s : State) (j : CptJob) (st : Nat) : State :=
  let s := setCpt (showPseq s j.next.pseq s.cpt.lockRec.fails st) { s.cpt with job := none }
  if j.asked && cptLive s 1 then isoAnswer s j.code st [] else s

/-- FORCE_ERASE has been committed (R402): in OWNED its transition begins, else the checkpoints are erased. -/
def forceErased (s : State) : State :=
  let s := cptRaise s 5
  if lcode s = 3 then lcsBurn s (if s.otp.round < 15 then 2 else 3) none [] else eraseRegion s 7

/-- PERSIST_DONE: the transaction of a persistent command has ended (R400, R404). -/
def doPersistDone (s : State) : State :=
  match s.cpt.job with
  | none => s
  | some j =>
    match takeDone s (.txn 2 (s.cpt.refs - 1)) with
    | none => s
    | some (st, s) =>
      if st ≠ stOK then persistEnd s j st
      else
        let s := setCpt s { s.cpt with lockRec := j.next }
        if j.code = 0xEE then persistEnd (forceErased s) j stOK
        else if j.code = 0xE1 then persistEnd s j stOK
        else if j.second then persistEnd (if j.code = 0xE3 then wrBit s Reg.CPT_STAT 28 false else s) j stOK
        else if s.cpt.lockRec.hash = some (pwHash j.data) then
          let next := { s.cpt.lockRec with hash := if j.code = 0xE2 then none else s.cpt.lockRec.hash, fails := 0, pstat := stOK }
          match lockSubmit s j.code j.data stOK next true with
          | (s, 0) => setCpt s { s.cpt with job := s.cpt.job.map fun k => { k with asked := j.asked } }
          | (s, st) => persistEnd s j st
        else persistEnd (cptRaise (setCpt s { s.cpt with failAt := s.tick }) 4) j stAUTH

/-- WTX_REQUEST: the host is kept waiting for a persistent command (R393). -/
def doWtxRequest (s : State) : State :=
  match s.cpt.job with
  | some j =>
    if j.asked && cptLive s 1 then
      emit s (.contact (if fld (rd s Reg.CPT_STAT) 15 12 = 0 then [0x60#8] else [0x00#8, 0xC3#8, 0x01#8, 0x01#8, 0xC3#8]))
    else s
  | none => s

/-! ### Link commands of the card bus (R408 to R411) -/

/-- Whether the bus's link commands are received: in card-bus mode and not asleep. -/
def busUp (s : State) : Bool := cptLive s 2 && !cptBit s 24 && awake s

/-- A broadcast frame whose EDC is right; a wrong one is counted. -/
def broadcast (s : State) (f : CardFrame) (k : State → State) : State :=
  if !busUp s || f.addr ≠ 0#8 then s else if f.good then k s else bumpSat s Reg.CPT_ERRCNT 15 8

/-- A frame addressed to this module; a wrong EDC is answered with BAD_PROFILE. -/
def addressed (s : State) (code : Nat) (f : CardFrame) (k : State → State) : State :=
  if !busUp s || cptAddr s = 0 || f.addr.toNat ≠ cptAddr s then s
  else if f.good then k s else cardAnswer (bumpSat s Reg.CPT_ERRCNT 15 8) code stBADPROF []

/-- A command that is only broadcast, addressed to this module: answered with BAD_PROFILE. -/
def onlyBroadcast (s : State) (code : Nat) (f : CardFrame) (k : State → State) : State :=
  if f.addr = 0#8 then broadcast s f k else addressed s code f fun s => cardAnswer s code stBADPROF []

/-- IDENTIFY: `line` is what CIO shows over the 128 bits; the module stays armed where it released no bit that it sampled low (R409). -/
def doCbIdentify (f : CardFrame) (line : BitVec 128) (s : State) : State :=
  onlyBroadcast s 0x01 f fun s =>
    if cptAddr s ≠ 0 then s
    else
      let won := decide ((BitVec.ofNat 128 (beNat serial)) &&& ~~~line = 0#128)
      let s := setCpt s { s.cpt with armed := won }
      if won then emit s (.contact serial) else s

/-- ASSIGN (R408). -/
def doCbAssign (f : CardFrame) (s : State) : State :=
  onlyBroadcast s 0x02 f fun s =>
    let a := leNat (f.data.drop 16)
    if !s.cpt.armed || f.data.length ≠ 17 || f.data.take 16 ≠ serial || a = 0 || 15 < a then s
    else cardAnswer (wrFld s Reg.CPT_STAT 19 16 a) 0x02 stOK []

/-- RELEASE (R408). -/
def doCbRelease (f : CardFrame) (s : State) : State :=
  onlyBroadcast s 0x03 f fun s =>
    setCpt (wrBit (wrFld s Reg.CPT_STAT 19 16 0) Reg.CPT_STAT 25 false) { s.cpt with swAt := none }

/-- SWITCH (R410). -/
def doCbSwitch (f : CardFrame) (s : State) : State :=
  addressed s 0x09 f fun s =>
    if f.data = [1#8] then setCpt (cardAnswer s 0x09 stOK []) { s.cpt with swAt := some s.tick } else cardAnswer s 0x09 stBADPROF []

/-- The pattern of CHECK. -/
def checkPattern : Bytes := [0x00#8, 0xFF#8, 0x55#8, 0xAA#8, 0x0F#8, 0xF0#8, 0x5A#8, 0xA5#8]

/-- CHECK: within 10 ms of SWITCH it confirms class 1, and in class 1 it is echoed (R408, R410). -/
def doCbCheck (f : CardFrame) (s : State) : State :=
  addressed s 0x0A f fun s =>
    if f.data ≠ checkPattern then cardAnswer s 0x0A stBADPROF []
    else match s.cpt.swAt with
      | some t =>
        if s.tick ≤ t + 10000 then
          cptRaise (cardAnswer (setCpt (wrBit s Reg.CPT_STAT 25 true) { s.cpt with swAt := none }) 0x0A stOK checkPattern) 2
        else s
      | none => if cptBit s 25 then cardAnswer s 0x0A stOK checkPattern else cardAnswer s 0x0A stBADPROF []

/-- SWITCH_TIMEOUT (R410). -/
def doSwitchTimeout (s : State) : State :=
  if s.cpt.swAt.isNone then s else cptRaise (setCpt (wrBit s Reg.CPT_STAT 25 false) { s.cpt with swAt := none }) 3

/-- The contact port goes to sleep, and asks for SLEEP where SLEEP_EN = 1 (R411). -/
def cptSleep (s : State) : State :=
  let s := setCpt (wrBit (wrBit s Reg.CPT_STAT 24 true) Reg.CPT_STAT 25 false) { s.cpt with swAt := none }
  let s := cptRaise s 6
  if bit (rd s Reg.CPT_CFG) 3 then (sleepAsk s).1 else s

/-- SLEEP (R411). -/
def doCbSleep (f : CardFrame) (s : State) : State :=
  if f.addr = 0#8 then broadcast s f fun s => if f.data.isEmpty then cptSleep s else s
  else addressed s 0x0B f fun s =>
    if f.data.isEmpty then cptSleep (cardAnswer s 0x0B stOK []) else cardAnswer s 0x0B stBADPROF []

/-- WAKE: without a response; it wakes the device from SLEEP with WAKECFG.CBUS = 1 (R411, R526). -/
def doCbWake (f : CardFrame) (s : State) : State :=
  if !cptLive s 2 || !cptBit s 24 || !f.good || !f.data.isEmpty || !(f.addr = 0#8 || (cptAddr s ≠ 0 && f.addr.toNat = cptAddr s)) then s
  else
    let s := cptRaise (wrBit s Reg.CPT_STAT 24 false) 6
    if bit (rd s Reg.PMU_WAKECFG) 1 then wakeFrom s 2 else s

/-- FRAME_GAP_TIMEOUT (R406). -/
def doFrameGapTimeout (s : State) : State := if cptLive s 2 then bumpSat s Reg.CPT_ERRCNT 7 0 else s

/-! ### The supply of the port (R388, R561) -/

/-- CVCC_LOSS: the port stops driving and answering, and has no mode until it selects one again. -/
def doCvccLoss (s : State) : State :=
  let s := if s.cpt.power then cptDrop s else s
  setCpt s { s.cpt with power := false }

/-- CVCC_RETURN: mode selection starts where CRST_N is already high. -/
def doCvccReturn (s : State) : State := if s.cpt.power then s else setCpt s { s.cpt with power := true, choosing := s.cpt.crst }

/-! ### The commands -/

/-- CRST_N_RISE (R388). -/
def execCrstNRise (s : State) : Host.Outcome State Fault Refusal := finish s (doCrstNRise s)

/-- CRST_N_FALL (R388). -/
def execCrstNFall (s : State) : Host.Outcome State Fault Refusal := finish s (doCrstNFall s)

/-- MODE_SELECT (R388). -/
def execModeSelect (cdat1 : Bool) (s : State) : Host.Outcome State Fault Refusal := finish s (doModeSelect cdat1 s)

/-- ATR (R390). -/
def execAtr (inRange : Bool) (s : State) : Host.Outcome State Fault Refusal := finish s (doAtr inRange s)

/-- PPS (R391). -/
def execPps (m : Bytes) (s : State) : Host.Outcome State Fault Refusal := finish s (doPps m s)

/-- WRITE_BUF (R395). -/
def execWriteBuf (m : PortCmd) (s : State) : Host.Outcome State Fault Refusal := finish s (doWriteBuf m s)

/-- READ_BUF (R395). -/
def execReadBuf (m : PortCmd) (s : State) : Host.Outcome State Fault Refusal := finish s (doReadBuf m s)

/-- SUBMIT (R397). -/
def execCpSubmit (m : PortCmd) (s : State) : Host.Outcome State Fault Refusal := finish s (doCpSubmit m s)

/-- REAP (R397). -/
def execCpReap (m : PortCmd) (s : State) : Host.Outcome State Fault Refusal := finish s (doCpReap m s)

/-- STATUS (R398). -/
def execCpStatus (m : PortCmd) (s : State) : Host.Outcome State Fault Refusal := finish s (doCpStatus m s)

/-- SET_PASSWORD (R400). -/
def execSetPassword (m : PortCmd) (s : State) : Host.Outcome State Fault Refusal := finish s (doSetPassword m s)

/-- CLEAR_PASSWORD (R400). -/
def execClearPassword (m : PortCmd) (s : State) : Host.Outcome State Fault Refusal := finish s (doClearPassword m s)

/-- UNLOCK (R400). -/
def execCpUnlock (m : PortCmd) (s : State) : Host.Outcome State Fault Refusal := finish s (doCpUnlock m s)

/-- LOCK_PORT (R399). -/
def execLockPort (m : PortCmd) (s : State) : Host.Outcome State Fault Refusal := finish s (doLockPort m s)

/-- FORCE_ERASE (R402). -/
def execForceErase (m : PortCmd) (s : State) : Host.Outcome State Fault Refusal := finish s (doForceErase m s)

/-- PERSIST_DONE (R404). -/
def execPersistDone (s : State) : Host.Outcome State Fault Refusal := finish s (doPersistDone s)

/-- WTX_REQUEST (R393). -/
def execWtxRequest (s : State) : Host.Outcome State Fault Refusal := finish s (doWtxRequest s)

/-- IDENTIFY (R409). -/
def execCbIdentify (f : CardFrame) (line : BitVec 128) (s : State) : Host.Outcome State Fault Refusal := finish s (doCbIdentify f line s)

/-- ASSIGN (R408). -/
def execCbAssign (f : CardFrame) (s : State) : Host.Outcome State Fault Refusal := finish s (doCbAssign f s)

/-- CB_RELEASE (R408). -/
def execCbRelease (f : CardFrame) (s : State) : Host.Outcome State Fault Refusal := finish s (doCbRelease f s)

/-- SWITCH (R410). -/
def execCbSwitch (f : CardFrame) (s : State) : Host.Outcome State Fault Refusal := finish s (doCbSwitch f s)

/-- CHECK (R410). -/
def execCbCheck (f : CardFrame) (s : State) : Host.Outcome State Fault Refusal := finish s (doCbCheck f s)

/-- SWITCH_TIMEOUT (R410). -/
def execSwitchTimeout (s : State) : Host.Outcome State Fault Refusal := finish s (doSwitchTimeout s)

/-- CB_SLEEP (R411). -/
def execCbSleep (f : CardFrame) (s : State) : Host.Outcome State Fault Refusal := finish s (doCbSleep f s)

/-- CB_WAKE (R411). -/
def execCbWake (f : CardFrame) (s : State) : Host.Outcome State Fault Refusal := finish s (doCbWake f s)

/-- FRAME_GAP_TIMEOUT (R406). -/
def execFrameGapTimeout (s : State) : Host.Outcome State Fault Refusal := finish s (doFrameGapTimeout s)

/-- CVCC_LOSS (R561). -/
def execCvccLoss (s : State) : Host.Outcome State Fault Refusal := finish s (doCvccLoss s)

/-- CVCC_RETURN (R388). -/
def execCvccReturn (s : State) : Host.Outcome State Fault Refusal := finish s (doCvccReturn s)

end Sys2Proof.Machine
end

