-- ==== Sys2Proof/Machine/Pcie.lean ====
section
/-! DEFINITION. PCIe (R412 to R420): the link, its resets, bus mastering, MSI-X and the mailbox. -/

namespace Sys2Proof.Machine

open Sys2Proof

/-- PCIe replaced. -/
def setPcie (s : State) (x : Pcie) : State := { s with pcie := x }

/-- Pending vectors that may be sent now are sent, and their pending bits clear (R416). -/
def msixFlush (s : State) : State :=
  if !msixOpen s.pcie then s
  else
    let go := (List.range 64).filter fun v => s.router.pba.getLsbD v && !vecMasked s.pcie v
    let left := go.foldl (fun b v => b &&& ~~~ (BitVec.ofNat 64 (2 ^ v))) s.router.pba
    { s with router := { s.router with pba := left, sent := s.router.sent ++ go.map Msg.msix } }

/-- The configuration space at its reset values: D0, Bus Master Enable and the MSI-X controls cleared, every vector masked (R415, R416). -/
def pcieConfig (s : State) : State :=
  { s with pcie := { s.pcie with bme := false, msixEn := false, fmask := false, clkPm := false, d3hot := false, msixTab := [] }
           router := { s.router with pba := 0#64 } }

/-- PERST_N_FALL: an HIR of PCIe, with event 896 (R415). -/
def doPerstNFall (s : State) : State :=
  if s.pcie.perst then s
  else
    let s := pcieConfig (pcieHir s 0)
    setPcie s { s.pcie with perst := true }

/-- PERST_N_RISE: training may start; a wake source with WAKECFG.PERST = 1 (R414, R526). -/
def doPerstNRise (s : State) : State :=
  if !s.pcie.perst then s
  else
    let s := setPcie s { s.pcie with perst := false }
    if bit (rd s Reg.PMU_WAKECFG) 2 then wakeFrom s 3 else s

/-- FLR: an HIR of PCIe, with event 896; the link stays (R415). -/
def doFlr (s : State) : State :=
  if !s.pcie.linkUp then s
  else
    let p := s.pcie
    let s := pcieConfig (pcieHir s 0)
    setPcie s { s.pcie with linkUp := true, width := p.width, speed := p.speed }

/-- PCIE_LINK_UP: the link reaches L0 at a width and a speed, once boot step 1 has brought up the rails; event 897 (R414, R419). -/
def doPcieLinkUp (width : Fin 3) (speed : Fin 4) (s : State) : State :=
  if s.pcie.perst || s.pcie.linkUp || !awake s || decide (s.boot.steps.head? = some 1) || width = 0 || speed = 0 then s
  else raise (setPcie s { s.pcie with linkUp := true, l1 := false, width := width.val, speed := speed.val }) 0x39 1

/-- PCIE_LINK_DOWN: an HIR of PCIe, with event 898, unless PERST_N is asserted (R415). -/
def doPcieLinkDown (s : State) : State := if s.pcie.perst then s else pcieLost s

/-- D3HOT_ENTRY (R415). -/
def doD3hotEntry (s : State) : State := if s.pcie.linkUp then setPcie s { s.pcie with d3hot := true } else s

/-- D3HOT_EXIT (R415). -/
def doD3hotExit (s : State) : State := if s.pcie.linkUp then setPcie s { s.pcie with d3hot := false } else s

/-- BUS_MASTER_ENABLE: host writes that were held go out, and pending messages are sent (R413, R416). -/
def doBusMasterEnable (s : State) : State :=
  if !s.pcie.linkUp then s
  else msixFlush { s with out := s.out ++ s.held, held := [], pcie := { s.pcie with bme := true } }

/-- BUS_MASTER_DISABLE (R413). -/
def doBusMasterDisable (s : State) : State := if s.pcie.linkUp then setPcie s { s.pcie with bme := false } else s

/-- ASPM_STATE_CHANGE: the link enters or leaves L1, with event 899 (R417). -/
def doAspmStateChange (l1 : Bool) (s : State) : State :=
  if !s.pcie.linkUp || s.pcie.l1 == l1 then s else raise (setPcie s { s.pcie with l1 := l1 }) 0x39 3

/-- The host writes HIF_H2D: the mailbox shows the value, the doorbell of PCI_CFG rings, and the boot ROM in ROM service takes the word;
a command word with an OP that R517 does not list empties the mailbox (R419, R517). -/
def h2dWrite (s : State) (v : Word) : State :=
  let s := wr (wr s Reg.HIF_H2D v) Reg.PCI_H2D v
  let c := rd s Reg.PCI_CFG
  let s := if bit c 4 then wrBit s Reg.EVR_SWDB (fld c 3 0) true else s
  if s.boot.rom && s.boot.mail.length < 3 then
    let drop := s.boot.mail.length == 2 && !(1 ≤ fld v 31 24 && fld v 31 24 ≤ 6)
    { s with boot := { s.boot with mail := if drop then [] else s.boot.mail ++ [v] } }
  else s

/-- HIF_H2D_WRITE (R419). -/
def doHifH2dWrite (v : Word) (s : State) : State := if inert s .pcie then s else h2dWrite s v

/-- A DWORD of the MSI-X table written: the vector controls keep only the mask bit, and the lower address its alignment (R416). -/
def msixWrite (s : State) (k : Nat) (v : Word) : State :=
  let w := if k % 4 = 3 then v &&& 1#32 else if k % 4 = 0 then v &&& 0xFFFFFFFC#32 else v
  msixFlush (setPcie s { s.pcie with msixTab := mset (if k % 4 = 3 then 1#32 else 0#32) s.pcie.msixTab k w })

/-- A DWORD of the MSI-X table. -/
def msixRead (s : State) (k : Nat) : Word := mget (if k % 4 = 3 then 1#32 else 0#32) s.pcie.msixTab k

/-- MSIX_UNMASK: the host writes a vector's mask, or MSI-X Enable and Function Mask (R56, R416). -/
def doMsixUnmask (c : MsixCtl) (s : State) : State :=
  match c with
  | .vector v masked => msixWrite s (4 * v.val + 3) (word (b2n masked))
  | .enable en fm => msixFlush (setPcie s { s.pcie with msixEn := en, fmask := fm })

/-! ### The commands -/

/-- PERST_N_FALL (R415). -/
def execPerstNFall (s : State) : Host.Outcome State Fault Refusal := finish s (doPerstNFall s)

/-- PERST_N_RISE (R414). -/
def execPerstNRise (s : State) : Host.Outcome State Fault Refusal := finish s (doPerstNRise s)

/-- FLR (R415). -/
def execFlr (s : State) : Host.Outcome State Fault Refusal := finish s (doFlr s)

/-- PCIE_LINK_UP (R414). -/
def execPcieLinkUp (width : Fin 3) (speed : Fin 4) (s : State) : Host.Outcome State Fault Refusal := finish s (doPcieLinkUp width speed s)

/-- PCIE_LINK_DOWN (R415). -/
def execPcieLinkDown (s : State) : Host.Outcome State Fault Refusal := finish s (doPcieLinkDown s)

/-- D3HOT_ENTRY (R415). -/
def execD3hotEntry (s : State) : Host.Outcome State Fault Refusal := finish s (doD3hotEntry s)

/-- D3HOT_EXIT (R415). -/
def execD3hotExit (s : State) : Host.Outcome State Fault Refusal := finish s (doD3hotExit s)

/-- BUS_MASTER_ENABLE (R413). -/
def execBusMasterEnable (s : State) : Host.Outcome State Fault Refusal := finish s (doBusMasterEnable s)

/-- BUS_MASTER_DISABLE (R413). -/
def execBusMasterDisable (s : State) : Host.Outcome State Fault Refusal := finish s (doBusMasterDisable s)

/-- ASPM_STATE_CHANGE (R417). -/
def execAspmStateChange (l1 : Bool) (s : State) : Host.Outcome State Fault Refusal := finish s (doAspmStateChange l1 s)

/-- HIF_H2D_WRITE (R419). -/
def execHifH2dWrite (v : Word) (s : State) : Host.Outcome State Fault Refusal := finish s (doHifH2dWrite v s)

/-- MSIX_UNMASK (R416). -/
def execMsixUnmask (c : MsixCtl) (s : State) : Host.Outcome State Fault Refusal := finish s (doMsixUnmask c s)

end Sys2Proof.Machine
end

