-- ==== Sys2Proof/Machine/Tamper.lean ====
section
/-! DEFINITION. The tamper unit (R50, R487 to R507): detectors, event filters, response levels, the engine halt, zeroization, evidence
and the tamper log. -/

namespace Sys2Proof.Machine

open Sys2Proof

/-- The tamper unit replaced. -/
def setTmp (s : State) (x : TmpSt) : State := { s with tmp := x }

/-! ### Levels (R494) -/

/-- A source of the enclosure, whose filter and OFF level lie in the VBAT domain. -/
def enclosure (src : Nat) : Bool := decide (21 ≤ src) && decide (src ≤ 28)

/-- What a level code comes to: 5 and 6 act as the reset level, 7 disables. -/
def levelOf (code rst : Nat) (src : Nat) : Option Nat :=
  if code = 5 || code = 6 then some rst
  else if code = 7 then (if src = 29 then some rst else none)
  else some code

/-- The limits of TEST and SCRAPPED. -/
def capLevel (s : State) (l : Nat) : Nat := if lcode s = 1 then min l 1 else if lcode s = 5 && l == 4 then 3 else l

/-- The 3-bit code of a source in its TMP_LEVEL word. -/
def levelCode (w : Word) (src : Nat) : Nat := fld w (3 * (src % 8) + 2) (3 * (src % 8))

/-- The applied level of a source by TMP_LEVEL. -/
def tmpLevel (s : State) (src : Nat) : Option Nat :=
  let a := Reg.TMP_LEVEL0 + 4 * (src / 8)
  (levelOf (levelCode (eff s a) src) (levelCode (resetVal a) src) src).map (capLevel s)

/-- The applied level of a source of the enclosure by SHD_OFFLVL. -/
def offLevel (s : State) (src : Nat) : Option Nat :=
  let k := src - 21
  (levelOf (fld (eff s Reg.SHD_OFFLVL) (3 * k + 2) (3 * k)) (fld (resetVal Reg.SHD_OFFLVL) (3 * k + 2) (3 * k)) src).map (capLevel s)

/-- The evidence class of a source (R487). -/
def evClass (src : Nat) : Nat := if src ≤ 2 then 0 else if src ≤ 19 then 1 else if src ≤ 28 then 2 else 3

/-! ### Key clearing and the halt (R497, R498) -/

/-- A vault command that waits for a lane ends with ABORTED. -/
def vaultAbort (s : State) : State :=
  match s.vlt.job with
  | some ⟨q, .sigs _⟩ => vEnd (setVlt s { s.vlt with job := none }) q stABORT 0 []
  | _ => s

/-- A big-number lane loses its job, its key and its secret registers. -/
def bneClear (s : State) (n : Nat) : State :=
  let s := bneEndCur s n stABORT
  setBne s n { getBne s n with key := none, regs := (getBne s n).regs.filter fun kv => !kv.2.secret }

/-- The sequencer loses its private state, and its signature and a seal in progress end with ABORTED. -/
def lmsAbort (s : State) : State :=
  let s := match s.lanes.lmsRun with
    | some x => lmsEnd (setLanes s { s.lanes with lmsRun := none }) x.req stABORT 0 0
    | none => s
  let s := setLanes s { s.lanes with lmsKeys := [] }
  match s.lanes.sealing with
  | some r => setLanes s { s.lanes with sealing := some { r with status := stABORT, sig := some [] } }
  | none => s

/-- The key-clearing response and the halt: STAT.HALT, and bit 30 of TMP_EVRAW for event 94. -/
def keyClear (s : State) : State :=
  let s := [0, 1, 2, 3].foldl (fun s n => laneClear s false n) s
  let s := [0, 1].foldl (fun s n => laneClear s true n) s
  let s := lmsAbort ([0, 1, 2, 3].foldl bneClear s)
  let s := vaultAbort (intakeAbort s.intake.frames.length s)
  let s := wrBit (wrBit s (hdr 0x50 Off.STAT) 8 true) Reg.TMP_EVRAW 30 true
  let down (s : State) (p : Nat) : State :=
    if (getPort s p).st = .hsk || (getPort s p).st = .active then leavePort s p .holdoff else s
  [0, 1, 2, 3].foldl down { s with lanes := { s.lanes with kuw := [] } }

/-- A level-2 response to an event of a source: the hold time starts again. -/
def level2 (s : State) (src : Nat) : State :=
  let s := keyClear s
  setTmp s { s.tmp with since := s.tick, l2src := linsert src s.tmp.l2src }

/-- Whether no source of the halt has its raw condition present (R499). -/
def condsAbsent (s : State) : Bool := s.tmp.l2src.all fun src => !bit (rd s Reg.TMP_RAWSTAT) src

/-- The halt is released, and the vault takes up what waits. -/
def haltEnd (s : State) : State :=
  vaultRun (wrBit (setTmp s { s.tmp with l2src := [] }) (hdr 0x50 Off.STAT) 8 false)

/-! ### Evidence and zeroization (R502 to R504) -/

/-- The bits burned of a class. -/
def evid (s : State) (c : Nat) : Nat := mget 0 s.tmp.evid c

/-- One more bit of a class burned; a full counter takes none. -/
def evidBurn (s : State) (c : Nat) : State :=
  showLasting (setTmp s { s.tmp with evid := mset 0 s.tmp.evid c (min 127 (evid s c + 1)) })

/-- Zeroization begins: the vault loses its roots, keys and sessions, and ZPEND is set. -/
def zeroize (s : State) : State :=
  let s := vaultClear s
  setTmp s { s.tmp with zpend := true, zero := if s.otp.scrapped then .erase else .burn }

/-- The action of level 3 or 4; TMR in the service window is a level-2 response (R501). -/
def harsh (s : State) (level : Nat) : State :=
  if level = 4 then zeroize s else if level = 3 then askReset s 3 else s

/-- The further actions of an event whose bit is burned, or whose counter is full; they wait for the bits that are still to burn, and
follow the highest level among them (R496). -/
def burnNext (s : State) (level : Nat) : State :=
  match s.tmp.burns with
  | [] => harsh s level
  | b :: rest => setTmp s { s.tmp with burns := { b with level := max b.level level } :: rest }

/-- EVIDENCE_BURN_DONE (R504). -/
def doEvidenceBurnDone (s : State) : State :=
  match s.tmp.burns with
  | [] => s
  | b :: rest => burnNext (setTmp (evidBurn s (evClass b.src)) { (evidBurn s (evClass b.src)).tmp with burns := rest }) b.level

/-- ZEROIZE_BURN_DONE: the SCRAPPED bit is verified (R502). -/
def doZeroizeBurnDone (s : State) : State :=
  if s.tmp.zero = .burn then setTmp { s with otp := { s.otp with scrapped := true } } { s.tmp with zero := .erase } else s

/-- ZEROIZE_ERASE_DONE: the region S helper data is erased (R502). -/
def doZeroizeEraseDone (s : State) : State :=
  if s.tmp.zero = .erase then
    setTmp (setVlt s { s.vlt with helper := s.vlt.helper.map fun h => { h with regionS := false } }) { s.tmp with zero := .tail }
  else s

/-- ZEROIZE_DONE: the rest of Any → SCRAPPED, event 144, and TMR (R502). -/
def doZeroizeDone (s : State) : State :=
  if s.tmp.zero = .tail then
    let s := raise (vaultErase s 2) 4 0
    askReset (setTmp s { s.tmp with zero := .idle, zpend := false }) 3
  else s

/-- TMR: a level-3 response takes effect; in the service window it is performed as level 2 (R500, R501, R513). -/
def doTmr (s : State) : State :=
  if !lmem 3 s.pmu.due then s
  else if s.pmu.window then keyClear (setPmu s { s.pmu with due := lerase 3 s.pmu.due })
  else dueResets s

/-! ### Filtered events (R495, R505, R506) -/

/-- The tamper log takes an event: it joins the newest entry, or becomes the newest of 8. -/
def logEvent (s : State) (src level : Nat) (off : Bool) : State :=
  let now := rd64 s Reg.AXS_RTC
  let add : List TLog := ⟨src, level, 1, off, now⟩ :: s.tmp.log.take 7
  let log := match s.tmp.log with
    | e :: rest => if e.src = src && e.level = level && now < e.rtc + 65536 then { e with count := min 255 (e.count + 1) } :: rest else add
    | [] => add
  setTmp s { s.tmp with log := log }

/-- A filtered event at its level (R495): a level of 2 or more burns a bit of its class before any action of level 3 or 4, unless the
counter is full (R504). -/
def respond (s : State) (src level : Nat) : State :=
  let s := logEvent s src level false
  if level = 0 then s
  else
    let s := wrBit s Reg.TMP_EVRAW src true
    if level = 1 then s
    else
      let s := level2 s src
      if evid s (evClass src) = 127 then burnNext s level
      else setTmp s { s.tmp with burns := s.tmp.burns ++ [⟨src, level⟩] }

/-- A filtered event in OFF (R506): levels 2 to 4 are counted in SHD_OFFLATCH, and level 4 sets ZPEND. -/
def offEvent (s : State) (src level : Nat) : State :=
  let s := logEvent s src level true
  if level < 2 then s
  else
    let k := src - 21
    let first := decide (rd s Reg.SHD_OFFLATCH0 = 0#32)
    let s := bumpSat s Reg.SHD_OFFLATCH0 (4 * k + 3) (4 * k)
    let s := if first then wr s (Reg.SHD_OFFLATCH0 + 4) (word (rtcSecs s)) else s
    if level = 4 then setTmp s { s.tmp with zpend := true } else s

/-- A filtered event of a source. In SLEEP it wakes the device, and then takes its level from TMP_LEVEL (R506). -/
def filtered (s : State) (src : Nat) : State :=
  if s.pmu.mode = .off then
    match offLevel s src with
    | some l => offEvent s src l
    | none => s
  else
    let s := if s.pmu.mode = .sleep || s.pmu.entering then wakeFrom s 4 else s
    match tmpLevel s src with
    | some l => respond s src (if l = 3 && s.pmu.window then 2 else l)
    | none => s

/-! ### Filters (R492) -/

/-- The filter register of a source. -/
def filtReg (src : Nat) : Nat := if enclosure src then Reg.SHD_FILT + 4 * (src - 21) else Reg.TMP_FILT + 4 * src

/-- The filters' time in µs: the device tick, with the time asleep. -/
def tmpNow (s : State) : Nat := s.tick + s.pmu.slept

/-- Whether a source is disabled, so that its detections are not counted. -/
def disabled (s : State) (src : Nat) : Bool :=
  if s.pmu.mode = .off || (s.pmu.mode = .sleep && enclosure src) then (offLevel s src).isNone else (tmpLevel s src).isNone

/-- A raw detection of a source. -/
def detect (s : State) (src : Nat) : State :=
  if disabled s src then s
  else
    let a := filtReg src
    let w := rd s a
    let win := fld w 15 0 * 1000
    let again := fld w 31 24 == 0 || (win != 0 && decide (mget 0 s.tmp.start src + win ≤ tmpNow s))
    let s := if again then setTmp s { s.tmp with start := mset 0 s.tmp.start src (tmpNow s) } else s
    let c := (if again then 0 else fld w 31 24) + 1
    if max 1 (fld w 23 16) ≤ c then filtered (wrFld s a 31 24 0) src else wrFld s a 31 24 c

/-- The raw condition of a source, present or not, in TMP_RAWSTAT, and in SHD_RAW for the enclosure. -/
def setRaw (s : State) (src : Nat) (b : Bool) : State :=
  let s := if enclosure src then wrBit s Reg.SHD_RAW (src - 21) b else s
  if s.pmu.mode = .off then s else wrBit s Reg.TMP_RAWSTAT src b

/-- A sample of a source: its condition shows, and where it is present the detection counts. -/
def sample (s : State) (src : Nat) (b : Bool) : State := if b then detect (setRaw s src true) src else setRaw s src false

/-! ### The detectors (R487 to R491) -/

/-- VMAIN_GLITCH: masked from power-fail until OFF; an excursion above 3.795 V counts once, and is present while it lasts (R490). -/
def doVmainGlitch (e : Excursion) (s : State) : State :=
  if s.pmu.mode = .off || s.pmu.window then s
  else match e with
    | .brief => detect s 0
    | .lasting => sample s 0 true
    | .ended => sample s 0 false

/-- CORE_RAIL_GLITCH. -/
def doCoreRailGlitch (s : State) : State := if awake s then detect s 1 else s

/-- The crystal's tolerance in per mille: 5 to 100. -/
def xtalTol (s : State) : Nat := min 100 (max 5 (fld (eff s Reg.TMP_XTALTOL) 7 0))

/-- The reference after a window within tolerance: it moves by one 256th of the difference, rounded toward the count (R489). -/
def xtalMove (ref count : Nat) : Nat := if ref ≤ count then ref + (count - ref + 255) / 256 else ref - (ref - count + 255) / 256

/-- XTAL_WINDOW: a 128 µs window ends (R489); the monitor has no reference before the end of boot step 1. -/
def doXtalWindow (count : BitVec 16) (s : State) : State :=
  if !awake s || decide (s.boot.steps.head? = some 1) then s
  else
    let c := count.toNat
    let ref := fld (rd s Reg.TMP_XTAL) 31 16
    let bad := c == 0 || decide (xtalTol s * ref < ((c - ref) + (ref - c)) * 1000)
    let s := wr s Reg.TMP_XTAL (word ((if bad then ref else xtalMove ref c) * 0x10000 + c))
    sample s 2 bad

/-- A signed byte as an integer. -/
def sbyte (n : Nat) : Int := if n < 128 then n else (n : Int) - 256

/-- The temperature limits in whole degrees, LOW and HIGH (R488). -/
def tempLimits (s : State) : Int × Int :=
  let w := eff s Reg.TMP_TEMPLIM
  let clamp (x : Int) : Int := min 100 (max (-45) x)
  let lo := clamp (sbyte (fld w 7 0))
  let hi := clamp (sbyte (fld w 15 8))
  if hi < lo then (-45, 100) else (lo, hi)

/-- TEMP_SAMPLE: a reading in 1/256 °C (R488). -/
def doTempSample (t : BitVec 16) (s : State) : State :=
  if s.pmu.mode = .off then s
  else
    let (lo, hi) := tempLimits s
    let s := wr s Reg.TMP_TEMP (word (0x80000000 + t.toNat))
    sample s 3 (decide (hi * 256 < t.toInt) || decide (t.toInt < lo * 256))

/-- LIGHT_SAMPLE (R487). -/
def doLightSample (n : Fin 16) (lux : Nat) (s : State) : State :=
  if awake s then sample s (4 + n.val) (decide (2 * max 1 (fld (eff s Reg.TMP_LIGHT) 7 0) < lux)) else s

/-- SHIELD_MISMATCH: which layers differed in a 1 µs interval (R487, R509). -/
def doShieldMismatch (l0 l1 : Bool) (s : State) : State :=
  if !awake s then s
  else
    let s := if l0 then bumpSat s Reg.SHD_SHIELD 15 0 else s
    let s := if l1 then bumpSat s Reg.SHD_SHIELD 31 16 else s
    sample s 20 (l0 || l1)

/-- MESH_MISMATCH (R487). -/
def doMeshMismatch (differs : Bool) (s : State) : State := sample s 21 differs

/-- LID_SWITCH_SAMPLE (R487). -/
def doLidSwitchSample (isOpen : Bool) (s : State) : State := sample s 22 isOpen

/-- CASE_SAMPLE: POL 0 is normally closed to GND (R487, R509). -/
def doCaseSample (n : Fin 2) (isOpen : Bool) (s : State) : State :=
  sample s (23 + n.val) (isOpen != bit (eff s Reg.SHD_CASECFG) n.val)

/-- The register of a loop: 15 bits, from SEED after a restart; a SEED of 0 acts as 1 (R491). -/
def loopReg (s : State) (n : Nat) : Nat :=
  match mget 0 s.tmp.lfsr n with
  | 0 => max 1 (fld (eff s (Reg.SHD_LOOPCFG + 4 * n)) 14 0)
  | r => r

/-- The next value for x^15 + x^14 + 1; the bit driven is bit 14. -/
def loopNext (r : Nat) : Nat := 2 * r % 32768 + (r / 16384 + r / 8192) % 2

/-- LOOP_SAMPLE: LOOPnB in static mode, or at the end of a bit in pseudo-random mode (R491). -/
def doLoopSample (n : Fin 4) (level : Bool) (s : State) : State :=
  let k := n.val
  let s := wrBit s Reg.SHD_RAW (8 + k) level
  if bit (eff s (Reg.SHD_LOOPCFG + 4 * k)) 31 then
    let r := loopReg s k
    let bad := level != decide (r / 16384 % 2 = 1)
    let s := setTmp s { s.tmp with lfsr := mset 0 s.tmp.lfsr k (loopNext r) }
    sample (if bad then bumpSat s Reg.SHD_LOOPERR (8 * k + 7) (8 * k) else s) (25 + k) bad
  else sample s (25 + k) (!level)

/-- SHADOW_MISMATCH: the copies of an RWS register are found at values that mismatch (R50); each SHADOW_STAT bit that sets is a raw
detection of source 29. -/
def doShadowMismatch (addr : Nat) (prim shad : Word) (s : State) : State :=
  let page := addr / 4096
  match codeOf page (addr % 4096) with
  | some (.rws, _) =>
    if shad = ~~~prim || !awake s then s
    else
      let was := bit (rd s (hdr page Off.SHADOW_STAT)) (rwsIndex addr)
      let s := { wr s addr prim with shadow := mset (~~~ (resetVal addr)) s.shadow addr shad }
      let s := raise (wrBit s (hdr page Off.SHADOW_STAT) (rwsIndex addr) true) page 30
      if was then s else detect s 29
  | _ => s

/-! ### Release (R499) -/

/-- TMP_CMD with OP RELEASE. -/
def tmpRelease (s : State) : State :=
  if halted s && !condsAbsent s then wr s Reg.TMP_CMDSTAT (word stLOCKED)
  else haltEnd (wr s Reg.TMP_CMDSTAT (word stOK))

/-- TMP_RELEASE (R499). -/
def doTmpRelease (i : Initiator) (s : State) : State := guardW s i Reg.TMP_CMD tmpRelease

/-- L2HOLD_EXPIRY: HOLD ms after the last level-2 event, once the conditions are absent (R499). -/
def doL2holdExpiry (s : State) : State :=
  let h := fld (eff s Reg.TMP_L2HOLD) 15 0
  if halted s && h != 0 && decide (s.tmp.since + h * 1000 ≤ s.tick) && condsAbsent s then haltEnd s else s

/-! ### The commands -/

/-- EVIDENCE_BURN_DONE (R504). -/
def execEvidenceBurnDone (s : State) : Host.Outcome State Fault Refusal := finish s (doEvidenceBurnDone s)

/-- ZEROIZE_BURN_DONE (R502). -/
def execZeroizeBurnDone (s : State) : Host.Outcome State Fault Refusal := finish s (doZeroizeBurnDone s)

/-- ZEROIZE_ERASE_DONE (R502). -/
def execZeroizeEraseDone (s : State) : Host.Outcome State Fault Refusal := finish s (doZeroizeEraseDone s)

/-- ZEROIZE_DONE (R502). -/
def execZeroizeDone (s : State) : Host.Outcome State Fault Refusal := finish s (doZeroizeDone s)

/-- TMR (R500). -/
def execTmr (s : State) : Host.Outcome State Fault Refusal := finish s (doTmr s)

/-- VMAIN_GLITCH (R490). -/
def execVmainGlitch (e : Excursion) (s : State) : Host.Outcome State Fault Refusal := finish s (doVmainGlitch e s)

/-- CORE_RAIL_GLITCH (R487). -/
def execCoreRailGlitch (s : State) : Host.Outcome State Fault Refusal := finish s (doCoreRailGlitch s)

/-- XTAL_WINDOW (R489). -/
def execXtalWindow (count : BitVec 16) (s : State) : Host.Outcome State Fault Refusal := finish s (doXtalWindow count s)

/-- TEMP_SAMPLE (R488). -/
def execTempSample (t : BitVec 16) (s : State) : Host.Outcome State Fault Refusal := finish s (doTempSample t s)

/-- LIGHT_SAMPLE (R487). -/
def execLightSample (n : Fin 16) (lux : Nat) (s : State) : Host.Outcome State Fault Refusal := finish s (doLightSample n lux s)

/-- SHIELD_MISMATCH (R487). -/
def execShieldMismatch (l0 l1 : Bool) (s : State) : Host.Outcome State Fault Refusal := finish s (doShieldMismatch l0 l1 s)

/-- MESH_MISMATCH (R487). -/
def execMeshMismatch (differs : Bool) (s : State) : Host.Outcome State Fault Refusal := finish s (doMeshMismatch differs s)

/-- LID_SWITCH_SAMPLE (R487). -/
def execLidSwitchSample (isOpen : Bool) (s : State) : Host.Outcome State Fault Refusal := finish s (doLidSwitchSample isOpen s)

/-- CASE_SAMPLE (R487). -/
def execCaseSample (n : Fin 2) (isOpen : Bool) (s : State) : Host.Outcome State Fault Refusal := finish s (doCaseSample n isOpen s)

/-- LOOP_SAMPLE (R491). -/
def execLoopSample (n : Fin 4) (level : Bool) (s : State) : Host.Outcome State Fault Refusal := finish s (doLoopSample n level s)

/-- SHADOW_MISMATCH (R50). -/
def execShadowMismatch (addr : Nat) (prim shad : Word) (s : State) : Host.Outcome State Fault Refusal := finish s (doShadowMismatch addr prim shad s)

/-- TMP_RELEASE (R499). -/
def execTmpRelease (i : Initiator) (s : State) : Host.Outcome State Fault Refusal := finish s (doTmpRelease i s)

/-- L2HOLD_EXPIRY (R499). -/
def execL2holdExpiry (s : State) : Host.Outcome State Fault Refusal := finish s (doL2holdExpiry s)

end Sys2Proof.Machine
end

