-- ==== Sys2Proof/Machine/Boot.lean ====
section
/-! DEFINITION. The boot ROM (R105, R106, R195, R299, R300, R502 to R507, R514 to R517, R522, R527): the boot steps, the restore
of the accounts, the hand-over, and ROM service. -/

namespace Sys2Proof.Machine

open Sys2Proof

/-- The boot record replaced. -/
def setBoot (s : State) (x : BootSt) : State := { s with boot := x }

/-- Whether the boot ROM runs its path. -/
def booting (s : State) : Bool := awake s && !s.boot.rom

/-- Whether a step is the one under way. -/
def atStep (s : State) (k : Nat) : Bool := booting s && decide (s.boot.steps.head? = some k)

/-- A step ends. -/
def stepDone (s : State) : State := setBoot s { s.boot with steps := s.boot.steps.drop 1 }

/-- Whether reconstruction has ended (R175). -/
def pufEnded (s : State) : Bool := decide (s.vlt.puf = .done) || decide (s.vlt.puf = .failed) || decide (s.vlt.puf = .unenrolled)

/-- BOOTSTEP of HIF_STAT: the step under way, and 9 once the supervisor runs. -/
def bootStep (s : State) : Nat :=
  match s.boot.steps with
  | [] => if s.mem.rom then 0 else 9
  | 4 :: rest => if pufEnded s then rest.headD 4 else 4
  | k :: _ => k

/-- ROM service is entered, with its step and reason in SYS_BOOTFAIL (R517). -/
def romEnter (s : State) (step reason : Nat) : State :=
  wr (setBoot s { s.boot with rom := true, mail := [] }) Reg.SYS_BOOTFAIL (word (0x80000000 + step * 0x100 + reason))

/-- After the last step that precedes step 7, a vault in FAILED or UNENROLLED leads to ROM service (R514, R517). -/
def vaultService (s : State) : State :=
  match s.vlt.puf with
  | .failed => romEnter s 4 1
  | .unenrolled => romEnter s 4 2
  | _ => s

/-- VLT_ROOTSTAT (R203). -/
def rootStat (s : State) : Word :=
  word (b2n s.vlt.rootS * 2 ^ 31 + b2n s.vlt.rootI * 2 ^ 30 + b2n (decide (s.vlt.puf = .unenrolled)) * 2 ^ 29 + lcode s * 0x100 + s.otp.round)

/-! ### Steps 1 to 6 -/

/-- BOOT_RAILS: steps 1 and 2. With a rail fault the boot ROM stays in step 1, with event 11; else the PLL is locked, the banks are
clear, and the crystal monitor has its reference (R489, R514). -/
def doBootRails (ok : Bool) (count : BitVec 16) (s : State) : State :=
  if !atStep s 1 then s
  else if !ok then raise s 1 3
  else
    let s := doBankClearDone (wrBit (wrBit s Reg.PMU_RAILS 1 true) (hdr 0 Off.STAT) 8 true)
    let s := wr s Reg.TMP_XTAL (word (count.toNat * 0x10001))
    setBoot s { s.boot with steps := s.boot.steps.drop 2 }

/-- The OFF latches (R507): one bit of class 2 burned for each count, but in TEST; TMP_EVRAW shows their sources and event 96. -/
def burnLatches (s : State) : State :=
  let w := rd s Reg.SHD_OFFLATCH0
  if w = 0#32 then s
  else
    let n := ((List.range 8).map fun k => fld w (4 * k + 3) (4 * k)).foldl (· + ·) 0
    let s := if lcode s = 1 then s else setTmp s { s.tmp with evid := mset 0 s.tmp.evid 2 (min 127 (evid s 2 + n)) }
    let s := (List.range 8).foldl (fun s k => if fld w (4 * k + 3) (4 * k) = 0 then s else wrBit s Reg.TMP_EVRAW (21 + k) true) s
    showLasting (wrBit (wr (wr s Reg.SHD_OFFLATCH0 0#32) (Reg.SHD_OFFLATCH0 + 4) 0#32) (Reg.TMP_EVRAW + 4) 0 true)

/-- Where a pending zeroization resumes (R503); none where none is pending. -/
def zeroResume (s : State) : Option ZState :=
  let helper := match s.vlt.helper with | some h => h.regionS | none => false
  if !s.tmp.zpend && !(s.otp.scrapped && helper) then none
  else if !s.otp.scrapped then some .burn
  else if helper then some .erase
  else some .tail

/-- What precedes step 4: a pending zeroization, which TMR follows; else the burns of the OFF latches, and step 4 begins where
the path has one. -/
def beforePuf (s : State) : State :=
  match zeroResume s with
  | some z => setTmp s { s.tmp with zpend := true, zero := z }
  | none =>
    let s := burnLatches s
    if s.boot.steps.head? = some 4 then pufStart s else s

/-- BOOT_SELFTEST: step 3; `fails` lists the pages whose known-answer test fails. -/
def doBootSelftest (fails : List (Fin 256)) (s : State) : State :=
  if !atStep s 3 then s
  else
    let s := doBankClearDone s
    let s := fails.foldl (fun s p => if hasTest p.val then setOos s p.val true else s) s
    let s := if s.vlt.rngStart && !outOfService s 6 then doDrbgReseedDone s else s
    beforePuf (stepDone s)

/-- BOOT_LIFECYCLE: step 5, after reconstruction has ended. A recorded transition whose bits are burned is completed, another is
discarded (R522). -/
def doBootLifecycle (s : State) : State :=
  if !atStep s 4 || !pufEnded s || !decide (s.tmp.zero = .idle) then s
  else
    let s := setBoot s { s.boot with steps := s.boot.steps.drop 2 }
    let s := match s.lcs with
      | some r => if r.burned then lcsComplete s r else { s with lcs := none }
      | none => s
    let b := match s.vlt.helper with | some h => !h.okA && h.okB | none => false
    let s := setBoot s { s.boot with flags := s.boot.flags + 16 * b2n b }
    if s.boot.steps.head? = some 6 then s else vaultService s

/-- Whether a copy of an account checkpoint shows VALID = 1. -/
def anyCheckpoint (s : State) : Bool :=
  s.nv.pages.any fun kv => regionOfSector (kv.1 / 32) == 7 && (bit (word (leNat ((kv.2.data.drop 9).take 1))) 0 ||
    bit (word (leNat ((kv.2.data.drop 137).take 1))) 0) && tagRtype kv.2 == 7

/-- BOOT_NV_RECOVERY: step 6. The power-down is judged by the daybook, the recovery writes are made or deferred, and the lock record
is loaded (R399, R470, R482). -/
def doBootNvRecovery (s : State) : State :=
  if !atStep s 6 then s
  else
    let unclean := if s.nv.started then !s.nv.clean else anyCheckpoint s
    let half := !s.nv.cut.isEmpty
    let back := (openBegin s s.nv.dseq).isSome
    let s := wr s Reg.NVC_RECOV (word (b2n unclean * 2 ^ 30))
    let s := if writeReady s then recoverWrites s else setNv s { s.nv with owed := true }
    let s := setBoot s { s.boot with flags := s.boot.flags + b2n unclean + 4 * b2n half + 8 * b2n back }
    let r := s.cpt.lockRec
    let s := showPseq s r.pseq r.fails r.pstat
    let s := if r.hash.isSome then wrBit s Reg.CPT_STAT 28 true else s
    vaultService (stepDone s)

/-! ### Step 7 (R515) -/

/-- An image of partition 0 copied into SRAM, with its entry, stack and version noted for the hand-over. -/
def loadSup (s : State) (m : Bytes) : State :=
  let a := (Config.imageField 3 m).toNat
  let s := if rangeSram a m.length then bankWrite s .ac0 a m else s
  setBoot s { s.boot with entry := Config.imageField 0 m, stack := Config.imageField 1 m, version := Config.imageField 2 m }

/-- Partitions 1 and 2, and the later valid trailer of partition 3, in SYS_IMGSEL. -/
def noteOthers (s : State) : State :=
  let s := [1, 2].foldl (fun s p => match selectImage s p with | some c => noteImage s p c | none => s) s
  match imgOrder s 3 with
  | b :: _ => noteImage s 3 (b, false)
  | [] => s

/-- BOOT_IMAGE_SELECT: step 7; only the full path loads MC. -/
def doBootImageSelect (s : State) : State :=
  if !atStep s 7 then s
  else match selectImage s 0 with
    | none => romEnter s 7 3
    | some c =>
      let m := (imageOf s 0 c.1).getD []
      let full := s.boot.steps.drop 1 == [8, 9]
      let s := loadSup (noteOthers (noteImage s 0 c)) m
      let s := wrWords s Reg.SYS_SUPHASH 8 (leNat (sha256 m))
      let s := if full then loadAssay s else s
      stepDone s

/-! ### Step 8 (R105, R106, R195) -/

/-- The part of an account in a checkpoint page. -/
def ckptPart (f : FPage) (a : Nat) : Bytes := ((f.data.drop (a % 2 * 128)).take 128 ++ zeros 128).take 128

/-- Whether a part shows VALID = 1. -/
def partShows (b : Bytes) : Bool := leNat ((b.drop 9).take 1) % 2 == 1

/-- Whether a part is a valid copy: its CRC matches and VALID = 1. -/
def partValid (b : Bytes) : Bool := partShows b && leNat (b.drop 0x7C) == (crc32 (b.take 0x7C)).toNat

/-- The part with the later CKPT_GEN. -/
def laterPart : List Bytes → Option Bytes
  | [] => none
  | b :: bs =>
    match laterPart bs with
    | none => some b
    | some c => if seqLater (leNat ((c.drop 0x78).take 4)) (leNat ((b.drop 0x78).take 4)) then some c else some b

/-- The pages written of a logical page of a region, valid or not. -/
def writtenPages (s : State) (r lid : Nat) : List (Nat × FPage) :=
  s.nv.pages.filter fun kv => regionOfSector (kv.1 / 32) == r && tagRtype kv.2 == r && tagLid kv.2 == lid

/-- What an account is restored from: its valid copy with the later CKPT_GEN; else a copy that shows VALID = 1, unchecked. Each copy
counts by its newest valid page, and a torn page by what was written. -/
def restorePart (s : State) (a : Nat) : Option (Bytes × Bool) :=
  let ps := writtenPages s 7 (a / 2)
  let newest (b : Bool) : List (Nat × FPage) :=
    (latest (ps.filter fun kv => decide (32768 ≤ kv.1) == b && pageValid s kv.1 kv.2)).toList
  let sound := (newest false ++ newest true).map fun kv => ckptPart kv.2 a
  let torn := (ps.filter fun kv => lmem kv.1 s.nv.bad).map fun kv => ckptPart kv.2 a
  match laterPart (sound.filter partValid) with
  | some b => some (b, true)
  | none => (laterPart ((sound ++ torn).filter partShows)).map fun b => (b, false)

/-- BADCOPY sets. -/
def badCopy (s : State) : State := wrBit s (hdr 0x18 Off.STAT) 12 true

/-- An account left out of the chains: EN = 0, RESTORE_FAULT = 1 and NEXT 0xFFFF (R105). -/
def leaveOut (s : State) (a : Nat) : State :=
  badCopy (acctPut (acctSetFlags s a [(1, false), (7, true)]) a 0x0C [0xFF#8, 0xFF#8])

/-- An account restored, with GAP after an unclean loss (R105, R106). -/
def restoreAcct (s : State) (a : Nat) : State :=
  match restorePart s a with
  | none => s
  | some (b, ok) =>
    let s := acctPut s a 0 (b ++ zeros 128)
    let s := if ok then s else badCopy (acctSetFlags s a [(1, false), (7, true)])
    let span := fld (rd s Reg.ACC_GAP) 15 0
    if bit (rd s (hdr 0x18 Off.STAT)) 10 && span != 0 && acctFlag s a 6 then
      acctPut (acctSetFlags s a [(5, true)]) a 0x70 (leBytes 8 ((acctFld s a 0x10 8 + span) % 2 ^ 64))
    else s

/-- A restored account linked at the end of its chain; the ninth of a bucket, and a repeated address, are left out (R105). -/
def relink (s : State) (a : Nat) : State :=
  let m := acctAddrOf s a
  let b := localBucket m
  let c := chainOf s b
  if 8 ≤ c.length || c.any fun x => decide (acctAddrOf s x = m) then leaveOut s a
  else
    let s := acctPut s a 0x0C [0xFF#8, 0xFF#8]
    match c.getLast? with
    | some l => acctPut s l 0x0C (leBytes 2 a)
    | none => setHead s b (a + 1)

/-- The logical pages written in a region, without repeats and rising. -/
def lidsOf (s : State) (r : Nat) : List Nat :=
  s.nv.pages.foldl (fun l kv => if regionOfSector (kv.1 / 32) == r && tagRtype kv.2 == r then linsert (tagLid kv.2) l else l) []

/-- A logical page of the account-key table loaded into bank 31; of a page without a valid version, both accounts lose PRESENT, PEND
and SUSPECT (R195). -/
def loadKeys (s : State) (lid : Nat) : State :=
  match newestPage s 6 lid with
  | some (_, f) => bankWrite s .intake (keyAddr (2 * lid)) ((f.data ++ zeros 192).take 192)
  | none =>
    if (writtenPages s 6 lid).any fun kv => lmem kv.1 s.nv.bad then
      badCopy ([2 * lid, 2 * lid + 1].foldl (fun s a => if acctFlag s a 0 then acctSetFlags s a [(3, false), (4, false)] else s) s)
    else s

/-- BOOT_RESTORE: step 8. -/
def doBootRestore (s : State) : State :=
  if !atStep s 8 then s
  else
    let unclean := decide (s.boot.flags % 2 = 1)
    let s := wrBit (wrBit s (hdr 0x18 Off.STAT) 9 true) (hdr 0x18 Off.STAT) 10 unclean
    let pages := (lidsOf s 7).filter (· < 512)
    let accts := pages.flatMap fun k => [2 * k, 2 * k + 1]
    let s := accts.foldl restoreAcct s
    let s := (accts.filter fun a => acctFlag s a 0).foldl relink s
    let s := ((lidsOf s 6).filter (· < 512)).foldl loadKeys s
    let s := setIntake s { s.intake with dirty := (pages.filter (pageDiffers s)).map fun k => (k, s.tick) }
    let bad := bit (rd s (hdr 0x18 Off.STAT)) 12
    let s := if unclean || bad then raise s 0x18 1 else s
    stepDone (setBoot s { s.boot with flags := s.boot.flags + 2 * b2n bad })

/-! ### Step 9 (R299, R300, R527) -/

/-- The hand-over block. -/
def handOverBlock (s : State) (suphash : Bytes) : Bytes :=
  ascii "JQHO" ++ [1#8, byte s.boot.code, byte (lcode s), byte s.otp.round] ++ serial ++ leBytes 4 (rootStat s).toNat ++
    leBytes 4 (rd s Reg.MCC_IMGSTAT).toNat ++ leBytes 4 s.boot.version.toNat ++ leBytes 4 s.boot.flags ++
    leBytes 8 (s.tick - s.boot.rails) ++ suphash ++ zeros 176

/-- The address of the hand-over block. -/
abbrev handOverAt : Nat := 0x1077FF00

/-- Control passes to the supervisor, in the state of R299. -/
def passControl (s : State) : State :=
  let suphash := leBytes 32 ((List.range 8).foldl (fun n k => n + (rd s (Reg.SYS_SUPHASH + 4 * k)).toNat * 2 ^ (32 * k)) 0)
  let s := bankWrite s .ac0 handOverAt (handOverBlock s suphash)
  let s := wr (wr s Reg.SYS_BOOTTIME (word (s.tick - s.boot.rails))) Reg.CORE_ENTRY s.boot.entry
  let s := wr s (hdr 0x63 Off.LOCK) 0#32
  let s := setBoot { s with
      ac0 := { Core.zero with run := .running, pc := s.boot.entry, g := mset 0#32 (mset 0#32 [] 0 (word handOverAt)) 15 s.boot.stack }
      mpu := { rgn := [(0, 0x10000000#32), (1, 0x1077FF00#32), (2, 0x80000007#32), (3, 0x10780000#32), (4, 0x107FFF00#32), (5, 0x80000003#32)]
               stk := [], gate := [] }
      mem := { s.mem with rom := false } } { s.boot with steps := [], warm := false }
  raise s 0 0

/-- HAND_OVER: step 9. The warm path first reloads the supervisor and compares it with SYS_SUPHASH; where they differ, the boot
goes on with steps 4, 5, 7 and 9 (R527). -/
def doHandOver (s : State) : State :=
  if !atStep s 9 || !decide (s.tmp.zero = .idle) then s
  else if !s.boot.warm then passControl s
  else
    let m := (imageOf s 0 (bit (rd s Reg.SYS_IMGSEL) 0)).getD []
    let h := (List.range 8).foldl (fun n k => n + (rd s (Reg.SYS_SUPHASH + 4 * k)).toNat * 2 ^ (32 * k)) 0
    if leNat (sha256 m) = h then passControl (loadSup s m)
    else pufStart (setBoot s { s.boot with steps := [4, 5, 7, 9], warm := false })

/-! ### ROM service (R517) -/

/-- The boot ROM writes a result to HIF_D2H and awaits the next command. -/
def romPost (s : State) (st : Nat) : State := wr (setBoot s { s.boot with mail := [] }) Reg.PCI_D2H (word (0x80000000 + st))

/-- A command whose work goes on in a unit, marked by a fourth word: 0 the NV controller, 1 the vault. -/
def romWork (s : State) (unit : Word) : State := setBoot s { s.boot with mail := s.boot.mail ++ [unit] }

/-- The status of a command whose work has ended is posted. -/
def romTick (s : State) : State :=
  match s.boot.rom, s.boot.mail with
  | true, [_, _, _, u] =>
    let r := rd s (if u = 0#32 then Reg.NVC_CMDSTAT else Reg.VLT_CMDSTAT)
    if bit r 31 then s else romPost s (fld r 7 0)
  | _, _ => s

/-- A ROM-service command of an OP: its buffer is read by bus mastering, and `k` executes it. While Bus Master Enable is 0, it waits. -/
def romCmd (s : State) (op : Nat) (d : DmaData) (k : State → Bytes → State) : State :=
  match s.boot.rom, s.boot.mail with
  | true, [_, _, c] =>
    if fld c 31 24 ≠ op || !s.pcie.linkUp || !s.pcie.bme then s
    else match d with
      | .data bs => k s ((bs ++ zeros (fld c 23 0)).take (fld c 23 0))
      | .timeout => romPost s stTIMEOUT
      | .error _ => romPost s stDOMAIN
  | _, _ => s

/-- A command of the NV controller, as from NVC_CMD. -/
def romNvc (s : State) (k : State → State) : State := romTick (romWork (k s) 0#32)

/-- ROM_IMG_ERASE. -/
def doRomImgErase (d : DmaData) (s : State) : State :=
  romCmd s 1 d fun s m =>
    if m.length ≠ 1 || 4 ≤ mfld m 0 1 then romPost s stNORES else romNvc s fun s => imgErase s (mfld m 0 1)

/-- ROM_IMG_WRITE. -/
def doRomImgWrite (d : DmaData) (s : State) : State :=
  romCmd s 2 d fun s m =>
    let n := m.length - 4
    if 4 ≤ mfld m 0 1 || mfld m 1 1 ≠ 0 || n = 0 || n % 256 ≠ 0 || 4096 < n then romPost s stNORES
    else match imgPages s (mfld m 0 1) (mfld m 2 2) (m.drop 4) with
      | none => romPost s stNORES
      | some ws =>
        let r := mfld m 0 1 + 1
        romNvc s fun s => nvcWrites (setNv s { s.nv with seqs := mset 0 s.nv.seqs r (mget 0 s.nv.seqs r + n / 256) }) r ws

/-- ROM_IMG_CLOSE. -/
def doRomImgClose (d : DmaData) (s : State) : State :=
  romCmd s 3 d fun s m =>
    if m.length ≠ 8 || 4 ≤ mfld m 0 1 || mfld m 1 3 ≠ 0 then romPost s stNORES
    else match imgClose s (mfld m 0 1) (mfld m 4 4) with
      | none => romPost s stNORES
      | some ws => romNvc s fun s => nvcWrites s (mfld m 0 1 + 1) ws

/-- ROM_UPDATE: as VLT UPDATE. -/
def doRomUpdate (d : DmaData) (s : State) : State :=
  romCmd s 4 d fun s m =>
    if !vaultUp s then romPost s stKEY
    else
      let q : VReq := { src := .page, dom := 0, op := 1, args := [m.length, 0, 0, 0], buf := 0, obuf := 0, olen := 0 }
      romTick (romWork (vUpdateMsg (wr s Reg.VLT_CMDSTAT 0x80000000#32) q m) 1#32)

/-- ROM_TRANSITION: as LCS TRANSITION; one that begins ends with the restart. -/
def doRomTransition (d : DmaData) (s : State) : State :=
  romCmd s 5 d fun s m =>
    if !vaultUp s then romPost s stKEY
    else if s.lcs.isSome then romPost s stBUSY
    else
      let (s, st) := lcsMessage s m
      if st = stOK then setBoot s { s.boot with mail := [] } else romPost s st

/-- ROM_RESTART. -/
def doRomRestart (s : State) : State :=
  match s.boot.rom, s.boot.mail with
  | true, [_, _, c] => if fld c 31 24 = 6 then start s 8 false else s
  | _, _ => s



/-! ### The commands -/

/-- BOOT_RAILS (R514). -/
def execBootRails (ok : Bool) (count : BitVec 16) (s : State) : Host.Outcome State Fault Refusal := finish s (doBootRails ok count s)

/-- BOOT_SELFTEST (R514). -/
def execBootSelftest (fails : List (Fin 256)) (s : State) : Host.Outcome State Fault Refusal := finish s (doBootSelftest fails s)

/-- BOOT_LIFECYCLE (R522). -/
def execBootLifecycle (s : State) : Host.Outcome State Fault Refusal := finish s (doBootLifecycle s)

/-- BOOT_NV_RECOVERY (R482). -/
def execBootNvRecovery (s : State) : Host.Outcome State Fault Refusal := finish s (doBootNvRecovery s)

/-- BOOT_IMAGE_SELECT (R515). -/
def execBootImageSelect (s : State) : Host.Outcome State Fault Refusal := finish s (doBootImageSelect s)

/-- BOOT_RESTORE (R514). -/
def execBootRestore (s : State) : Host.Outcome State Fault Refusal := finish s (doBootRestore s)

/-- HAND_OVER (R299). -/
def execHandOver (s : State) : Host.Outcome State Fault Refusal := finish s (doHandOver s)

/-- ROM_IMG_ERASE (R517). -/
def execRomImgErase (d : DmaData) (s : State) : Host.Outcome State Fault Refusal := finish s (doRomImgErase d s)

/-- ROM_IMG_WRITE (R517). -/
def execRomImgWrite (d : DmaData) (s : State) : Host.Outcome State Fault Refusal := finish s (doRomImgWrite d s)

/-- ROM_IMG_CLOSE (R517). -/
def execRomImgClose (d : DmaData) (s : State) : Host.Outcome State Fault Refusal := finish s (doRomImgClose d s)

/-- ROM_UPDATE (R517). -/
def execRomUpdate (d : DmaData) (s : State) : Host.Outcome State Fault Refusal := finish s (doRomUpdate d s)

/-- ROM_TRANSITION (R517). -/
def execRomTransition (d : DmaData) (s : State) : Host.Outcome State Fault Refusal := finish s (doRomTransition d s)

/-- ROM_RESTART (R517). -/
def execRomRestart (s : State) : Host.Outcome State Fault Refusal := finish s (doRomRestart s)

end Sys2Proof.Machine
end

