-- ==== Sys2Proof/Machine/CoProc.lean ====
section
/-! DEFINITION. The coprocessor instructions CP0 to CP5 (R325 to R331): submissions and their tickets, WAIT and POLL, tallies,
and tills. -/

namespace Sys2Proof.Machine

open Sys2Proof

/-- The frame of a coprocessor instruction of `len` bytes: the store buffer drains before it does anything (R325). -/
def cpInsn (s : State) (h : Head) (len : Nat) (body : State → Core → Word → State) : State :=
  insn s h (len + b2n h.check) fun _ next =>
    let s := drain s h.core
    body s (getCore s h.core) next

/-- A general register takes a word and the instruction retires. -/
def cpRet (s : State) (h : Head) (d : Nat) (v : Nat) (next : Word) : State :=
  retire s h.core (gset (getCore s h.core) d (word v)) next

/-! ### Submissions (R326, R329) -/

/-- A free ticket of a core, the lowest first. -/
def freeTicket (k : Core) : Option Nat := (List.range 16).find? fun t => (mget none k.tickets t).isNone

/-- A result word (R326): ACCEPTED or DONE, the ticket and the status. -/
def resultWord (t status : Nat) : Nat := 0x80000000 + t * 0x100 + status

/-- The block of a job, read under the domain of the core: the bytes, or the status that the job ends with. -/
def cpBlock (s : State) (dom a n : Nat) : State × (Nat ⊕ Bytes) :=
  if !banksUp s a n || !domOk s dom a n .load then (s, .inl stDOMAIN) else unitRead s dom a n

/-- A submission (R326): the checks in order, then the block of `size` bytes goes to its unit, whose completion lies at `off`. -/
def cpSubmitJob (s : State) (h : Head) (d r : Gpr) (size off : Nat) (unit : State → JobSrc → Nat → Bytes → Admit) : State :=
  cpInsn s h 3 fun s k next =>
    let a := (gget k r.val).toNat
    let dom := domOf k
    if a % 16 ≠ 0 then cpRet s h d.val stBADPROF next
    else if !rangeSram a (off + 16) then cpRet s h d.val stDOMAIN next
    else match freeTicket k with
      | none => cpRet s h d.val stBUSY next
      | some t =>
        let (id, s1) := fresh s
        let s1 := setCore s1 h.core { k with tickets := mset none k.tickets t (some { dom := dom, id := id, status := none }) }
        match cpBlock s1 dom a size with
        | (s1, .inl st) => cpRet (cpDone s1 h.core id a off dom st []) h d.val (resultWord t 0) next
        | (s1, .inr blk) =>
          match unit s1 (.cp h.core id a) dom blk with
          | .taken s2 => cpRet s2 h d.val (resultWord t 0) next
          | .refused st _ => cpRet s h d.val st next

/-- A vault command block (R329) joins the vault's queue of 8 (R204). -/
def vaultAdmit (s : State) (src : JobSrc) (dom : Nat) (blk : Bytes) : Admit :=
  if 8 ≤ s.vlt.queue.length then .refused stBUSY 0
  else
    let f (off n : Nat) : Nat := leNat ((blk.drop off).take n)
    .taken (vaultRun (setVlt s { s.vlt with queue := s.vlt.queue ++
      [{ src := src, dom := dom, op := f 0 1, args := [f 4 4, f 8 4, f 12 4, f 16 4], buf := f 20 4, obuf := f 24 4, olen := f 28 2 }] }))

/-- CP0 VCMD. -/
def doVcmd (h : Head) (d r : Gpr) (s : State) : State := cpSubmitJob s h d r 32 32 vaultAdmit

/-- CP1 AJOB: JFLAGS names the lane (R214). -/
def doAjob (h : Head) (d r : Gpr) (s : State) : State :=
  cpSubmitJob s h d r 48 jobOff fun s src dom blk => laneAdmit s false (bfld blk 1 1 / 64) src dom blk

/-- CP2 HJOB: JFLAGS names the lane (R238). -/
def doHjob (h : Head) (d r : Gpr) (s : State) : State :=
  cpSubmitJob s h d r 48 jobOff fun s src dom blk => laneAdmit s true (bfld blk 1 1 / 64 % 2) src dom blk

/-- CP2 LSIGN. -/
def doLsign (h : Head) (d r : Gpr) (s : State) : State := cpSubmitJob s h d r 32 32 lmsAdmit

/-- CP3 BJOB: JFLAGS names the lane (R272). -/
def doBjob (h : Head) (d r : Gpr) (s : State) : State :=
  cpSubmitJob s h d r 48 jobOff fun s src dom blk => bneAdmit s (bfld blk 4 1 / 64) src dom blk

/-- CP2 SEAL, of MC only: a request of MC joins the seal queue (R251, R329). -/
def doCp2Seal (h : Head) (d r : Gpr) (s : State) : State :=
  cpInsn s h 3 fun s k next =>
    if h.core ≠ .mc then excUndef s h
    else match sealRequest s (fld (gget k r.val) 3 0) with
      | some s => cpRet s h d.val stOK next
      | none => cpRet s h d.val stBUSY next

/-! ### Tickets (R327, R328) -/

/-- WAIT and POLL: a ticket that is done gives its status and is freed; a free one, or one of another domain, answers at once. -/
def cpCollect (s : State) (h : Head) (d r : Gpr) (waits : Bool) : State :=
  cpInsn s h 3 fun s k next =>
    let t := fld (gget k r.val) 3 0
    match mget none k.tickets t with
    | none => cpRet s h d.val (resultWord t stNORES) next
    | some tk =>
      if tk.dom ≠ domOf k then cpRet s h d.val (resultWord t stDOMAIN) next
      else match tk.status with
        | some st =>
          cpRet (setCore s h.core { k with tickets := mset none k.tickets t none }) h d.val (resultWord t st.toNat) next
        | none => if waits then s else cpRet s h d.val 0 next

/-- WAIT, function 0x3E of CP0 to CP3. -/
def doTickWait (h : Head) (_ : Fin 4) (d r : Gpr) (s : State) : State := cpCollect s h d r true

/-- POLL, function 0x3F of CP0 to CP3. -/
def doTickPoll (h : Head) (_ : Fin 4) (d r : Gpr) (s : State) : State := cpCollect s h d r false

/-- TICKET_DONE: the completion of the job that ended first reaches the banks and its ticket becomes done (R327). -/
def doTicketDone (s : State) : State :=
  match s.tickq with
  | [] => s
  | e :: rest => tickEnd { s with tickq := rest } e

/-! ### Tallies (R330) -/

/-- The frame of a CP4 instruction: UNDEF on AC0 and AC1; the tally that a register names. -/
def cp4 (s : State) (h : Head) (len : Nat) (r : Gpr) (body : State → Core → Word → Nat → State) : State :=
  cpInsn s h len fun s k next => if h.core ≠ .mc then excUndef s h else body s k next (fld (gget k r.val) 7 0)

/-- SNAP. -/
def doCpSnap (h : Head) (d r : Gpr) (s : State) : State :=
  cp4 s h 3 r fun s _ next n =>
    let p := n / 64
    if bit (rd s (Reg.TAL_SNAPSTAT + 4096 * p)) 30 then
      cpRet (noteErr s .mc (0x20 + p) (Reg.TAL_SNAPCMD % 4096) 4 true) h d.val stLOCKED next
    else cpRet (snapStart s p (n % 64)) h d.val stOK next

/-- SNAPW: waits while the snapshot is pending. -/
def doSnapw (h : Head) (d r : Gpr) (s : State) : State :=
  cp4 s h 3 r fun s _ next n =>
    let st := rd s (Reg.TAL_SNAPSTAT + 4096 * (n / 64))
    if bit st 30 then s
    else cpRet s h d.val (if bit st 31 && fld st 5 0 == n % 64 then stOK else stNORES) next

/-- PRESET: a target above 2 and a source above G13 are undefined. -/
def doCpPreset (h : Head) (d r : Gpr) (target : BitVec 8) (s : State) : State :=
  cp4 s h 4 d fun s k next n =>
    let p := n / 64
    if 2 < target.toNat || 13 < r.val then excUndef s h
    else if bit (rd s (Reg.TAL_PRESTAT + 4096 * p)) 31 then
      cpRet (noteErr s .mc (0x20 + p) (Reg.TAL_PRECMD % 4096) 4 true) h d.val stLOCKED next
    else
      let s := (List.range 3).foldl (fun s j => storeReg s .mc (Reg.TAL_PREVAL + 4096 * p + 4 * j) (gget k (r.val + j))) s
      cpRet (presetStart s p (n % 64) target.toNat) h d.val stOK next

/-- PRESETW: waits while the preset is pending, then gives the carry. -/
def doPresetw (h : Head) (d r : Gpr) (s : State) : State :=
  cp4 s h 3 r fun s _ next n =>
    let p := n / 64
    if bit (rd s (Reg.TAL_PRESTAT + 4096 * p)) 31 then s
    else cpRet s h d.val (rd s (Reg.TAL_CARRY + 4096 * p)).toNat next

/-! ### Tills (R331) -/

/-- The opener that a core is. -/
def openerOf : CoreId → Opener
  | .ac0 => .ac0
  | .ac1 => .ac1
  | .mc => .mc

/-- Whether the core may use a till: MC may push to every till, and takes from none. -/
def tillMay (s : State) (c : CoreId) (t : Nat) (push : Bool) : Bool :=
  match c with
  | .mc => push
  | _ => domOf (getCore s c) == pageDomain s (tillPage t)

/-- The frame of a CP5 instruction: an odd pair is undefined, and a refused access raises DATA with KIND 1 and the till. -/
def cp5 (s : State) (h : Head) (pair : Option Gpr) (r : Gpr) (write : Bool) (may : State → Nat → Bool)
    (body : State → Core → Word → Nat → State) : State :=
  cpInsn s h 3 fun s k next =>
    let t := fld (gget k r.val) 6 0
    if (pair.map fun d => d.val % 2) = some 1 then excUndef s h
    else if may s t then body s k next t else excData s h t 1 write

/-- Whether a core may push to a till (R331, R379, R384). -/
def pushMay (c : CoreId) (s : State) (t : Nat) : Bool := tillMay s c t true && tillOpenFor s t && tillProd s t == 2

/-- PUSH and PUSHL. -/
def cpPush (s : State) (h : Head) (d r : Gpr) (last : Bool) : State :=
  cp5 s h (some d) r true (pushMay h.core) fun s k next t =>
    let o := openerOf h.core
    if tillPushWaits s t o then s
    else
      let s := tillPush s t o (BitVec.ofNat 64 (dget k true d.val)) last
      retire s h.core (getCore s h.core) next

/-- PUSH. -/
def doCp5Push (h : Head) (d r : Gpr) (s : State) : State := cpPush s h d r false

/-- PUSHL. -/
def doPushl (h : Head) (d r : Gpr) (s : State) : State := cpPush s h d r true

/-- REWIND. -/
def doRewind (h : Head) (r : Gpr) (s : State) : State :=
  cp5 s h none r true (pushMay h.core) fun s _ next t =>
    let s := tillRewind s t (openerOf h.core)
    retire s h.core (getCore s h.core) next

/-- The CONS field: whether cores take from the till (R380). -/
def tillCoreCons (s : State) (t : Nat) : Bool := fld (tillCfg s t) 28 28 == 1

/-- Whether a core may take from a till (R331, R380, R384). -/
def popMay (c : CoreId) (s : State) (t : Nat) : Bool := tillMay s c t false && bit (tillCfg s t) 31 && tillProd s t != 3 && tillCoreCons s t

/-- A word enters a pair, with Z for an empty till and C for the last word of a packet. -/
def cpTook (s : State) (h : Head) (d : Gpr) (w : DWord) (z c : Bool) (next : Word) : State :=
  let k := dset (getCore s h.core) true d.val w.toNat
  retire s h.core { k with psw := setBit (setBit k.psw 31 z) 29 c } next

/-- POP and POPW: an empty till gives its last word and UNDERRUN, or is waited for (R380). -/
def cpPop (s : State) (h : Head) (d r : Gpr) (waits : Bool) : State :=
  cp5 s h (some d) r false (popMay h.core) fun s _ next t =>
    match tillTake (getTill s t) with
    | some (w, last, x) => cpTook (tillTaken s t x) h d w false last next
    | none => if waits then s else cpTook (tillRaise s t 1) h d (getTill s t).last true false next

/-- POP. -/
def doCp5Pop (h : Head) (d r : Gpr) (s : State) : State := cpPop s h d r false

/-- POPW. -/
def doPopw (h : Head) (d r : Gpr) (s : State) : State := cpPop s h d r true

/-- LEVEL: the committed words, 0 on a disabled till. -/
def doTillLevel (h : Head) (d r : Gpr) (s : State) : State :=
  cp5 s h none r false (fun s t => tillMay s h.core t false) fun s _ next t =>
    cpRet s h d.val (if bit (tillCfg s t) 31 && tillProd s t != 3 then tillWords (getTill s t) else 0) next

/-! ### The commands -/

/-- VCMD (R329). -/
def execVcmd (h : Head) (d r : Gpr) (s : State) : Host.Outcome State Fault Refusal := finish s (doVcmd h d r s)

/-- AJOB (R329). -/
def execAjob (h : Head) (d r : Gpr) (s : State) : Host.Outcome State Fault Refusal := finish s (doAjob h d r s)

/-- HJOB (R329). -/
def execHjob (h : Head) (d r : Gpr) (s : State) : Host.Outcome State Fault Refusal := finish s (doHjob h d r s)

/-- LSIGN (R329). -/
def execLsign (h : Head) (d r : Gpr) (s : State) : Host.Outcome State Fault Refusal := finish s (doLsign h d r s)

/-- BJOB (R329). -/
def execBjob (h : Head) (d r : Gpr) (s : State) : Host.Outcome State Fault Refusal := finish s (doBjob h d r s)

/-- CP2_SEAL (R329). -/
def execCp2Seal (h : Head) (d r : Gpr) (s : State) : Host.Outcome State Fault Refusal := finish s (doCp2Seal h d r s)

/-- WAIT (R328). -/
def execTickWait (h : Head) (cp : Fin 4) (d r : Gpr) (s : State) : Host.Outcome State Fault Refusal := finish s (doTickWait h cp d r s)

/-- POLL (R328). -/
def execTickPoll (h : Head) (cp : Fin 4) (d r : Gpr) (s : State) : Host.Outcome State Fault Refusal := finish s (doTickPoll h cp d r s)

/-- TICKET_DONE (R327). -/
def execTicketDone (s : State) : Host.Outcome State Fault Refusal := finish s (doTicketDone s)

/-- SNAP (R330). -/
def execCpSnap (h : Head) (d r : Gpr) (s : State) : Host.Outcome State Fault Refusal := finish s (doCpSnap h d r s)

/-- SNAPW (R330). -/
def execSnapw (h : Head) (d r : Gpr) (s : State) : Host.Outcome State Fault Refusal := finish s (doSnapw h d r s)

/-- PRESET (R330). -/
def execCpPreset (h : Head) (d r : Gpr) (target : BitVec 8) (s : State) : Host.Outcome State Fault Refusal := finish s (doCpPreset h d r target s)

/-- PRESETW (R330). -/
def execPresetw (h : Head) (d r : Gpr) (s : State) : Host.Outcome State Fault Refusal := finish s (doPresetw h d r s)

/-- CP5_PUSH (R331). -/
def execCp5Push (h : Head) (d r : Gpr) (s : State) : Host.Outcome State Fault Refusal := finish s (doCp5Push h d r s)

/-- PUSHL (R331). -/
def execPushl (h : Head) (d r : Gpr) (s : State) : Host.Outcome State Fault Refusal := finish s (doPushl h d r s)

/-- REWIND (R331). -/
def execRewind (h : Head) (r : Gpr) (s : State) : Host.Outcome State Fault Refusal := finish s (doRewind h r s)

/-- CP5_POP (R331). -/
def execCp5Pop (h : Head) (d r : Gpr) (s : State) : Host.Outcome State Fault Refusal := finish s (doCp5Pop h d r s)

/-- POPW (R331). -/
def execPopw (h : Head) (d r : Gpr) (s : State) : Host.Outcome State Fault Refusal := finish s (doPopw h d r s)

/-- LEVEL (R331). -/
def execTillLevel (h : Head) (d r : Gpr) (s : State) : Host.Outcome State Fault Refusal := finish s (doTillLevel h d r s)

end Sys2Proof.Machine
end

