-- ==== Sys2Proof/Machine/Sensors.lean ====
section
/-! DEFINITION. The sensor sequencer (R137 to R141) and the slot commands of the SNS page (R135, R145). -/

namespace Sys2Proof.Machine

open Sys2Proof

/-- The state with the sequencer's part replaced. -/
def setSns (s : State) (x : SnsSt) : State := { s with sns := x }

/-- A program step. -/
def snsStepWord (s : State) (k : Nat) : Word := rd s (Reg.SNS_STEP + 4 * k)

/-- A byte of a word buffer. -/
def bufByte (s : State) (base j : Nat) : Byte := BitVec.ofNat 8 ((rd s (base + j / 4 * 4)).toNat / 2 ^ (8 * (j % 4)))
/-- Bytes of a word buffer. -/
def bufBytes (s : State) (base j n : Nat) : Bytes := (List.range n).map fun k => bufByte s base (j + k)
/-- Bytes put into a word buffer. -/
def putBuf (s : State) (base : Nat) : Nat → Bytes → State
  | _, [] => s
  | j, b :: bs => putBuf (wrFld s (base + j / 4 * 4) (8 * (j % 4) + 7) (8 * (j % 4)) b.toNat) base (j + 1) bs

/-- STEP and RUNNING of SNS_SEQSTAT follow the sequencer. -/
def snsShow (s : State) : State :=
  upd s Reg.SNS_SEQSTAT fun w => setFld (setBit w 31 s.sns.running) 15 8 s.sns.step

/-- The sequencer's next step. -/
def snsNext (s : State) : State := snsShow (setSns s { s.sns with step := s.sns.step + 1 })

/-- The slots of the STORE steps from the last COMMIT before a step to the first COMMIT after it (R141). -/
def groupSlots (s : State) (k : Nat) : List Nat :=
  let op j := fld (snsStepWord s j) 31 28
  let before := ((List.range k).reverse.takeWhile fun j => op j != 7)
  let after := (((List.range 256).drop k).takeWhile fun j => op j != 7 && op j != 0)
  (before ++ after).filterMap fun j => if op j == 6 then some (fld (snsStepWord s j) 27 20) else none

/-- A run fails (R141): it ends, releases the selects, discards what is staged, and marks the group's slots. -/
def snsFail (s : State) (kind : Nat) : State :=
  let k := s.sns.step
  let slots := groupSlots s k
  let s := setSns s { s.sns with running := false, staged := [], cs := [] }
  let s := wr s Reg.SNS_SEQSTAT (word (0x40000000 + k % 256 * 0x10000 + k % 256 * 0x100 + kind))
  let s := raise (bumpSat s Reg.SNS_RUNS 31 16) 0x27 0
  let s := slots.foldl (fun s x => setSlot s x { getSlot s x with runfail := true }) s
  (activeTallies s).foldl (fun s n => if slots.any fun x => lmem x (readSlots s n) then talRaise s n 5 else s) s

/-- The frame of a step: it is taken by the command of its OP; an unlisted OP, or a step beyond the program memory, fails
the run with FAIL_KIND 3 (R138). -/
def snsStep (s : State) (op : Nat) (body : Word → State) : State :=
  let w := snsStepWord s s.sns.step
  if !s.sns.running then s
  else if 256 ≤ s.sns.step || fld w 31 28 == 5 || 7 < fld w 31 28 then snsFail s 3
  else if fld w 31 28 == op then body w else s

/-- A run starts at step 0, or is skipped and counted with OVERRUN while one is active (R137). -/
def snsStart (s : State) : State :=
  if s.sns.running then raise (bumpSat s Reg.SNS_RUNS 31 16) 0x27 1
  else
    let s := setSns s { s.sns with running := true, step := 0, staged := [], cs := [] }
    wr s Reg.SNS_SEQSTAT 0x80000000#32

/-- SNS_RUN_START: SNS_PERIOD expires, or a held RUN_NOW is released (R42, R137). -/
def doSnsRunStart (s : State) : State :=
  let now := bit (rd s (hdr 0x27 Off.CTRL)) 8
  if !accepting s 0x27 || (fld (rd s Reg.SNS_PERIOD) 19 0 == 0 && !now) then s
  else snsStart (wrBit s (hdr 0x27 Off.CTRL) 8 false)

/-- RUN_NOW: a write of 1 to CTRL.RUN_NOW (R137, R145); a quiesced block holds it. -/
def doRunNow (i : Initiator) (s : State) : State :=
  guardW s i (hdr 0x27 Off.CTRL) fun s =>
    if accepting s 0x27 then snsStart s
    else if enabled s 0x27 then wrBit s (hdr 0x27 Off.CTRL) 8 true
    else s

/-- SNS_XFER: LEN bytes are clocked out of SNS_TXBUF and into SNS_RXBUF (R138); an unanswered input reads all ones
(R560). -/
def doSnsXfer (rx : List Byte) (s : State) : State :=
  snsStep s 1 fun w =>
    let len := fld w 22 16 + 1
    let tx := fld w 15 8
    let ro := fld w 7 0
    if 256 < tx + len || 256 < ro + len then snsFail s 3
    else
      let cs := fld w 27 26
      let s := emit s (.spi cs (fld w 25 24) (bufBytes s Reg.SNS_TXBUF tx len))
      let s := putBuf s Reg.SNS_RXBUF ro ((rx ++ List.replicate len 0xFF#8).take len)
      snsNext (setSns s { s.sns with cs := if bit w 23 then linsert cs s.sns.cs else lerase cs s.sns.cs })

/-- SNS_WAIT: the step's TIME has passed (R138). -/
def doSnsWait (s : State) : State := snsStep s 2 fun _ => snsNext s

/-- SNS_WAITRDY: SSDI is low, or TIMEOUT has passed (R138). -/
def doSnsWaitrdy (low : Bool) (s : State) : State :=
  snsStep s 3 fun w =>
    if low then snsNext (setSns s { s.sns with cs := linsert (fld w 27 26) s.sns.cs }) else snsFail s 1

/-- SNS_CHECK: a masked received byte is compared with VALUE (R138). -/
def doSnsCheck (s : State) : State :=
  snsStep s 4 fun w =>
    if bufByte s Reg.SNS_RXBUF (fld w 23 16) &&& BitVec.ofNat 8 (fld w 15 8) = BitVec.ofNat 8 (fld w 7 0) then snsNext s
    else snsFail s 2

/-- The width that WIDTH selects (R139). -/
def storeWidth : Nat → Option Nat
  | 0 => some 8
  | 1 => some 12
  | 2 => some 16
  | 3 => some 20
  | 4 => some 24
  | 5 => some 32
  | _ => none

/-- SNS_STORE: a value is assembled, looked up where TBL names a table, and staged (R139). -/
def doSnsStore (s : State) : State :=
  snsStep s 6 fun w =>
    match storeWidth (fld w 11 9) with
    | none => snsFail s 3
    | some n =>
      let len := (n + 7) / 8
      let ro := fld w 19 12
      let tbl := fld w 6 0
      if 256 < ro + len || (0x40 ≤ tbl && tbl ≠ 0x7F) || 16 ≤ s.sns.staged.length then snsFail s 3
      else
        let bs := bufBytes s Reg.SNS_RXBUF ro len
        let raw := (if bit w 7 then beNat bs else leNat bs) % 2 ^ n
        let v : Int := if bit w 8 && 2 ^ (n - 1) ≤ raw then (raw : Int) - 2 ^ n else raw
        let put (s : State) (x : Option Nat) : State :=
          snsNext (setSns s { s.sns with staged := s.sns.staged ++ [⟨fld w 27 20, s.sns.step, x⟩] })
        if tbl = 0x7F then put s (some (v % 2 ^ 64).toNat)
        else match lookup s tbl (sint (BitVec.ofInt 32 v)) with
          | .val y => put s (some (y % 2 ^ 64).toNat)
          | _ => put (raise s 0x27 3) none

/-- Every staged value is written to its slot (R140). -/
def snsCommitAll (s : State) : State :=
  let s' := s.sns.staged.foldl (fun s x => (slotWrite s x.slot (.seq x.step) x.val).1) s
  setSns s' { s'.sns with staged := [] }

/-- SNS_COMMIT (R140). -/
def doSnsCommit (s : State) : State := snsStep s 7 fun _ => snsNext (snsCommitAll s)

/-- SNS_END: an implicit COMMIT, and the run ends successfully (R137, R140). -/
def doSnsEnd (s : State) : State :=
  snsStep s 0 fun _ =>
    let s := snsCommitAll s
    snsShow (bumpSat (setSns s { s.sns with running := false, cs := [] }) Reg.SNS_RUNS 15 0)

/-- SNS_WCMD: MC writes SNS_WVAL to a slot (R135, R145). -/
def doSnsWcmd (i : Initiator) (v : Word) (s : State) : State :=
  guardW s i Reg.SNS_WCMD fun s =>
    let s := wr s Reg.SNS_WCMD (v &&& 0xFF#32)
    if bit v 31 then (slotWrite s (fld v 7 0) .mc (some (rd64 s Reg.SNS_WVAL))).1 else s

/-- SNS_SIDX: a slot is captured in one cycle (R145). -/
def doSnsSidx (i : Initiator) (v : Word) (s : State) : State :=
  guardW s i Reg.SNS_SIDX fun s =>
    let k := fld v 7 0
    let x := getSlot s k
    let s := wr s Reg.SNS_SIDX (word k)
    let s := wrWords (wrWords s Reg.SNS_CVAL 2 x.value) Reg.SNS_CTS 2 x.ts
    wr s Reg.SNS_CTAG (word (b2n (slotFresh s k) * 0x80000000 + b2n x.fault * 0x40000000 + b2n x.written * 0x20000000 +
      b2n x.runfail * 0x10000000 + x.tag))

/-! ### The commands -/

/-- SNS_RUN_START (R137). -/
def execSnsRunStart (s : State) : Host.Outcome State Fault Refusal := finish s (doSnsRunStart s)

/-- RUN_NOW (R137). -/
def execRunNow (i : Initiator) (s : State) : Host.Outcome State Fault Refusal := finish s (doRunNow i s)

/-- SNS_XFER (R138). -/
def execSnsXfer (rx : List Byte) (s : State) : Host.Outcome State Fault Refusal := finish s (doSnsXfer rx s)

/-- SNS_WAIT (R138). -/
def execSnsWait (s : State) : Host.Outcome State Fault Refusal := finish s (doSnsWait s)

/-- SNS_WAITRDY (R138). -/
def execSnsWaitrdy (low : Bool) (s : State) : Host.Outcome State Fault Refusal := finish s (doSnsWaitrdy low s)

/-- SNS_CHECK (R138). -/
def execSnsCheck (s : State) : Host.Outcome State Fault Refusal := finish s (doSnsCheck s)

/-- SNS_STORE (R139). -/
def execSnsStore (s : State) : Host.Outcome State Fault Refusal := finish s (doSnsStore s)

/-- SNS_COMMIT (R140). -/
def execSnsCommit (s : State) : Host.Outcome State Fault Refusal := finish s (doSnsCommit s)

/-- SNS_END (R140). -/
def execSnsEnd (s : State) : Host.Outcome State Fault Refusal := finish s (doSnsEnd s)

/-- SNS_WCMD (R135). -/
def execSnsWcmd (i : Initiator) (v : Word) (s : State) : Host.Outcome State Fault Refusal := finish s (doSnsWcmd i v s)

/-- SNS_SIDX (R145). -/
def execSnsSidx (i : Initiator) (v : Word) (s : State) : Host.Outcome State Fault Refusal := finish s (doSnsSidx i v s)

end Sys2Proof.Machine
end

