-- ==== Sys2Proof/Machine/Views.lean ====
section
/-! DEFINITION. What the page registers read: those that show state held elsewhere, those whose read has an effect, and the read
of any register (R36 to R46, and the register tables of the chapters). -/

namespace Sys2Proof.Machine

open Sys2Proof

/-- A word of 32 flags, bit b from `f b`. -/
def flags (f : Nat → Bool) : Word := word ((List.range 32).foldl (fun a b => a + b2n (f b) * 2 ^ b) 0)

/-! ### The common header -/

/-- Whether a core runs, waits or is halted, as bits 8, 9 and 10 of its STAT. -/
def runBits (k : Core) : Nat :=
  match k.run with
  | .running => 0x100
  | .waiting => 0x200
  | .halted => 0x400
  | .held => 0

/-- The bits of STAT from 8 on that a block computes from its state, above those held in the register. -/
def statBlock (s : State) (page : Nat) : Nat :=
  if 0x08 ≤ page && page < 0x0C then
    let x := getLane s false (page - 0x08)
    b2n x.key.isSome * 0x100 + b2n (!x.susp.isEmpty) * 0x200 + b2n (frameRuns s (page - 0x08)) * 0x400
  else if page = 0x0D || page = 0x0E then
    let x := getLane s true (page - 0x0D)
    b2n x.key.isSome * 0x100 + b2n (!x.susp.isEmpty) * 0x200
  else if page = 0x0F then b2n s.lanes.lmsRun.isSome * 0x100 + b2n s.lanes.sealing.isSome * 0x200
  else if 0x10 ≤ page && page < 0x14 then
    let x := getBne s (page - 0x10)
    b2n x.key.isSome * 0x100 + b2n (userRuns s (page - 0x10)) * 0x200 + b2n (x.regs.any fun r => r.2.secret) * 0x400
  else if page = 0x05 then
    b2n (decide (s.vlt.puf = .done)) * 0x100 + b2n s.vlt.rootS * 0x200 + b2n s.vlt.rootI * 0x400 + b2n (bit (rd s Reg.VLT_CMDSTAT) 31) * 0x800
  else if page = 0x18 then b2n (intakeHold s) * 0x100 + b2n s.intake.ckpt.isSome * 0x800
  else if page = 0x27 then b2n s.sns.running * 0x100
  else if page = 0x29 then runBits s.mc
  else if page = 0x60 then runBits s.ac0 + b2n (bit s.ac0.psw 1) * 0x800
  else if page = 0x61 then runBits s.ac1 + b2n (bit s.ac1.psw 1) * 0x800
  else if page = 0x58 then
    b2n (bit (rd s Reg.MEM_BTSTAT) 31) * 0x100 + b2n (rd s Reg.MEM_CLEARING != 0#32) * 0x200 + b2n (rd s Reg.MEM_SERVICE != 0xFFFFFFFF#32) * 0x400
  else if 0x40 ≤ page && page < 0x44 then
    let x := getPort s (page - 0x40)
    (match x.st with | .disabled => 0 | .detect => 1 | .hsk => 2 | .active => 3 | .holdoff => 4) * 0x100 + b2n x.initiator * 0x1000
  else if page = 0x44 then b2n (wrap s) * 0x100
  else if page = 0x50 then
    b2n (decide (s.tmp.zero ≠ .idle)) * 0x200 + b2n s.pmu.window * 0x400 + b2n (lcode s == 1) * 0x800 + b2n (!s.tmp.burns.isEmpty) * 0x1000
  else 0

/-- SHADOW_STAT: ANY is the OR of the others (R50). -/
def shadowStat (s : State) (page : Nat) : Word :=
  let w := rd s (hdr page Off.SHADOW_STAT)
  setBit w 31 (fld w 15 0 != 0)

/-- STAT (R40): SHADOW_ERR and LOCKED are copies, and an engine block shows OOS, the results of its test, QUIESCED, BUSY and READY. -/
def statWord (s : State) (page : Nat) : Word :=
  let w := rd s (hdr page Off.STAT) ||| word (statBlock s page)
  let w := if isEngine page then setBit (setBit w 1 (pageBusy s page)) 0 (accepting s page) else w &&& 0xFFFFFFC0#32
  setBit (setBit w 6 (locked s page)) 7 (fld (rd s (hdr page Off.SHADOW_STAT)) 15 0 != 0)

/-- What a register of the common header reads. -/
def viewHeader (s : State) (page off : Nat) : Word :=
  if off = Off.STAT then statWord s page
  else if off = Off.EVT_PEND then evtPend s page
  else if off = Off.EVT_SET then 0#32
  else if off = Off.SHADOW_STAT then shadowStat s page
  else rd s (hdr page off)

/-! ### The system pages -/

/-- LCS: LCS_STATE, LCS_OTP and LCS_DBG show the OTP (R518, R540). -/
def viewLcs (s : State) (a : Nat) : Word :=
  if a = Reg.LCS_STATE then word (b2n s.lcs.isSome * 2 ^ 31 + lcode s * 0x100 + s.otp.round)
  else if a = Reg.LCS_OTP0 then flags fun b => lmem b s.otp.own
  else if a = Reg.LCS_OTP1 then
    word (b2n s.otp.sealed_ * 2 ^ 31 + b2n s.otp.scrapped * 2 ^ 30 + (2 ^ s.otp.round - 1))
  else if a = Reg.LCS_DBG then word (b2n (lcode s == 1))
  else rd s a

/-- A word of the device serial (R2). -/
def serialWord (k : Nat) : Word := word (leNat ((serial.drop (4 * k)).take 4))

/-- Whether a page has a page error pending (R53). -/
def pageErr (s : State) (page : Nat) : Bool := (pageRow? page).isSome && (evtPend s page &&& 0xA0000000#32) != 0#32

/-- EVR: EVR_ASSERT and EVR_PGERR (R52, R53). -/
def viewEvr (s : State) (a : Nat) : Word :=
  if Reg.EVR_ASSERT ≤ a && a < Reg.EVR_ASSERT + 128 then flags fun b => asserted s (32 * ((a - Reg.EVR_ASSERT) / 4) + b)
  else if Reg.EVR_PGERR ≤ a && a < Reg.EVR_PGERR + 16 then flags fun b => pageErr s (32 * ((a - Reg.EVR_PGERR) / 4) + b)
  else if a = Reg.EVR_SWDB_SET then 0#32
  else rd s a

/-- VLT (R203). -/
def viewVlt (s : State) (a : Nat) : Word :=
  if a = Reg.VLT_ROOTSTAT then rootStat s
  else if a = Reg.VLT_NSLOTS then
    word ((s.vlt.slots.filter fun x => x.2.bad).length * 0x10000 + (s.vlt.slots.filter fun x => x.2.key.isSome).length)
  else if Reg.VLT_SESSMAP ≤ a && a < Reg.VLT_SESSMAP + 8 then
    flags fun b => (vsess s (32 * ((a - Reg.VLT_SESSMAP) / 4) + b)).key.isSome
  else if Reg.VLT_SBAD ≤ a && a < Reg.VLT_SBAD + 32 then flags fun b => (vslot s (32 * ((a - Reg.VLT_SBAD) / 4) + b)).bad
  else rd s a

/-! ### The lanes -/

/-- The jobs of a class that wait in a queue, saturating in four bits. -/
def waitingOf (js : List Job) (cls : Nat) : Nat := min 15 (js.filter fun j => j.cls == cls).length

/-- QDEPTH of a lane (R235, R256, R279). -/
def depths (js : List Job) : Nat :=
  waitingOf js 4 * 0x10000 + waitingOf js 2 * 0x1000 + waitingOf js 1 * 0x100 + waitingOf js 0 * 0x10

/-- AES (R235). -/
def viewAes (s : State) (n off : Nat) : Word :=
  let x := getLane s false n
  if off = 0x98 then
    match x.key with
    | some k => word (2 ^ 31 + (k.mat.length / 8 - 2) % 4 * 2 ^ 29 + b2n k.acct * 2 ^ 28 + attrDom k.attr * 0x10000)
    | none => 0#32
  else if off = 0x9C then (match x.key with | some k => if k.acct then 0#32 else word k.handle | none => 0#32)
  else if off = 0xA0 then word (min 7 x.susp.length * 2 ^ 24 + depths x.queue)
  else rd s (laneReg false n off)

/-- HSH (R256). -/
def viewHsh (s : State) (n off : Nat) : Word :=
  let x := getLane s true n
  if off = 0x98 then
    match x.key with
    | some k => word (2 ^ 31 + b2n (k.mat.length == 64) * 2 ^ 28 + attrDom k.attr * 0x10000)
    | none => 0#32
  else if off = 0x9C then (match x.key with | some k => word k.handle | none => 0#32)
  else if off = 0xA0 then word (min 7 x.susp.length * 2 ^ 24 + depths x.queue)
  else rd s (laneReg true n off)

/-- The tag of a workspace register. -/
def tagWord (r : WReg) : Word := word (b2n r.written * 2 ^ 31 + b2n r.secret * 2 ^ 30 + r.dom * 0x10000)

/-- BNE_CURRENT: the job that runs, its flags and its slot. -/
def bneCurrent (r : BRun) : Word :=
  word (2 ^ 31 + r.job.cls * 2 ^ 24 + r.job.dom * 0x10000 + b2n r.z * 0x4000 + b2n r.c * 0x2000 + r.pc % 8192)

/-- BNE (R279). -/
def viewBne (s : State) (n off : Nat) : Word :=
  let x := getBne s n
  if off = 0x98 then
    match x.key with
    | some k => word (2 ^ 31 + b2n (!ktypePublic k.ktype) * 2 ^ 30 + attrDom k.attr * 0x10000 + k.ktype)
    | none => 0#32
  else if off = 0x9C then (match x.key with | some k => word k.handle | none => 0#32)
  else if off = 0xA0 then word (depths x.queue + waitingOf x.queue 3)
  else if off = 0xA4 then (match x.cur with | some r => bneCurrent r | none => 0#32)
  else if 0x100 ≤ off && off < 0x140 then tagWord (wreg s n ((off - 0x100) / 4))
  else rd s (hdr (bnePage n) off)

/-- KUW: waiting slot requests, and waiting account-key requests (R185, R205). -/
def viewKuw (s : State) (a : Nat) : Word :=
  if a = Reg.KUW_QDEPTH then
    word (min 255 s.lanes.kuw.length * 0x100 + min 255 (s.intake.frames.filter fun f => decide (f.stage = .keys) && !f.toUnwrap.isEmpty).length)
  else rd s a

/-- BNC (R280). -/
def viewBnc (s : State) (a : Nat) : Word :=
  if a = Reg.BNC_VVER then Config.bncVver
  else if a = Reg.BNC_USERRUN then flags fun b => decide (b < 4) && userRuns s b
  else rd s a

/-! ### The intake pages -/

/-- ACC (R107). -/
def viewAcc (s : State) (a : Nat) : Word :=
  if a = Reg.ACC_DIRTY then word (b2n (intakeHold s) * 0x10000 + s.intake.dirty.length)
  else if a = Reg.ACC_NACC then word ((List.range 1024).filter fun k => acctFlag s k 0).length
  else rd s a

/-- FPR_INUSE: the profiles of frames not yet delivered (R75). -/
def viewFpr (s : State) (a : Nat) : Word :=
  if a = Reg.FPR_INUSE then flags fun b => s.intake.frames.any fun f => f.req.profile == b else rd s a

/-- The entry of an owner table that DIR_DATA shows: of the active table with ACTIVE = 1, else of the staging table (R82). -/
def dirData (s : State) : Word :=
  let x := rd s Reg.DIR_IDX
  mget 0#32 (if bit x 30 then s.intake.owner else s.intake.staging) (fld x 15 0)

/-- DIR (R82). -/
def viewDir (s : State) (a : Nat) : Word :=
  if a = Reg.DIR_LDATA then
    let c := chainOf s (fld (rd s Reg.DIR_LIDX) 10 0)
    match c with
    | [] => 0#32
    | h :: _ => word (c.length * 0x10000 + 0x8000 + h)
  else if a = Reg.DIR_HASH then
    let m := leBytes 4 (rd s Reg.DIR_HASHA).toNat ++ leBytes 4 (rd s Reg.DIR_HASHB).toNat
    word (ownerBucket m * 0x10000 + localBucket m)
  else if a = Reg.DIR_SWAP then 0#32
  else rd s a

/-! ### The metrology pages -/

/-- TAL (R142). -/
def viewTal (s : State) (p off : Nat) : Word :=
  if 0x500 ≤ off && off < 0x600 then talSts s (64 * p + (off - 0x500) / 4)
  else if 0x800 ≤ off && off < 0x900 then
    let a := talEvReg (64 * p + (off - 0x800) / 4)
    rd s a &&& rd s (a + 0x100)
  else rd s (hdr (0x20 + p) off)

/-- SNS (R145). -/
def viewSns (s : State) (a : Nat) : Word :=
  if Reg.SNS_FRESH ≤ a && a < Reg.SNS_FRESH + 32 then flags fun b => slotFresh s (32 * ((a - Reg.SNS_FRESH) / 4) + b)
  else if Reg.SNS_SVAL ≤ a then word (getSlot s ((a - Reg.SNS_SVAL) / 4)).value
  else rd s a

/-- CAL (R168). -/
def viewCal (s : State) (a : Nat) : Word :=
  if a = Reg.CAL_NARMED then word (armedPostings s).length
  else if a = Reg.CAL_CSTORE then word (storeFree s / 64 * 0x10000 + s.cal.store.length)
  else if a = Reg.CAL_LPEND || a = Reg.CAL_LPEND + 4 then rd s (a - 0x10) &&& rd s (a - 8)
  else rd s a

/-! ### Channels and tills -/

/-- The status of a channel (R362). -/
def chnStat (s : State) (n : Nat) : Word :=
  let c := getChan s n
  let cfg := rd s (Reg.CHN_CFG + 32 * n)
  word (b2n (bit cfg 31) * 2 ^ 31 + b2n c.halted * 2 ^ 30 + b2n c.cqwait * 2 ^ 29 + b2n (bit cfg 28) * 2 ^ 28 + min 63 (outstanding s n))

/-- CHN_EVPEND of a channel. -/
def chnPend (s : State) (n : Nat) : Word := rd s (Reg.CHN_EVRAW + 4 * n) &&& rd s (Reg.CHN_EVEN + 4 * n)

/-- CHN (R385). -/
def viewChn (s : State) (a : Nat) : Word :=
  if Reg.CHN_CFG ≤ a && a < Reg.CHN_CFG + 2048 && a % 32 = 0x1C then chnStat s ((a - Reg.CHN_CFG) / 32)
  else if Reg.CHN_ENMAP ≤ a && a < Reg.CHN_ENMAP + 8 then
    flags fun b => bit (rd s (Reg.CHN_CFG + 32 * (32 * ((a - Reg.CHN_ENMAP) / 4) + b))) 31
  else if Reg.CHN_EVPEND ≤ a && a < Reg.CHN_EVPEND + 256 then chnPend s ((a - Reg.CHN_EVPEND) / 4)
  else rd s a

/-- A doorbell page (R362). -/
def viewDb (s : State) (n off : Nat) : Word :=
  if off = 0x10 then chnStat s n else if off = 0x1C then chnPend s n else rd s (canon (dbReg n off))

/-- OPENER of TIL_STAT. -/
def openerCode : Option Opener → Nat
  | none => 0
  | some .hw => 0
  | some .chan => 1
  | some .ac0 => 2
  | some .ac1 => 3
  | some .mc => 4

/-- TIL (R387). -/
def viewTil (s : State) (p off : Nat) : Word :=
  if 0x100 ≤ off && off < 0x500 && off % 16 = 8 then
    let x := getTill s (64 * p + (off - 0x100) / 16)
    word (min 4095 x.packets.length * 2 ^ 20 + tillWords x)
  else if 0x100 ≤ off && off < 0x500 && off % 16 = 12 then
    let x := getTill s (64 * p + (off - 0x100) / 16)
    word (b2n x.opener.isSome * 2 ^ 31 + openerCode x.opener * 2 ^ 28 + b2n x.stale * 2 ^ 27 + b2n x.discard.isSome * 2 ^ 26 + x.resv)
  else if 0x500 ≤ off && off < 0x600 then
    let x := getTill s (64 * p + (off - 0x500) / 4)
    word (match x.packets with | k :: _ => k.seq | [] => x.next)
  else if 0x800 ≤ off && off < 0x900 then
    let a := tillEvReg (64 * p + (off - 0x800) / 4)
    rd s a &&& rd s (a + 0x100)
  else rd s (hdr (0x32 + p) off)

/-! ### The host interfaces -/

/-- CPT: CPT_STAT shows the password and the persistent command, CPT_DELAY the unlock delay (R402, R405). -/
def viewCpt (s : State) (a : Nat) : Word :=
  if a = Reg.CPT_STAT then setBit (setBit (rd s a) 27 s.cpt.lockRec.hash.isSome) 26 s.cpt.job.isSome
  else if a = Reg.CPT_DELAY then word (cptDelay s)
  else rd s a

/-- PCI (R419). -/
def viewPci (s : State) (a : Nat) : Word :=
  let p := s.pcie
  if a = Reg.PCI_STAT then
    word (b2n p.linkUp * 2 ^ 31 + b2n p.perst * 2 ^ 30 + (if p.d3hot then 3 else 0) * 2 ^ 28 + b2n p.l1 * 2 ^ 27 + p.width * 2 ^ 24 +
      p.speed * 2 ^ 20 + b2n p.bme * 2 ^ 19 + b2n p.msixEn * 2 ^ 18 + b2n p.fmask * 2 ^ 17)
  else if a = Reg.PCI_IDS then word (0x42000000 + Config.vendorId.toNat)
  else rd s a

/-- HIF: mirrors of PCI, CHN and MCC registers (R420, R421). -/
def viewHif (s : State) (a : Nat) : Word :=
  if a = Reg.HIF_STAT then
    word (b2n (bit (rd s Reg.PCI_READY) 0) * 2 ^ 31 + b2n s.boot.rom * 2 ^ 30 + lcode s * 0x10000 + bootStep s * 0x100)
  else if a = Reg.HIF_D2H then rd s Reg.PCI_D2H
  else if Reg.HIF_CHMAP ≤ a && a < Reg.HIF_CHMAP + 8 then
    flags fun b =>
      let c := rd s (Reg.CHN_CFG + 32 * (32 * ((a - Reg.HIF_CHMAP) / 4) + b))
      bit c 31 && fld c 30 29 == 1
  else if Reg.HIF_SERIAL ≤ a && a < Reg.HIF_SERIAL + 16 then serialWord ((a - Reg.HIF_SERIAL) / 4)
  else if a = Reg.HIF_IMGSTAT then rd s Reg.MCC_IMGSTAT
  else if Reg.HIF_IMGID ≤ a && a < Reg.HIF_IMGID + 32 then rd s (Reg.MCC_IMGID + (a - Reg.HIF_IMGID))
  else rd s a

/-! ### The fabric -/

/-- FAB (R456). -/
def viewFab (s : State) (p off : Nat) : Word :=
  let x := getPort s p
  if off = 0xA0 then word (x.seq % 4096 * 0x10000 + x.exp % 4096)
  else if off = 0xA4 then word x.replay.length
  else if off = 0xA8 then word (x.be * 0x10000 + x.rel)
  else if off = 0xBC then word x.tx
  else if off = 0xC0 then word (x.tx / 2 ^ 32)
  else if off = 0xC4 then word x.handle
  else rd s (fabReg p off)

/-- FRT (R457). -/
def viewFrt (s : State) (a : Nat) : Word :=
  if a = Reg.FRT_DEDUP then setFld (rd s a) 26 16 s.fab.dedup.length
  else if a = Reg.FRT_TXOUT then word s.fab.txns.length
  else if a = Reg.FRT_LEASES then word s.fab.leases.length
  else rd s a

/-! ### NV, tamper and cores -/

/-- NVC (R485). -/
def viewNvc (s : State) (a : Nat) : Word :=
  if a = Reg.NVC_BANKSTAT then
    word (b2n (writeReady s) * 2 ^ 31 + b2n s.nv.wp * 2 ^ 30 + b2n (erasing s true).isSome * 2 ^ 17 + b2n (bankBusy s true) * 2 ^ 16 +
      b2n (erasing s false).isSome * 2 + b2n (bankBusy s false))
  else if a = Reg.NVC_DBSTAT then word (b2n (openTxn s).isSome * 2 ^ 31 + dbFree s)
  else if a = Reg.NVC_PBSTAT then word s.nv.bufs.length
  else rd s a

/-- NVK_BOUND (R486). -/
def viewNvk (s : State) (a : Nat) : Word :=
  if Reg.NVK_BOUND ≤ a && a < Reg.NVK_BOUND + 32 then flags fun b => mget 0 s.nv.bound (32 * ((a - Reg.NVK_BOUND) / 4) + b) != 0
  else rd s a

/-- An entry of the tamper log as TMP_LOGDATA shows it (R508). -/
def logWord (e : TLog) (hi : Bool) : Word :=
  if hi then word (e.rtc / 65536) else word (2 ^ 31 + b2n e.off * 2 ^ 30 + e.level * 2 ^ 24 + e.count * 0x100 + e.src)

/-- TMP (R508). -/
def viewTmp (s : State) (a : Nat) : Word :=
  if a = Reg.TMP_FILTCNT then flags fun b => decide (b < 30) && fld (rd s (filtReg b)) 31 24 != 0
  else if a = Reg.TMP_EVPEND || a = Reg.TMP_EVPEND + 4 then rd s (a - 16) &&& rd s (a - 8)
  else if Reg.TMP_EVID ≤ a && a < Reg.TMP_EVID + 16 then
    let n := evid s ((a - Reg.TMP_EVID) / 4)
    word (b2n (decide (127 ≤ n)) * 0x80 + n)
  else if a = Reg.TMP_LOGDATA0 || a = Reg.TMP_LOGDATA1 then
    match s.tmp.log[fld (rd s Reg.TMP_LOGIDX) 2 0]? with
    | some e => logWord e (decide (a = Reg.TMP_LOGDATA1))
    | none => 0#32
  else rd s a

/-- The word of a gate stack entry that CORE_GIDX selects, without its reserved bits. -/
def gdataView (s : State) (c : Fin 2) : Word :=
  let w := mget 0#32 (getCore s (pageCore c)).gst (gstIndex s c)
  if gstIndex s c % 4 = 3 then w &&& 0x003F003F#32 else w

/-- A core's page (R302). -/
def viewCore (s : State) (c : Fin 2) (off : Nat) : Word :=
  let k := getCore s (pageCore c)
  if off = 0x84 then (if k.run = .halted then k.pc else rd s (hdr (0x60 + c.val) off))
  else if off = 0x94 then word k.sbuf.length
  else if off = 0x98 then word k.gdepth
  else if off = 0xA0 then gdataView s c
  else if off = 0xA4 then word k.gdepth
  else rd s (hdr (0x60 + c.val) off)

/-- The region that MPU_DIDX selects, as the place of its first word. -/
def mpuRegion (s : State) : Nat :=
  let x := rd s Reg.MPU_DIDX
  3 * (16 * fld x 21 16 + fld x 3 0)

/-- The place of the stack top that MPU_SIDX selects. -/
def mpuStack (s : State) : Nat := fld (rd s Reg.MPU_SIDX) 6 0

/-- The place of the gate that MPU_GIDX selects. -/
def mpuGate (s : State) : Nat := 4 * fld (rd s Reg.MPU_GIDX) 5 0

/-- MPU (R303). -/
def viewMpu (s : State) (a : Nat) : Word :=
  if a = Reg.MPU_RBASE then mget 0#32 s.mpu.rgn (mpuRegion s)
  else if a = Reg.MPU_RLIMIT then mget 0#32 s.mpu.rgn (mpuRegion s + 1)
  else if a = Reg.MPU_RATTR then mget 0#32 s.mpu.rgn (mpuRegion s + 2)
  else if a = Reg.MPU_STK then mget 0#32 s.mpu.stk (mpuStack s)
  else if Reg.MPU_GENTRY ≤ a && a < Reg.MPU_GENTRY + 16 then mget 0#32 s.mpu.gate (mpuGate s + (a - Reg.MPU_GENTRY) / 4)
  else rd s a

/-! ### Any register -/

/-- What a block-specific register reads, before the access code. -/
def viewBlock (s : State) (page off : Nat) : Word :=
  let a := hdr page off
  if page = 0x00 then (if Reg.SYS_SERIAL ≤ a && a < Reg.SYS_SERIAL + 16 then serialWord ((a - Reg.SYS_SERIAL) / 4) else rd s a)
  else if page = 0x03 then viewEvr s a
  else if page = 0x04 then viewLcs s a
  else if page = 0x05 then viewVlt s a
  else if 0x08 ≤ page && page < 0x0C then viewAes s (page - 0x08) off
  else if page = 0x0C then viewKuw s a
  else if page = 0x0D || page = 0x0E then viewHsh s (page - 0x0D) off
  else if 0x10 ≤ page && page < 0x14 then viewBne s (page - 0x10) off
  else if page = 0x14 then viewBnc s a
  else if page = 0x18 then viewAcc s a
  else if page = 0x19 then viewFpr s a
  else if page = 0x1A then viewDir s a
  else if 0x20 ≤ page && page < 0x24 then viewTal s (page - 0x20) off
  else if page = 0x25 then viewCal s a
  else if page = 0x27 then viewSns s a
  else if page = 0x30 then viewChn s a
  else if page = 0x32 || page = 0x33 then viewTil s (page - 0x32) off
  else if page = 0x38 then viewCpt s a
  else if page = 0x39 then viewPci s a
  else if 0x40 ≤ page && page < 0x44 then viewFab s (page - 0x40) off
  else if page = 0x44 then viewFrt s a
  else if page = 0x48 then viewNvc s a
  else if page = 0x49 then viewNvk s a
  else if page = 0x50 then viewTmp s a
  else if page = 0x60 then viewCore s 0 off
  else if page = 0x61 then viewCore s 1 off
  else if page = 0x63 then viewMpu s a
  else if 0x100 ≤ page && page < 0x140 then viewDb s (page - 0x100) off
  else if page = 0x140 then viewHif s a
  else rd s a

/-- The registers that read 0 although they are written: the event test registers, MCC's doorbell and service registers, and the
switch order (R45, R304, R542). -/
def readsZero (page off : Nat) : Bool :=
  (decide (0x20 ≤ page) && decide (page < 0x24) && decide (0x900 ≤ off) && decide (off < 0xA00)) ||
  (decide (0x32 ≤ page) && decide (page < 0x34) && decide (0x900 ≤ off) && decide (off < 0xA00)) ||
  (page == 0x30 && decide (0xD00 ≤ off) && decide (off < 0xE00)) ||
  lmem (hdr page off) [Reg.TMP_EVSET, Reg.TMP_EVSET + 4, Reg.CAL_LSET, Reg.CAL_LSET + 4, Reg.MCC_DONE, Reg.MCC_SWDB_SET, Reg.MCC_WDKICK, Reg.LSW_ORDER]

/-- What a register reads: 0 where its code is WO (R36). -/
def view (s : State) (a : Nat) : Word :=
  let page := a / 4096
  let off := a % 4096
  if hasHeader page && off < 0x80 then viewHeader s page off
  else match codeOf page off with
    | some (.wo, _) => 0#32
    | _ => if readsZero page off then 0#32 else viewBlock s page off

/-! ### Reads with an effect -/

/-- CURRENT of a cipher or hash lane: the blocks since its job last began to run are a free value, for a model that takes jobs in
parts. -/
def laneCurrent (s : State) (h : Bool) (n : Nat) : State × Word :=
  let go (cls dom : Nat) : State × Word :=
    let (k, s) := fresh s
    (s, word (2 ^ 31 + cls * 2 ^ 24 + dom * 0x10000 + (Config.free 16 k).toNat))
  match (getLane s h n).cur with
  | some r => go r.job.cls r.job.dom
  | none => if !h && frameRuns s n then go 3 (pageDomain s 0x18) else (s, 0#32)

/-- LSW_CUR: the current of a switch and its peak since the last read are what flows outside, a free value. -/
def lswCur (s : State) : State × Word := let (k, s) := fresh s; (s, Config.free 32 k)

/-- DIR_IDX steps its BUCKET (R82, R582). -/
def dirStep (s : State) : State := autoinc s Reg.DIR_IDX 16

/-- MCC_EIDX steps its EVENT (R304, R582). -/
def mccStep (s : State) : State := autoinc s Reg.MCC_EIDX 10

/-- MPU_DIDX steps REGION, then DOMAIN (R303, R582). -/
def mpuStep (s : State) : State :=
  let x := rd s Reg.MPU_DIDX
  if bit x 31 then
    let n := (16 * fld x 21 16 + fld x 3 0 + 1) % 1024
    wr s Reg.MPU_DIDX (word (2 ^ 31 + n / 16 * 0x10000 + n % 16))
  else s

/-- The axis whose low word an address is. -/
def axsLow (a : Nat) : Option Axs64 :=
  if a = Reg.AXS_RTC then some .rtc else if a = Reg.AXS_MAINS then some .mains else if a = Reg.AXS_NET then some .net else none

/-- A read that a page permits (R36, R38): its value, and what it changes. -/
def readReg (s : State) (i : Initiator) (a : Nat) : State × Word :=
  let page := a / 4096
  let off := a % 4096
  if (codeOf page off).isNone then (noteErr s i page off 3 false, 0#32)
  else if a = Reg.EVR_CLAIM0 then claim s .ac0
  else if a = Reg.EVR_CLAIM0 + 4 then claim s .ac1
  else if a = Reg.MCC_CLAIM then claim s .mc
  else if a = cycReg .ac0 then cycRead s .ac0
  else if a = cycReg .ac1 then cycRead s .ac1
  else if a = cycReg .mc then cycRead s .mc
  else if a = Reg.RNG_DATA then rngData s i
  else if a = Reg.RNG_HSTAT then rngHstat s
  else if a = Reg.TCO_CDATA then let (v, s) := tcoDataRead s; (s, v)
  else if a = Reg.CAL_PDATA then let (v, s) := postDataRead s; (s, v)
  else if a = Reg.DIR_DATA then (dirStep s, dirData s)
  else if a = Reg.MCC_EDATA then (mccStep s, mget 0#32 s.mcc.evt (fld (rd s Reg.MCC_EIDX) 9 0))
  else if a = Reg.MPU_RATTR then (mpuStep s, view s a)
  else if a = Reg.BNC_SDATA then (bncStep s, seqSlot s (fld (rd s Reg.BNC_SIDX) 12 0))
  else if 0x10 ≤ page && page < 0x14 && off = 0xC4 then bneWsdata s i (page - 0x10)
  else if 0x08 ≤ page && page < 0x0C && off = 0xA4 then laneCurrent s false (page - 0x08)
  else if (page = 0x0D || page = 0x0E) && off = 0xA4 then laneCurrent s true (page - 0x0D)
  else if Reg.LSW_CUR ≤ a && a < Reg.LSW_CUR + 16 then lswCur s
  else match axsLow a with
    | some ax => (axsCapture s ax, rd s a)
    | none =>
      if a = Reg.AXS_RTC + 4 || a = Reg.AXS_MAINS + 4 || a = Reg.AXS_NET + 4 then (s, mget 0#32 s.axs.latch a) else (s, view s a)

end Sys2Proof.Machine
end

