-- ==== Sys2Proof/Machine/Bus.lean ====
section
/-! DEFINITION. The write of any register: what each page does with it beyond storing it under its access code (R36 to R51, R582,
and the register tables of the chapters). -/

namespace Sys2Proof.Machine

open Sys2Proof

/-- A value without the reserved bits of the register it is written to (R39). -/
def maskedFor (a : Nat) (v : Word) : Word :=
  match codeOf (a / 4096) (a % 4096) with
  | some (_, m) => v &&& m
  | none => v

/-- A write that a rule of the block discards. -/
def discard (s : State) (i : Initiator) (a kind : Nat) : State := noteErr s i (a / 4096) (a % 4096) kind true

/-! ### The common header -/

/-- The block-specific bits of CTRL that act when written as 1. -/
def ctrlBits (s : State) (i : Initiator) (page : Nat) (v : Word) : State :=
  if page = 0x06 then
    let s := if bit v 8 then reseedDue s else s
    if bit v 9 then doRngRestart i s else s
  else if !bit v 8 then s
  else if 0x08 ≤ page && page < 0x0C then doAesClrkey i (Fin.ofNat 4 (page - 0x08)) 0 [] s
  else if page = 0x0D || page = 0x0E then doHshClrkey i (Fin.ofNat 2 (page - 0x0D)) 0 [] s
  else if 0x10 ≤ page && page < 0x14 then doBneClrkey i (Fin.ofNat 4 (page - 0x10)) s
  else if page = 0x18 then ckptAll s
  else if page = 0x27 then doRunNow i s
  else s

/-- CTRL written (R40 to R43). -/
def writeCtrl (s : State) (i : Initiator) (page : Nat) (v : Word) : State :=
  if page = 0x60 then (if bit v 0 then s else noteErr s i page Off.CTRL 6 true)
  else if page = 0x61 then ac1Enable s (bit v 0)
  else
    let s := if isEngine page then
        let s := setQuiesce (setEn s page (bit v 0)) page (bit v 1)
        if bit v 2 then startTest s page else s
      else s
    ctrlBits s i page v

/-- Causes cleared (R44); those that stand for a condition are set again while it holds: ACC's HOLD, and the evidence counters of
TMP (R508). -/
def clearEvt (s : State) (i : Initiator) (a : Nat) (v : Word) : State :=
  let s := storeReg s i a v
  if a = hdr 0x18 Off.EVT_RAW && intakeHold s then raise s 0x18 0
  else if a = Reg.TMP_EVRAW && ([0, 1, 2, 3].any fun c => decide (119 ≤ evid s c)) then wrBit s a 31 true
  else s

/-- OWNER written (R48, R49): a new owner waits until the old owner's work has ended; a till page's enabled tills begin to close. -/
def writeOwner (s : State) (i : Initiator) (page : Nat) (v : Word) : State :=
  let a := hdr page Off.OWNER
  let ro := match pageRow? page with | some p => decide (p.owner ≠ .assigned) | none => true
  if ro || fld v 5 0 == 1 || bit (rd s a) 31 then noteErr s i page Off.OWNER 5 true
  else if fld v 5 0 = fld (rd s a) 5 0 then s
  else
    let s := upd s a fun w => setBit (setFld w 21 16 (fld v 5 0)) 31 true
    if page = 0x32 || page = 0x33 then
      (List.range 64).foldl (fun s m =>
        let t := 64 * (page - 0x32) + m
        if bit (tillCfg s t) 31 then tillSettle (setTill s t { getTill s t with disabling := true }) t else s) s
    else s

/-- A header register written. -/
def writeHeader (s : State) (i : Initiator) (page off : Nat) (v : Word) : State :=
  if off = Off.CTRL then writeCtrl s i page v
  else if off = Off.EVT_RAW then clearEvt s i (hdr page off) v
  else if off = Off.OWNER then writeOwner s i page v
  else storeReg s i (hdr page off) v

/-! ### System, life cycle and vault -/

/-- A watchdog configuration stored, its EN kept once set (R304, R539). -/
def writeWdcfg (s : State) (i : Initiator) (a : Nat) (v : Word) : State := storeReg s i a (if bit (rd s a) 31 then setBit v 31 true else v)

/-- SYS: a new configuration restarts the watchdog. -/
def writeSys (s : State) (i : Initiator) (a : Nat) (v : Word) : State :=
  if a = Reg.SYS_SWR then sysSwr s i v
  else if a = Reg.SYS_WDKICK then sysKick s v
  else if a = Reg.SYS_WDCFG then
    let s := writeWdcfg s i a v
    if locked s 0 then s else { s with boot := { s.boot with kickAt := s.tick } }
  else storeReg s i a v

/-- PMU (R540). -/
def writePmu (s : State) (i : Initiator) (a : Nat) (v : Word) : State :=
  if a = Reg.PMU_CMD then
    match fld v 31 28 with
    | 1 => doPmuRun i s
    | 2 => doPmuDoze i s
    | 3 => doPmuSleep i s
    | 4 => doPmuOff i s
    | 5 => doPmuAbort i s
    | _ => if bit (rd s Reg.PMU_CMDSTAT) 31 then discard s i a 4 else pmuOther s
  else if a = Reg.PMU_LSWREQ then doPmuLswreq i v s
  else storeReg s i a v

/-- EVR (R55). -/
def writeEvr (s : State) (i : Initiator) (a : Nat) (v : Word) : State :=
  if a = Reg.EVR_DONE0 then claimDone s i .ac0 a v
  else if a = Reg.EVR_DONE1 then claimDone s i .ac1 a v
  else storeReg s i a v

/-- LCS (R541). -/
def writeLcs (s : State) (i : Initiator) (a : Nat) (v : Word) : State :=
  if a = Reg.LCS_CMD then (if fld v 31 28 = 1 then doLcsTransition i s else lcsCmd s i fun s => lcsEnd s stNORES)
  else storeReg s i a v

/-- VLT (R203). -/
def writeVlt (s : State) (i : Initiator) (a : Nat) (v : Word) : State :=
  if a = Reg.VLT_CMD then vltCmd s i (fld v 31 24)
  else if a = Reg.VLT_SIDX then doVltSidx i v s
  else storeReg s i a v

/-! ### Lanes -/

/-- A job command register: a GO submits; without it a write is discarded while BUSY. -/
def writeGo (s : State) (i : Initiator) (a : Nat) (v : Word) (go : State → State) : State :=
  if bit v 31 then go s else if bit (rd s (a + 4)) 31 then discard s i a 4 else s

/-- AES, HSH, LMS, BNE and BNC. -/
def writeLane (s : State) (i : Initiator) (a : Nat) (v : Word) : State :=
  let page := a / 4096
  let off := a % 4096
  if 0x08 ≤ page && page < 0x0C && off = 0x88 then writeGo s i a v (doAesJobcmd i (Fin.ofNat 4 (page - 0x08)))
  else if (page = 0x0D || page = 0x0E) && off = 0x88 then writeGo s i a v (doHshJobcmd i (Fin.ofNat 2 (page - 0x0D)))
  else if a = Reg.LMS_JOBCMD then writeGo s i a v (doLmsJobcmd i)
  else if a = Reg.LMS_SEALCMD then doLmsSealcmd i v s
  else if a = Reg.LMS_KSEL then doLmsKsel i v s
  else if 0x10 ≤ page && page < 0x14 && off = 0x88 then writeGo s i a v (doBneJobcmd i (Fin.ofNat 4 (page - 0x10)))
  else if a = Reg.BNC_SDATA then doBncSdataWrite i v s
  else if a = Reg.BNC_CRCCMD then doBncCrccmd i v s
  else storeReg s i a v

/-! ### Intake -/

/-- ACC and DIR (R75, R107). -/
def writeIntake (s : State) (i : Initiator) (a : Nat) (v : Word) : State :=
  if a = Reg.ACC_CMD then accCmd s i (fld v 31 28) (fld v 9 0)
  else if a = Reg.DIR_SWAP then (if bit v 0 then doDirSwap i s else s)
  else if a = Reg.DIR_DATA then
    let x := rd s Reg.DIR_IDX
    dirStep (if bit x 30 then discard s i a 6
      else setIntake s { s.intake with staging := mset 0#32 s.intake.staging (fld x 15 0) (v &&& 0x80FF#32) })
  else storeReg s i a v

/-! ### Metrology -/

/-- TAL (R124, R142). -/
def writeTal (s : State) (i : Initiator) (a : Nat) (v : Word) : State :=
  let p := a / 4096 - 0x20
  let off := a % 4096
  if 0x100 ≤ off && off < 0x500 then talCfgWrite s i a v
  else if off = 0x80 then doTalSnapcmd i (Fin.ofNat 4 p) v s
  else if off = 0xD0 then doTalPrecmd i (Fin.ofNat 4 p) v s
  else storeReg s i a v

/-- TCO (R115, R116, R143). -/
def writeTco (s : State) (i : Initiator) (a : Nat) (v : Word) : State :=
  if a = Reg.TCO_CDATA then doTcoCdataWrite i v s
  else if a = Reg.TCO_CRCSEL then doTcoCrcsel i v s
  else if Reg.TCO_THDR ≤ a && a < Reg.TCO_THDR + 512 then tcoTableWrite s i a v
  else storeReg s i a v

/-- CAL (R155, R168). -/
def writeCal (s : State) (i : Initiator) (a : Nat) (v : Word) : State :=
  if a = Reg.CAL_CMD then
    match fld v 31 28 with
    | 1 => doArm i v s
    | 2 => doDisarm i v s
    | 3 => doDisarmAxis i v s
    | op => calCmd s i op v fun s => (s, stNORES)
  else if a = Reg.CAL_PDATA then postDataWrite s i v
  else if a = Reg.CAL_PEEKAX then doCalPeekax i v s
  else if a = Reg.CAL_LATMAX then doCalLatmaxWrite i v s
  else storeReg s i a v

/-- SNS and AXS (R145, R151, R152). -/
def writeSnsAxs (s : State) (i : Initiator) (a : Nat) (v : Word) : State :=
  if a = Reg.SNS_WCMD then doSnsWcmd i v s
  else if a = Reg.SNS_SIDX then doSnsSidx i v s
  else if a = Reg.AXS_RTCCMD then doAxsRtccmd i v s
  else if a = Reg.AXS_MCMD then doAxsMcmd i v s
  else if a = Reg.AXS_NCMD then doAxsNcmd i v s
  else if a = Reg.AXS_RTCSLEW then doAxsRtcslew i v s
  else if a = Reg.AXS_NSLEW then doAxsNslew i v s
  else storeReg s i a v

/-- MCC (R304): MCC_EDATA holds the enable and level of the event that MCC_EIDX selects. -/
def writeMcc (s : State) (i : Initiator) (a : Nat) (v : Word) : State :=
  if a = Reg.MCC_DONE then claimDone s i .mc a v
  else if a = Reg.MCC_SWDB_SET then doMccSwdbSet i v s
  else if a = Reg.MCC_WDKICK then mccKick s v
  else if a = Reg.MCC_WDCFG then
    let s := writeWdcfg s i a v
    { s with mcc := { s.mcc with kickAt := s.tick } }
  else if a = Reg.MCC_EDATA then
    let k := fld (rd s Reg.MCC_EIDX) 9 0
    mccStep { s with mcc := { s.mcc with evt := mset 0#32 s.mcc.evt k (maskedFor a v) } }
  else storeReg s i a v

/-! ### Channels and tills -/

/-- CHN (R357, R385). -/
def writeChn (s : State) (i : Initiator) (a : Nat) (v : Word) : State :=
  let k := a - Reg.CHN_CFG
  let cfg := Reg.CHN_CFG + 32 * (k / 32)
  let n : Fin 64 := Fin.ofNat 64 (k / 32)
  if a = Reg.CHN_CMD then
    (if fld v 31 28 = 1 then doChnAbort i (Fin.ofNat 64 (fld v 5 0)) s else wr s Reg.CHN_CMDSTAT (word stNORES))
  else if Reg.CHN_CFG ≤ a && a < Reg.CHN_CFG + 2048 then
    if k % 32 = 0 then
      if bit v 31 then doChnEnable i n v s
      else if bit (rd s cfg) 31 then doChnDisable i n s
      else storeReg s i a v
    else if k % 32 ≤ 16 && bit (rd s cfg) 31 then discard s i a 4
    else storeReg s i a v
  else storeReg s i a v

/-- A doorbell page (R362, R363): its event registers are those of CHN. -/
def writeDb (s : State) (i : Initiator) (a : Nat) (v : Word) : State :=
  let n : Fin 64 := Fin.ofNat 64 (a / 4096 - 0x100)
  if a % 4096 = 0 then doDbSqtail i n v s
  else if a % 4096 = 4 then doDbCqhead i n v s
  else if a % 4096 = 0x14 || a % 4096 = 0x18 then storeReg s i (canon a) v
  else storeReg s i a v

/-- TIL (R377, R387). -/
def writeTil (s : State) (i : Initiator) (a : Nat) (v : Word) : State :=
  let p := a / 4096 - 0x32
  let off := a % 4096
  let t : Fin 128 := Fin.ofNat 128 (64 * p + (off - 0x100) / 16)
  if off = 0x80 then
    if fld v 31 28 = 1 then doTillFlush i (Fin.ofNat 128 (64 * p + fld v 5 0)) s
    else if bit (rd s (a + 4)) 31 then discard s i a 4
    else wr (storeReg s i a v) (a + 4) (word stNORES)
  else if 0x100 ≤ off && off < 0x500 then
    if off % 16 = 0 then
      if bit v 31 then doTillEnable i t (maskedFor a v) s
      else if bit (tillCfg s t.val) 31 then doTillDisable i t s
      else storeReg s i a v
    else if off % 16 = 4 && bit (tillCfg s t.val) 31 && maskedFor a v != rd s a then discard s i a 4
    else storeReg s i a v
  else storeReg s i a v

/-! ### Fabric -/

/-- FAB (R422, R423, R438, R456): a configuration that changes WRAP raises ROUTE. -/
def writeFab (s : State) (i : Initiator) (a : Nat) (v : Word) : State :=
  let p : Fin 4 := Fin.ofNat 4 (a / 4096 - 0x40)
  let off := a % 4096
  if off = 0x80 then
    let t := storeReg s i a v
    if wrap s == wrap t then t else frtRaise t 2
  else if off = 0x84 then doFabCreditWrite i p v s
  else if off = 0x88 then
    match fld v 31 28 with
    | 1 => doFabTrain (some i) p s
    | 2 => doFabDown i p s
    | 3 => doRekey i p s
    | _ => discard s i a 3
  else storeReg s i a v

/-- FRT (R440, R457): clearing FRT_CFG.EN takes every port to DISABLED (R423). -/
def writeFrt (s : State) (i : Initiator) (a : Nat) (v : Word) : State :=
  if a = Reg.FRT_ADDR then doFrtAddrWrite i v s
  else if a = Reg.FRT_CFG then
    let t := storeReg s i a v
    if bit (rd s a) 31 && !bit (rd t a) 31 then storeReg (fabDown s) i a v else t
  else storeReg s i a v

/-! ### NV store, tamper, banks and cores -/

/-- NVC and NVK (R484 to R486). -/
def writeNv (s : State) (i : Initiator) (a : Nat) (v : Word) : State :=
  if a = Reg.NVC_CMD then
    match fld v 31 24 with
    | 1 => doNvcRead i .clean s
    | 2 => doImgErase i s
    | 3 => doImgWrite i s
    | 4 => doImgClose i s
    | 5 => doPbRead i s
    | 6 => doPbWrite i s
    | 7 => doPbFlush i s
    | 8 => doScrub i s
    | _ => nvcCmd s i fun s => nvcEnd s stNORES
  else if a = Reg.NVK_CMD then
    let k : Fin 256 := Fin.ofNat 256 (fld v 7 0)
    match fld v 31 28 with
    | 1 => doNvkRead i k s
    | 2 => doNvkInc i k s
    | 3 => doNvkSet i k s
    | _ => nvkCmd s i fun s => nvkEnd s k.val stNORES 0
  else storeReg s i a v

/-- A filter written: its count restarts (R489); a filter of SHD, which is kept by VBAT, only when its value changes. -/
def writeFilt (s : State) (i : Initiator) (a : Nat) (v : Word) : State :=
  let t := storeReg s i a v
  if locked s (a / 4096) || (a / 4096 = 0x51 && rd t a = rd s a) then t else wrFld t a 31 24 0

/-- TMP and SHD (R491, R508, R509): a changed loop configuration restarts its generator. -/
def writeTmp (s : State) (i : Initiator) (a : Nat) (v : Word) : State :=
  if a = Reg.TMP_CMD then (if fld v 31 28 = 1 then doTmpRelease i s else wr s Reg.TMP_CMDSTAT (word stNORES))
  else if a = Reg.TMP_EVRAW then clearEvt s i a v
  else if (Reg.TMP_FILT ≤ a && a < Reg.TMP_FILT + 84) || a = Reg.TMP_FILT29 || (Reg.SHD_FILT ≤ a && a < Reg.SHD_FILT + 32) then writeFilt s i a v
  else if Reg.SHD_LOOPCFG ≤ a && a < Reg.SHD_LOOPCFG + 16 then
    let t := storeReg s i a v
    if rd t a = rd s a then t else setTmp t { t.tmp with lfsr := merase t.tmp.lfsr ((a - Reg.SHD_LOOPCFG) / 4) }
  else storeReg s i a v

/-- MEM (R351). -/
def writeMem (s : State) (i : Initiator) (a : Nat) (v : Word) : State :=
  if a = Reg.MEM_BCMD then
    let k : Fin 32 := Fin.ofNat 32 (fld v 4 0)
    if bit (rd s Reg.MEM_BCMDSTAT) 31 then discard s i a 4
    else match fld v 31 28 with
      | 1 => doBankWithdraw i k s
      | 2 => doBankReturn i k [] 0 s
      | _ => bcmdEnd s k.val stNORES
  else storeReg s i a v

/-- A core's page (R301, R302): CORE_ENTRY of AC0 is not written. -/
def writeCore (s : State) (i : Initiator) (c : Fin 2) (off : Nat) (v : Word) : State :=
  let a := hdr (0x60 + c.val) off
  if off = 0x80 && c = 0 then discard s i a 6
  else if off = 0xA0 then gdataWrite s i c v
  else if off = 0xA4 then gsetWrite s i c v
  else storeReg s i a v

/-- A table of the MPU page written: discarded with KIND 6 for D1 and with KIND 4 while LOCK is set (R303). -/
def mpuTable (s : State) (i : Initiator) (a : Nat) (d1 : Bool) (t : Sparse Word) (k : Nat) (v : Word) (put : State → Sparse Word → State) : State :=
  if d1 then discard s i a 6
  else if locked s 0x63 then discard s i a 4
  else put s (mset 0#32 t k (maskedFor a v))

/-- MPU (R303). -/
def writeMpu (s : State) (i : Initiator) (a : Nat) (v : Word) : State :=
  let d1 := fld (rd s Reg.MPU_DIDX) 21 16 == 1
  let rgn (s : State) (w : Nat) : State :=
    mpuTable s i a d1 s.mpu.rgn (mpuRegion s + w) v fun s t => { s with mpu := { s.mpu with rgn := t } }
  if a = Reg.MPU_RBASE then rgn s 0
  else if a = Reg.MPU_RLIMIT then rgn s 1
  else if a = Reg.MPU_RATTR then mpuStep (rgn s 2)
  else if a = Reg.MPU_STK then
    mpuTable s i a (mpuStack s % 64 == 1) s.mpu.stk (mpuStack s) v fun s t => { s with mpu := { s.mpu with stk := t } }
  else if Reg.MPU_GENTRY ≤ a && a < Reg.MPU_GENTRY + 16 then
    mpuTable s i a false s.mpu.gate (mpuGate s + (a - Reg.MPU_GENTRY) / 4) v fun s t => { s with mpu := { s.mpu with gate := t } }
  else storeReg s i a v

/-! ### Any register -/

/-- A write that a page permits. -/
def writeReg (s : State) (i : Initiator) (a : Nat) (v : Word) : State :=
  let page := a / 4096
  let off := a % 4096
  if (codeOf page off).isNone then noteErr s i page off 3 true
  else if hasHeader page && off < 0x80 then writeHeader s i page off v
  else if page = 0x00 then writeSys s i a v
  else if page = 0x01 then writePmu s i a v
  else if page = 0x02 then (if a = Reg.LSW_ORDER then doLswOrder i v s else storeReg s i a v)
  else if page = 0x03 then writeEvr s i a v
  else if page = 0x04 then writeLcs s i a v
  else if page = 0x05 then writeVlt s i a v
  else if 0x08 ≤ page && page < 0x15 then writeLane s i a v
  else if page = 0x18 || page = 0x1A then writeIntake s i a v
  else if 0x20 ≤ page && page < 0x24 then writeTal s i a v
  else if page = 0x24 then writeTco s i a v
  else if page = 0x25 then writeCal s i a v
  else if page = 0x27 || page = 0x28 then writeSnsAxs s i a v
  else if page = 0x29 then writeMcc s i a v
  else if page = 0x30 then writeChn s i a v
  else if page = 0x32 || page = 0x33 then writeTil s i a v
  else if 0x40 ≤ page && page < 0x44 then writeFab s i a v
  else if page = 0x44 then writeFrt s i a v
  else if page = 0x48 || page = 0x49 then writeNv s i a v
  else if page = 0x50 || page = 0x51 then writeTmp s i a v
  else if page = 0x58 then writeMem s i a v
  else if page = 0x60 then writeCore s i 0 off v
  else if page = 0x61 then writeCore s i 1 off v
  else if page = 0x63 then writeMpu s i a v
  else if 0x100 ≤ page && page < 0x140 then writeDb s i a v
  else if a = Reg.HIF_H2D then h2dWrite s v
  else storeReg s i a v

/-- A write to the address of a register: performed if the page permits it, else refused (R12, R15, R37). -/
def busWrite (s : State) (i : Initiator) (a : Nat) (v : Word) : State := guardW s i a fun s => writeReg s i a v

/-- A read of the address of a register, answered to its initiator. -/
def busRead (s : State) (i : Initiator) (a : Nat) : State := guardR s i a fun s => let (s, v) := readReg s i a; answer s v

end Sys2Proof.Machine
end

