-- ==== Sys2Proof/Machine/Memory.lean ====
section
/-! DEFINITION. The memory instructions of the cores (R319, R320): where an access goes (R27, R28), the checks before it (R284, R288,
R310, R351), the store buffer (R296), and what the banks answer (R333 to R344). -/

namespace Sys2Proof.Machine

open Sys2Proof

/-- Where a core's data access goes (R27, R28); the boot ROM answers AC0 alone, while it runs. -/
inductive CorePlace where
  | sram | iram | dram | rom
  | page (a : Nat)
  | outside
  deriving DecidableEq, Repr

/-- The map of R27 and R28. -/
def corePlace (s : State) (c : CoreId) (a : Nat) : CorePlace :=
  if isSram a then .sram
  else if 0x40000000 ≤ a && a < 0x40140000 then (if reaches (initOf c) ((a - 0x40000000) / 4096) then .page (a - 0x40000000) else .outside)
  else if decide (c = .mc) && a < 0x20000 then .iram
  else if decide (c = .mc) && a < 0x40000 then .dram
  else if decide (c = .ac0) && s.mem.rom && a < 0x40000 then .rom
  else .outside

/-- An access that a page sees although it is not an aligned word is recorded there (R37). -/
def noteWidth (s : State) (h : Head) (a : Nat) (write : Bool) : State :=
  match corePlace s h.core a with
  | .page p => noteErr s (initOf h.core) (p / 4096) (p % 4096) 2 write
  | _ => s

/-- A misaligned access (R310). -/
def misaligned (s : State) (h : Head) (a : Nat) (write : Bool) : State := excAlign (noteWidth s h a write) h a write

/-- A page refuses an access of its owner's domain rule (R15). -/
def pageRefuse (s : State) (h : Head) (a p : Nat) (write : Bool) : State :=
  excData (noteErr s (initOf h.core) (p / 4096) (p % 4096) 1 write) h a 1 write

/-- The checks of an access to the banks: the core's filter (R284), a bank that is being cleared, for which the access waits (R340), and
a bank out of service (R351). -/
def bankAccess (s : State) (h : Head) (a n : Nat) (kd : AccKind) (write : Bool) (k : State → State) : State :=
  if !filterOk s h.core a n kd then excData (noteMpu s h.core) h a 8 write
  else if bankClearing s (bankOf a) then s
  else if !bankUp s (bankOf a) then excData s h a 1 write
  else k s

/-- The first word of a range that has an uncorrectable error. -/
def badWord (s : State) (a n : Nat) : Option Nat := (wordsOf a n).find? fun w => lmem w s.mem.poison

/-- Whether the core's buffer holds every byte of a range. -/
def inBuffer (s : State) (c : CoreId) (a n : Nat) : Bool :=
  (List.range n).all fun j => (getCore s c).sbuf.any fun e => decide (e.addr ≤ a + j) && decide (a + j < e.addr + e.bytes.length)

/-- A load from the banks (R296, R337, R338, R343): `b` is what the bank finds at the word, and whether it collides at bank 0. -/
def bankLoad (s : State) (h : Head) (a n : Nat) (b : BankEvent) (k : State → Nat → State) : State :=
  bankAccess s h a n .load false fun s =>
    if inBuffer s h.core a n then k s (leNat (seenBytes s h.core a n))
    else
      let s := findEcc s (initOf h.core) a b.ecc
      match badWord s a n with
      | some w => excEcc (noteEcc s (initOf h.core) false w true) h a
      | none =>
        let s := if b.collide && bankOf a == 0 then noteColl s a false false else s
        k s (leNat (seenBytes s h.core a n))

/-- A load of `n` bytes, its value given to `k`. -/
def coreLoad (s : State) (h : Head) (a n : Nat) (b : BankEvent) (k : State → Nat → State) : State :=
  if a % n ≠ 0 then misaligned s h a false
  else match corePlace s h.core a with
    | .outside => excBus s h a 0 false
    | .rom => k s (leNat ((List.range n).map fun j => Config.bootRom (a + j)))
    | .iram => k s (leNat ((List.range n).map fun j => mget 0#8 s.mem.iram (a + j)))
    | .dram => k s (leNat ((List.range n).map fun j => mget 0#8 s.mem.dram (a + j)))
    | .sram => bankLoad s h a n b k
    | .page p =>
      if n ≠ 4 then excBus (noteWidth s h a false) h a 2 false
      else
        let s := drain s h.core
        if readVerdict s (initOf h.core) p = .ok then
          let (s, v) := readReg s (initOf h.core) p
          k s v.toNat
        else pageRefuse s h a p false

/-- A load into a register or pair. -/
def loadTo (s : State) (h : Head) (wide : Bool) (d : Gpr) (a n : Nat) (b : BankEvent) (next : Word) (f : Nat → Nat) : State :=
  coreLoad s h a n b fun s v => retire s h.core (dset (getCore s h.core) wide d.val (f v)) next

/-- What befalls a store at its bank: the merge read's finding (R336, R339), and a collision with a DMA write (R343). -/
def storeEvent (s : State) (c : CoreId) (a : Nat) (b : BankEvent) : State :=
  let s := findEcc s (initOf c) a b.ecc
  if b.collide && bankOf a == 0 then noteColl s a true false else s

/-- An access that meets no error and no collision. -/
def quietBank : BankEvent := { ecc := .clean, collide := false }

/-- A store of bytes; `after` is what the instruction does to its registers. -/
def coreStore (s : State) (h : Head) (a : Nat) (bs : Bytes) (b : BankEvent) (next : Word) (after : Core → Core) : State :=
  let c := h.core
  let done (s : State) : State := retire s c (after (getCore s c)) next
  if a % bs.length ≠ 0 then misaligned s h a true
  else match corePlace s c a with
    | .outside => excBus s h a 0 true
    | .rom => excBus s h a 0 true
    | .iram => done { s with mem := { s.mem with iram := putBytes (fun _ => true) s.mem.iram a bs } }
    | .dram => done { s with mem := { s.mem with dram := putBytes (fun _ => true) s.mem.dram a bs } }
    | .sram => bankAccess s h a bs.length .store true fun s =>
      done (enterStore (storeEvent s c a b) c { addr := a, bytes := bs, dom := domOf (getCore s c) })
    | .page p =>
      if bs.length ≠ 4 then excBus (noteWidth s h a true) h a 2 true
      else
        let s := drain s c
        if writeVerdict s (initOf c) p = .ok then writeReg (done s) (initOf c) p (word (leNat bs)) else pageRefuse s h a p true

/-- The size of a word access. -/
def wordLen (wide : Bool) : Nat := if wide then 8 else 4

/-! ### Loads -/

/-- LDB. -/
def doLdb (h : Head) (d r : Gpr) (disp : Field) (b : BankEvent) (s : State) : State :=
  insn s h (2 + fieldLen disp + b2n h.check) fun k next => loadTo s h false d (effAddr k r disp) 1 b next id

/-- LDBS. -/
def doLdbs (h : Head) (d r : Gpr) (disp : Field) (b : BankEvent) (s : State) : State :=
  insn s h (2 + fieldLen disp + b2n h.check) fun k next => loadTo s h false d (effAddr k r disp) 1 b next fun v => (sext 8 v).toNat

/-- LDH. -/
def doLdh (h : Head) (d r : Gpr) (disp : Field) (b : BankEvent) (s : State) : State :=
  insn s h (2 + fieldLen disp + b2n h.check) fun k next => loadTo s h false d (effAddr k r disp) 2 b next id

/-- LDHS. -/
def doLdhs (h : Head) (d r : Gpr) (disp : Field) (b : BankEvent) (s : State) : State :=
  insn s h (2 + fieldLen disp + b2n h.check) fun k next => loadTo s h false d (effAddr k r disp) 2 b next fun v => (sext 16 v).toNat

/-- LDW. -/
def doLdw (h : Head) (wide : Bool) (d r : Gpr) (disp : Field) (b : BankEvent) (s : State) : State :=
  insn s h (2 + fieldLen disp + preLen h wide) fun k next =>
    if oddPair wide d then excUndef s h else loadTo s h wide d (effAddr k r disp) (wordLen wide) b next id

/-- LDPC: the address is relative to the next instruction. -/
def doLdpc (h : Head) (wide : Bool) (d : Gpr) (rel : Word) (b : BankEvent) (s : State) : State :=
  insn s h (6 + preLen h wide) fun _ next =>
    if oddPair wide d then excUndef s h else loadTo s h wide d (next + rel).toNat (wordLen wide) b next id

/-- POP: G15 steps, then the destination takes the value; POP G15 is no instruction (R308). -/
def doPop (h : Head) (wide : Bool) (d : Gpr) (b : BankEvent) (s : State) : State :=
  insn s h (2 + preLen h wide) fun k next =>
    if oddPair wide d || d.val == 15 then excUndef s h
    else coreLoad s h (gget k 15).toNat (wordLen wide) b fun s v =>
      let k := getCore s h.core
      retire s h.core (dset (gset k 15 (gget k 15 + word (wordLen wide))) wide d.val v) next

/-! ### Stores -/

/-- STB. -/
def doStb (h : Head) (d r : Gpr) (disp : Field) (b : BankEvent) (s : State) : State :=
  insn s h (2 + fieldLen disp + b2n h.check) fun k next =>
    coreStore s h (effAddr k r disp) (leBytes 1 (gget k d.val).toNat) b next id

/-- STH. -/
def doSth (h : Head) (d r : Gpr) (disp : Field) (b : BankEvent) (s : State) : State :=
  insn s h (2 + fieldLen disp + b2n h.check) fun k next =>
    coreStore s h (effAddr k r disp) (leBytes 2 (gget k d.val).toNat) b next id

/-- STW. -/
def doStw (h : Head) (wide : Bool) (d r : Gpr) (disp : Field) (s : State) : State :=
  insn s h (2 + fieldLen disp + preLen h wide) fun k next =>
    if oddPair wide d then excUndef s h
    else coreStore s h (effAddr k r disp) (leBytes (wordLen wide) (dget k wide d.val)) quietBank next id

/-- A sign-extended immediate of a store, as a number of the access's width. -/
def immVal (wide : Bool) (imm : BitVec 16) : Nat := (imm.signExtend (widthOf wide)).toNat

/-- STWI. -/
def doStwi (h : Head) (wide : Bool) (r : Gpr) (disp : Word) (imm : BitVec 16) (s : State) : State :=
  insn s h (9 + preLen h wide) fun k next =>
    coreStore s h (gget k r.val + disp).toNat (leBytes (wordLen wide) (immVal wide imm)) quietBank next id

/-- PUSH: the old value is stored below G15, which then points to it. -/
def doPush (h : Head) (wide : Bool) (r : Gpr) (s : State) : State :=
  insn s h (2 + preLen h wide) fun k next =>
    let a := gget k 15 - word (wordLen wide)
    if oddPair wide r then excUndef s h
    else coreStore s h a.toNat (leBytes (wordLen wide) (dget k wide r.val)) quietBank next fun k => gset k 15 a

/-! ### Atomics (R320, R342) -/

/-- A read and a write at the bank, indivisibly: `f` gives the new value from the old one, and `ret` the core from the old one. -/
def coreAtomic (s : State) (h : Head) (wide : Bool) (a : Nat) (b : BankEvent) (write : Bool) (next : Word) (f : Core → Nat → Nat)
    (ret : Core → Nat → Core) : State :=
  let n := wordLen wide
  if a % n ≠ 0 then misaligned s h a write
  else if !isSram a then excBus s h a 2 write
  else bankAccess s h a n .both write fun s =>
    let s := findEcc (drain s h.core) (initOf h.core) a b.ecc
    match badWord s a n with
    | some w => excEcc (noteEcc s (initOf h.core) false w true) h a
    | none =>
      let old := leNat (sramRead s a n)
      let k := getCore s h.core
      retire (bankWrite s (initOf h.core) a (leBytes n (f k old))) h.core (ret k old) next

/-- ATOMIC LDW: a swap. -/
def doAtomicSwap (h : Head) (wide : Bool) (d r : Gpr) (disp : Field) (b : BankEvent) (s : State) : State :=
  insn s h (3 + fieldLen disp + preLen h wide) fun k next =>
    if oddPair wide d then excUndef s h
    else coreAtomic s h wide (effAddr k r disp) b false next (fun k _ => dget k wide d.val) fun k old => dset k wide d.val old

/-- ATOMIC STW, which returns the old value, and ATOMIC STWI: an addition. -/
def doAtomicAdd (h : Head) (wide : Bool) (d : Gpr) (imm : Option (BitVec 16)) (r : Gpr) (disp : Field) (b : BankEvent) (s : State) : State :=
  match imm with
  | some x =>
    insn s h (10 + preLen h wide) fun k next =>
      coreAtomic s h wide (effAddr k r disp) b true next (fun _ old => old + immVal wide x) fun k _ => k
  | none =>
    insn s h (3 + fieldLen disp + preLen h wide) fun k next =>
      if oddPair wide d then excUndef s h
      else coreAtomic s h wide (effAddr k r disp) b true next (fun k old => old + dget k wide d.val) fun k old => dset k wide d.val old

/-! ### The commands -/

/-- LDB (R319). -/
def execLdb (h : Head) (d r : Gpr) (disp : Field) (b : BankEvent) (s : State) : Host.Outcome State Fault Refusal := finish s (doLdb h d r disp b s)

/-- LDBS (R319). -/
def execLdbs (h : Head) (d r : Gpr) (disp : Field) (b : BankEvent) (s : State) : Host.Outcome State Fault Refusal := finish s (doLdbs h d r disp b s)

/-- LDH (R319). -/
def execLdh (h : Head) (d r : Gpr) (disp : Field) (b : BankEvent) (s : State) : Host.Outcome State Fault Refusal := finish s (doLdh h d r disp b s)

/-- LDHS (R319). -/
def execLdhs (h : Head) (d r : Gpr) (disp : Field) (b : BankEvent) (s : State) : Host.Outcome State Fault Refusal := finish s (doLdhs h d r disp b s)

/-- LDW (R319). -/
def execLdw (h : Head) (wide : Bool) (d r : Gpr) (disp : Field) (b : BankEvent) (s : State) : Host.Outcome State Fault Refusal := finish s (doLdw h wide d r disp b s)

/-- LDPC (R319). -/
def execLdpc (h : Head) (wide : Bool) (d : Gpr) (rel : Word) (b : BankEvent) (s : State) : Host.Outcome State Fault Refusal := finish s (doLdpc h wide d rel b s)

/-- POP (R319). -/
def execPop (h : Head) (wide : Bool) (d : Gpr) (b : BankEvent) (s : State) : Host.Outcome State Fault Refusal := finish s (doPop h wide d b s)

/-- STB (R319). -/
def execStb (h : Head) (d r : Gpr) (disp : Field) (b : BankEvent) (s : State) : Host.Outcome State Fault Refusal := finish s (doStb h d r disp b s)

/-- STH (R319). -/
def execSth (h : Head) (d r : Gpr) (disp : Field) (b : BankEvent) (s : State) : Host.Outcome State Fault Refusal := finish s (doSth h d r disp b s)

/-- STW (R319). -/
def execStw (h : Head) (wide : Bool) (d r : Gpr) (disp : Field) (s : State) : Host.Outcome State Fault Refusal := finish s (doStw h wide d r disp s)

/-- STWI (R319). -/
def execStwi (h : Head) (wide : Bool) (r : Gpr) (disp : Word) (imm : BitVec 16) (s : State) : Host.Outcome State Fault Refusal := finish s (doStwi h wide r disp imm s)

/-- PUSH (R319). -/
def execPush (h : Head) (wide : Bool) (r : Gpr) (s : State) : Host.Outcome State Fault Refusal := finish s (doPush h wide r s)

/-- ATOMIC_SWAP (R320). -/
def execAtomicSwap (h : Head) (wide : Bool) (d r : Gpr) (disp : Field) (b : BankEvent) (s : State) : Host.Outcome State Fault Refusal := finish s (doAtomicSwap h wide d r disp b s)

/-- ATOMIC_ADD (R320). -/
def execAtomicAdd (h : Head) (wide : Bool) (d : Gpr) (imm : Option (BitVec 16)) (r : Gpr) (disp : Field) (b : BankEvent) (s : State) : Host.Outcome State Fault Refusal := finish s (doAtomicAdd h wide d imm r disp b s)

end Sys2Proof.Machine
end

