-- ==== Sys2Proof/Machine/Narent.lean ====
section
/-! DEFINITION. The Narent instructions that touch no memory: control transfer (R316), gates (R286, R287), system
registers (R282, R283, R322), arithmetic and logic (R317, R318), and exception and interrupt entry (R288 to R295). -/

namespace Sys2Proof.Machine

open Sys2Proof

/-! ### Control transfer -/

/-- NOP. -/
def doNopOp (h : Head) (s : State) : State :=
  insn s h (1 + b2n h.check) fun k next => retire s h.core k next

/-- FENCE: the store buffer is empty when it ends. -/
def doFence (h : Head) (s : State) : State :=
  insn s h (1 + b2n h.check) fun _ next =>
    let s := drain s h.core
    retire s h.core (getCore s h.core) next

/-- WFE: the buffer drains and the core waits at the next instruction (R295, R296). -/
def doWfe (h : Head) (s : State) : State :=
  insn s h (1 + b2n h.check) fun _ next =>
    let s := drain s h.core
    retire s h.core { getCore s h.core with run := .waiting } next

/-- A waiting core resumes once an interrupt would be taken if IE were 1 (R295). -/
def doWfeRelease (c : CoreId) (s : State) : State :=
  let k := getCore s c
  if k.run = .waiting && (irqLevel s c).isSome then setCore s c { k with run := .running } else s

/-- RET without CROSS: PC takes G14. -/
def doRetOp (h : Head) (s : State) : State :=
  insn s h (1 + b2n h.check) fun k _ => retire s h.core k (gget k 14)

/-- TRAP: EPC is the next instruction and EADDR the number. -/
def doTrap (h : Head) (n : BitVec 8) (s : State) : State :=
  insn s h (2 + b2n h.check) fun _ next => takeExc s h 9 next (word n.toNat) 0 false

/-- CALL: a relative call of 16 or 32 bits; a 1-byte offset is no form of it. -/
def doCallOp (h : Head) (rel : Field) (s : State) : State :=
  insn s h (1 + fieldLen rel + b2n h.check) fun k next =>
    match rel with
    | .b1 _ => excUndef s h
    | _ => retire s h.core (gset k 14 next) (next + fieldOff rel)

/-- CALLR: the target is read before G14 is written. -/
def doCallr (h : Head) (r : Gpr) (s : State) : State :=
  insn s h (2 + b2n h.check) fun k next => retire s h.core (gset k 14 next) (gget k r.val)

/-- JMP. -/
def doJmp (h : Head) (rel : Field) (s : State) : State :=
  insn s h (1 + fieldLen rel + b2n h.check) fun k next => retire s h.core k (next + fieldOff rel)

/-- JMPR. -/
def doJmpr (h : Head) (r : Gpr) (s : State) : State :=
  insn s h (2 + b2n h.check) fun k _ => retire s h.core k (gget k r.val)

/-- Bcc with an offset of 1 or 2 bytes; code 15 and a 4-byte offset are no forms of it. -/
def doBcc (h : Head) (cc : Fin 16) (rel : Field) (s : State) : State :=
  insn s h (1 + fieldLen rel + b2n h.check) fun k next =>
    if cc.val = 15 || fieldLen rel = 4 then excUndef s h
    else retire s h.core k (if condHolds k.psw cc.val then next + fieldOff rel else next)

/-- The flags of CMP, then the branch (R316). -/
def cmpBranch (s : State) (h : Head) (wide : Bool) (cc : Nat) (a b : Nat) (rel : BitVec 16) (k : Core) (next : Word) : State :=
  let p := setNZCV k.psw (widthOf wide) (aluSub (widthOf wide) a b 0)
  retire s h.core { k with psw := p } (if condHolds p cc then next + rel.signExtend 32 else next)

/-- CBcc. -/
def doCbcc (h : Head) (wide : Bool) (cc : Fin 16) (d r : Gpr) (rel : BitVec 16) (s : State) : State :=
  insn s h (4 + preLen h wide) fun k next =>
    if cc.val = 15 || oddPair wide d || oddPair wide r then excUndef s h
    else cmpBranch s h wide cc.val (dget k wide d.val) (dget k wide r.val) rel k next

/-- CBIcc: the immediate is sign-extended to 64 bits under WIDE. -/
def doCbicc (h : Head) (wide : Bool) (cc : Fin 16) (d : Gpr) (imm : Word) (rel : BitVec 16) (s : State) : State :=
  insn s h (9 + preLen h wide) fun k next =>
    if cc.val = 15 || oddPair wide d then excUndef s h
    else cmpBranch s h wide cc.val (dget k wide d.val) (fieldVal (widthOf wide) (.b4 imm)) rel k next

/-! ### Gates -/

/-- Whether a domain appears as a callee or as a caller on a core's gate stack (R286, check 4). -/
def onGateStack (k : Core) (dom : Nat) : Bool :=
  (List.range k.gdepth).any fun e =>
    fld (mget 0#32 k.gst (4 * e + 3)) 21 16 == dom || fld (mget 0#32 k.gst (4 * e + 2)) 21 16 == dom

/-- The checks 1 to 4 of a gate call (R286). -/
def gateOpen (s : State) (k : Core) (g : Nat) : Bool :=
  let cfg := mget 0#32 s.mpu.gate (4 * g + 1)
  let dom := domOf k
  let tgt := fld cfg 21 16
  let calls := mget 0#32 s.mpu.gate (4 * g + 2 + dom / 32)
  bit cfg 31 && tgt != 1 && tgt != dom && bit calls (dom % 32) && decide (k.gdepth < 8) && !onGateStack k tgt

/-- The core's number in MPU_SIDX. -/
def stkIndex (c : CoreId) (dom : Nat) : Nat := 64 * coreNo c + dom

/-- A gate call (R286): a gate number above 63, and CROSS on MC, are undefined. -/
def doGateCall (h : Head) (g : BitVec 16) (s : State) : State :=
  insn s h (4 + b2n h.check) fun k next =>
    if h.core = .mc || 63 < g.toNat then excUndef s h
    else if !gateOpen s k g.toNat then excGate s h (word g.toNat)
    else
      let s := drain s h.core
      let k := getCore s h.core
      let tgt := fld (mget 0#32 s.mpu.gate (4 * g.toNat + 1)) 21 16
      let e := 4 * k.gdepth
      let st := mset 0#32 (mset 0#32 (mset 0#32 (mset 0#32 k.gst e next) (e + 1) (gget k 15)) (e + 2) k.psw)
        (e + 3) (word (tgt * 0x10000 + g.toNat))
      let k := { gset k 15 (mget 0#32 s.mpu.stk (stkIndex h.core tgt)) with
        gst := st, gdepth := k.gdepth + 1, psw := setFld (setFld k.psw 21 16 tgt) 31 28 0 }
      retire s h.core k (mget 0#32 s.mpu.gate (4 * g.toNat))

/-- A gate return (R287). -/
def gateReturn (s : State) (h : Head) (k : Core) : State :=
  let e := 4 * (k.gdepth - 1)
  if k.gdepth = 0 || fld (mget 0#32 k.gst (e + 3)) 21 16 != domOf k then excGate s h 0xFFFFFFFF#32
  else
    let s := drain s h.core
    let k := getCore s h.core
    let psw := mget 0#32 k.gst (e + 2)
    let p := setFld (setFld (setBit k.psw 0 (bit psw 0)) 12 8 (fld psw 12 8)) 21 16 (fld psw 21 16)
    retire s h.core { gset k 15 (mget 0#32 k.gst (e + 1)) with gdepth := k.gdepth - 1, psw := p } (mget 0#32 k.gst e)

/-- RET with CROSS: a gate return while EXC = 0, an exception return while EXC = 1 (R286, R316). -/
def doGateReturn (h : Head) (s : State) : State :=
  insn s h (2 + b2n h.check) fun k _ =>
    if h.core = .mc then excUndef s h
    else if bit k.psw 1 then (if inApp h.core k then excPriv s h else excReturn s h)
    else gateReturn s h k

/-- ERET, or CROSS RET as an exception return: with EXC = 0 it raises GATE, in an application domain PRIV (R283, R316). -/
def doEret (h : Head) (cross : Bool) (s : State) : State :=
  insn s h (2 + b2n h.check) fun k _ =>
    if cross && decide (h.core = .mc) then excUndef s h
    else if cross && !bit k.psw 1 then gateReturn s h k
    else if inApp h.core k then excPriv s h
    else if !bit k.psw 1 then excGate s h 0xFFFFFFFF#32
    else excReturn s h

/-! ### System registers -/

/-- Whether a system register is reserved for D0 and MC (R282). -/
def sysPriv (n : Nat) : Bool := (1 ≤ n && n ≤ 5) || n = 10 || n = 11

/-- The value of a system register (R282); an unlisted number reads 0. -/
def sysRead (s : State) (c : CoreId) (k : Core) (n : Nat) : Word :=
  if n = 0 then k.psw else if n = 1 then k.epc else if n = 2 then k.epsw else if n = 3 then k.ecause
  else if n = 4 then k.eaddr
  else if n = 5 then (if c = .mc then 0#32 else k.vbar)
  else if n = 6 then (if c = .mc then 0#32 else word k.gdepth)
  else if n = 7 then word (coreNo c)
  else if n = 8 then word s.tick
  else if n = 9 then k.tickH
  else if n = 10 then k.scratch0
  else if n = 11 then k.scratch1
  else 0#32

/-- MFS: a read of TICKL captures TICKH. -/
def doMfs (h : Head) (d : Gpr) (n : BitVec 8) (s : State) : State :=
  insn s h (4 + b2n h.check) fun k next =>
    if sysPriv n.toNat && inApp h.core k then excPriv s h
    else
      let v := sysRead s h.core k n.toNat
      let k := if n.toNat = 8 then { k with tickH := word (s.tick / 2 ^ 32) } else k
      retire s h.core (gset k d.val v) next

/-- The bits of a PSW that a write can change outside an application domain: all but DOMAIN and the reserved bits (R281,
R322). -/
def pswMask : Word := 0xF0001F03#32

/-- A core with a system register written (R281 to R283, R290, R322). -/
def sysWrite (c : CoreId) (k : Core) (n : Nat) (v : Word) : Core :=
  if n = 0 then
    let m := if inApp c k then 0xF0000000#32 else pswMask
    { k with psw := (k.psw &&& ~~~ m) ||| (v &&& m) }
  else if n = 1 then { k with epc := v }
  else if n = 2 then { k with epsw := v &&& 0xF03F1F03#32 }
  else if n = 3 then { k with ecause := v &&& 0x800F0FFF#32 }
  else if n = 4 then { k with eaddr := v }
  else if n = 5 then { k with vbar := v &&& 0xFFFFFF00#32 }
  else if n = 10 then { k with scratch0 := v }
  else { k with scratch1 := v }

/-- MTS: an unlisted or read-only number is undefined, a reserved one raises PRIV in an application domain. -/
def doMts (h : Head) (n : BitVec 8) (r : Gpr) (s : State) : State :=
  insn s h (4 + b2n h.check) fun k next =>
    let m := n.toNat
    if (6 ≤ m && m ≤ 9) || 11 < m || (m = 5 && decide (h.core = .mc)) then excUndef s h
    else if sysPriv m && inApp h.core k then excPriv s h
    else retire s h.core (sysWrite h.core k m (gget k r.val)) next

/-! ### Arithmetic and logic -/

/-- An instruction that writes a 32-bit register from the core's registers and leaves the flags. -/
def simple (s : State) (h : Head) (len : Nat) (d : Gpr) (f : Core → Word → Word) : State :=
  insn s h len fun k next => retire s h.core (gset k d.val (f k next)) next

/-- An instruction that computes d from d and a second operand and sets flags (R311, R317). -/
def alu (s : State) (h : Head) (wide : Bool) (d : Gpr) (src : Src) (keep : Bool) (f : Nat → Nat → Nat → Bool → AluOut) : State :=
  insn s h (1 + srcLen src + preLen h wide) fun k next =>
    if oddPair wide d || srcOdd wide src then excUndef s h
    else
      let o := f (widthOf wide) (dget k wide d.val) (srcVal k wide src) (flagC k.psw)
      let k' := { k with psw := setNZCV k.psw (widthOf wide) o }
      retire s h.core (if keep then k' else dset k' wide d.val o.res) next

/-- ADD. -/
def doAddOp (h : Head) (wide : Bool) (d : Gpr) (src : Src) (s : State) : State := alu s h wide d src false fun w a b _ => aluAdd w a b 0
/-- ADC. -/
def doAdcOp (h : Head) (wide : Bool) (d : Gpr) (src : Src) (s : State) : State := alu s h wide d src false fun w a b c => aluAdd w a b (b2n c)
/-- SUB. -/
def doSubOp (h : Head) (wide : Bool) (d : Gpr) (src : Src) (s : State) : State := alu s h wide d src false fun w a b _ => aluSub w a b 0
/-- SBC. -/
def doSbcOp (h : Head) (wide : Bool) (d : Gpr) (src : Src) (s : State) : State := alu s h wide d src false fun w a b c => aluSub w a b (b2n c)
/-- AND. -/
def doAndOp (h : Head) (wide : Bool) (d : Gpr) (src : Src) (s : State) : State := alu s h wide d src false fun w a b _ => aluAnd w a b
/-- OR. -/
def doOrOp (h : Head) (wide : Bool) (d : Gpr) (src : Src) (s : State) : State := alu s h wide d src false fun w a b _ => aluOr w a b
/-- XOR. -/
def doXorOp (h : Head) (wide : Bool) (d : Gpr) (src : Src) (s : State) : State := alu s h wide d src false fun w a b _ => aluXor w a b
/-- CMP: d is unchanged. -/
def doCmpOp (h : Head) (wide : Bool) (d : Gpr) (src : Src) (s : State) : State := alu s h wide d src true fun w a b _ => aluSub w a b 0
/-- TST: d is unchanged. -/
def doTstOp (h : Head) (wide : Bool) (d : Gpr) (src : Src) (s : State) : State := alu s h wide d src true fun w a b _ => aluAnd w a b

/-- MOV sets no flags. -/
def doMovOp (h : Head) (wide : Bool) (d : Gpr) (src : Src) (s : State) : State :=
  insn s h (1 + srcLen src + preLen h wide) fun k next =>
    if oddPair wide d || srcOdd wide src then excUndef s h
    else retire s h.core (dset k wide d.val (srcVal k wide src)) next

/-- A shift. -/
def shift (s : State) (h : Head) (wide : Bool) (d : Gpr) (n : Count) (f : Nat → Nat → Nat → AluOut) : State :=
  insn s h (1 + countLen n + preLen h wide) fun k next =>
    if oddPair wide d || countBad wide n then excUndef s h
    else
      let o := f (widthOf wide) (dget k wide d.val) (countVal k wide n)
      retire s h.core (dset { k with psw := setNZCV k.psw (widthOf wide) o } wide d.val o.res) next

/-- SHL. -/
def doShlOp (h : Head) (wide : Bool) (d : Gpr) (n : Count) (s : State) : State := shift s h wide d n aluShl
/-- SHR. -/
def doShrOp (h : Head) (wide : Bool) (d : Gpr) (n : Count) (s : State) : State := shift s h wide d n aluShr
/-- SAR. -/
def doSarOp (h : Head) (wide : Bool) (d : Gpr) (n : Count) (s : State) : State := shift s h wide d n aluSar
/-- ROR. -/
def doRorOp (h : Head) (wide : Bool) (d : Gpr) (n : Count) (s : State) : State := shift s h wide d n aluRor

/-- A 32-bit operation on d and a register that sets flags. -/
def alu32 (s : State) (h : Head) (len : Nat) (d r : Gpr) (f : Nat → Nat → AluOut) : State :=
  insn s h (len + b2n h.check) fun k next =>
    let o := f (gget k d.val).toNat (gget k r.val).toNat
    retire s h.core (gset { k with psw := setNZCV k.psw 32 o } d.val (word o.res)) next

/-- MUL. -/
def doMulOp (h : Head) (d r : Gpr) (s : State) : State := alu32 s h 2 d r aluMul
/-- MULHU. -/
def doMulhuOp (h : Head) (d r : Gpr) (s : State) : State := alu32 s h 2 d r aluMulhu
/-- DIVU. -/
def doDivu (h : Head) (d r : Gpr) (s : State) : State := alu32 s h 3 d r aluDivu
/-- DIVS. -/
def doDivs (h : Head) (d r : Gpr) (s : State) : State := alu32 s h 3 d r aluDivs
/-- REMU. -/
def doRemu (h : Head) (d r : Gpr) (s : State) : State := alu32 s h 3 d r aluRemu
/-- REMS. -/
def doRems (h : Head) (d r : Gpr) (s : State) : State := alu32 s h 3 d r aluRems

/-- SEXTB. -/
def doSextb (h : Head) (d r : Gpr) (s : State) : State := simple s h (3 + b2n h.check) d fun k _ => sext 8 (gget k r.val).toNat
/-- SEXTH. -/
def doSexth (h : Head) (d r : Gpr) (s : State) : State := simple s h (3 + b2n h.check) d fun k _ => sext 16 (gget k r.val).toNat
/-- ZEXTB. -/
def doZextb (h : Head) (d r : Gpr) (s : State) : State := simple s h (3 + b2n h.check) d fun k _ => gget k r.val &&& 0xFF#32
/-- ZEXTH. -/
def doZexth (h : Head) (d r : Gpr) (s : State) : State := simple s h (3 + b2n h.check) d fun k _ => gget k r.val &&& 0xFFFF#32
/-- CLZ. -/
def doClz (h : Head) (d r : Gpr) (s : State) : State := simple s h (3 + b2n h.check) d fun k _ => word (clz32 (gget k r.val).toNat)

/-- BSWAP: all 8 bytes of the pair under WIDE. -/
def doBswap (h : Head) (wide : Bool) (d r : Gpr) (s : State) : State :=
  insn s h (3 + preLen h wide) fun k next =>
    if oddPair wide d || oddPair wide r then excUndef s h
    else retire s h.core (dset k wide d.val (bswapNat (widthOf wide / 8) (dget k wide r.val))) next

/-- SETcc. -/
def doSetcc (h : Head) (cc : Fin 16) (d : Gpr) (s : State) : State :=
  insn s h (3 + b2n h.check) fun k next =>
    if cc.val = 15 then excUndef s h else retire s h.core (gset k d.val (word (b2n (condHolds k.psw cc.val)))) next

/-- CSELcc. -/
def doCselcc (h : Head) (wide : Bool) (cc : Fin 16) (d r : Gpr) (s : State) : State :=
  insn s h (3 + preLen h wide) fun k next =>
    if cc.val = 15 || oddPair wide d || oddPair wide r then excUndef s h
    else retire s h.core (if condHolds k.psw cc.val then dset k wide d.val (dget k wide r.val) else k) next

/-- LEA. -/
def doLea (h : Head) (d r : Gpr) (disp : Word) (s : State) : State := simple s h (6 + b2n h.check) d fun k _ => gget k r.val + disp
/-- LEAPC. -/
def doLeapc (h : Head) (d : Gpr) (rel : Word) (s : State) : State := simple s h (6 + b2n h.check) d fun _ next => next + rel

/-! ### Exception and interrupt entry -/

/-- A synchronous exception that the fetch or CHECK raises on a running core: a refused fetch, an undefined encoding, or
the mismatch of the duplicated results, which raises CHKF and steps CORE_CHKCNT on an AC core (R288, R297). -/
def doExceptionEntry (c : CoreId) (e : ExcEvent) (s : State) : State :=
  if (getCore s c).run ≠ .running then s
  else match e with
    | .fetch a => excFetch s ⟨c, false⟩ a
    | .undef => excUndef s ⟨c, false⟩
    | .checkMismatch =>
      let s := match corePage c with
        | none => s
        | some p => bumpSat (raise s p 0) (hdr p 0xA8) 15 0
      takeExc s ⟨c, true⟩ 0 (getCore s c).pc 0#32 0 false

/-- An eligible interrupt is taken at an instruction boundary (R289, R293). -/
def doInterruptEntry (c : CoreId) (s : State) : State :=
  let k := getCore s c
  match irqLevel s c with
  | none => s
  | some l =>
    if k.run = .running && bit k.psw 0 then
      let cause := ecauseOf true 15 0 false false (domOf k)
      let s := drain (noteExc s c cause 0#32) c
      let k := enterExc c (getCore s c) 15 (getCore s c).pc 0#32 cause
      setCore s c { k with psw := setFld k.psw 12 8 l }
    else s

/-! ### The commands -/

/-- NOP (R316). -/
def execNopOp (h : Head) (s : State) : Host.Outcome State Fault Refusal := finish s (doNopOp h s)

/-- FENCE (R316). -/
def execFence (h : Head) (s : State) : Host.Outcome State Fault Refusal := finish s (doFence h s)

/-- WFE (R295). -/
def execWfe (h : Head) (s : State) : Host.Outcome State Fault Refusal := finish s (doWfe h s)

/-- WFE_RELEASE (R295). -/
def execWfeRelease (c : CoreId) (s : State) : Host.Outcome State Fault Refusal := finish s (doWfeRelease c s)

/-- RET (R316). -/
def execRetOp (h : Head) (s : State) : Host.Outcome State Fault Refusal := finish s (doRetOp h s)

/-- TRAP (R316). -/
def execTrap (h : Head) (n : BitVec 8) (s : State) : Host.Outcome State Fault Refusal := finish s (doTrap h n s)

/-- CALL (R316). -/
def execCallOp (h : Head) (rel : Field) (s : State) : Host.Outcome State Fault Refusal := finish s (doCallOp h rel s)

/-- CALLR (R316). -/
def execCallr (h : Head) (r : Gpr) (s : State) : Host.Outcome State Fault Refusal := finish s (doCallr h r s)

/-- JMP (R316). -/
def execJmp (h : Head) (rel : Field) (s : State) : Host.Outcome State Fault Refusal := finish s (doJmp h rel s)

/-- JMPR (R316). -/
def execJmpr (h : Head) (r : Gpr) (s : State) : Host.Outcome State Fault Refusal := finish s (doJmpr h r s)

/-- BCC (R316). -/
def execBcc (h : Head) (cc : Fin 16) (rel : Field) (s : State) : Host.Outcome State Fault Refusal := finish s (doBcc h cc rel s)

/-- CBCC (R316). -/
def execCbcc (h : Head) (wide : Bool) (cc : Fin 16) (d r : Gpr) (rel : BitVec 16) (s : State) : Host.Outcome State Fault Refusal := finish s (doCbcc h wide cc d r rel s)

/-- CBICC (R316). -/
def execCbicc (h : Head) (wide : Bool) (cc : Fin 16) (d : Gpr) (imm : Word) (rel : BitVec 16) (s : State) : Host.Outcome State Fault Refusal := finish s (doCbicc h wide cc d imm rel s)

/-- GATE_CALL (R286). -/
def execGateCall (h : Head) (g : BitVec 16) (s : State) : Host.Outcome State Fault Refusal := finish s (doGateCall h g s)

/-- GATE_RETURN (R287). -/
def execGateReturn (h : Head) (s : State) : Host.Outcome State Fault Refusal := finish s (doGateReturn h s)

/-- ERET (R291). -/
def execEret (h : Head) (cross : Bool) (s : State) : Host.Outcome State Fault Refusal := finish s (doEret h cross s)

/-- MFS (R322). -/
def execMfs (h : Head) (d : Gpr) (n : BitVec 8) (s : State) : Host.Outcome State Fault Refusal := finish s (doMfs h d n s)

/-- MTS (R322). -/
def execMts (h : Head) (n : BitVec 8) (r : Gpr) (s : State) : Host.Outcome State Fault Refusal := finish s (doMts h n r s)

/-- ADD (R317). -/
def execAddOp (h : Head) (wide : Bool) (d : Gpr) (src : Src) (s : State) : Host.Outcome State Fault Refusal := finish s (doAddOp h wide d src s)

/-- ADC (R317). -/
def execAdcOp (h : Head) (wide : Bool) (d : Gpr) (src : Src) (s : State) : Host.Outcome State Fault Refusal := finish s (doAdcOp h wide d src s)

/-- SUB (R317). -/
def execSubOp (h : Head) (wide : Bool) (d : Gpr) (src : Src) (s : State) : Host.Outcome State Fault Refusal := finish s (doSubOp h wide d src s)

/-- SBC (R317). -/
def execSbcOp (h : Head) (wide : Bool) (d : Gpr) (src : Src) (s : State) : Host.Outcome State Fault Refusal := finish s (doSbcOp h wide d src s)

/-- AND (R317). -/
def execAndOp (h : Head) (wide : Bool) (d : Gpr) (src : Src) (s : State) : Host.Outcome State Fault Refusal := finish s (doAndOp h wide d src s)

/-- OR (R317). -/
def execOrOp (h : Head) (wide : Bool) (d : Gpr) (src : Src) (s : State) : Host.Outcome State Fault Refusal := finish s (doOrOp h wide d src s)

/-- XOR (R317). -/
def execXorOp (h : Head) (wide : Bool) (d : Gpr) (src : Src) (s : State) : Host.Outcome State Fault Refusal := finish s (doXorOp h wide d src s)

/-- CMP (R317). -/
def execCmpOp (h : Head) (wide : Bool) (d : Gpr) (src : Src) (s : State) : Host.Outcome State Fault Refusal := finish s (doCmpOp h wide d src s)

/-- TST (R317). -/
def execTstOp (h : Head) (wide : Bool) (d : Gpr) (src : Src) (s : State) : Host.Outcome State Fault Refusal := finish s (doTstOp h wide d src s)

/-- MOV (R317). -/
def execMovOp (h : Head) (wide : Bool) (d : Gpr) (src : Src) (s : State) : Host.Outcome State Fault Refusal := finish s (doMovOp h wide d src s)

/-- SHL (R317). -/
def execShlOp (h : Head) (wide : Bool) (d : Gpr) (n : Count) (s : State) : Host.Outcome State Fault Refusal := finish s (doShlOp h wide d n s)

/-- SHR (R317). -/
def execShrOp (h : Head) (wide : Bool) (d : Gpr) (n : Count) (s : State) : Host.Outcome State Fault Refusal := finish s (doShrOp h wide d n s)

/-- SAR (R317). -/
def execSarOp (h : Head) (wide : Bool) (d : Gpr) (n : Count) (s : State) : Host.Outcome State Fault Refusal := finish s (doSarOp h wide d n s)

/-- ROR (R317). -/
def execRorOp (h : Head) (wide : Bool) (d : Gpr) (n : Count) (s : State) : Host.Outcome State Fault Refusal := finish s (doRorOp h wide d n s)

/-- MUL (R317). -/
def execMulOp (h : Head) (d r : Gpr) (s : State) : Host.Outcome State Fault Refusal := finish s (doMulOp h d r s)

/-- MULHU (R317). -/
def execMulhuOp (h : Head) (d r : Gpr) (s : State) : Host.Outcome State Fault Refusal := finish s (doMulhuOp h d r s)

/-- DIVU (R318). -/
def execDivu (h : Head) (d r : Gpr) (s : State) : Host.Outcome State Fault Refusal := finish s (doDivu h d r s)

/-- DIVS (R318). -/
def execDivs (h : Head) (d r : Gpr) (s : State) : Host.Outcome State Fault Refusal := finish s (doDivs h d r s)

/-- REMU (R318). -/
def execRemu (h : Head) (d r : Gpr) (s : State) : Host.Outcome State Fault Refusal := finish s (doRemu h d r s)

/-- REMS (R318). -/
def execRems (h : Head) (d r : Gpr) (s : State) : Host.Outcome State Fault Refusal := finish s (doRems h d r s)

/-- SEXTB (R317). -/
def execSextb (h : Head) (d r : Gpr) (s : State) : Host.Outcome State Fault Refusal := finish s (doSextb h d r s)

/-- SEXTH (R317). -/
def execSexth (h : Head) (d r : Gpr) (s : State) : Host.Outcome State Fault Refusal := finish s (doSexth h d r s)

/-- ZEXTB (R317). -/
def execZextb (h : Head) (d r : Gpr) (s : State) : Host.Outcome State Fault Refusal := finish s (doZextb h d r s)

/-- ZEXTH (R317). -/
def execZexth (h : Head) (d r : Gpr) (s : State) : Host.Outcome State Fault Refusal := finish s (doZexth h d r s)

/-- CLZ (R317). -/
def execClz (h : Head) (d r : Gpr) (s : State) : Host.Outcome State Fault Refusal := finish s (doClz h d r s)

/-- BSWAP (R317). -/
def execBswap (h : Head) (wide : Bool) (d r : Gpr) (s : State) : Host.Outcome State Fault Refusal := finish s (doBswap h wide d r s)

/-- SETCC (R317). -/
def execSetcc (h : Head) (cc : Fin 16) (d : Gpr) (s : State) : Host.Outcome State Fault Refusal := finish s (doSetcc h cc d s)

/-- CSELCC (R317). -/
def execCselcc (h : Head) (wide : Bool) (cc : Fin 16) (d r : Gpr) (s : State) : Host.Outcome State Fault Refusal := finish s (doCselcc h wide cc d r s)

/-- LEA (R319). -/
def execLea (h : Head) (d r : Gpr) (disp : Word) (s : State) : Host.Outcome State Fault Refusal := finish s (doLea h d r disp s)

/-- LEAPC (R319). -/
def execLeapc (h : Head) (d : Gpr) (rel : Word) (s : State) : Host.Outcome State Fault Refusal := finish s (doLeapc h d rel s)

/-- EXCEPTION_ENTRY (R289). -/
def execExceptionEntry (c : CoreId) (e : ExcEvent) (s : State) : Host.Outcome State Fault Refusal := finish s (doExceptionEntry c e s)

/-- INTERRUPT_ENTRY (R293). -/
def execInterruptEntry (c : CoreId) (s : State) : Host.Outcome State Fault Refusal := finish s (doInterruptEntry c s)

end Sys2Proof.Machine
end

