-- ==== Sys2Proof/Machine/Pages.lean ====
section
/-! DEFINITION. The commands of the register pages (R31 to R58, R577, R582): register writes, the header's registers, ownership,
and the host's memory accesses. -/

namespace Sys2Proof.Machine

open Sys2Proof

/-- REGISTER_WRITE: a write of any register (R36 to R39). -/
def doRegisterWrite (i : Initiator) (addr : Nat) (v : Word) (s : State) : State := busWrite s i addr v

/-! ### Causes, LOCK and ERRINFO -/

/-- Whether an address is that of a register of latched causes (R40, R46). -/
def isEvtRaw (a : Nat) : Bool :=
  let page := a / 4096
  let off := a % 4096
  (hasHeader page && off == Off.EVT_RAW) ||
  (((decide (0x20 ≤ page) && decide (page < 0x24)) || page == 0x32 || page == 0x33) && decide (0x600 ≤ off) && decide (off < 0x700)) ||
  (page == 0x30 && decide (0xA00 ≤ off) && decide (off < 0xB00)) ||
  (decide (0x100 ≤ page) && decide (page < 0x140) && off == 0x14) ||
  lmem a [Reg.TMP_EVRAW, Reg.TMP_EVRAW1, Reg.CAL_LRAW, Reg.CAL_LRAW1]

/-- EVT_RAW_CLEAR: a W1C write, while the hardware sets the causes `hw` in the same cycle (R44, R46). -/
def doEvtRawClear (i : Initiator) (addr : Nat) (clr hw : Word) (s : State) : State :=
  if !isEvtRaw addr then s
  else upd (busWrite s i addr clr) (canon addr) fun w => w ||| maskedFor addr hw

/-- EVT_SET: a write of a test register, of the header or of a lane (R45, R46). -/
def doEvtSet (i : Initiator) (addr : Nat) (v : Word) (s : State) : State :=
  if setTarget addr ≠ addr && addr ≠ Reg.EVR_SWDB_SET then busWrite s i addr v else s

/-- LOCK: a write of LOCK with bit 0 set (R47). -/
def doLockWrite (i : Initiator) (page : Nat) (s : State) : State := if hasHeader page then busWrite s i (hdr page Off.LOCK) 1#32 else s

/-- ERRINFO_CLEAR: a W1C write of a page's ERRINFO, or of DB_ERRINFO (R51). -/
def doErrinfoClear (i : Initiator) (page : Nat) (v : Word) (s : State) : State := busWrite s i (errReg page) v

/-! ### Ownership (R48, R49) -/

/-- OWNER_WRITE. -/
def doOwnerWrite (i : Initiator) (page : Nat) (v : Word) (s : State) : State :=
  if hasHeader page then busWrite s i (hdr page Off.OWNER) v else s

/-- The requests of the intake that wait for admission end with ABORTED. -/
def dropReqs (s : State) : State :=
  let rs := s.intake.reqs
  rs.foldl (fun s r => reqEnd s r stABORT 0 0) (setIntake s { s.intake with reqs := [] })

/-- The admitted frames end with ABORTED, the first each time. -/
def dropFrames : Nat → State → State
  | 0, s => s
  | n + 1, s => match s.intake.frames with
    | [] => s
    | f :: _ => dropFrames n (endFrame s 0 f stABORT)

/-- The transactions of the fabric end with ABORTED; the dedup cache and the leases are cleared. -/
def dropFabric (s : State) : State :=
  let s := s.fab.clears.foldl (fun s c => clearEnd s c stABORT 0 0 0) s
  let s := s.fab.txns.foldl (fun s t => txnEnd s t false stABORT 0 0 []) s
  setFab s { s.fab with dedup := [], ops := [], leases := [] }

/-- The work of a page's old owner, queued or in flight, ends with ABORTED, and the block clears its keys and contexts
(R48 steps 2 and 3). -/
def endOwned (s : State) (page : Nat) : State :=
  if 0x08 ≤ page && page < 0x0C then
    let n := page - 0x08
    let s := laneClear (flushLane s false n stABORT) false n
    setIntake s { s.intake with frames := s.intake.frames.map fun f => if f.lane = some n then { f with lane := none } else f }
  else if page = 0x0D || page = 0x0E then
    let n := page - 0x0D
    laneClear (flushLane s true n stABORT) true n
  else if page = 0x0F then
    let q := s.lanes.lmsQ
    lmsAbort (q.foldl (fun s r => lmsEnd s r stABORT 0 0) (setLanes s { s.lanes with lmsQ := [] }))
  else if 0x10 ≤ page && page < 0x14 then
    let n := page - 0x10
    let s := flushBne (bneEndCur s n stABORT) n stABORT
    setBne s n { getBne s n with key := none, regs := [], clr := false }
  else if page = 0x14 then setLanes s { s.lanes with bncCrc := none }
  else if page = 0x18 then
    let s := dropReqs s
    let s := dropFrames s.intake.frames.length s
    setIntake s { s.intake with cmd := none }
  else if page = 0x1A then
    let s := wrBit s (hdr 0x1A Off.STAT) 8 false
    setIntake s { s.intake with owner := [], staging := [] }
  else if page = 0x32 || page = 0x33 then (List.range 64).foldl (fun s m => setTill s (64 * (page - 0x32) + m) Till.idle) s
  else if 0x40 ≤ page && page < 0x44 then leavePort s (page - 0x40) .disabled
  else if page = 0x44 then dropFabric (fabDown s)
  else s

/-- A register that step 3 of R48 returns to its reset value. -/
def ownedReg (page a : Nat) : Bool :=
  a / 4096 == page && (decide (0x80 ≤ a % 4096) || lmem (a % 4096) [Off.EVT_RAW, Off.EVT_EN, Off.LOCK, Off.ERRINFO])

/-- OWNER_REASSIGN_COMPLETE: steps 2 to 4 of R48, once no intake frame runs on the lane and no reservation stands in the tills. -/
def doOwnerReassignComplete (page : Nat) (s : State) : State :=
  let a := hdr page Off.OWNER
  let waits := (decide (0x08 ≤ page) && decide (page < 0x0C) && frameRuns s (page - 0x08)) ||
    ((page == 0x32 || page == 0x33) && (List.range 64).any fun m => (getTill s (64 * (page - 0x32) + m)).resv != 0)
  if !hasHeader page || !bit (rd s a) 31 || waits then s
  else
    let next := fld (rd s a) 21 16
    let s := resetRegs (endOwned s page) fun x => !ownedReg page x
    let s := wr s a (word next)
    if page = 0x1A || page = 0x44 then
      let f := rd s Reg.FRT_ADDR
      wr s Reg.DIR_SELF (if bit f 31 then word (0x80000000 + fld f 11 8 * 16 + fld f 3 0) else 0#32)
    else s

/-! ### Index-stepped data registers and the event router -/

/-- The data registers of R582, without BNE_WSDATA. -/
def dataRegs : List Nat :=
  [Reg.DIR_DATA, Reg.TCO_CDATA, Reg.CAL_PDATA, Reg.MPU_RATTR, Reg.BNC_SDATA, Reg.MCC_EDATA] ++ [0, 1, 2, 3].map fun n => Reg.BNE_WSDATA + 4096 * n

/-- AUTOINC_DATA_ACCESS: a write, or a read, of a data register, which steps its index unless the page refuses it (R582). -/
def doAutoincDataAccess (i : Initiator) (addr : Nat) (w : Option Word) (s : State) : State :=
  if !lmem addr dataRegs then s
  else match w with
    | some v => busWrite s i addr v
    | none => busRead s i addr

/-- EVR_ROUTE_WRITE: the change reaches the destinations as the router settles (R58). -/
def doEvrRouteWrite (i : Initiator) (m : Fin 512) (v : Word) (s : State) : State := busWrite s i (Reg.EVR_ROUTE + 4 * m.val) v

/-- EVR_SWDB_SET (R577). -/
def doEvrSwdbSet (i : Initiator) (v : Word) (s : State) : State := busWrite s i Reg.EVR_SWDB_SET v

/-- EVR_SWDB_CLEAR (R577). -/
def doEvrSwdbClear (i : Initiator) (v : Word) (s : State) : State := busWrite s i Reg.EVR_SWDB v

/-! ### The host's memory accesses (R30 to R33) -/

/-- Whether the host reaches the BARs: the link is up and the function in D0. -/
def hostOn (s : State) : Bool := s.pcie.linkUp && !s.pcie.perst && !s.pcie.d3hot && !inert s .pcie

/-- What a BAR offset names (R30). -/
inductive HostPlace where
  | reg (a : Nat)
  | msix (k : Nat)
  | pba (k : Nat)
  | reserved
  deriving DecidableEq, Repr

/-- The map of R30. -/
def hostPlace (bar : Bar) (off : Nat) : HostPlace :=
  match bar with
  | .bar0 => if off < 0x41000 then .reg (0x100000 + off / 4 * 4) else .reserved
  | .bar2 =>
    if off < 0x400 then .msix (off / 4)
    else if 0x8000 ≤ off && off < 0x8008 then .pba ((off - 0x8000) / 4)
    else .reserved

/-- An error of R31 to R33 in HIF's ERRINFO. -/
def hostErr (s : State) (off : Nat) (write : Bool) : State := noteErr s .pcie 0x140 (off % 4096) 7 write

/-- One DWORD of a host write: with all byte enables it is written, else discarded and recorded. -/
def hostWriteDw (s : State) (bar : Bar) (off : Nat) (v : Word) (full : Bool) : State :=
  if !full then hostErr s off true
  else match hostPlace bar off with
    | .reg a => busWrite s .pcie a v
    | .msix k => msixWrite s k v
    | .pba _ => s
    | .reserved => hostErr s off true

/-- The DWORDs of a host write, in ascending order. -/
def hostWriteDws (bar : Bar) : Nat → List (Word × Bool) → State → State
  | _, [], s => s
  | off, (v, full) :: rest, s => hostWriteDws bar (off + 4) rest (hostWriteDw s bar off v full)

/-- HOST_MEMORY_WRITE (R31, R33). -/
def doHostMemoryWrite (bar : Bar) (off : Nat) (dws : List (Word × Bool)) (s : State) : State :=
  if hostOn s then hostWriteDws bar (off / 4 * 4) dws s else s

/-- One DWORD of a host read. -/
def hostReadDw (s : State) (bar : Bar) (off : Nat) : State × Word :=
  match hostPlace bar off with
  | .reg a => (match readVerdict s .pcie a with
    | .ok => readReg s .pcie a
    | v => (refuseAccess s .pcie a v false, 0#32))
  | .msix k => (s, msixRead s k)
  | .pba k => (s, word (s.router.pba.toNat / 2 ^ (32 * k)))
  | .reserved => (s, 0#32)

/-- The DWORDs of a host read. -/
def hostReadDws (bar : Bar) : Nat → Nat → State → State × List Word
  | _, 0, s => (s, [])
  | off, n + 1, s =>
    let (s, v) := hostReadDw s bar off
    let (s, vs) := hostReadDws bar (off + 4) n s
    (s, v :: vs)

/-- HOST_MEMORY_READ: data, where every byte enable is set, else Completer Abort; a read of a reserved range is recorded (R32, R33). -/
def doHostMemoryRead (bar : Bar) (off n : Nat) (full : Bool) (s : State) : State :=
  let o := off / 4 * 4
  if !hostOn s then s
  else if !full || n = 0 then emit (hostErr s o false) .completerAbort
  else
    let (s, vs) := hostReadDws bar o n s
    let s := match (List.range n).find? fun k => decide (hostPlace bar (o + 4 * k) = .reserved) with
      | some k => hostErr s (o + 4 * k) false
      | none => s
    emit s (.hostData vs)

/-! ### The commands -/

/-- REGISTER_WRITE (R36). -/
def execRegisterWrite (i : Initiator) (addr : Nat) (v : Word) (s : State) : Host.Outcome State Fault Refusal := finish s (doRegisterWrite i addr v s)

/-- EVT_RAW_CLEAR (R44). -/
def execEvtRawClear (i : Initiator) (addr : Nat) (clr hw : Word) (s : State) : Host.Outcome State Fault Refusal := finish s (doEvtRawClear i addr clr hw s)

/-- EVT_SET (R45). -/
def execEvtSet (i : Initiator) (addr : Nat) (v : Word) (s : State) : Host.Outcome State Fault Refusal := finish s (doEvtSet i addr v s)

/-- LOCK (R47). -/
def execLockWrite (i : Initiator) (page : Nat) (s : State) : Host.Outcome State Fault Refusal := finish s (doLockWrite i page s)

/-- ERRINFO_CLEAR (R51). -/
def execErrinfoClear (i : Initiator) (page : Nat) (v : Word) (s : State) : Host.Outcome State Fault Refusal := finish s (doErrinfoClear i page v s)

/-- OWNER_WRITE (R48). -/
def execOwnerWrite (i : Initiator) (page : Nat) (v : Word) (s : State) : Host.Outcome State Fault Refusal := finish s (doOwnerWrite i page v s)

/-- OWNER_REASSIGN_COMPLETE (R48). -/
def execOwnerReassignComplete (page : Nat) (s : State) : Host.Outcome State Fault Refusal := finish s (doOwnerReassignComplete page s)

/-- AUTOINC_DATA_ACCESS (R582). -/
def execAutoincDataAccess (i : Initiator) (addr : Nat) (w : Option Word) (s : State) : Host.Outcome State Fault Refusal := finish s (doAutoincDataAccess i addr w s)

/-- EVR_ROUTE_WRITE (R58). -/
def execEvrRouteWrite (i : Initiator) (m : Fin 512) (v : Word) (s : State) : Host.Outcome State Fault Refusal := finish s (doEvrRouteWrite i m v s)

/-- EVR_SWDB_SET (R577). -/
def execEvrSwdbSet (i : Initiator) (v : Word) (s : State) : Host.Outcome State Fault Refusal := finish s (doEvrSwdbSet i v s)

/-- EVR_SWDB_CLEAR (R577). -/
def execEvrSwdbClear (i : Initiator) (v : Word) (s : State) : Host.Outcome State Fault Refusal := finish s (doEvrSwdbClear i v s)

/-- HOST_MEMORY_WRITE (R31). -/
def execHostMemoryWrite (bar : Bar) (off : Nat) (dws : List (Word × Bool)) (s : State) : Host.Outcome State Fault Refusal := finish s (doHostMemoryWrite bar off dws s)

/-- HOST_MEMORY_READ (R32). -/
def execHostMemoryRead (bar : Bar) (off : Nat) (n : Nat) (full : Bool) (s : State) : Host.Outcome State Fault Refusal := finish s (doHostMemoryRead bar off n full s)

end Sys2Proof.Machine
end

