-- ==== Sys2Proof/Machine/Tick.lean ====
section
/-! DEFINITION. What a microsecond brings when no command waits (the step's idle tick). DESIGN CHOICE (log entry 7): the manual's time
passes at every cycle, and the table has no row for it. -/

namespace Sys2Proof.Machine

open Sys2Proof

/-- One microsecond. In SLEEP and OFF only the RTC runs (R147, R523). Else the device tick and the axes advance, a reset that waits takes
effect where it can, the router's notifications go to the fabric, transactions without a route end, an account command that waits runs, and
the boot ROM posts the status of a command that has ended. -/
def idleTick (s : State) : State :=
  if awake s then
    let s := dueResets (axesTick { s with tick := s.tick + 1 })
    romTick (gateNext (fabSweep (fabNotes s)))
  else
    let s := rtcTick (slewTick s false)
    { s with pmu := { s.pmu with slept := s.pmu.slept + 1 } }

/-- The step on an empty queue. -/
def execIdle (s : State) : Host.Outcome State Fault Refusal := finish s (idleTick s)

end Sys2Proof.Machine
end

