-- ==== Sys2Proof/Machine/Dispatch.lean ====
section
/-! DEFINITION. The dispatch: one arm per constructor of Instr, each a direct call of its meaning. -/

namespace Sys2Proof.Machine

open Sys2Proof

/-- What each command does to everything but the queue. -/
def exec (i : Instr) (s : State) : Host.Outcome State Fault Refusal :=
  match i with
  | .registerWrite ini addr v => Sys2Proof.Machine.execRegisterWrite ini addr v s
  | .hostMemoryWrite bar off dws => Sys2Proof.Machine.execHostMemoryWrite bar off dws s
  | .hostMemoryRead bar off n full => Sys2Proof.Machine.execHostMemoryRead bar off n full s
  | .ctrlEnClear ini page => Sys2Proof.Machine.execCtrlEnClear ini page s
  | .quiesce ini page on => Sys2Proof.Machine.execQuiesce ini page on s
  | .quiescedReached page => Sys2Proof.Machine.execQuiescedReached page s
  | .selftest ini page => Sys2Proof.Machine.execSelftest ini page s
  | .selftestDone page pass => Sys2Proof.Machine.execSelftestDone page pass s
  | .evtRawClear ini addr clr hw => Sys2Proof.Machine.execEvtRawClear ini addr clr hw s
  | .evtSet ini addr v => Sys2Proof.Machine.execEvtSet ini addr v s
  | .lockWrite ini page => Sys2Proof.Machine.execLockWrite ini page s
  | .ownerWrite ini page v => Sys2Proof.Machine.execOwnerWrite ini page v s
  | .ownerReassignComplete page => Sys2Proof.Machine.execOwnerReassignComplete page s
  | .errinfoClear ini page v => Sys2Proof.Machine.execErrinfoClear ini page v s
  | .shadowMismatch addr prim shad => Sys2Proof.Machine.execShadowMismatch addr prim shad s
  | .autoincDataAccess ini addr w => Sys2Proof.Machine.execAutoincDataAccess ini addr w s
  | .evrClaim ini n => Sys2Proof.Machine.execEvrClaim ini n s
  | .evrDone ini n v => Sys2Proof.Machine.execEvrDone ini n v s
  | .evrRouteWrite ini m v => Sys2Proof.Machine.execEvrRouteWrite ini m v s
  | .evrSwdbSet ini v => Sys2Proof.Machine.execEvrSwdbSet ini v s
  | .evrSwdbClear ini v => Sys2Proof.Machine.execEvrSwdbClear ini v s
  | .msixUnmask c => Sys2Proof.Machine.execMsixUnmask c s
  | .intake n => Sys2Proof.Machine.execIntake n s
  | .frameAdmit d => Sys2Proof.Machine.execFrameAdmit d s
  | .gateEnter k => Sys2Proof.Machine.execGateEnter k s
  | .intakeUnwrap k fault => Sys2Proof.Machine.execIntakeUnwrap k fault s
  | .decryptVerify k => Sys2Proof.Machine.execDecryptVerify k s
  | .ledgerExtend k => Sys2Proof.Machine.execLedgerExtend k s
  | .frameCommit k => Sys2Proof.Machine.execFrameCommit k s
  | .forwardResponse p => Sys2Proof.Machine.execForwardResponse p s
  | .dirSwap ini => Sys2Proof.Machine.execDirSwap ini s
  | .dirSwapApply => Sys2Proof.Machine.execDirSwapApply s
  | .accCreate ini a => Sys2Proof.Machine.execAccCreate ini a s
  | .accDelete ini a => Sys2Proof.Machine.execAccDelete ini a s
  | .accEnable ini a => Sys2Proof.Machine.execAccEnable ini a s
  | .accDisable ini a => Sys2Proof.Machine.execAccDisable ini a s
  | .setFeed ini a => Sys2Proof.Machine.execSetFeed ini a s
  | .setProfile ini a => Sys2Proof.Machine.execSetProfile ini a s
  | .reseat ini a => Sys2Proof.Machine.execReseat ini a s
  | .accRead ini a => Sys2Proof.Machine.execAccRead ini a s
  | .clearFails ini a => Sys2Proof.Machine.execClearFails ini a s
  | .clrcnt ini a => Sys2Proof.Machine.execClrcnt ini a s
  | .ckpt ini a => Sys2Proof.Machine.execCkpt ini a s
  | .retotal ini a => Sys2Proof.Machine.execRetotal ini a s
  | .ckptNow ini => Sys2Proof.Machine.execCkptNow ini s
  | .checkpointCapture => Sys2Proof.Machine.execCheckpointCapture s
  | .checkpointProgramDone ok => Sys2Proof.Machine.execCheckpointProgramDone ok s
  | .pulseEdge k rising => Sys2Proof.Machine.execPulseEdge k rising s
  | .sourceConsume src => Sys2Proof.Machine.execSourceConsume src s
  | .tallyDispatch => Sys2Proof.Machine.execTallyDispatch s
  | .tallyUpdateCommit mism => Sys2Proof.Machine.execTallyUpdateCommit mism s
  | .talSnapcmd ini p v => Sys2Proof.Machine.execTalSnapcmd ini p v s
  | .snapshotCapture p => Sys2Proof.Machine.execSnapshotCapture p s
  | .talPrecmd ini p v => Sys2Proof.Machine.execTalPrecmd ini p v s
  | .presetApply p => Sys2Proof.Machine.execPresetApply p s
  | .tcoCrcsel ini v => Sys2Proof.Machine.execTcoCrcsel ini v s
  | .tcoCrcDone => Sys2Proof.Machine.execTcoCrcDone s
  | .tcoCdataWrite ini v => Sys2Proof.Machine.execTcoCdataWrite ini v s
  | .snsRunStart => Sys2Proof.Machine.execSnsRunStart s
  | .runNow ini => Sys2Proof.Machine.execRunNow ini s
  | .snsXfer rx => Sys2Proof.Machine.execSnsXfer rx s
  | .snsWait => Sys2Proof.Machine.execSnsWait s
  | .snsWaitrdy low => Sys2Proof.Machine.execSnsWaitrdy low s
  | .snsCheck => Sys2Proof.Machine.execSnsCheck s
  | .snsStore => Sys2Proof.Machine.execSnsStore s
  | .snsCommit => Sys2Proof.Machine.execSnsCommit s
  | .snsEnd => Sys2Proof.Machine.execSnsEnd s
  | .snsWcmd ini v => Sys2Proof.Machine.execSnsWcmd ini v s
  | .snsSidx ini v => Sys2Proof.Machine.execSnsSidx ini v s
  | .axsRtccmd ini v => Sys2Proof.Machine.execAxsRtccmd ini v s
  | .axsMcmd ini v => Sys2Proof.Machine.execAxsMcmd ini v s
  | .axsNcmd ini v => Sys2Proof.Machine.execAxsNcmd ini v s
  | .axsRtcslew ini v => Sys2Proof.Machine.execAxsRtcslew ini v s
  | .axsNslew ini v => Sys2Proof.Machine.execAxsNslew ini v s
  | .slewDone net => Sys2Proof.Machine.execSlewDone net s
  | .axsLowRead ini ax => Sys2Proof.Machine.execAxsLowRead ini ax s
  | .mainsEdge => Sys2Proof.Machine.execMainsEdge s
  | .mainsTimeout => Sys2Proof.Machine.execMainsTimeout s
  | .postingDue axis => Sys2Proof.Machine.execPostingDue axis s
  | .postingFire delay => Sys2Proof.Machine.execPostingFire delay s
  | .closingCapture => Sys2Proof.Machine.execClosingCapture s
  | .closingRecordMove => Sys2Proof.Machine.execClosingRecordMove s
  | .arm ini v => Sys2Proof.Machine.execArm ini v s
  | .disarm ini v => Sys2Proof.Machine.execDisarm ini v s
  | .disarmAxis ini v => Sys2Proof.Machine.execDisarmAxis ini v s
  | .calPeekax ini v => Sys2Proof.Machine.execCalPeekax ini v s
  | .calLatmaxWrite ini v => Sys2Proof.Machine.execCalLatmaxWrite ini v s
  | .pufPowerDone => Sys2Proof.Machine.execPufPowerDone s
  | .pufReadDone => Sys2Proof.Machine.execPufReadDone s
  | .pufDecodeDone ok errbits bad => Sys2Proof.Machine.execPufDecodeDone ok errbits bad s
  | .pufCoolDone => Sys2Proof.Machine.execPufCoolDone s
  | .vltUpdate ini => Sys2Proof.Machine.execVltUpdate ini s
  | .updateSigsVerified => Sys2Proof.Machine.execUpdateSigsVerified s
  | .updateCommit => Sys2Proof.Machine.execUpdateCommit s
  | .accountKeyInstall => Sys2Proof.Machine.execAccountKeyInstall s
  | .vltMint ini => Sys2Proof.Machine.execVltMint ini s
  | .vltOpen ini => Sys2Proof.Machine.execVltOpen ini s
  | .vltGetpub ini => Sys2Proof.Machine.execVltGetpub ini s
  | .hallmark ini => Sys2Proof.Machine.execHallmark ini s
  | .report ini => Sys2Proof.Machine.execReport ini s
  | .vltDestroy ini => Sys2Proof.Machine.execVltDestroy ini s
  | .vltDerive ini => Sys2Proof.Machine.execVltDerive ini s
  | .vltAgree ini => Sys2Proof.Machine.execVltAgree ini s
  | .vltGetid ini => Sys2Proof.Machine.execVltGetid ini s
  | .vltEnroll ini => Sys2Proof.Machine.execVltEnroll ini s
  | .vltSidx ini v => Sys2Proof.Machine.execVltSidx ini v s
  | .keyUnwrapDone r => Sys2Proof.Machine.execKeyUnwrapDone r s
  | .rngHealthFail apt => Sys2Proof.Machine.execRngHealthFail apt s
  | .reseedNow ini => Sys2Proof.Machine.execReseedNow ini s
  | .rngRestart ini => Sys2Proof.Machine.execRngRestart ini s
  | .drbgReseedDone => Sys2Proof.Machine.execDrbgReseedDone s
  | .rngDataRead ini => Sys2Proof.Machine.execRngDataRead ini s
  | .rngHstatRead ini => Sys2Proof.Machine.execRngHstatRead ini s
  | .aesJobcmd ini n => Sys2Proof.Machine.execAesJobcmd ini n s
  | .aesJobStart n host => Sys2Proof.Machine.execAesJobStart n host s
  | .aesJobDone n host => Sys2Proof.Machine.execAesJobDone n host s
  | .aesPreempt n units host => Sys2Proof.Machine.execAesPreempt n units host s
  | .aesResume n host => Sys2Proof.Machine.execAesResume n host s
  | .aesCheckMismatch n units host => Sys2Proof.Machine.execAesCheckMismatch n units host s
  | .aesClrkey ini n units host => Sys2Proof.Machine.execAesClrkey ini n units host s
  | .hshJobcmd ini n => Sys2Proof.Machine.execHshJobcmd ini n s
  | .hshJobStart n host => Sys2Proof.Machine.execHshJobStart n host s
  | .hshJobDone n host => Sys2Proof.Machine.execHshJobDone n host s
  | .hshPreempt n units host => Sys2Proof.Machine.execHshPreempt n units host s
  | .hshCheckMismatch n w units host => Sys2Proof.Machine.execHshCheckMismatch n w units host s
  | .hshClrkey ini n units host => Sys2Proof.Machine.execHshClrkey ini n units host s
  | .lmsJobcmd ini => Sys2Proof.Machine.execLmsJobcmd ini s
  | .lmsSignStart => Sys2Proof.Machine.execLmsSignStart s
  | .lmsAdvanceDone k => Sys2Proof.Machine.execLmsAdvanceDone k s
  | .lmsSignDone => Sys2Proof.Machine.execLmsSignDone s
  | .lmsKsel ini v => Sys2Proof.Machine.execLmsKsel ini v s
  | .lmsSealcmd ini v => Sys2Proof.Machine.execLmsSealcmd ini v s
  | .sealStart => Sys2Proof.Machine.execSealStart s
  | .sealTreeDone => Sys2Proof.Machine.execSealTreeDone s
  | .sealSigned => Sys2Proof.Machine.execSealSigned s
  | .sealDelivered => Sys2Proof.Machine.execSealDelivered s
  | .bneJobcmd ini n => Sys2Proof.Machine.execBneJobcmd ini n s
  | .bneJobStart n ecc => Sys2Proof.Machine.execBneJobStart n ecc s
  | .bneJobDone n host => Sys2Proof.Machine.execBneJobDone n host s
  | .bneCheckMismatch n => Sys2Proof.Machine.execBneCheckMismatch n s
  | .bneLimitExpiry n => Sys2Proof.Machine.execBneLimitExpiry n s
  | .bneClrkey ini n => Sys2Proof.Machine.execBneClrkey ini n s
  | .bnEnd l => Sys2Proof.Machine.execBnEnd l s
  | .bnFail l => Sys2Proof.Machine.execBnFail l s
  | .bnJmp l => Sys2Proof.Machine.execBnJmp l s
  | .bnBr l => Sys2Proof.Machine.execBnBr l s
  | .bnCall l => Sys2Proof.Machine.execBnCall l s
  | .bnRet l => Sys2Proof.Machine.execBnRet l s
  | .cset l => Sys2Proof.Machine.execCset l s
  | .cloop l => Sys2Proof.Machine.execCloop l s
  | .setlen l => Sys2Proof.Machine.execSetlen l s
  | .modset l => Sys2Proof.Machine.execModset l s
  | .bnMov l => Sys2Proof.Machine.execBnMov l s
  | .ldc l => Sys2Proof.Machine.execLdc l s
  | .bnGet l host => Sys2Proof.Machine.execBnGet l host s
  | .bnPut l => Sys2Proof.Machine.execBnPut l s
  | .kload l => Sys2Proof.Machine.execKload l s
  | .bnRand l => Sys2Proof.Machine.execBnRand l s
  | .mmul l => Sys2Proof.Machine.execMmul l s
  | .madd l => Sys2Proof.Machine.execMadd l s
  | .msub l => Sys2Proof.Machine.execMsub l s
  | .minv l => Sys2Proof.Machine.execMinv l s
  | .bnCmp l => Sys2Proof.Machine.execBnCmp l s
  | .bnAdd l => Sys2Proof.Machine.execBnAdd l s
  | .bnSub l => Sys2Proof.Machine.execBnSub l s
  | .bnShl l => Sys2Proof.Machine.execBnShl l s
  | .bnShr l => Sys2Proof.Machine.execBnShr l s
  | .btst l => Sys2Proof.Machine.execBtst l s
  | .cswap l => Sys2Proof.Machine.execCswap l s
  | .wipe l => Sys2Proof.Machine.execWipe l s
  | .qset l => Sys2Proof.Machine.execQset l s
  | .ntt l => Sys2Proof.Machine.execNtt l s
  | .intt l => Sys2Proof.Machine.execIntt l s
  | .pmul l => Sys2Proof.Machine.execPmul l s
  | .padd l => Sys2Proof.Machine.execPadd l s
  | .psub l => Sys2Proof.Machine.execPsub l s
  | .pmap l => Sys2Proof.Machine.execPmap l s
  | .psamp l => Sys2Proof.Machine.execPsamp l s
  | .pget l host => Sys2Proof.Machine.execPget l host s
  | .pput l => Sys2Proof.Machine.execPput l s
  | .pfmt l => Sys2Proof.Machine.execPfmt l s
  | .hinit l => Sys2Proof.Machine.execHinit l s
  | .habs l => Sys2Proof.Machine.execHabs l s
  | .habsi l host => Sys2Proof.Machine.execHabsi l host s
  | .hmsg l host => Sys2Proof.Machine.execHmsg l host s
  | .hsqz l => Sys2Proof.Machine.execHsqz l s
  | .bneWsdataRead ini n => Sys2Proof.Machine.execBneWsdataRead ini n s
  | .bncSdataWrite ini v => Sys2Proof.Machine.execBncSdataWrite ini v s
  | .bncCrccmd ini v => Sys2Proof.Machine.execBncCrccmd ini v s
  | .bncCrcDone => Sys2Proof.Machine.execBncCrcDone s
  | .nopOp h => Sys2Proof.Machine.execNopOp h s
  | .fence h => Sys2Proof.Machine.execFence h s
  | .wfe h => Sys2Proof.Machine.execWfe h s
  | .wfeRelease c => Sys2Proof.Machine.execWfeRelease c s
  | .retOp h => Sys2Proof.Machine.execRetOp h s
  | .trap h n => Sys2Proof.Machine.execTrap h n s
  | .callOp h rel => Sys2Proof.Machine.execCallOp h rel s
  | .callr h r => Sys2Proof.Machine.execCallr h r s
  | .jmp h rel => Sys2Proof.Machine.execJmp h rel s
  | .jmpr h r => Sys2Proof.Machine.execJmpr h r s
  | .bcc h cc rel => Sys2Proof.Machine.execBcc h cc rel s
  | .cbcc h wide cc d r rel => Sys2Proof.Machine.execCbcc h wide cc d r rel s
  | .cbicc h wide cc d imm rel => Sys2Proof.Machine.execCbicc h wide cc d imm rel s
  | .gateCall h g => Sys2Proof.Machine.execGateCall h g s
  | .gateReturn h => Sys2Proof.Machine.execGateReturn h s
  | .eret h cross => Sys2Proof.Machine.execEret h cross s
  | .mfs h d n => Sys2Proof.Machine.execMfs h d n s
  | .mts h n r => Sys2Proof.Machine.execMts h n r s
  | .divu h d r => Sys2Proof.Machine.execDivu h d r s
  | .divs h d r => Sys2Proof.Machine.execDivs h d r s
  | .remu h d r => Sys2Proof.Machine.execRemu h d r s
  | .rems h d r => Sys2Proof.Machine.execRems h d r s
  | .stwi h wide r disp imm => Sys2Proof.Machine.execStwi h wide r disp imm s
  | .sextb h d r => Sys2Proof.Machine.execSextb h d r s
  | .sexth h d r => Sys2Proof.Machine.execSexth h d r s
  | .zextb h d r => Sys2Proof.Machine.execZextb h d r s
  | .zexth h d r => Sys2Proof.Machine.execZexth h d r s
  | .clz h d r => Sys2Proof.Machine.execClz h d r s
  | .bswap h wide d r => Sys2Proof.Machine.execBswap h wide d r s
  | .setcc h cc d => Sys2Proof.Machine.execSetcc h cc d s
  | .cselcc h wide cc d r => Sys2Proof.Machine.execCselcc h wide cc d r s
  | .addOp h wide d src => Sys2Proof.Machine.execAddOp h wide d src s
  | .adcOp h wide d src => Sys2Proof.Machine.execAdcOp h wide d src s
  | .subOp h wide d src => Sys2Proof.Machine.execSubOp h wide d src s
  | .sbcOp h wide d src => Sys2Proof.Machine.execSbcOp h wide d src s
  | .andOp h wide d src => Sys2Proof.Machine.execAndOp h wide d src s
  | .orOp h wide d src => Sys2Proof.Machine.execOrOp h wide d src s
  | .xorOp h wide d src => Sys2Proof.Machine.execXorOp h wide d src s
  | .cmpOp h wide d src => Sys2Proof.Machine.execCmpOp h wide d src s
  | .tstOp h wide d src => Sys2Proof.Machine.execTstOp h wide d src s
  | .movOp h wide d src => Sys2Proof.Machine.execMovOp h wide d src s
  | .shlOp h wide d n => Sys2Proof.Machine.execShlOp h wide d n s
  | .shrOp h wide d n => Sys2Proof.Machine.execShrOp h wide d n s
  | .sarOp h wide d n => Sys2Proof.Machine.execSarOp h wide d n s
  | .rorOp h wide d n => Sys2Proof.Machine.execRorOp h wide d n s
  | .mulOp h d r => Sys2Proof.Machine.execMulOp h d r s
  | .mulhuOp h d r => Sys2Proof.Machine.execMulhuOp h d r s
  | .ldb h d r disp b => Sys2Proof.Machine.execLdb h d r disp b s
  | .ldbs h d r disp b => Sys2Proof.Machine.execLdbs h d r disp b s
  | .ldh h d r disp b => Sys2Proof.Machine.execLdh h d r disp b s
  | .ldhs h d r disp b => Sys2Proof.Machine.execLdhs h d r disp b s
  | .ldw h wide d r disp b => Sys2Proof.Machine.execLdw h wide d r disp b s
  | .stb h d r disp b => Sys2Proof.Machine.execStb h d r disp b s
  | .sth h d r disp b => Sys2Proof.Machine.execSth h d r disp b s
  | .stw h wide d r disp => Sys2Proof.Machine.execStw h wide d r disp s
  | .atomicSwap h wide d r disp b => Sys2Proof.Machine.execAtomicSwap h wide d r disp b s
  | .atomicAdd h wide d imm r disp b => Sys2Proof.Machine.execAtomicAdd h wide d imm r disp b s
  | .ldpc h wide d rel b => Sys2Proof.Machine.execLdpc h wide d rel b s
  | .lea h d r disp => Sys2Proof.Machine.execLea h d r disp s
  | .leapc h d rel => Sys2Proof.Machine.execLeapc h d rel s
  | .push h wide r => Sys2Proof.Machine.execPush h wide r s
  | .pop h wide d b => Sys2Proof.Machine.execPop h wide d b s
  | .vcmd h d r => Sys2Proof.Machine.execVcmd h d r s
  | .ajob h d r => Sys2Proof.Machine.execAjob h d r s
  | .hjob h d r => Sys2Proof.Machine.execHjob h d r s
  | .lsign h d r => Sys2Proof.Machine.execLsign h d r s
  | .cp2Seal h d r => Sys2Proof.Machine.execCp2Seal h d r s
  | .bjob h d r => Sys2Proof.Machine.execBjob h d r s
  | .tickWait h cp d r => Sys2Proof.Machine.execTickWait h cp d r s
  | .tickPoll h cp d r => Sys2Proof.Machine.execTickPoll h cp d r s
  | .ticketDone => Sys2Proof.Machine.execTicketDone s
  | .cpSnap h d r => Sys2Proof.Machine.execCpSnap h d r s
  | .snapw h d r => Sys2Proof.Machine.execSnapw h d r s
  | .cpPreset h d r target => Sys2Proof.Machine.execCpPreset h d r target s
  | .presetw h d r => Sys2Proof.Machine.execPresetw h d r s
  | .cp5Push h d r => Sys2Proof.Machine.execCp5Push h d r s
  | .pushl h d r => Sys2Proof.Machine.execPushl h d r s
  | .rewind h r => Sys2Proof.Machine.execRewind h r s
  | .cp5Pop h d r => Sys2Proof.Machine.execCp5Pop h d r s
  | .popw h d r => Sys2Proof.Machine.execPopw h d r s
  | .tillLevel h d r => Sys2Proof.Machine.execTillLevel h d r s
  | .exceptionEntry c e => Sys2Proof.Machine.execExceptionEntry c e s
  | .interruptEntry c => Sys2Proof.Machine.execInterruptEntry c s
  | .lockstepMismatch => Sys2Proof.Machine.execLockstepMismatch s
  | .ac1CtrlEn ini en => Sys2Proof.Machine.execAc1CtrlEn ini en s
  | .coreGdataWrite ini c v => Sys2Proof.Machine.execCoreGdataWrite ini c v s
  | .coreGset ini c v => Sys2Proof.Machine.execCoreGset ini c v s
  | .coreCycRead ini c => Sys2Proof.Machine.execCoreCycRead ini c s
  | .mccClaim ini => Sys2Proof.Machine.execMccClaim ini s
  | .mccDone ini v => Sys2Proof.Machine.execMccDone ini v s
  | .mccSwdbSet ini v => Sys2Proof.Machine.execMccSwdbSet ini v s
  | .mccWdkick ini v => Sys2Proof.Machine.execMccWdkick ini v s
  | .metrologyWatchdogWarn => Sys2Proof.Machine.execMetrologyWatchdogWarn s
  | .wdrM => Sys2Proof.Machine.execWdrM s
  | .mccLoadDone => Sys2Proof.Machine.execMccLoadDone s
  | .btVisitStart => Sys2Proof.Machine.execBtVisitStart s
  | .btCopyDone corr => Sys2Proof.Machine.execBtCopyDone corr s
  | .btTestDone fails => Sys2Proof.Machine.execBtTestDone fails s
  | .btRestoreDone => Sys2Proof.Machine.execBtRestoreDone s
  | .btSpareTest failing => Sys2Proof.Machine.execBtSpareTest failing s
  | .bankWithdraw ini bank => Sys2Proof.Machine.execBankWithdraw ini bank s
  | .bankReturn ini bank failing spareFails => Sys2Proof.Machine.execBankReturn ini bank failing spareFails s
  | .bankClearDone => Sys2Proof.Machine.execBankClearDone s
  | .chnEnable ini n cfg => Sys2Proof.Machine.execChnEnable ini n cfg s
  | .chnDisable ini n => Sys2Proof.Machine.execChnDisable ini n s
  | .dbSqtail ini n v => Sys2Proof.Machine.execDbSqtail ini n v s
  | .dbCqhead ini n v => Sys2Proof.Machine.execDbCqhead ini n v s
  | .descFetch n k => Sys2Proof.Machine.execDescFetch n k s
  | .descArrive n d => Sys2Proof.Machine.execDescArrive n d s
  | .completionWrite coll => Sys2Proof.Machine.execCompletionWrite coll s
  | .cqCoalTimeout n => Sys2Proof.Machine.execCqCoalTimeout n s
  | .tokenRefill n => Sys2Proof.Machine.execTokenRefill n s
  | .chnAbort ini n => Sys2Proof.Machine.execChnAbort ini n s
  | .chanNop n => Sys2Proof.Machine.execChanNop n s
  | .chanCopy n data => Sys2Proof.Machine.execChanCopy n data s
  | .tillRead n => Sys2Proof.Machine.execTillRead n s
  | .tillReadTimeout n => Sys2Proof.Machine.execTillReadTimeout n s
  | .tillWrite n d => Sys2Proof.Machine.execTillWrite n d s
  | .dmaTimeout n k got => Sys2Proof.Machine.execDmaTimeout n k got s
  | .dmaReadError n k e got => Sys2Proof.Machine.execDmaReadError n k e got s
  | .tillEnable ini t cfg => Sys2Proof.Machine.execTillEnable ini t cfg s
  | .tillDisable ini t => Sys2Proof.Machine.execTillDisable ini t s
  | .tillFlush ini t => Sys2Proof.Machine.execTillFlush ini t s
  | .tillStale t => Sys2Proof.Machine.execTillStale t s
  | .tillPtrerr t => Sys2Proof.Machine.execTillPtrerr t s
  | .crstNRise => Sys2Proof.Machine.execCrstNRise s
  | .modeSelect cdat1 => Sys2Proof.Machine.execModeSelect cdat1 s
  | .crstNFall => Sys2Proof.Machine.execCrstNFall s
  | .atr inRange => Sys2Proof.Machine.execAtr inRange s
  | .pps m => Sys2Proof.Machine.execPps m s
  | .writeBuf m => Sys2Proof.Machine.execWriteBuf m s
  | .readBuf m => Sys2Proof.Machine.execReadBuf m s
  | .cpSubmit m => Sys2Proof.Machine.execCpSubmit m s
  | .cpReap m => Sys2Proof.Machine.execCpReap m s
  | .cpStatus m => Sys2Proof.Machine.execCpStatus m s
  | .setPassword m => Sys2Proof.Machine.execSetPassword m s
  | .clearPassword m => Sys2Proof.Machine.execClearPassword m s
  | .cpUnlock m => Sys2Proof.Machine.execCpUnlock m s
  | .lockPort m => Sys2Proof.Machine.execLockPort m s
  | .forceErase m => Sys2Proof.Machine.execForceErase m s
  | .persistDone => Sys2Proof.Machine.execPersistDone s
  | .cbIdentify f line => Sys2Proof.Machine.execCbIdentify f line s
  | .cbAssign f => Sys2Proof.Machine.execCbAssign f s
  | .cbRelease f => Sys2Proof.Machine.execCbRelease f s
  | .cbSwitch f => Sys2Proof.Machine.execCbSwitch f s
  | .cbCheck f => Sys2Proof.Machine.execCbCheck f s
  | .switchTimeout => Sys2Proof.Machine.execSwitchTimeout s
  | .cbSleep f => Sys2Proof.Machine.execCbSleep f s
  | .cbWake f => Sys2Proof.Machine.execCbWake f s
  | .frameGapTimeout => Sys2Proof.Machine.execFrameGapTimeout s
  | .perstNFall => Sys2Proof.Machine.execPerstNFall s
  | .perstNRise => Sys2Proof.Machine.execPerstNRise s
  | .flr => Sys2Proof.Machine.execFlr s
  | .pcieLinkUp width speed => Sys2Proof.Machine.execPcieLinkUp width speed s
  | .pcieLinkDown => Sys2Proof.Machine.execPcieLinkDown s
  | .d3hotEntry => Sys2Proof.Machine.execD3hotEntry s
  | .busMasterEnable => Sys2Proof.Machine.execBusMasterEnable s
  | .hifH2dWrite v => Sys2Proof.Machine.execHifH2dWrite v s
  | .fabTrain ini p => Sys2Proof.Machine.execFabTrain ini p s
  | .fabDown ini p => Sys2Proof.Machine.execFabDown ini p s
  | .rekey ini p => Sys2Proof.Machine.execRekey ini p s
  | .linkTrained p => Sys2Proof.Machine.execLinkTrained p s
  | .hskOffer p m => Sys2Proof.Machine.execHskOffer p m s
  | .hskInit p m => Sys2Proof.Machine.execHskInit p m s
  | .hskReply p m => Sys2Proof.Machine.execHskReply p m s
  | .hskConfirm p m => Sys2Proof.Machine.execHskConfirm p m s
  | .hskChecksDone p => Sys2Proof.Machine.execHskChecksDone p s
  | .hskTimeout p => Sys2Proof.Machine.execHskTimeout p s
  | .blockLockLost p => Sys2Proof.Machine.execBlockLockLost p s
  | .keepaliveMiss p => Sys2Proof.Machine.execKeepaliveMiss p s
  | .holdoffExpiry p => Sys2Proof.Machine.execHoldoffExpiry p s
  | .keepaliveSend p => Sys2Proof.Machine.execKeepaliveSend p s
  | .ackSend p => Sys2Proof.Machine.execAckSend p s
  | .frameReceive p wire => Sys2Proof.Machine.execFrameReceive p wire s
  | .ctrlFrame p wire => Sys2Proof.Machine.execCtrlFrame p wire s
  | .replayTimeout p => Sys2Proof.Machine.execReplayTimeout p s
  | .creditStall p => Sys2Proof.Machine.execCreditStall p s
  | .fabLaneMismatch p ok => Sys2Proof.Machine.execFabLaneMismatch p ok s
  | .discovery p => Sys2Proof.Machine.execDiscovery p s
  | .agent p => Sys2Proof.Machine.execAgent p s
  | .routedForward p => Sys2Proof.Machine.execRoutedForward p s
  | .forwardedIntake p => Sys2Proof.Machine.execForwardedIntake p s
  | .txnReq p => Sys2Proof.Machine.execTxnReq p s
  | .txnRsp p => Sys2Proof.Machine.execTxnRsp p s
  | .notify p => Sys2Proof.Machine.execNotify p s
  | .unreach p => Sys2Proof.Machine.execUnreach p s
  | .txnTimeout k => Sys2Proof.Machine.execTxnTimeout k s
  | .dedupExpire k => Sys2Proof.Machine.execDedupExpire k s
  | .leaseExpire k => Sys2Proof.Machine.execLeaseExpire k s
  | .frtAddrWrite ini v => Sys2Proof.Machine.execFrtAddrWrite ini v s
  | .leaseRead => Sys2Proof.Machine.execLeaseRead s
  | .frtStage => Sys2Proof.Machine.execFrtStage s
  | .frtCommit => Sys2Proof.Machine.execFrtCommit s
  | .frtDispose => Sys2Proof.Machine.execFrtDispose s
  | .frtRelease => Sys2Proof.Machine.execFrtRelease s
  | .remoteQuery => Sys2Proof.Machine.execRemoteQuery s
  | .clrSend n d => Sys2Proof.Machine.execClrSend n d s
  | .clrClear n => Sys2Proof.Machine.execClrClear n s
  | .clrQuery n => Sys2Proof.Machine.execClrQuery n s
  | .nvcRead ini e => Sys2Proof.Machine.execNvcRead ini e s
  | .imgErase ini => Sys2Proof.Machine.execImgErase ini s
  | .imgWrite ini => Sys2Proof.Machine.execImgWrite ini s
  | .imgClose ini => Sys2Proof.Machine.execImgClose ini s
  | .pbRead ini => Sys2Proof.Machine.execPbRead ini s
  | .pbWrite ini => Sys2Proof.Machine.execPbWrite ini s
  | .pbFlush ini => Sys2Proof.Machine.execPbFlush ini s
  | .scrub ini => Sys2Proof.Machine.execScrub ini s
  | .scrubPeriod finds => Sys2Proof.Machine.execScrubPeriod finds s
  | .nvProgramDone bankB ok => Sys2Proof.Machine.execNvProgramDone bankB ok s
  | .nvEraseDone bankB pass => Sys2Proof.Machine.execNvEraseDone bankB pass s
  | .eraseSuspend bankB => Sys2Proof.Machine.execEraseSuspend bankB s
  | .sectorReclaim r copyB => Sys2Proof.Machine.execSectorReclaim r copyB s
  | .nvkRead ini k => Sys2Proof.Machine.execNvkRead ini k s
  | .nvkInc ini k => Sys2Proof.Machine.execNvkInc ini k s
  | .nvkSet ini k => Sys2Proof.Machine.execNvkSet ini k s
  | .counterHalfSwitch j => Sys2Proof.Machine.execCounterHalfSwitch j s
  | .daybookBegin => Sys2Proof.Machine.execDaybookBegin s
  | .daybookCommit => Sys2Proof.Machine.execDaybookCommit s
  | .assayPortWrite => Sys2Proof.Machine.execAssayPortWrite s
  | .assayPortRead => Sys2Proof.Machine.execAssayPortRead s
  | .vmainGlitch e => Sys2Proof.Machine.execVmainGlitch e s
  | .coreRailGlitch => Sys2Proof.Machine.execCoreRailGlitch s
  | .xtalWindow count => Sys2Proof.Machine.execXtalWindow count s
  | .tempSample t => Sys2Proof.Machine.execTempSample t s
  | .lightSample n lux => Sys2Proof.Machine.execLightSample n lux s
  | .shieldMismatch l0 l1 => Sys2Proof.Machine.execShieldMismatch l0 l1 s
  | .meshMismatch differs => Sys2Proof.Machine.execMeshMismatch differs s
  | .lidSwitchSample isOpen => Sys2Proof.Machine.execLidSwitchSample isOpen s
  | .caseSample n isOpen => Sys2Proof.Machine.execCaseSample n isOpen s
  | .loopSample n level => Sys2Proof.Machine.execLoopSample n level s
  | .evidenceBurnDone => Sys2Proof.Machine.execEvidenceBurnDone s
  | .tmpRelease ini => Sys2Proof.Machine.execTmpRelease ini s
  | .l2holdExpiry => Sys2Proof.Machine.execL2holdExpiry s
  | .zeroizeBurnDone => Sys2Proof.Machine.execZeroizeBurnDone s
  | .zeroizeEraseDone => Sys2Proof.Machine.execZeroizeEraseDone s
  | .zeroizeDone => Sys2Proof.Machine.execZeroizeDone s
  | .por => Sys2Proof.Machine.execPor s
  | .hur => Sys2Proof.Machine.execHur s
  | .tmr => Sys2Proof.Machine.execTmr s
  | .supervisorWatchdogWarn => Sys2Proof.Machine.execSupervisorWatchdogWarn s
  | .wdrS => Sys2Proof.Machine.execWdrS s
  | .sysWdkick ini v => Sys2Proof.Machine.execSysWdkick ini v s
  | .swr ini v => Sys2Proof.Machine.execSwr ini v s
  | .pinReset => Sys2Proof.Machine.execPinReset s
  | .pllLockLost => Sys2Proof.Machine.execPllLockLost s
  | .bootRails ok count => Sys2Proof.Machine.execBootRails ok count s
  | .bootSelftest fails => Sys2Proof.Machine.execBootSelftest fails s
  | .bootLifecycle => Sys2Proof.Machine.execBootLifecycle s
  | .bootNvRecovery => Sys2Proof.Machine.execBootNvRecovery s
  | .bootImageSelect => Sys2Proof.Machine.execBootImageSelect s
  | .bootRestore => Sys2Proof.Machine.execBootRestore s
  | .handOver => Sys2Proof.Machine.execHandOver s
  | .romImgErase d => Sys2Proof.Machine.execRomImgErase d s
  | .romImgWrite d => Sys2Proof.Machine.execRomImgWrite d s
  | .romImgClose d => Sys2Proof.Machine.execRomImgClose d s
  | .romUpdate d => Sys2Proof.Machine.execRomUpdate d s
  | .romTransition d => Sys2Proof.Machine.execRomTransition d s
  | .romRestart => Sys2Proof.Machine.execRomRestart s
  | .lcsTransition ini => Sys2Proof.Machine.execLcsTransition ini s
  | .lifecycleRestart => Sys2Proof.Machine.execLifecycleRestart s
  | .pmuRun ini => Sys2Proof.Machine.execPmuRun ini s
  | .pmuDoze ini => Sys2Proof.Machine.execPmuDoze ini s
  | .pmuSleep ini => Sys2Proof.Machine.execPmuSleep ini s
  | .sleepEnter => Sys2Proof.Machine.execSleepEnter s
  | .pmuAbort ini => Sys2Proof.Machine.execPmuAbort ini s
  | .pmuOff ini => Sys2Proof.Machine.execPmuOff ini s
  | .idleEntry => Sys2Proof.Machine.execIdleEntry s
  | .wakeTimer => Sys2Proof.Machine.execWakeTimer s
  | .pmuWake => Sys2Proof.Machine.execPmuWake s
  | .huWriteReady mv => Sys2Proof.Machine.execHuWriteReady mv s
  | .huBelowThreshold mv => Sys2Proof.Machine.execHuBelowThreshold mv s
  | .huCapTest => Sys2Proof.Machine.execHuCapTest s
  | .powerFail => Sys2Proof.Machine.execPowerFail s
  | .windowComplete => Sys2Proof.Machine.execWindowComplete s
  | .vmainReturn => Sys2Proof.Machine.execVmainReturn s
  | .lswOrder ini v => Sys2Proof.Machine.execLswOrder ini v s
  | .pmuLswreq ini v => Sys2Proof.Machine.execPmuLswreq ini v s
  | .lswMaxonExpiry n => Sys2Proof.Machine.execLswMaxonExpiry n s
  | .lswTrip n => Sys2Proof.Machine.execLswTrip n s
  | .lswPolWrite ini n v => Sys2Proof.Machine.execLswPolWrite ini n v s
  | .vbatApplied => Sys2Proof.Machine.execVbatApplied s
  | .vbatLoss => Sys2Proof.Machine.execVbatLoss s
  | .vloadLoss => Sys2Proof.Machine.execVloadLoss s
  | .vloadReturn => Sys2Proof.Machine.execVloadReturn s
  | .cvccLoss => Sys2Proof.Machine.execCvccLoss s
  | .cvccReturn => Sys2Proof.Machine.execCvccReturn s
  | .railFault => Sys2Proof.Machine.execRailFault s
  | .aspmStateChange l1 => Sys2Proof.Machine.execAspmStateChange l1 s
  | .d3hotExit => Sys2Proof.Machine.execD3hotExit s
  | .busMasterDisable => Sys2Proof.Machine.execBusMasterDisable s
  | .huChargeComplete c => Sys2Proof.Machine.execHuChargeComplete c s
  | .huCapTestDone fall => Sys2Proof.Machine.execHuCapTestDone fall s
  | .wtxRequest => Sys2Proof.Machine.execWtxRequest s
  | .fabCreditWrite ini p v => Sys2Proof.Machine.execFabCreditWrite ini p v s

end Sys2Proof.Machine
end

