-- ==== Sys2Proof/Safety.lean ====
section
/-! DEFINITION. What counts as a safe step, and the conditions that claims about commands are stated under. -/

namespace Sys2Proof

open Sys2Proof.Machine

/-- A step is safe when it answers a next state. -/
def Safe (s : State) : Prop := ∃ t, step s = .next t

namespace Machine

/-- An initiator's write of a page register is performed (R12, R15, R34, R37). -/
def MayStore (s : State) (i : Initiator) (a : Nat) : Prop := inert s i = false ∧ writeVerdict s i a = .ok

/-- An initiator's read of a page register is performed (R12, R15, R34, R37). -/
def MayLoad (s : State) (i : Initiator) (a : Nat) : Prop := inert s i = false ∧ readVerdict s i a = .ok

/-- The core runs, and every byte of an instruction of `len` bytes at its PC may be fetched (R284, R308). -/
def Runs (s : State) (h : Head) (len : Nat) : Prop :=
  (getCore s h.core).run = .running ∧ fetchBad s h.core (getCore s h.core).pc.toNat len = none

/-- The address of the instruction after one of `len` bytes. -/
def nextPc (s : State) (h : Head) (len : Nat) : Word := (getCore s h.core).pc + word len

/-- An aligned access of `n` bytes that the core's map and filter permit and that its bank answers (R27, R28, R284, R310, R340, R351). -/
def AccessOpen (s : State) (h : Head) (a n : Nat) (kd : AccKind) : Prop :=
  a % n = 0 ∧
    match corePlace s h.core a with
    | .sram => filterOk s h.core a n kd = true ∧ bankClearing s (bankOf a) = false ∧ bankUp s (bankOf a) = true
    | .iram => True
    | .dram => True
    | .rom => kd = .load
    | .page _ => False
    | .outside => False

/-- What a core's load of `n` bytes sees: MC's RAM, the boot ROM, or the banks with the core's buffered stores (R27, R28, R296). -/
def loadSees (s : State) (c : CoreId) (a n : Nat) : Nat :=
  match corePlace s c a with
  | .iram => leNat ((List.range n).map fun j => mget 0#8 s.mem.iram (a + j))
  | .dram => leNat ((List.range n).map fun j => mget 0#8 s.mem.dram (a + j))
  | .rom => leNat ((List.range n).map fun j => Config.bootRom (a + j))
  | _ => leNat (seenBytes s c a n)

/-- The state with a core's store made: into MC's RAM at once, towards a bank through the store buffer (R28, R296). -/
def stored (s : State) (c : CoreId) (a : Nat) (bs : Bytes) : State :=
  match corePlace s c a with
  | .iram => { s with mem := { s.mem with iram := putBytes (fun _ => true) s.mem.iram a bs } }
  | .dram => { s with mem := { s.mem with dram := putBytes (fun _ => true) s.mem.dram a bs } }
  | _ => enterStore s c { addr := a, bytes := bs, dom := domOf (getCore s c) }

/-- A register that a write does no more than store into under its access code: it starts nothing (R36). -/
def StoresOnly (a : Nat) : Prop := ∀ s i v, writeReg s i a v = storeReg s i a v

/-- A big-number lane runs a user sequence whose next slot, in the user region, holds the well-formed word `w` of operation `op`
(R260 to R262). -/
def RunsOp (s : State) (l : Fin 4) (r : BRun) (op : Nat) (w : Word) : Prop :=
  bnRunning s l.val = some r ∧ inUser r.pc = true ∧ seqSlot s r.pc = w ∧ fld w 31 26 = op ∧ bnFieldsOk w = true

/-- The lane's operation counter stepped. -/
def countedOp (s : State) (l : Fin 4) : State :=
  wr s (hdr (bnePage l.val) 0xB0) (rd s (hdr (bnePage l.val) 0xB0) + 1#32)

/-- A workspace register that a job of domain `dom` may read (R259). -/
def OwnReg (s : State) (l : Fin 4) (dom k : Nat) : Prop := (wreg s l.val k).written = true → (wreg s l.val k).dom = dom

/-- What a workspace register reads: 0 where it has not been written (R259). -/
def wval (s : State) (l : Fin 4) (k : Nat) : Nat := if (wreg s l.val k).written then (wreg s l.val k).val else 0

/-- Whether a workspace register holds a secret. -/
def wsecret (s : State) (l : Fin 4) (k : Nat) : Bool := (wreg s l.val k).written && (wreg s l.val k).secret

/-- A contact-port command arrives: as an APDU of class 0x80 with P1-P2 `p`, data and Le in ISO mode, or as a good frame to this module
with data `card` on the card bus (R395, R407, R408). -/
def Arrives (s : State) (m : PortCmd) (p : Nat) (data : Bytes) (le : Option Nat) (card : Bytes) : Prop :=
  awake s = true ∧
    ((∃ p1 p2, m = .apdu 0x80#8 p1 p2 data le ∧ p1.toNat * 256 + p2.toNat = p ∧ cptLive s 1 = true ∧ cptBit s 29 = true) ∨
     (∃ a, m = .card ⟨a, card, true⟩ ∧ a.toNat = cptAddr s ∧ 0 < cptAddr s ∧ cptLive s 2 = true ∧ cptBit s 24 = false))

/-- The outputs follow the events and the modes (R57, R417): EVT_N is low while it is enabled and an asserted event is routed to it, CLKREQ_N
while VMAIN is present, but in L1 with clock power management. -/
def OutputsRight (s : State) : Prop :=
  (s.pins.evtN = true ↔ bit (rd s Reg.EVR_EVTN) 0 = true ∧
    ∃ ev, ev < 1024 ∧ asserted s ev = true ∧ bit (routeOf (rd s (Reg.EVR_ROUTE + ev / 2 * 4)) ev) 14 = true) ∧
  (s.pins.clkreqN = true ↔ s.pmu.vmain = true ∧ ¬ (s.pcie.clkPm = true ∧ s.pcie.l1 = true))

/-- `n` steps lead from one state to another. -/
def StepsTo : Nat → State → State → Prop
  | 0, s, t => s = t
  | n + 1, s, t => ∃ u, step s = .next u ∧ StepsTo n u t

end Machine

end Sys2Proof
end

