-- ==== Sys2Proof/Certificates/Slice0/Obligations.lean ====
section
/-! DEFINITION. The statements about the block, for the provers. -/

open Sys2Proof Sys2Proof.Machine

/-- With a command at the front of the queue, a step is that command run on the state with the queue's rest. Where the spec leaves a point
open, the clauses rest on the choices of the model in log entry 186. -/
def Obligations.StepRunsFront : Prop :=
  ∀ (i : Instr) (s : State) (rest : List Instr), s.pending = i :: rest → step s = exec i { s with pending := rest }

/-- R317, R311: The arithmetic and logic instructions, with a register or an immediate as second operand, at 32 bits or 64. The result
goes to the destination (CMP and TST: nowhere), Z and N follow it, ADD and SUB set C and V, the others leave them; nothing else changes
but PC and what the page shows of the last instruction. The shifts. A count of 0 leaves C as it was, else C is the last bit moved out; Z
and N follow the result, V stays. -/
def Obligations.ArithmeticResults : Prop :=
  (∀ (h : Head) (wide : Bool) (d : Gpr) (src : Src) (s : State),
    Runs s h (1 + srcLen src + preLen h wide) → oddPair wide d = false → srcOdd wide src = false →
    let k := getCore s h.core
    let w := widthOf wide
    let a := dget k wide d.val
    let b := srcVal k wide src
    let c := b2n (flagC k.psw)
    let next := nextPc s h (1 + srcLen src + preLen h wide)
    let writes (i : Instr) (o : AluOut) : Prop :=
      exec i s = .next (landed s (retire s h.core (dset { k with psw := setNZCV k.psw w o } wide d.val o.res) next))
    let compares (i : Instr) (o : AluOut) : Prop :=
      exec i s = .next (landed s (retire s h.core { k with psw := setNZCV k.psw w o } next))
    let sum (c : Nat) : AluOut := ⟨(a + b + c) % 2 ^ w, some (decide (2 ^ w ≤ a + b + c)), some (overflows w (signed w a + signed w b + c))⟩
    let diff (c : Nat) : AluOut := ⟨(a + 2 ^ w + 2 ^ w - b - c) % 2 ^ w, some (decide (a < b + c)), some (overflows w (signed w a - signed w b - c))⟩
    writes (.addOp h wide d src) (sum 0) ∧ writes (.adcOp h wide d src) (sum c) ∧
    writes (.subOp h wide d src) (diff 0) ∧ writes (.sbcOp h wide d src) (diff c) ∧
    writes (.andOp h wide d src) ⟨Nat.land a b, none, none⟩ ∧ writes (.orOp h wide d src) ⟨Nat.lor a b, none, none⟩ ∧
    writes (.xorOp h wide d src) ⟨Nat.xor a b, none, none⟩ ∧
    compares (.cmpOp h wide d src) (diff 0) ∧ compares (.tstOp h wide d src) ⟨Nat.land a b, none, none⟩ ∧
    exec (.movOp h wide d src) s = .next (landed s (retire s h.core (dset k wide d.val b) next))) ∧
  (∀ (h : Head) (wide : Bool) (d : Gpr) (n : Count) (s : State),
    Runs s h (1 + countLen n + preLen h wide) → oddPair wide d = false → countBad wide n = false →
    let k := getCore s h.core
    let w := widthOf wide
    let a := dget k wide d.val
    let m := countVal k wide n
    let low : Option Bool := if m = 0 then none else some (a / 2 ^ (m - 1) % 2 == 1)
    let gives (i : Instr) (o : AluOut) : Prop :=
      exec i s = .next (landed s (retire s h.core (dset { k with psw := setNZCV k.psw w o } wide d.val o.res)
        (nextPc s h (1 + countLen n + preLen h wide))))
    gives (.shlOp h wide d n) ⟨a * 2 ^ m % 2 ^ w, if m = 0 then none else some (a / 2 ^ (w - m) % 2 == 1), none⟩ ∧
    gives (.shrOp h wide d n) ⟨a / 2 ^ m, low, none⟩ ∧
    gives (.sarOp h wide d n) ⟨unsigned w (signed w a / (2 : Int) ^ m), low, none⟩ ∧
    gives (.rorOp h wide d n) ⟨a / 2 ^ m + a % 2 ^ m * 2 ^ (w - m), low, none⟩)

/-- R317, R318, R319: Multiply and divide. A division by 0, and the one signed quotient that does not fit, set V and give the values of
R318. Extensions, CLZ, BSWAP, SETcc, CSELcc, LEA and LEAPC write their destination and leave the flags. -/
def Obligations.ProductAndMoveResults : Prop :=
  (∀ (h : Head) (d r : Gpr) (s : State), Runs s h (2 + b2n h.check) → Runs s h (3 + b2n h.check) →
    let k := getCore s h.core
    let a := (gget k d.val).toNat
    let b := (gget k r.val).toNat
    let gives (i : Instr) (len : Nat) (o : AluOut) : Prop :=
      exec i s = .next (landed s (retire s h.core (gset { k with psw := setNZCV k.psw 32 o } d.val (word o.res)) (nextPc s h (len + b2n h.check))))
    let worst := a = 0x80000000 ∧ b = 0xFFFFFFFF
    gives (.mulOp h d r) 2 ⟨a * b % 2 ^ 32, none, none⟩ ∧ gives (.mulhuOp h d r) 2 ⟨a * b / 2 ^ 32, none, none⟩ ∧
    (b ≠ 0 → gives (.divu h d r) 3 ⟨a / b, none, some false⟩ ∧ gives (.remu h d r) 3 ⟨a % b, none, some false⟩) ∧
    (b ≠ 0 → ¬ worst → gives (.divs h d r) 3 ⟨unsigned 32 (Int.tdiv (signed 32 a) (signed 32 b)), none, some false⟩ ∧
      gives (.rems h d r) 3 ⟨unsigned 32 (Int.tmod (signed 32 a) (signed 32 b)), none, some false⟩) ∧
    (b = 0 → gives (.divu h d r) 3 ⟨0xFFFFFFFF, none, some true⟩ ∧ gives (.divs h d r) 3 ⟨0xFFFFFFFF, none, some true⟩ ∧
      gives (.remu h d r) 3 ⟨a, none, some true⟩ ∧ gives (.rems h d r) 3 ⟨a, none, some true⟩) ∧
    (worst → gives (.divs h d r) 3 ⟨0x80000000, none, some true⟩ ∧ gives (.rems h d r) 3 ⟨0, none, some true⟩)) ∧
  (∀ (h : Head) (wide : Bool) (cc : Fin 16) (d r : Gpr) (disp : Word) (s : State),
    Runs s h (3 + b2n h.check) → Runs s h (3 + preLen h wide) → Runs s h (6 + b2n h.check) →
    let k := getCore s h.core
    let v := gget k r.val
    let gives (i : Instr) (len : Nat) (k' : Core) : Prop := exec i s = .next (landed s (retire s h.core k' (nextPc s h len)))
    let byte3 (i : Instr) (x : Word) : Prop := gives i (3 + b2n h.check) (gset k d.val x)
    byte3 (.sextb h d r) (sext 8 v.toNat) ∧ byte3 (.sexth h d r) (sext 16 v.toNat) ∧
    byte3 (.zextb h d r) (v &&& 0xFF#32) ∧ byte3 (.zexth h d r) (v &&& 0xFFFF#32) ∧
    byte3 (.clz h d r) (word (clz32 v.toNat)) ∧
    (cc.val ≠ 15 → byte3 (.setcc h cc d) (word (b2n (condHolds k.psw cc.val)))) ∧
    (oddPair wide d = false → oddPair wide r = false →
      gives (.bswap h wide d r) (3 + preLen h wide) (dset k wide d.val (bswapNat (widthOf wide / 8) (dget k wide r.val)))) ∧
    (cc.val ≠ 15 → oddPair wide d = false → oddPair wide r = false →
      gives (.cselcc h wide cc d r) (3 + preLen h wide) (if condHolds k.psw cc.val then dset k wide d.val (dget k wide r.val) else k)) ∧
    gives (.lea h d r disp) (6 + b2n h.check) (gset k d.val (v + disp)) ∧
    gives (.leapc h d disp) (6 + b2n h.check) (gset k d.val (nextPc s h (6 + b2n h.check) + disp)))

/-- R316: Jumps, branches, calls and the return through G14. -/
def Obligations.BranchTargets : Prop :=
  ∀ (h : Head) (wide : Bool) (cc : Fin 16) (d r : Gpr) (rel : Field) (imm : Word) (off : BitVec 16) (s : State),
    let k := getCore s h.core
    let len := 1 + fieldLen rel + b2n h.check
    let w := widthOf wide
    let goes (i : Instr) (k' : Core) (pc : Word) : Prop := exec i s = .next (landed s (retire s h.core k' pc))
    let cmp (b : Nat) : Core := { k with psw := setNZCV k.psw w (aluSub w (dget k wide d.val) b 0) }
    let taken (k' : Core) (len : Nat) : Word := if condHolds k'.psw cc.val then nextPc s h len + off.signExtend 32 else nextPc s h len
    (Runs s h (1 + b2n h.check) → goes (.nopOp h) k (nextPc s h (1 + b2n h.check)) ∧ goes (.retOp h) k (gget k 14)) ∧
    (Runs s h (2 + b2n h.check) → goes (.jmpr h r) k (gget k r.val) ∧
      goes (.callr h r) (gset k 14 (nextPc s h (2 + b2n h.check))) (gget k r.val)) ∧
    (Runs s h len → goes (.jmp h rel) k (nextPc s h len + fieldOff rel) ∧
      (fieldLen rel ≠ 1 → goes (.callOp h rel) (gset k 14 (nextPc s h len)) (nextPc s h len + fieldOff rel)) ∧
      (cc.val ≠ 15 → fieldLen rel ≠ 4 →
        goes (.bcc h cc rel) k (if condHolds k.psw cc.val then nextPc s h len + fieldOff rel else nextPc s h len))) ∧
    (Runs s h (4 + preLen h wide) → cc.val ≠ 15 → oddPair wide d = false → oddPair wide r = false →
      goes (.cbcc h wide cc d r off) (cmp (dget k wide r.val)) (taken (cmp (dget k wide r.val)) (4 + preLen h wide))) ∧
    (Runs s h (9 + preLen h wide) → cc.val ≠ 15 → oddPair wide d = false →
      goes (.cbicc h wide cc d imm off) (cmp (fieldVal w (.b4 imm))) (taken (cmp (fieldVal w (.b4 imm))) (9 + preLen h wide)))

/-- R286, R287, R291: A gate call pushes PC, G15 and PSW and enters the gate's domain at its entry with clear flags; a gate return
restores them, IE and LEVEL included; an exception return takes PC and PSW from EPC and EPSW with EXC clear. Each drains the buffer. Where
the spec leaves a point open, the clauses rest on the choices of the model in log entry 11. -/
def Obligations.GateAndReturn : Prop :=
  ∀ (h : Head) (g : BitVec 16) (cross : Bool) (s : State),
    let k := getCore s h.core
    let s1 := drain s h.core
    let k1 := getCore s1 h.core
    (Runs s h (4 + b2n h.check) → h.core ≠ .mc → g.toNat ≤ 63 → gateOpen s k g.toNat = true →
      let tgt := fld (mget 0#32 s1.mpu.gate (4 * g.toNat + 1)) 21 16
      let e := 4 * k1.gdepth
      let st := mset 0#32 (mset 0#32 (mset 0#32 (mset 0#32 k1.gst e (nextPc s h (4 + b2n h.check))) (e + 1) (gget k1 15)) (e + 2) k1.psw)
        (e + 3) (word (tgt * 0x10000 + g.toNat))
      exec (.gateCall h g) s = .next (landed s (retire s1 h.core
        { gset k1 15 (mget 0#32 s1.mpu.stk (stkIndex h.core tgt)) with
          gst := st, gdepth := k1.gdepth + 1, psw := setFld (setFld k1.psw 21 16 tgt) 31 28 0 }
        (mget 0#32 s1.mpu.gate (4 * g.toNat))))) ∧
    (Runs s h (2 + b2n h.check) → h.core ≠ .mc → bit k.psw 1 = false → k.gdepth ≠ 0 →
      fld (mget 0#32 k.gst (4 * (k.gdepth - 1) + 3)) 21 16 = domOf k →
      let e := 4 * (k.gdepth - 1)
      let old := mget 0#32 k1.gst (e + 2)
      exec (.gateReturn h) s = .next (landed s (retire s1 h.core
        { gset k1 15 (mget 0#32 k1.gst (e + 1)) with
          gdepth := k.gdepth - 1,
          psw := setFld (setFld (setBit k1.psw 0 (bit old 0)) 12 8 (fld old 12 8)) 21 16 (fld old 21 16) }
        (mget 0#32 k1.gst e)))) ∧
    (Runs s h (2 + b2n h.check) → bit k.psw 1 = true → inApp h.core k = false → (cross = true → h.core ≠ .mc) →
      (h.core = .mc ↔ fld k.epsw 21 16 = 1) →
      exec (.eret h cross) s = .next (landed s (setCore s1 h.core { k1 with pc := k.epc, psw := setBit k.epsw 1 false })))

/-- R282, R295, R296, R322: FENCE and WFE drain the buffer, WFE then waits until an interrupt could be taken; MFS reads a system register,
with TICKH captured by a read of TICKL; MTS writes one, under the mask of its bits. Where the spec leaves a point open, the clauses rest
on the choices of the model in log entry 11. -/
def Obligations.SystemInstructions : Prop :=
  ∀ (h : Head) (c : CoreId) (d r : Gpr) (n : BitVec 8) (s : State),
    let k := getCore s h.core
    let s1 := drain s h.core
    (Runs s h (1 + b2n h.check) →
      exec (.fence h) s = .next (landed s (retire s1 h.core (getCore s1 h.core) (nextPc s h (1 + b2n h.check)))) ∧
      exec (.wfe h) s = .next (landed s (retire s1 h.core { getCore s1 h.core with run := .waiting } (nextPc s h (1 + b2n h.check))))) ∧
    ((getCore s c).run = .waiting → (irqLevel s c).isSome = true →
      exec (.wfeRelease c) s = .next (landed s (setCore s c { getCore s c with run := .running }))) ∧
    (Runs s h (4 + b2n h.check) → (sysPriv n.toNat = true → inApp h.core k = false) →
      exec (.mfs h d n) s = .next (landed s (retire s h.core
        (gset (if n.toNat = 8 then { k with tickH := word (s.tick / 2 ^ 32) } else k) d.val (sysRead s h.core k n.toNat))
        (nextPc s h (4 + b2n h.check)))) ∧
      (n.toNat ∈ [0, 1, 2, 3, 4, 5, 10, 11] → (n.toNat = 5 → h.core ≠ .mc) →
        exec (.mts h n r) s = .next (landed s (retire s h.core (sysWrite h.core k n.toNat (gget k r.val)) (nextPc s h (4 + b2n h.check))))))

/-- R288 to R293: TRAP, a refused or undefined instruction, a CHECK mismatch and an interrupt enter their vectors with the saved registers
written; a synchronous exception while EXC is set halts the core. Where the spec leaves a point open, the clauses rest on the choices of
the model in log entry 12. -/
def Obligations.ExceptionEntries : Prop :=
  ∀ (h : Head) (c : CoreId) (n : BitVec 8) (a : Word) (l : Nat) (s : State),
    (Runs s h (2 + b2n h.check) →
      exec (.trap h n) s = .next (landed s (takeExc s h 9 (nextPc s h (2 + b2n h.check)) (word n.toNat) 0 false))) ∧
    ((getCore s c).run = .running →
      exec (.exceptionEntry c (.fetch a)) s = .next (landed s (takeExc s ⟨c, false⟩ 1 (getCore s c).pc a 0 false)) ∧
      exec (.exceptionEntry c .undef) s = .next (landed s (takeExc s ⟨c, false⟩ 2 (getCore s c).pc 0#32 0 false)) ∧
      (c = .mc → exec (.exceptionEntry c .checkMismatch) s = .next (landed s (takeExc s ⟨c, true⟩ 0 (getCore s c).pc 0#32 0 false)))) ∧
    (irqLevel s c = some l → (getCore s c).run = .running → bit (getCore s c).psw 0 = true →
      let cause := ecauseOf true 15 0 false false (domOf (getCore s c))
      let s1 := drain (noteExc s c cause 0#32) c
      let k1 := enterExc c (getCore s1 c) 15 (getCore s1 c).pc 0#32 cause
      exec (.interruptEntry c) s = .next (landed s (setCore s1 c { k1 with psw := setFld k1.psw 12 8 l })))

/-- R289, R290, R292: What a synchronous exception saves, sets and where it goes, on every core and for every cause. Where the spec leaves
a point open, the clauses rest on the choices of the model in log entry 12. -/
def Obligations.ExceptionSaves : Prop :=
  ∀ (s : State) (h : Head) (vec kind : Nat) (epc eaddr : Word) (write : Bool),
    let k := getCore s h.core
    let k' := getCore (takeExc s h vec epc eaddr kind write) h.core
    (bit k.psw 1 = true → k' = { k with run := .halted }) ∧
    (bit k.psw 1 = false →
      k'.epc = epc ∧ k'.eaddr = eaddr ∧ k'.epsw = k.psw ∧ k'.ecause = ecauseOf false vec kind write h.check (domOf k) ∧
      k'.pc = (match h.core with | .mc => word (16 * vec) | _ => k.vbar + word (16 * vec)) ∧
      bit k'.psw 1 = true ∧ bit k'.psw 0 = false ∧ (h.core ≠ .mc → domOf k' = 0 ∧ fld k'.psw 31 28 = 0) ∧
      k'.g = k.g ∧ k'.sbuf = [] ∧ k'.vbar = k.vbar ∧ k'.gst = k.gst ∧ k'.gdepth = k.gdepth ∧
      k'.scratch0 = k.scratch0 ∧ k'.scratch1 = k.scratch1)

/-- R319: A load of 1, 2, 4 or 8 bytes that nothing refuses, from the banks, MC's RAM or the boot ROM: the destination takes what the core
sees there, sign-extended where the mnemonic says so; POP steps G15 past the word. Nothing but the core changes. Where the spec leaves a
point open, the clauses rest on the choices of the model in log entries 171, 173, 174. -/
def Obligations.LoadResults : Prop :=
  ∀ (h : Head) (wide : Bool) (d r : Gpr) (disp : Field) (rel : Word) (s : State),
    let k := getCore s h.core
    let ea := effAddr k r disp
    let len := 2 + fieldLen disp + b2n h.check
    let open_ (a n : Nat) : Prop := AccessOpen s h a n .load ∧ poisoned s a n = false
    let gives (i : Instr) (k' : Core) (len : Nat) : Prop := exec i s = .next (landed s (retire s h.core k' (nextPc s h len)))
    (Runs s h len → open_ ea 1 →
      gives (.ldb h d r disp quietBank) (dset k false d.val (loadSees s h.core ea 1)) len ∧
      gives (.ldbs h d r disp quietBank) (dset k false d.val (sext 8 (loadSees s h.core ea 1)).toNat) len) ∧
    (Runs s h len → open_ ea 2 →
      gives (.ldh h d r disp quietBank) (dset k false d.val (loadSees s h.core ea 2)) len ∧
      gives (.ldhs h d r disp quietBank) (dset k false d.val (sext 16 (loadSees s h.core ea 2)).toNat) len) ∧
    (Runs s h (2 + fieldLen disp + preLen h wide) → open_ ea (wordLen wide) → oddPair wide d = false →
      gives (.ldw h wide d r disp quietBank) (dset k wide d.val (loadSees s h.core ea (wordLen wide))) (2 + fieldLen disp + preLen h wide)) ∧
    (Runs s h (6 + preLen h wide) → open_ (nextPc s h (6 + preLen h wide) + rel).toNat (wordLen wide) → oddPair wide d = false →
      gives (.ldpc h wide d rel quietBank)
        (dset k wide d.val (loadSees s h.core (nextPc s h (6 + preLen h wide) + rel).toNat (wordLen wide))) (6 + preLen h wide)) ∧
    (Runs s h (2 + preLen h wide) → open_ (gget k 15).toNat (wordLen wide) → oddPair wide d = false → d.val ≠ 15 →
      gives (.pop h wide d quietBank) (dset (gset k 15 (gget k 15 + word (wordLen wide))) wide d.val
        (loadSees s h.core (gget k 15).toNat (wordLen wide))) (2 + preLen h wide))

/-- R319, R296: A store that nothing refuses puts the low bytes of its operand, least significant first, into MC's RAM or the store
buffer; PUSH also lowers G15. Where the spec leaves a point open, the clauses rest on the choices of the model in log entry 11. -/
def Obligations.StoreResults : Prop :=
  ∀ (h : Head) (wide : Bool) (d r : Gpr) (disp : Field) (dw : Word) (imm : BitVec 16) (s : State),
    let k := getCore s h.core
    let ea := effAddr k r disp
    let len := 2 + fieldLen disp + b2n h.check
    let n := wordLen wide
    let sp := gget k 15 - word n
    let gives (i : Instr) (a : Nat) (bs : Bytes) (f : Core → Core) (len : Nat) : Prop :=
      exec i s = .next (landed s (retire (stored s h.core a bs) h.core (f (getCore (stored s h.core a bs) h.core)) (nextPc s h len)))
    (Runs s h len → AccessOpen s h ea 1 .store → gives (.stb h d r disp quietBank) ea (leBytes 1 (gget k d.val).toNat) id len) ∧
    (Runs s h len → AccessOpen s h ea 2 .store → gives (.sth h d r disp quietBank) ea (leBytes 2 (gget k d.val).toNat) id len) ∧
    (Runs s h (2 + fieldLen disp + preLen h wide) → AccessOpen s h ea n .store → oddPair wide d = false →
      gives (.stw h wide d r disp) ea (leBytes n (dget k wide d.val)) id (2 + fieldLen disp + preLen h wide)) ∧
    (Runs s h (9 + preLen h wide) → AccessOpen s h (gget k r.val + dw).toNat n .store →
      gives (.stwi h wide r dw imm) (gget k r.val + dw).toNat (leBytes n (immVal wide imm)) id (9 + preLen h wide)) ∧
    (Runs s h (2 + preLen h wide) → AccessOpen s h sp.toNat n .store → oddPair wide r = false →
      gives (.push h wide r) sp.toNat (leBytes n (dget k wide r.val)) (fun k => gset k 15 sp) (2 + preLen h wide))

/-- R320, R342: The atomics read and write a word of the banks in one step, after the buffer has drained: a swap and an addition, which
give the old value back, and an addition of an immediate, which does not. Where the spec leaves a point open, the clauses rest on the
choices of the model in log entry 175. -/
def Obligations.AtomicResults : Prop :=
  ∀ (h : Head) (wide : Bool) (d r : Gpr) (disp : Field) (imm : BitVec 16) (s : State),
    let k := getCore s h.core
    let ea := effAddr k r disp
    let n := wordLen wide
    let s1 := drain s h.core
    let k1 := getCore s1 h.core
    let old := leNat (sramRead s1 ea n)
    let gives (i : Instr) (new : Nat) (k' : Core) (len : Nat) : Prop :=
      exec i s = .next (landed s (retire (bankWrite s1 (initOf h.core) ea (leBytes n new)) h.core k' (nextPc s h len)))
    isSram ea = true → AccessOpen s h ea n .both → badWord s1 ea n = none →
    (Runs s h (3 + fieldLen disp + preLen h wide) → oddPair wide d = false →
      gives (.atomicSwap h wide d r disp quietBank) (dget k wide d.val) (dset k1 wide d.val old) (3 + fieldLen disp + preLen h wide) ∧
      gives (.atomicAdd h wide d none r disp quietBank) (old + dget k1 wide d.val) (dset k1 wide d.val old) (3 + fieldLen disp + preLen h wide)) ∧
    (Runs s h (10 + preLen h wide) →
      gives (.atomicAdd h wide d (some imm) r disp quietBank) (old + immVal wide imm) k1 (10 + preLen h wide))

/-- R325, R326, R329, R251, R327, R328: A submission of a coprocessor job whose block lies aligned in the banks, with a free ticket and a
unit that takes it: the lowest free ticket is pending under the core's domain, the unit holds the job, and the register reads ACCEPTED
with the ticket. WAIT and POLL give a done ticket's status and free it, POLL reads 0 for a pending one; the oldest ended job makes its
ticket done; SEAL on MC starts a request and reads 0. Where the spec leaves a point open, the clauses rest on the choices of the model in
log entries 119, 120, 121. -/
def Obligations.CoprocessorJobs : Prop :=
  (∀ (h : Head) (d r : Gpr) (s : State) (t size off : Nat) (blk : Bytes),
    let s0 := drain s h.core
    let k := getCore s0 h.core
    let a := (gget k r.val).toNat
    let dom := domOf k
    let s1 := setCore { s0 with fresh := s0.fresh + 1 } h.core
      { k with tickets := mset none k.tickets t (some { dom := dom, id := s0.fresh, status := none }) }
    let accepts (i : Instr) (unit : State → JobSrc → Nat → Bytes → Admit) : Prop :=
      ∀ s2, unit s1 (.cp h.core s0.fresh a) dom blk = .taken s2 →
        exec i s = .next (landed s (retire s2 h.core
          (gset (getCore s2 h.core) d.val (word (0x80000000 + t * 0x100))) (nextPc s h (3 + b2n h.check))))
    Runs s h (3 + b2n h.check) → a % 16 = 0 → rangeSram a (off + 16) = true → freeTicket k = some t →
    cpBlock s1 dom a size = (s1, .inr blk) →
    (size = 32 → off = 32 → accepts (.vcmd h d r) vaultAdmit ∧ accepts (.lsign h d r) lmsAdmit) ∧
    (size = 48 → off = jobOff →
      accepts (.ajob h d r) (fun s src dom blk => laneAdmit s false (bfld blk 1 1 / 64) src dom blk) ∧
      accepts (.hjob h d r) (fun s src dom blk => laneAdmit s true (bfld blk 1 1 / 64 % 2) src dom blk) ∧
      accepts (.bjob h d r) (fun s src dom blk => bneAdmit s (bfld blk 4 1 / 64) src dom blk))) ∧
  (∀ (h : Head) (d r : Gpr) (cp : Fin 4) (s s2 : State) (tk : Ticket) (st : Byte) (e : TickEnd) (rest : List TickEnd),
    let s0 := drain s h.core
    let k := getCore s0 h.core
    let t := fld (gget k r.val) 3 0
    let reads (i : Instr) (s' : State) (v : Nat) : Prop :=
      exec i s = .next (landed s (retire s' h.core (gset (getCore s' h.core) d.val (word v)) (nextPc s h (3 + b2n h.check))))
    (Runs s h (3 + b2n h.check) → mget none k.tickets t = some tk → tk.dom = domOf k →
      (tk.status = some st →
        let s' := setCore s0 h.core { k with tickets := mset none k.tickets t none }
        reads (.tickWait h cp d r) s' (0x80000000 + t * 0x100 + st.toNat) ∧ reads (.tickPoll h cp d r) s' (0x80000000 + t * 0x100 + st.toNat)) ∧
      (tk.status = none → reads (.tickPoll h cp d r) s0 0)) ∧
    (Runs s h (3 + b2n h.check) → h.core = .mc → sealRequest s0 (fld (gget k r.val) 3 0) = some s2 → reads (.cp2Seal h d r) s2 0) ∧
    (s.tickq = e :: rest → exec .ticketDone s = .next (landed s (tickEnd { s with tickq := rest } e))))

/-- R330, R331, R379, R380: MC's SNAP and PRESET start a snapshot and a preset of the tally that a register names, and read 0; SNAPW reads
0 once the snapshot of that tally is held, PRESETW the carry of the preset that ended. The till instructions of a core that may use the
till its register names: PUSH and PUSHL put a double word into the open packet, REWIND drops it, POP and POPW take the next double word
with C at the end of a packet, POP of an empty till gives its last word with Z and UNDERRUN, LEVEL reads the committed words. Where the
spec leaves a point open, the clauses rest on the choices of the model in log entries 121, 122. -/
def Obligations.TallyAndTillInstructions : Prop :=
  (∀ (h : Head) (d r : Gpr) (target : BitVec 8) (s : State),
    let s0 := drain s h.core
    let k := getCore s0 h.core
    let n := fld (gget k r.val) 7 0
    let m := fld (gget k d.val) 7 0
    let reads (i : Instr) (s' : State) (len v : Nat) : Prop :=
      exec i s = .next (landed s (retire s' h.core (gset (getCore s' h.core) d.val (word v)) (nextPc s h (len + b2n h.check))))
    h.core = .mc →
    (Runs s h (3 + b2n h.check) → bit (rd s0 (Reg.TAL_SNAPSTAT + 4096 * (n / 64))) 30 = false →
      reads (.cpSnap h d r) (snapStart s0 (n / 64) (n % 64)) 3 0 ∧
      (bit (rd s0 (Reg.TAL_SNAPSTAT + 4096 * (n / 64))) 31 = true → fld (rd s0 (Reg.TAL_SNAPSTAT + 4096 * (n / 64))) 5 0 = n % 64 →
        reads (.snapw h d r) s0 3 0)) ∧
    (Runs s h (3 + b2n h.check) → bit (rd s0 (Reg.TAL_PRESTAT + 4096 * (n / 64))) 31 = false →
      reads (.presetw h d r) s0 3 (rd s0 (Reg.TAL_CARRY + 4096 * (n / 64))).toNat) ∧
    (Runs s h (4 + b2n h.check) → bit (rd s0 (Reg.TAL_PRESTAT + 4096 * (m / 64))) 31 = false → target.toNat ≤ 2 → r.val ≤ 13 →
      reads (.cpPreset h d r target) (presetStart ((List.range 3).foldl (fun s j =>
        storeReg s .mc (Reg.TAL_PREVAL + 4096 * (m / 64) + 4 * j) (gget k (r.val + j))) s0) (m / 64) (m % 64) target.toNat) 4 0)) ∧
  (∀ (h : Head) (d r : Gpr) (s : State) (w : DWord) (last : Bool) (x : Till),
    let s0 := drain s h.core
    let k := getCore s0 h.core
    let t := fld (gget k r.val) 6 0
    let o := openerOf h.core
    let ends (i : Instr) (s' : State) (k' : Core) : Prop :=
      exec i s = .next (landed s (retire s' h.core k' (nextPc s h (3 + b2n h.check))))
    let takes (s' : State) (w : DWord) (z c : Bool) : Core :=
      let k' := dset (getCore s' h.core) true d.val w.toNat
      { k' with psw := setBit (setBit k'.psw 31 z) 29 c }
    Runs s h (3 + b2n h.check) →
    (pushMay h.core s0 t = true → d.val % 2 = 0 → tillPushWaits s0 t o = false →
      let put (last : Bool) : State := tillPush s0 t o (BitVec.ofNat 64 (dget k true d.val)) last
      ends (.cp5Push h d r) (put false) (getCore (put false) h.core) ∧ ends (.pushl h d r) (put true) (getCore (put true) h.core)) ∧
    (pushMay h.core s0 t = true → ends (.rewind h r) (tillRewind s0 t o) (getCore (tillRewind s0 t o) h.core)) ∧
    (popMay h.core s0 t = true → d.val % 2 = 0 →
      (tillTake (getTill s0 t) = some (w, last, x) →
        ends (.cp5Pop h d r) (tillTaken s0 t x) (takes (tillTaken s0 t x) w false last) ∧
        ends (.popw h d r) (tillTaken s0 t x) (takes (tillTaken s0 t x) w false last)) ∧
      (tillTake (getTill s0 t) = none →
        ends (.cp5Pop h d r) (tillRaise s0 t 1) (takes (tillRaise s0 t 1) (getTill s0 t).last true false))) ∧
    (tillMay s0 h.core t false = true → bit (tillCfg s0 t) 31 = true → tillProd s0 t ≠ 3 →
      ends (.tillLevel h d r) s0 (gset k d.val (word (tillWords (getTill s0 t))))))

/-- R36, R39: A write of a register that a page permits, by the register's access code. Bits the register does not have are left out of
what is stored. A reserved offset takes nothing and is recorded with KIND 3. -/
def Obligations.RegisterCodes : Prop :=
  ∀ (i : Initiator) (a : Nat) (v : Word) (code : Code) (mask : Word) (s : State),
    let page := a / 4096
    let off := a % 4096
    let old := rd s a
    let new := (old &&& ~~~ mask) ||| (v &&& mask)
    let makes (t : State) : Prop := exec (.registerWrite i a v) s = .next (landed s t)
    MayStore s i a →
    (codeOf page off = none → makes (noteErr s i page off 3 true)) ∧
    (codeOf page off = some (code, mask) → StoresOnly a →
      (code = .rw ∨ code = .rwm → makes (wr s a new)) ∧
      (code = .ro → ¬ (off = Off.OWNER ∧ hasHeader page = true) → makes (noteErr s i page off 6 true)) ∧
      (code = .w1c → makes (wr s a (old &&& ~~~ (v &&& mask)))) ∧
      (code = .w1s → makes (wr s (setTarget a) (rd s (setTarget a) ||| (v &&& mask)))) ∧
      (code = .rwl ∨ code = .rws → locked s page = true → makes (noteErr s i page off 4 true)) ∧
      (code = .rwl → locked s page = false → makes (wr s a new)) ∧
      (code = .rws → locked s page = false →
        makes (wrBit { wr s a new with shadow := mset (~~~ (resetVal a)) s.shadow a (~~~ new) } (hdr page Off.SHADOW_STAT) (rwsIndex a) false)))

/-- R12, R15, R51: A register write that the owner's rule refuses stores nothing. The page records it with KIND 1 and raises ACCESS_ERR; a
core takes a DATA exception at the register's address, and any other initiator is told. -/
def Obligations.RefusedWrites : Prop :=
  ∀ (i : Initiator) (a : Nat) (v : Word) (s : State),
    inert s i = false → writeVerdict s i a = .domain →
    let t := noteErr s i (a / 4096) (a % 4096) 1 true
    exec (.registerWrite i a v) s = .next (landed s (match coreOf i with
      | some c => excData t ⟨c, false⟩ (0x40000000 + a) 1 true
      | none => { t with out := t.out ++ [.refused i] }))

/-- R41 to R43, R44, R45, R47 to R51, R582: A clear of EN puts a block to rest once nothing is in flight, a write of QUIESCE holds or
releases its work, a set of SELFTEST clears both results, and the end of a test leaves exactly one of them. The header's own registers. A
cause that hardware sets in the cycle of a clear stays set; EVT_SET sets causes; LOCK sets; ERRINFO clears by 1s; a mismatch of an RWS
register's copies shows in SHADOW_STAT and EVT_RAW[30]; a new OWNER waits for the old one's work; a data register steps its index. Where
the spec leaves a point open, the clauses rest on the choices of the model in log entries 16, 137, 138, 160. -/
def Obligations.HeaderRegisters : Prop :=
  (∀ (i : Initiator) (page : Nat) (on pass : Bool) (s : State),
    let ctrl := hdr page Off.CTRL
    let stat := hdr page Off.STAT
    let makes (i : Instr) (t : State) : Prop := exec i s = .next (landed s t)
    isEngine page = true →
    (MayStore s i ctrl →
      (enabled s page = true → ¬ (0x40 ≤ page ∧ page < 0x44) →
        makes (.ctrlEnClear i page) (quiesced { s with enOff := linsert page s.enOff } page)) ∧
      (let s1 := wrBit s ctrl 1 on
       makes (.quiesce i page on) (if resting s1 page = true then quiesced s1 page else wrBit s1 stat 2 false)) ∧
      makes (.selftest i page) (quiesced (wrBit (wrBit (wrBit s ctrl 2 true) stat 3 false) stat 4 false) page)) ∧
    (resting s page = true → pageBusy s page = false → lmem page s.enOff = false →
      makes (.quiescedReached page) (wrBit s stat 2 true)) ∧
    (resting s page = true → pageBusy s page = false → lmem page s.enOff = true →
      makes (.quiescedReached page) (wrBit { wrBit s stat 2 true with enOff := lerase page s.enOff } ctrl 0 false)) ∧
    (bit (rd s ctrl) 2 = true → pageBusy s page = false → hasTest page = false →
      let s1 := wrBit (wrBit s ctrl 2 false) stat 3 true
      makes (.selftestDone page pass) (if resting s1 page = true then s1 else wrBit s1 stat 2 false)) ∧
    (bit (rd s ctrl) 2 = true → pageBusy s page = false → hasTest page = true →
      let s1 := wrBit (wrBit s ctrl 2 false) stat (if pass then 3 else 4) true
      let s2 := setOos (testEffect s1 page pass) page (!pass)
      makes (.selftestDone page pass) (if resting s2 page = true then s2 else wrBit s2 stat 2 false))) ∧
  (∀ (i : Initiator) (page : Nat) (v clr hw : Word) (s : State),
    let raw := hdr page Off.EVT_RAW
    let makes (i : Instr) (t : State) : Prop := exec i s = .next (landed s t)
    hasHeader page = true →
    (MayStore s i raw →
      let t := wr s raw (rd s raw &&& ~~~ clr)
      let t' := if page = 0x18 ∧ intakeHold t = true then wrBit t raw 0 true else t
      makes (.evtRawClear i raw clr hw) (wr t' raw (rd t' raw ||| hw))) ∧
    (MayStore s i (hdr page Off.EVT_SET) →
      makes (.evtSet i (hdr page Off.EVT_SET) v) (wr s raw (rd s raw ||| (v &&& 0x1FFFFFFF#32)))) ∧
    (MayStore s i (hdr page Off.LOCK) →
      makes (.lockWrite i page) (wr s (hdr page Off.LOCK) (rd s (hdr page Off.LOCK) ||| 1#32))) ∧
    (MayStore s i (hdr page Off.ERRINFO) →
      makes (.errinfoClear i page v) (wr s (hdr page Off.ERRINFO) (rd s (hdr page Off.ERRINFO) &&& ~~~ (v &&& 0xC0000000#32)))) ∧
    (∀ addr prim shad m, addr / 4096 = page → codeOf page (addr % 4096) = some (.rws, m) → shad ≠ ~~~ prim → awake s = true →
      let s1 := { wr s addr prim with shadow := mset (~~~ (resetVal addr)) s.shadow addr shad }
      let s2 := wrBit (wrBit s1 (hdr page Off.SHADOW_STAT) (rwsIndex addr) true) raw 30 true
      makes (.shadowMismatch addr prim shad) (if bit (rd s (hdr page Off.SHADOW_STAT)) (rwsIndex addr) = true then s2 else detect s2 29)))

/-- R48, R49: A new owner of an assigned page is taken up in two steps. The write notes it and bars the page; the completion ends the old
owner's work, returns the page's registers to reset and hands the page over. Where the spec leaves a point open, the clauses rest on the
choices of the model in log entry 182. -/
def Obligations.OwnerChange : Prop :=
  ∀ (i : Initiator) (page : Nat) (v : Word) (p : PageRow) (s : State),
    let a := hdr page Off.OWNER
    let makes (i : Instr) (t : State) : Prop := exec i s = .next (landed s t)
    hasHeader page = true → pageRow? page = some p → p.owner = .assigned →
    (MayStore s i a → bit (rd s a) 31 = false →
      (fld v 5 0 = 1 → makes (.ownerWrite i page v) (noteErr s i page Off.OWNER 5 true)) ∧
      (fld v 5 0 ≠ 1 → fld v 5 0 = fld (rd s a) 5 0 → makes (.ownerWrite i page v) s) ∧
      (fld v 5 0 ≠ 1 → fld v 5 0 ≠ fld (rd s a) 5 0 → page ≠ 0x32 → page ≠ 0x33 →
        makes (.ownerWrite i page v) (wr s a (setBit (setFld (rd s a) 21 16 (fld v 5 0)) 31 true)))) ∧
    (bit (rd s a) 31 = true → ¬ (0x08 ≤ page ∧ page < 0x0C) → page ≠ 0x32 → page ≠ 0x33 → page ≠ 0x1A → page ≠ 0x44 →
      makes (.ownerReassignComplete page)
        (wr (resetRegs (endOwned s page) fun x => !ownedReg page x) a (word (fld (rd s a) 21 16))))

/-- R54, R55, R58, R304, R577, R582: The event router. A claim takes the best candidate into service and a DONE takes it out; routes and
doorbells are written; a data register steps its index. Where the spec leaves a point open, the clauses rest on the choices of the model
in log entry 134. -/
def Obligations.EventRouter : Prop :=
  ∀ (i : Initiator) (n : Fin 2) (m : Fin 512) (v : Word) (s : State),
    let makes (i : Instr) (t : State) : Prop := exec i s = .next (landed s t)
    let claims (ins : Instr) (a : Nat) (c : CoreId) : Prop := MayLoad s i a →
      (bestClaim (claimableOf s c) = none → makes ins { s with out := s.out ++ [.value 0#32] }) ∧
      (∀ ev l, bestClaim (claimableOf s c) = some (ev, l) →
        let s1 := setSvc s c (linsert ev (svcOf s c))
        makes ins { s1 with out := s1.out ++ [.value (word (0x80000000 + l * 0x10000 + ev))] })
    let dones (ins : Instr) (a : Nat) (c : CoreId) : Prop := MayStore s i a →
      (lmem (fld v 9 0) (svcOf s c) = true → makes ins (setSvc s c (lerase (fld v 9 0) (svcOf s c)))) ∧
      (lmem (fld v 9 0) (svcOf s c) = false → makes ins (noteErr s i (a / 4096) (a % 4096) 3 true))
    let ac : CoreId := if n = 0 then .ac0 else .ac1
    claims (.evrClaim i n) (Reg.EVR_CLAIM0 + 4 * n.val) ac ∧ claims (.mccClaim i) Reg.MCC_CLAIM .mc ∧
    dones (.evrDone i n v) (Reg.EVR_DONE0 + 4 * n.val) ac ∧ dones (.mccDone i v) Reg.MCC_DONE .mc ∧
    (MayStore s i (Reg.EVR_ROUTE + 4 * m.val) →
      (locked s 3 = false → makes (.evrRouteWrite i m v) (wr s (Reg.EVR_ROUTE + 4 * m.val) v)) ∧
      (locked s 3 = true → makes (.evrRouteWrite i m v) (noteErr s i 3 (0x800 + 4 * m.val) 4 true))) ∧
    (MayStore s i Reg.EVR_SWDB_SET → makes (.evrSwdbSet i v) (wr s Reg.EVR_SWDB (rd s Reg.EVR_SWDB ||| (v &&& 0xFFFF#32)))) ∧
    (MayStore s i Reg.EVR_SWDB → makes (.evrSwdbClear i v) (wr s Reg.EVR_SWDB (rd s Reg.EVR_SWDB &&& ~~~ (v &&& 0xFFFF#32)))) ∧
    (MayStore s i Reg.MCC_SWDB_SET → makes (.mccSwdbSet i v) (wr s Reg.MCC_SWDB (rd s Reg.MCC_SWDB ||| (v &&& 0xFFFF#32)))) ∧
    (MayStore s i Reg.MCC_EDATA →
      makes (.autoincDataAccess i Reg.MCC_EDATA (some v))
        (autoinc { s with mcc := { s.mcc with evt := mset 0#32 s.mcc.evt (fld (rd s Reg.MCC_EIDX) 9 0) (maskedFor Reg.MCC_EDATA v) } } Reg.MCC_EIDX 10))

/-- R30 to R33, R56, R416: The host's accesses. A write is its whole DWORDs in ascending order; a read of one DWORD of a channel's page
answers the register, of the MSI-X table its entry, of a reserved offset 0 with the access recorded; a read without full byte enables is
aborted. A vector unmasked, or MSI-X enabled, sends what was pending. Where the spec leaves a point open, the clauses rest on the choices
of the model in log entries 169, 183. -/
def Obligations.HostAccesses : Prop :=
  ∀ (bar : Bar) (off : Nat) (dws : List (Word × Bool)) (v : Fin 64) (masked en fm : Bool) (s : State),
    let o := off / 4 * 4
    let makes (i : Instr) (t : State) : Prop := exec i s = .next (landed s t)
    let tells (t : State) (m : Msg) : State := { t with out := t.out ++ [m] }
    hostOn s = true →
    makes (.hostMemoryWrite bar off dws) (dws.zipIdx.foldl (fun s x =>
      if x.1.2 = false then noteErr s .pcie 0x140 ((o + 4 * x.2) % 4096) 7 true
      else match hostPlace bar (o + 4 * x.2) with
        | .reg a => busWrite s .pcie a x.1.1
        | .msix k => msixWrite s k x.1.1
        | .pba _ => s
        | .reserved => noteErr s .pcie 0x140 ((o + 4 * x.2) % 4096) 7 true) s) ∧
    (∀ a, hostPlace bar o = .reg a → readVerdict s .pcie a = .ok →
      makes (.hostMemoryRead bar off 1 true) (tells (readReg s .pcie a).1 (.hostData [(readReg s .pcie a).2]))) ∧
    (∀ k, hostPlace bar o = .msix k → makes (.hostMemoryRead bar off 1 true) (tells s (.hostData [msixRead s k]))) ∧
    (∀ k, hostPlace bar o = .pba k → makes (.hostMemoryRead bar off 1 true) (tells s (.hostData [word (s.router.pba.toNat / 2 ^ (32 * k))]))) ∧
    (hostPlace bar o = .reserved → makes (.hostMemoryRead bar off 1 true) (tells (noteErr s .pcie 0x140 (o % 4096) 7 false) (.hostData [0#32]))) ∧
    (∀ n, makes (.hostMemoryRead bar off n false) (tells (noteErr s .pcie 0x140 (o % 4096) 7 false) .completerAbort)) ∧
    makes (.msixUnmask (.vector v masked))
      (msixFlush { s with pcie := { s.pcie with msixTab := mset 1#32 s.pcie.msixTab (4 * v.val + 3) (word (b2n masked) &&& 1#32) } }) ∧
    makes (.msixUnmask (.enable en fm)) (msixFlush { s with pcie := { s.pcie with msixEn := en, fmask := fm } })

/-- R101, R106, R102, R104, R107: The account commands of ACC_CMD, where no command runs, no order holds the account and no lease names
it. READ shows the record, CREATE makes a valid account that no address holds, DELETE, ENABLE, DISABLE, SET_FEED, SET_PROFILE, CLEAR_FAILS
and CKPT change a valid one, CLRCNT the counters. The checkpoint writer. CKPT_NOW makes every page dirty and queues it; a capture takes
both accounts of the next page with a new generation and CRC; the end of its program leaves the page in the flash, and a failed page
dirty. Where the spec leaves a point open, the clauses rest on the choices of the model in log entries 75, 76, 77, 78, 80. -/
def Obligations.AccountCommands : Prop :=
  (∀ (i : Initiator) (a : Fin 1024) (s : State),
    let s1 := wr s Reg.ACC_CMDSTAT 0x80000000#32
    let ok (ins : Instr) (t : State) : Prop := exec ins s = .next (landed s (wr t Reg.ACC_CMDSTAT (word stOK)))
    MayStore s i Reg.ACC_CMD → bit (rd s Reg.ACC_CMDSTAT) 31 = false →
    ok (.clrcnt i a) ((List.range 10).foldl (fun s k => wr s (Reg.ACC_CNT + 4 * k) 0#32) s1) ∧
    (acctHeld s1 a = false → acctLeased s1 a = false →
      ok (.accRead i a) ((List.range 32).foldl (fun s k => wr s (Reg.ACC_SNAP + 4 * k) (word (acctFld s a (4 * k) 4))) s1) ∧
      (acctFlag s1 a 0 = false → addrHeld s1 (argAddr s1) = false → (chainOf s1 (localBucket (argAddr s1))).length < 8 →
        (unitLane s1 31).isSome = true →
        let x := accArg s1 2
        let r := argAddr s1 ++ [byte (fld x 4 0), 1#8, byte (fld x 13 8), byte (fld x 19 16)] ++ [0xFF#8, 0xFF#8] ++ zeros 0x1A ++
          genesis (argAddr s1) a ++ zeros 32 ++ leBytes 4 (accArg s1 3).toNat ++ zeros 0x94
        ok (.accCreate i a) (markDirty (linkAcct (acctPut s1 a 0 r) a) a)) ∧
      (acctFlag s1 a 0 = true →
        ok (.accDelete i a) (markDirty (bankWrite (acctPut (unlinkAcct s1 a) a 0 (zeros 256)) .intake (keyAddr a) (zeros 96)) a) ∧
        (acctFlag s1 a 7 = false → ok (.accEnable i a) (markDirty (acctSetFlags s1 a [(1, true)]) a)) ∧
        ok (.accDisable i a) (markDirty (acctSetFlags s1 a [(1, false)]) a) ∧
        ok (.setFeed i a) (markDirty (acctPut (acctPut s1 a 0x0B [byte (acctFld s1 a 0x0B 1 / 16 * 16 + fld (accArg s1 2) 19 16)])
          a 0x68 (leBytes 4 (accArg s1 3).toNat)) a) ∧
        ok (.setProfile i a) (markDirty (acctPut s1 a 8 [byte (fld (accArg s1 2) 4 0)]) a) ∧
        ok (.clearFails i a) (acctPut s1 a 0x0E (zeros 2)) ∧
        (isDirty s1 (a.val / 2) = false → ok (.ckpt i a) s1) ∧
        (isDirty s1 (a.val / 2) = true → lmem (a.val / 2) s1.intake.first = false →
          ok (.ckpt i a) (setIntake s1 { s1.intake with first := s1.intake.first ++ [a.val / 2] })) ∧
        (acctFlag s1 a 1 = false → (unitLane s1 31).isSome = true →
          (let s2 := acctPut (acctPut s1 a 0x10 (argAddr s1 ++ leBytes 8 1)) a 0x80 (zeros 128)
           ok (.reseat i a) (markDirty (adminRecord (acctSetFlags s2 a [(6, true), (5, false), (7, false)]) a 0x10) a)) ∧
          (let f := acctFld s1 a 0x0B 1
           ok (.retotal i a) (markDirty (adminRecord (acctPut s1 a 0x0B
             [byte (Nat.land (f / 16) (15 - fld (accArg s1 2) 23 20) * 16 + f % 16)]) a 0x10) a)))))) ∧
  (∀ (i : Initiator) (k t : Nat) (ok : Bool) (s : State),
    let makes (i : Instr) (t : State) : Prop := exec i s = .next (landed s t)
    (MayStore s i (hdr 0x18 Off.CTRL) →
      let ks := List.range 512
      makes (.ckptNow i) (setIntake s { s.intake with
        dirty := s.intake.dirty ++ (ks.filter fun k => !isDirty s k).map fun k => (k, s.tick),
        first := s.intake.first ++ ks.filter fun k => !lmem k s.intake.first })) ∧
    (s.intake.ckpt = none → nextDirty s = some (k, t) → acctHeld s (2 * k) = false → acctHeld s (2 * k + 1) = false → writeReady s = true →
      ckptMay s = true →
      let s0 := { s with pmu := { s.pmu with ckpts := s.pmu.ckpts - 1 } }
      let b0 := ckptBytes s0 (2 * k)
      let b1 := ckptBytes s0 (2 * k + 1)
      let s1 := acctPut (acctPut s0 (2 * k) 0x78 (b0.drop 0x78)) (2 * k + 1) 0x78 (b1.drop 0x78)
      makes .checkpointCapture (setIntake s1 { s1.intake with
        dirty := s1.intake.dirty.filter (fun d => d.1 != k), first := lerase k s1.intake.first, ckpt := some ⟨k, t, b0 ++ b1⟩ })) ∧
    (∀ j, s.intake.ckpt = some j → s.pmu.window = false →
      let s1 := programPage s 7 j.page 3 0 j.bytes ok
      let left := if ok || isDirty s1 j.page then s1.intake.dirty else dirtyInsert j.page j.since s1.intake.dirty
      makes (.checkpointProgramDone ok) (setIntake s1 { s1.intake with ckpt := none, dirty := left })))

/-- R63, R65, R66, R79, R82, R85, R88, R91, R92, R97, R99, R185: A frame's way into the intake. A channel's INTAKE descriptor is
presented; the next presented frame is admitted with a reservation in its till; a response from the owner ends a forwarded frame; the
staged directory becomes active at a frame boundary. The stages of an admitted frame at its account. Its gate orders frames; a NEW or
CHECK frame gets its candidate keys, which KUW unwraps; one that verifies goes on to the ledger, whose head covers the old head, the
record's header and the plaintext; the commit writes all of the account at once. Where the spec leaves a point open, the clauses rest on
the choices of the model in log entries 19, 82, 83, 84, 86. -/
def Obligations.FrameIntake : Prop :=
  (∀ (n : Fin 64) (o : ActOp) (r : FrameReq) (rest : List FrameReq) (d : DmaData) (bs : Bytes) (s2 : State) (till : Option Nat)
    (i : Initiator) (s : State),
    let makes (i : Instr) (t : State) : Prop := exec i s = .next (landed s t)
    let c := getChan s n
    let s1 := setChan s n { c with active := c.active.map fun x => if x = o then { x with begun := true, at_ := s.tick } else x }
    (c.active.find? (fun o => descOp o.d == 0x21 && !o.begun) = some o → enabled s1 0x18 = true → lmem 0x18 s1.enOff = false →
      makes (.intake n) (setIntake s1 { s1.intake with reqs := s1.intake.reqs ++ [
        { src := .chan n.val (descTag o.d), dom := chanDom s1 n.val, profile := descFld o.d 26 1, len := descFld o.d 24 2,
          recEn := descFld o.d 27 1 % 2 == 1, noFwd := descFld o.d 27 1 / 2 == 1, frameAddr := descFld o.d 16 8,
          recAddr := descFld o.d 32 8, recLen := descFld o.d 40 2, data := none }] })) ∧
    (let s1 := setIntake s { s.intake with reqs := rest, rr := srcPlace r }
     nextReq s = some (r, rest) → accepting s 0x18 = true → s.intake.closed = false → s.intake.frames.length < 256 → 12 ≤ r.len → r.len ≤ 320 →
     ∀ s3, frameData s1 r d = (s2, .inr bs) → reserveRec s2 r bs.length = (s3, .inl till) →
      makes (.frameAdmit d) (stage12 s3 (newFrame r bs (profWords s3 r.profile) till))) ∧
    (MayStore s i Reg.DIR_SWAP → bit (rd s (hdr 0x1A Off.STAT)) 8 = false →
      makes (.dirSwap i) (wrBit s (hdr 0x1A Off.STAT) 8 true)) ∧
    (bit (rd s (hdr 0x1A Off.STAT)) 8 = true →
      let s1 := setIntake s { s.intake with owner := s.intake.staging, staging := s.intake.owner }
      let s2 := wr (wrBit s1 (hdr 0x1A Off.STAT) 8 false) Reg.DIR_EPOCH (rd s1 Reg.DIR_SEPOCH)
      makes .dirSwapApply (wrBit (setFab s2 { s2.fab with epSeen := false }) (hdr 0x1A Off.EVT_RAW) 0 true))) ∧
  (∀ (k : Nat) (f : Frame) (x : Fields) (s : State),
    let makes (i : Instr) (t : State) : Prop := exec i s = .next (landed s t)
    s.intake.frames[k]? = some f → locate f.prof f.bytes = some x →
    (f.stage = .waitGate → ((s.intake.frames.take k).any fun g => g.acct == f.acct) = false → s.intake.cmd = none → acctHeld s f.acct = false →
      bankUp s 30 = true → ckptHolds s f.acct = false → poisoned s (acctAddr f.acct) 256 = false → acctFlag s f.acct 1 = true →
      let seq := extendSeq (acctFlag s f.acct 6) x.ext x.bits (acctFld s f.acct 0x10 8) x.v
      ∀ check, classify s f.acct x seq = .inr check → candidates s f.acct check ≠ [] →
        makes (.gateEnter k) (setFrame s k { f with seq := seq, stage := .keys, check := check, toUnwrap := candidates s f.acct check, lane := chooseLane s })) ∧
    (∀ e rest n key, f.toUnwrap = e :: rest → f.lane = some n → f.stage = .loaded → kuwWaits s = false →
      let s0 := setFrame s k f
      kuwWaits s0 = false → poisoned s0 (keyAddr f.acct + 48 * e) 48 = false →
      unwrapEntry (bumpMod s0 Reg.KUW_CNT) f.acct e = some key →
      let s1 := bumpMod s0 Reg.KUW_CNT
      makes (.intakeUnwrap k false) (setFrame (setLane s1 false n { getLane s1 false n with
          key := some { handle := 0, ktype := 1, attr := 0, acct := true, mat := key } }) k
        { f with stage := .loaded, toUnwrap := rest, cands := f.cands ++ [⟨e, key⟩] })) ∧
    (f.stage = .loaded → f.toUnwrap = [] → f.check = false →
      let cur := b2n (acctFlag s f.acct 2)
      let keyOf (e : Nat) : Option Bytes := (f.cands.find? fun c => c.entry == e && modeOk x c.key).map (·.key)
      (∀ w, keyOf cur = some w → makes (.decryptVerify k) (acceptFrame s k f x w false (keyOf (1 - cur)).isSome)) ∧
      (∀ w, keyOf cur = none → keyOf (1 - cur) = some w → makes (.decryptVerify k) (acceptFrame s k f x w true false)) ∧
      (keyOf cur = none → keyOf (1 - cur) = none → makes (.decryptVerify k) (endFrame (authFail s f.acct) k f stAUTH))) ∧
    (∀ n, f.stage = .ledger → unitLane s 31 = some n →
      let count := (acctCount s f.acct + 1) % 2 ^ 64
      let fab := match f.req.src with | .fabric _ _ _ _ _ => 4 | _ => 0
      let h := recHeader f.status (frameFlags f + fab) f.req.profile f.acct f.plain.length (acctAddrOf s f.acct) f.seq count f.rtc
      makes (.ledgerExtend k) (setFrame (hshCount s n ((64 + f.plain.length + 9 + 63) / 64)) k
        { f with stage := .commit, count := count, head := sha256 (sramRead s (acctAddr f.acct + 0x28) 32 ++ h ++ f.plain) })) ∧
    (f.stage = .commit → f.promoted = false → f.suspect = false → f.gap = false → acctFlag s f.acct 5 = false → f.status = stOK →
      let s1 := commitTotals (advanceWindow s f.acct f.seq (fingerprint x)) f.acct f.rtc f.totals
      let s2 := feedSlots (markDirty (acctPut s1 f.acct 0x20 (leBytes 8 f.count ++ f.head)) f.acct) f.acct f.totals
      makes (.frameCommit k) (takeFrame (deliverFrame s2 f stOK (frameFlags f) x.addr 0 f.seq f.count f.rtc f.plain) k)))

/-- R117, R118, R131, R120 to R123: How quantity reaches a tally. A counting edge of a pulse input steps its counter; a source's increment
is added to the share of every tally that uses it, if all of them have room. The tally ALU. A dispatch takes the next pending tally's
share with its slot values; the commit of an update with fresh slots applies the formula of R121, of one with a stale slot diverts the
quantity to the tally's error accumulator; after two mismatches the share goes back and the ALU leaves service. Where the spec leaves a
point open, the clauses rest on the choices of the model in log entry 20. -/
def Obligations.TallyUpdates : Prop :=
  (∀ (k : Fin 32) (rising : Bool) (src : TallySrc) (s : State),
    let makes (i : Instr) (t : State) : Prop := exec i s = .next (landed s t)
    let count := Reg.PLS_COUNT + 4 * k.val
    let s1 := wrBit s Reg.PLS_LEVEL k.val rising
    let cfg1 := rd s1 (Reg.PLS_CFG + 4 * k.val)
    let counts := bit cfg1 31 = true ∧ (fld cfg1 30 29 = 0 ∧ rising = true ∨ fld cfg1 30 29 = 1 ∧ rising = false ∨ fld cfg1 30 29 = 2)
    (¬ counts → makes (.pulseEdge k rising) s1) ∧
    (counts → rd s1 count - rd s1 (Reg.PLS_TAKEN + 4 * k.val) ≠ 0xFFFFFFFF#32 →
      let s2 := wr s1 count (rd s1 count + 1#32)
      makes (.pulseEdge k rising) (if unpowered s2 = true then wr s2 (Reg.PLS_OFFCNT + 4 * k.val) (rd s2 (Reg.PLS_OFFCNT + 4 * k.val) + 1#32) else s2)) ∧
    (usersOf s src ≠ [] → aluOos s = false → ((usersOf s src).any fun n => pageQuiesced s (talPage n)) = false →
      0 < srcDelta s src → srcDelta s src < 2 ^ 32 →
      (∀ n, n ∈ usersOf s src → (getTally s n).share + inAlu s n + srcDelta s src < 2 ^ 32) →
      makes (.sourceConsume src) ((usersOf s src).foldl (addShare (srcDelta s src)) (takeSource s src)))) ∧
  (∀ (n : Nat) (u : AluUpd) (s : State),
    let makes (i : Instr) (t : State) : Prop := exec i s = .next (landed s t)
    (s.tal.alu = none → aluOos s = false → bit (rd s (hdr 0x20 Off.CTRL)) 2 = false → schedHeld s = false → nextTally s = some n →
      let t := getTally s n
      let u : AluUpd :=
        { n := n, share := t.share, b := (getSlot s (fld (talSrc s n) 23 16)).value, c := (getSlot s (fld (talSrc s n) 15 8)).value,
          d := (getSlot s (fld (talSrc s n) 7 0)).value, stale := (readSlots s n).any fun k => !slotFresh s k, off := false }
      let s1 := setPend (setTally s n { t with share := 0 }) n false
      makes .tallyDispatch { s1 with tal := { s1.tal with alu := some u, last := n } }) ∧
    (s.tal.alu = some u →
      let a := u.share * talScale s u.n
      let counted (t : State) : State := if a = 0 then t else setTally t u.n { getTally t u.n with upd := ((getTally t u.n).upd + 1) % 2 ^ 32 }
      (u.stale = false → makes (.tallyUpdateCommit 0) (aluDone (counted (formP s u a)) u)) ∧
      (u.stale = true → makes (.tallyUpdateCommit 0) (aluDone (counted (divert (setFlags s u.n true false false) u.n a)) u)) ∧
      (let s1 := talRaise (wrBit (bumpSat (bumpSat s Reg.TAL_ALU 15 0) Reg.TAL_ALU 15 0) Reg.TAL_ALU 31 true) u.n 4
       makes (.tallyUpdateCommit 2) (aluDone (setPend (setTally s1 u.n { getTally s1 u.n with share := (getTally s1 u.n).share + u.share }) u.n true) u))))

/-- R126 to R128, R115, R116, R582: Snapshots and presets of tallies. A command is taken while none is pending; the latch captures the
accumulators, the status, the tick and the update count at the update boundary; a preset that fits puts its value with the carry into the
accumulator. The tables. A selection starts the CRC of a table, which its end shows; a coefficient of an unlocked table is written, of a
locked one discarded with KIND 4, and the index steps either way. Where the spec leaves a point open, the clauses rest on the choices of
the model in log entry 22. -/
def Obligations.TallyCommands : Prop :=
  (∀ (i : Initiator) (p : Fin 4) (v : Word) (n : Nat) (k : Acc) (s : State),
    let b := 4096 * p.val
    let makes (i : Instr) (t : State) : Prop := exec i s = .next (landed s t)
    (MayStore s i (Reg.TAL_SNAPCMD + b) → bit (rd s (Reg.TAL_SNAPSTAT + b)) 30 = false → bit v 31 = true →
      makes (.talSnapcmd i p v)
        (wr (wr s (Reg.TAL_SNAPCMD + b) (word (fld v 5 0))) (Reg.TAL_SNAPSTAT + b) (word (0x40000000 + fld v 5 0)))) ∧
    (let st := rd s (Reg.TAL_SNAPSTAT + b)
     let m := 64 * p.val + fld st 5 0
     bit st 30 = true → aluHolds s m = false →
      let t := getTally s m
      let put (s : State) (a words n : Nat) : State := wrWords s (a + b) words n
      let s1 := put (put s Reg.TAL_SNAP_POS 3 (t.pos / 2 ^ 48)) Reg.TAL_SNAP_POSF 2 (t.pos % 2 ^ 48)
      let s2 := put (put s1 Reg.TAL_SNAP_NEG 3 (t.neg / 2 ^ 48)) Reg.TAL_SNAP_NEGF 2 (t.neg % 2 ^ 48)
      let s3 := put (put s2 Reg.TAL_SNAP_ERR 3 (t.err / 2 ^ 16)) Reg.TAL_SNAP_ERRF 1 (t.err % 2 ^ 16)
      let s4 := put (wr s3 (Reg.TAL_SNAP_STS + b) (talSts s m)) Reg.TAL_SNAP_TICK 2 s3.tick
      makes (.snapshotCapture p) (wr (wr s4 (Reg.TAL_SNAP_UPD + b) (word t.upd)) (Reg.TAL_SNAPSTAT + b) (word (0x80000000 + fld st 5 0)))) ∧
    (MayStore s i (Reg.TAL_PRECMD + b) → bit (rd s (Reg.TAL_PRESTAT + b)) 31 = false → bit v 31 = true → fld v 9 8 ≠ 3 →
      let w := fld v 9 8 * 256 + fld v 5 0
      let s1 := wr (wr s (Reg.TAL_PRECMD + b) (word w)) (Reg.TAL_PRESTAT + b) (word (0x80000000 + w))
      makes (.talPrecmd i p v) { s1 with tal := { s1.tal with carry := mset 0 s1.tal.carry p.val 0 } }) ∧
    (presetOf s p.val = some (n, k) → aluHolds s n = false →
      ¬ (bit (rd s (Reg.TAL_SNAPSTAT + b)) 30 = true ∧ fld (rd s (Reg.TAL_SNAPSTAT + b)) 5 0 = n % 64) → s.cal.closing = false →
      let carry := mget 0 s.tal.carry p.val
      let val := ((rd s (Reg.TAL_PREVAL + b)).toNat + 2 ^ 32 * (rd s (Reg.TAL_PREVAL + b + 4)).toNat +
        2 ^ 64 * (rd s (Reg.TAL_PREVAL + b + 8)).toNat) * 2 ^ k.frac + carry
      val < 2 ^ (96 + k.frac) →
      let s1 := wrBit (setTally s n ((getTally s n).setAcc k val)) (talStsReg n) k.sat false
      let s2 := if k ≠ .err ∧ tallyAxis s1 n (decide (k = .neg)) < tallyAxis s n (decide (k = .neg)) then wrBit s1 (hdr 0x28 Off.EVT_RAW) 0 true else s1
      let s3 := wrBit (talRaise (wrWords s2 (Reg.TAL_CARRY + b) 3 (carry / 2 ^ k.frac)) n 3) (Reg.TAL_PRESTAT + b) 31 false
      makes (.presetApply p) { s3 with tal := { s3.tal with carry := mset 0 s3.tal.carry p.val 0 } })) ∧
  (∀ (i : Initiator) (v : Word) (s : State),
    let makes (i : Instr) (t : State) : Prop := exec i s = .next (landed s t)
    let idx := fld (rd s Reg.TCO_CIDX) 12 0
    let lock := bit (rd s (Reg.TCO_THDR + 8 * (idx / 128))) 31
    (MayStore s i Reg.TCO_CRCSEL →
      let s1 := wr s Reg.TCO_CRCSEL (v &&& 0x3F#32)
      makes (.tcoCrcsel i v) { s1 with tal := { s1.tal with crcBusy := true } }) ∧
    (s.tal.crcBusy = true →
      let s1 := wr s Reg.TCO_CRC (crc32 (tableBytes s (fld (rd s Reg.TCO_CRCSEL) 5 0)))
      makes .tcoCrcDone { s1 with tal := { s1.tal with crcBusy := false } }) ∧
    (MayStore s i Reg.TCO_CDATA →
      (lock = false → makes (.tcoCdataWrite i v) (autoinc { s with tal := { s.tal with coef := mset 0#32 s.tal.coef idx v } } Reg.TCO_CIDX 13)) ∧
      (lock = true → makes (.tcoCdataWrite i v) (autoinc (noteErr s i 0x24 (Reg.TCO_CDATA % 4096) 4 true) Reg.TCO_CIDX 13))))

/-- R135, R137 to R140, R145: The sensor sequencer. A run starts at step 0; each step does what its word says and goes on to the next;
COMMIT and END write what the run staged; MC writes a slot and captures one. Where the spec leaves a point open, the clauses rest on the
choices of the model in log entries 24, 25. -/
def Obligations.SensorRuns : Prop :=
  ∀ (i : Initiator) (v : Word) (rx : List Byte) (s : State),
    let makes (i : Instr) (t : State) : Prop := exec i s = .next (landed s t)
    let ctrl := hdr 0x27 Off.CTRL
    let w := snsStepWord s s.sns.step
    let steps (op : Nat) : Prop := s.sns.running = true ∧ s.sns.step < 256 ∧ fld w 31 28 = op
    let ends (t : State) : State := snsShow (setSns t { t.sns with step := t.sns.step + 1 })
    let starts (s : State) : State :=
      if s.sns.running then wrBit (bumpSat s Reg.SNS_RUNS 31 16) (hdr 0x27 Off.EVT_RAW) 1 true
      else wr (setSns s { s.sns with running := true, step := 0, staged := [], cs := [] }) Reg.SNS_SEQSTAT 0x80000000#32
    (accepting s 0x27 = true → (fld (rd s Reg.SNS_PERIOD) 19 0 ≠ 0 ∨ bit (rd s ctrl) 8 = true) → makes .snsRunStart (starts (wrBit s ctrl 8 false))) ∧
    (MayStore s i ctrl → accepting s 0x27 = true → makes (.runNow i) (starts s)) ∧
    (steps 1 → fld w 15 8 + fld w 22 16 + 1 ≤ 256 → fld w 7 0 + fld w 22 16 + 1 ≤ 256 →
      let len := fld w 22 16 + 1
      let s1 := emit s (.spi (fld w 27 26) (fld w 25 24) (bufBytes s Reg.SNS_TXBUF (fld w 15 8) len))
      let s2 := putBuf s1 Reg.SNS_RXBUF (fld w 7 0) ((rx ++ List.replicate len 0xFF#8).take len)
      makes (.snsXfer rx) (ends (setSns s2 { s2.sns with
        cs := if bit w 23 then linsert (fld w 27 26) s2.sns.cs else lerase (fld w 27 26) s2.sns.cs }))) ∧
    (steps 2 → makes .snsWait (ends s)) ∧
    (steps 3 → makes (.snsWaitrdy true) (ends (setSns s { s.sns with cs := linsert (fld w 27 26) s.sns.cs })) ∧
      makes (.snsWaitrdy false) (snsFail s 1)) ∧
    (steps 4 → makes .snsCheck (if bufByte s Reg.SNS_RXBUF (fld w 23 16) &&& BitVec.ofNat 8 (fld w 15 8) = BitVec.ofNat 8 (fld w 7 0) then ends s
      else snsFail s 2)) ∧
    (∀ n, steps 6 → storeWidth (fld w 11 9) = some n → fld w 19 12 + (n + 7) / 8 ≤ 256 → fld w 6 0 = 0x7F → s.sns.staged.length < 16 →
      let bs := bufBytes s Reg.SNS_RXBUF (fld w 19 12) ((n + 7) / 8)
      let raw := (if bit w 7 then beNat bs else leNat bs) % 2 ^ n
      let x : Int := if bit w 8 && 2 ^ (n - 1) ≤ raw then (raw : Int) - 2 ^ n else raw
      makes .snsStore (ends (setSns s { s.sns with staged := s.sns.staged ++ [⟨fld w 27 20, s.sns.step, some (x % 2 ^ 64).toNat⟩] }))) ∧
    (steps 7 → makes .snsCommit (ends (snsCommitAll s))) ∧
    (steps 0 →
      let t := snsCommitAll s
      makes .snsEnd (snsShow (bumpSat (setSns t { t.sns with running := false, cs := [] }) Reg.SNS_RUNS 15 0))) ∧
    (MayStore s i Reg.SNS_WCMD → bit v 31 = true →
      let s1 := wr s Reg.SNS_WCMD (v &&& 0xFF#32)
      makes (.snsWcmd i v) (slotWrite s1 (fld v 7 0) .mc (some (rd64 s1 Reg.SNS_WVAL))).1) ∧
    (MayStore s i Reg.SNS_SIDX →
      let x := getSlot s (fld v 7 0)
      let s1 := wr s Reg.SNS_SIDX (word (fld v 7 0))
      let s2 := wrWords (wrWords s1 Reg.SNS_CVAL 2 x.value) Reg.SNS_CTS 2 x.ts
      makes (.snsSidx i v) (wr s2 Reg.SNS_CTAG (word (b2n (slotFresh s2 (fld v 7 0)) * 0x80000000 + b2n x.fault * 0x40000000 +
        b2n x.written * 0x20000000 + b2n x.runfail * 0x10000000 + x.tag))))

/-- R148, R149, R151, R152, R169: The three axes. A set takes the SET value, backwards only where that is allowed and nothing is armed; a
slew starts with its fraction at 0 and ends with SECS; an accepted mains edge counts; a low word read captures the high word. Where the
spec leaves a point open, the clauses rest on the choices of the model in log entry 23. -/
def Obligations.AxisCommands : Prop :=
  ∀ (i : Initiator) (v : Word) (net : Bool) (ax : Axs64) (t : Nat) (s : State),
    let makes (i : Instr) (t : State) : Prop := exec i s = .next (landed s t)
    let sets (ins : Instr) (code val set cmd : Nat) (after : State → State) : Prop :=
      let s1 := wr s cmd ((rd s cmd &&& 1#32) ||| (v &&& 0x40000000#32))
      MayStore s i cmd → bit v 31 = true → (rd64 s1 val ≤ rd64 s1 set ∨ bit v 30 = true ∧ axisArmed s1 code = false) →
      let s2 := after (wrWords (wrBit s1 cmd 0 false) val 2 (rd64 s1 set))
      makes ins (if rd64 s1 set < rd64 s1 val then wrBit s2 (hdr 0x28 Off.EVT_RAW) 1 true else s2)
    sets (.axsRtccmd i v) 0 Reg.AXS_RTC Reg.AXS_RTCSET Reg.AXS_RTCCMD (fun s => wrBit s axsStat 8 true) ∧
    sets (.axsNcmd i v) 2 Reg.AXS_NET Reg.AXS_NSET Reg.AXS_NCMD (fun s => wrBit s axsStat 9 true) ∧
    (let s1 := wr s Reg.AXS_MCMD ((rd s Reg.AXS_MCMD &&& 1#32) ||| (v &&& 0x40000000#32))
     sets (.axsMcmd i v) 1 Reg.AXS_MAINS Reg.AXS_MSET Reg.AXS_MCMD fun t => { t with tal := { t.tal with
       mainsTaken := (t.tal.mainsTaken + rd64 s1 Reg.AXS_MSET + 2 ^ 64 - rd64 s1 Reg.AXS_MAINS) % 2 ^ 64 } }) ∧
    (MayStore s i Reg.AXS_RTCSLEW → makes (.axsRtcslew i v) { wr s Reg.AXS_RTCSLEW v with axs := { s.axs with rtcSub := 0 } }) ∧
    (MayStore s i Reg.AXS_NSLEW → makes (.axsNslew i v) { wr s Reg.AXS_NSLEW v with axs := { s.axs with netSub := 0 } }) ∧
    (let a := if net then Reg.AXS_NSLEW else Reg.AXS_RTCSLEW
     fld (rd s a) 31 16 ≠ 0 → makes (.slewDone net) (wrBit (wrFld s a 31 16 0) (hdr 0x28 Off.EVT_RAW) 3 true)) ∧
    (MayLoad s i (axs64Reg ax) → makes (.axsLowRead i ax) (answer (axsCapture s ax) (rd s (axs64Reg ax)))) ∧
    (bit (rd s Reg.AXS_MCFG) 31 = true → awake s = true →
      (s.axs.lastEdge = none → makes .mainsEdge { s with axs := { s.axs with lastEdge := some s.tick } }) ∧
      (s.axs.lastEdge = some t → 15000 ≤ s.tick - t → s.tick - t ≤ 22500 →
        let s1 := wr { s with axs := { s.axs with lastEdge := some s.tick } } Reg.AXS_MPER (word (0x80000000 + (s.tick - t)))
        makes .mainsEdge (wrBit (wrWords s1 Reg.AXS_MAINS 2 (mainsCount s1 + 1)) axsStat 10 true)) ∧
      makes .mainsTimeout (mainsFault { s with axs := { s.axs with lastEdge := none } }))

/-- R156, R158 to R162, R166, R168: The calendar. ARM, DISARM and DISARM_AXIS answer their status; a due posting joins the burst, and the
next one of the burst fires; the closings of a burst are captured together once the ALU is still; a record moves into its till. Where the
spec leaves a point open, the clauses rest on the choices of the model in log entries 108, 109, 112, 113, 114. -/
def Obligations.CalendarCommands : Prop :=
  ∀ (i : Initiator) (v : Word) (axis delay p : Nat) (d : Due) (c : Closing) (s : State),
    let makes (i : Instr) (t : State) : Prop := exec i s = .next (landed s t)
    let cmds (ins : Instr) (op : Nat) (r : State → State × Nat) : Prop :=
      let s1 := wr s Reg.CAL_CMD (setFld (v &&& 0xF8000FFF#32) 31 28 op)
      makes ins (burstEnd (wr (r s1).1 Reg.CAL_CMDSTAT (word (r s1).2)))
    (MayStore s i Reg.CAL_CMD → bit (rd s Reg.CAL_CMDSTAT) 31 = false →
      cmds (.arm i v) 1 (fun s => armPost s (fld v 11 0) (bit v 27)) ∧
      cmds (.disarm i v) 2 (fun s => (disarm s (fld v 11 0), stOK)) ∧
      cmds (.disarmAxis i v) 3 (fun s => (((armedPostings s).filter fun p => postAxis s p == fld v 9 0).foldl disarm s, stOK))) ∧
    (MayStore s i Reg.CAL_PEEKAX →
      let s1 := wr s Reg.CAL_PEEKAX (v &&& 0x3FF#32)
      (heapRoot s1 (fld v 9 0) = some p → makes (.calPeekax i v) (wrWords (wr s1 Reg.CAL_PEEK (word (0x80000000 + p))) Reg.CAL_PEEKCMP 2 (postCmp s1 p))) ∧
      (heapRoot s1 (fld v 9 0) = none → makes (.calPeekax i v) (wrWords (wr s1 Reg.CAL_PEEK 0#32) Reg.CAL_PEEKCMP 2 0))) ∧
    (MayStore s i Reg.CAL_LATMAX → makes (.calLatmaxWrite i v) (wr s Reg.CAL_LATMAX (v &&& 0xFFFF#32))) ∧
    (awake s = true →
      (rootWhere s axis (fun p => !inBurst s p) = some p → postCmp s p ≤ axisValue s axis →
        makes (.postingDue axis) (setCal s { s.cal with burst := s.cal.burst ++ [⟨p, 0⟩] })) ∧
      (nextDue s = some d →
        let late := decide (800 < delay)
        let missed := if recurs s d.p && decide (2 ^ 64 ≤ postCmp s d.p + fireSteps s d.p * postInc s d.p) then 0 else fireSteps s d.p - 1
        let r := runActs d.p (postCmp s d.p) missed late (postActs s d.p) (noteDelay s delay) { status := stOK, closing := none, later := [] }
        makes (.postingFire delay) (burstEnd (r.2.later.foldl lateAct (advance r.1 d.p late r.2.status))))) ∧
    (s.tal.alu = none → s.cal.caps ≠ [] →
      makes .closingCapture (burstEnd (s.cal.caps.foldl takeCapture (setCal s { s.cal with caps := [] })))) ∧
    (movable s s.cal.store [] = some c →
      makes .closingRecordMove (tillDeliver (setCal s { s.cal with store := s.cal.store.filter fun x => x.id != c.id })
        (fld (rd s (Reg.CAL_SETCFG + 4 * c.set)) 6 0) 0 c.bytes))

/-- R175, R179, R200 to R203, R206: The start of the vault and the noise source. The array is read and decoded stage by stage, up to four
times; with matching check values the roots come up; a health test's failure ends the noise source's output until a restart has passed its
start-up test; VLT_SIDX shows a slot; RNG_DATA gives a free value. Where the spec leaves a point open, the clauses rest on the choices of
the model in log entries 8, 36, 44. -/
def Obligations.VaultStart : Prop :=
  ∀ (i : Initiator) (v : Word) (errbits : BitVec 15) (bad : List (Fin 256)) (apt : Bool) (s : State),
    let makes (i : Instr) (t : State) : Prop := exec i s = .next (landed s t)
    let ctrl := hdr 6 Off.CTRL
    let stat := hdr 6 Off.STAT
    let raw := hdr 6 Off.EVT_RAW
    let off (s : State) : State := wrBit (wrBit s stat 8 false) stat 9 false
    (s.vlt.puf = .power → makes .pufPowerDone (setVlt s { s.vlt with puf := .read })) ∧
    (s.vlt.puf = .read → makes .pufReadDone (setVlt s { s.vlt with puf := .decode })) ∧
    (s.vlt.puf = .cool → makes .pufCoolDone (pufShow (setVlt s { s.vlt with puf := .power, attempt := s.vlt.attempt + 1 }) 0 0)) ∧
    (s.vlt.puf = .decode →
      (let s1 := pufShow (setVlt s { s.vlt with puf := .done, rootS := lcode s != 5, rootI := lcode s != 1 }) 0 errbits.toNat
       makes (.pufDecodeDone true errbits bad) (vaultRun (bad.foldl (fun s k => if (vslot s k.val).key.isSome then slotBad s k.val else s) s1))) ∧
      (s.vlt.attempt < 3 → makes (.pufDecodeDone false errbits bad) (wrBit (setVlt s { s.vlt with puf := .cool }) (hdr 5 Off.EVT_RAW) 0 true)) ∧
      (3 ≤ s.vlt.attempt → makes (.pufDecodeDone false errbits bad)
        (wrBit (pufShow (setVlt s { s.vlt with puf := .failed }) 2 0) (hdr 5 Off.EVT_RAW) 1 true))) ∧
    (MayStore s i Reg.VLT_SIDX →
      let s1 := wr s Reg.VLT_SIDX (v &&& 0xFF#32)
      makes (.vltSidx i v) ((List.range 6).foldl (fun s k => wr s (Reg.VLT_SINFO + 4 * k)
        (word (leNat (((slotHeader s1 (fld v 7 0)).drop (4 * k)).take 4)))) s1)) ∧
    (let s1 := if apt then bumpSat s Reg.RNG_FAILS 15 8 else bumpSat s Reg.RNG_FAILS 7 0
     makes (.rngHealthFail apt) (wrBit (setVlt (off s1) { (off s1).vlt with rngStart := false }) raw (b2n apt) true)) ∧
    (MayStore s i ctrl →
      (let s1 := wrBit s stat 10 true
       makes (.reseedNow i) (if bit (rd s1 stat) 8 = true then s1 else wrBit s1 raw 2 true)) ∧
      makes (.rngRestart i) (setVlt (off s) { (off s).vlt with rngStart := true })) ∧
    (s.vlt.rngStart = true →
      let s1 := wrBit (wrBit (setVlt s { s.vlt with rngStart := false }) stat 8 true) stat 9 true
      makes .drbgReseedDone (vaultRun (wrBit (wr (wrBit s1 stat 10 false) Reg.RNG_REQS 0#32) raw 3 true))) ∧
    (s.vlt.rngStart = false → bit (rd s stat) 8 = true → bit (rd s stat) 9 = true →
      makes .drbgReseedDone (wr (wrBit s stat 10 false) Reg.RNG_REQS 0#32)) ∧
    (MayLoad s i Reg.RNG_DATA →
      let s1 := drbgCount s
      bit (rd s stat) 9 = true → makes (.rngDataRead i) (answer { s1 with fresh := s1.fresh + 1 } (Config.free 32 s1.fresh))) ∧
    (MayLoad s i Reg.RNG_HSTAT →
      makes (.rngHstatRead i) (answer { s with fresh := s.fresh + 1 } (Config.free 32 s.fresh &&& 0xFFFF00FF#32)))

/-- R182, R183, R196 to R199, R203, R204, R190, R193, R194: Vault commands of D0 on an idle vault whose lanes work. OPEN gives a slot's
handle, GETPUB and GETID public keys, MINT a new symmetric session key, DERIVE and AGREE session keys from a key, HALLMARK and REPORT
signed statements; DESTROY ends a session; ENROLL makes the helper data in TEST. A vault update runs in stages. A well-formed message for
this device whose authority has an anchor waits for its signatures; a rejected signature ends it with AUTH and its reason; a transaction
that is committed takes effect and completes; an account key waits for its gate and then goes into banks 30 and 31. Where the spec leaves
a point open, the clauses rest on the choices of the model in log entries 33, 34, 35, 37, 38, 42, 43. -/
def Obligations.VaultCommands : Prop :=
  (∀ (i : Initiator) (k : KeyRec) (r z nonce label sig : Bytes) (s s2 s3 s4 : State) (h : Nat),
    let busy := wr s Reg.VLT_CMDSTAT 0x80000000#32
    let q (op : Nat) : VReq := pageReq busy op
    let ends (ins : Instr) (t : State) (result : Nat) (out : Bytes) : Prop :=
      let t1 := if out.isEmpty then t else unitWrite t 0 (rd busy Reg.VLT_OBUF).toNat out
      exec ins s = .next (landed s (wr (wr (wr t1 Reg.VLT_CMDSTAT (word stOK)) Reg.VLT_RESULT (word result)) Reg.VLT_OUTLEN (word out.length)))
    let arg (n : Nat) : Nat := (rd busy (Reg.VLT_ARG + 4 * n)).toNat
    MayStore s i Reg.VLT_CMD → bit (rd s Reg.VLT_CMDSTAT) 31 = false → s.vlt.queue = [] → s.vlt.job = none →
    kuwWaits busy = false → bneInternal busy = true →
    (let hd := handleOf 1 (vslot busy (arg 0 % 256)).gen (arg 0 % 256)
     keyFor busy hd 0 (fun _ => true) = (s2, .inr k) → ends (.vltOpen i) s2 hd []) ∧
    (keyFor busy (arg 0) 0 (fun k => !ktypeSym k.ktype) = (s2, .inr k) → vOut s2 (q 4) ((pubOf k).getD []).length = none →
      ends (.vltGetpub i) s2 0 ((pubOf k).getD [])) ∧
    (∀ a b, slotKey busy 0 = some a → slotKey busy 1 = some b →
      let out := (pubOf a).getD [] ++ (pubOf b).getD []
      vOut busy (q 10) out.length = none → ends (.vltGetid i) busy 0 out) ∧
    (let kt := arg 0 / 2 ^ 24 % 256
     let attr := arg 1 + 2 ^ 32 * arg 2
     nbit (arg 0) 8 = true → ktypeSym kt = true → (ktypeLen kt).isSome = true → attrOk kt attr true = true → freeSess busy ≠ none →
     let s1 := if bit (rd busy Reg.RNG_CFG) 0 && drbgReady busy then reseeded busy else busy
     drbg s1 (mintLen kt 0) = some (r, s2) →
     newSess s2 { ktype := kt, origin := 1, auth := 0xFF, attr := attr, keyId := arg 3, nvctr := 0xFF, param := 0, mat := mintMat kt 0 r } = some (s3, h) →
     exec (.vltMint i) s = .next (landed s (wrBit (vEnd s3 (q 2) stOK h []) (hdr 5 Off.EVT_RAW) 5 true))) ∧
    (let kt := arg 1 / 2 ^ 24 % 256
     outKeyOk (q 8) = true → 0 < arg 3 → arg 3 ≤ 64 → vIn busy (q 8) (arg 3) = (s2, .inr label) →
     keyFor s2 (arg 0) 0 (fun k => nbit k.attr aDERIVE) = (s3, .inr k) →
     newSess s3 (sessRec kt (outAttr (arg 2) 0) 0 ((kdf k.mat label serial).take ((ktypeLen kt).getD 0))) = some (s4, h) →
     (ktypeLen kt).getD 0 ≤ 32 → ends (.vltDerive i) s4 h []) ∧
    (let kt := arg 1 / 2 ^ 24 % 256
     outKeyOk (q 9) = true → keyFor busy (arg 0) 0 (fun k => nbit k.attr aKEYAGREE) = (s2, .inr k) → vIn s2 (q 9) (peerLen k.ktype) = (s3, .inr label) →
     sharedSecret k label = some z → (ktypeLen kt).getD 0 ≤ 32 →
     newSess s3 (sessRec kt (outAttr (arg 2) 0) 0 ((kdf z (ascii "JQAGREE") serial).take ((ktypeLen kt).getD 0))) = some (s4, h) →
     ends (.vltAgree i) s4 h []) ∧
    (entryOf busy (arg 0) = some k → hKind (arg 0) = 2 → attrDom k.attr = 0 →
      ends (.vltDestroy i) (recallKey (setVsess busy (hIdx (arg 0)) { vsess busy (hIdx (arg 0)) with key := none }) (arg 0)) 0 []) ∧
    (keyFor busy (arg 0) 0 (fun _ => true) = (s2, .inr k) → k.origin ≠ 2 → nbit k.attr aHALLMARK = true → lcode s2 ≠ 5 →
      vIn s2 (q 5) 16 = (s3, .inr nonce) → vOut s3 (q 5) 3533 = none →
      let m := statement s2 1 (if hKind (arg 0) = 1 then hIdx (arg 0) else 0xFF) k.ktype k.origin k.keyId k.attr nonce (hGen (arg 0))
        (match pubOf k with | some p => sha384 p | none => zeros 48)
      identSign s3 m = (s4, .inr sig) →
      exec (.hallmark i) s = .next (landed s (wrBit (vEnd s4 (q 5) stOK 0 (m ++ sig)) (hdr 5 Off.EVT_RAW) 6 true))) ∧
    (lcode busy ≠ 1 → vIn busy (q 6) 16 = (s3, .inr nonce) → vOut s3 (q 6) 3533 = none →
      let m := statement busy 2 0xFF 0 0 0 0 nonce 0 (zeros 48)
      identSign s3 m = (s4, .inr sig) →
      exec (.report i) s = .next (landed s (wrBit (vEnd s4 (q 6) stOK 0 (m ++ sig)) (hdr 5 Off.EVT_RAW) 6 true))) ∧
    (lcode busy = 1 → nvGate busy true = (s2, stOK) →
      ends (.vltEnroll i) (setVlt { s2 with fresh := s2.fresh + 1 } { s2.vlt with
        helper := some { enrol := s2.fresh, okA := true, okB := true, regionS := true } }) 0 [])) ∧
  (∀ (i : Initiator) (q : VReq) (m entry : Bytes) (s s2 : State),
    let makes (i : Instr) (t : State) : Prop := exec i s = .next (landed s t)
    let busy := wr s Reg.VLT_CMDSTAT 0x80000000#32
    let q1 := pageReq busy 1
    (MayStore s i Reg.VLT_CMD → bit (rd s Reg.VLT_CMDSTAT) 31 = false → s.vlt.queue = [] → s.vlt.job = none →
      vIn busy q1 (rd busy Reg.VLT_ARG).toNat = (s2, .inr m) → updForm m = true → (m.drop 8).take 16 = serial → anchorOf s2 (mfld m 5 1) ≠ none →
      makes (.vltUpdate i) (setVlt s2 { s2.vlt with job := some { req := q1, work := .sigs m } })) ∧
    (s.vlt.job = some ⟨q, .sigs m⟩ → s.vlt.queue = [] → bneInternal s = true → kuwWaits s = false →
      let s1 := setVlt s { s.vlt with job := none }
      ((updSigs s m).1 = false → makes .updateSigsVerified (vReject s1 q stAUTH 4)) ∧
      ((updSigs s m).1 = true → (updSigs s m).2 = false → makes .updateSigsVerified (vReject s1 q stAUTH 5)) ∧
      ((updSigs s m).1 = true → (updSigs s m).2 = true → mfld m 24 4 ≤ ctrValue s1 (mfld m 5 1) → makes .updateSigsVerified (vReject s1 q stREPLAY 6)) ∧
      (∀ s3 mat, (updSigs s m).1 = true → (updSigs s m).2 = true → ctrValue s1 (mfld m 5 1) < mfld m 24 4 → updAllowed s1 m = true →
        nvGate s1 true = (s2, stOK) → updMaterial s2 m = (s3, some mat) → mfld m 6 1 = 3 →
        makes .updateSigsVerified (setVlt s3 { s3.vlt with job := some { req := q, work := .gate m (acctEntry s3 m mat) } }))) ∧
    (∀ put cause result out, s.vlt.job = some ⟨q, .slots put cause result out⟩ → takeDone s (.txn 1 (s.vlt.refs - 1)) = some (stOK, s2) →
      cause < 29 →
      let s3 := put.foldl (fun s kx => putSlot s kx.1 kx.2) (setVlt s2 { s2.vlt with job := none, hold := none })
      makes .updateCommit (gateNext (vaultRun (wrBit (vEnd s3 q stOK result out) (hdr 5 Off.EVT_RAW) cause true)))) ∧
    (s.vlt.job = some ⟨q, .gate m entry⟩ → acctHeld s (mfld m 28 2) = false →
      let a := mfld m 28 2
      let page := match newestPage s 6 (a / 2) with | some (_, f) => (f.data ++ zeros 192).take 192 | none => zeros 192
      let off := a % 2 * 96
      let mine := installEntry ((page.drop off).take 96) (acctFlag s a 2) (mfld m 30 2 == 1) entry
      vTxn (setVlt s { s.vlt with job := none, hold := some a })
        [.page 6 (a / 2) 3 (page.take off ++ mine ++ page.drop (off + 96) ++ zeros 64), .base (mfld m 5 1) (mfld m 24 4)] = (s2, 0) →
      makes .accountKeyInstall (setVlt s2 { s2.vlt with job := some { req := q, work := .acct m entry } })) ∧
    (s.vlt.job = some ⟨q, .acct m entry⟩ → takeDone s (.txn 1 (s.vlt.refs - 1)) = some (stOK, s2) →
      let s3 := acctInstall (setVlt s2 { s2.vlt with job := none, hold := none }) m entry
      makes .accountKeyInstall (gateNext (vaultRun (wrBit (vEnd s3 q stOK 0 []) (hdr 5 Off.EVT_RAW) 3 true)))))

/-- R213, R229, R233, R250, R256, R271, R279: A job submitted through its page. GO with an aligned block in the banks is read and given to
the unit of the page under the page's domain. Where the spec leaves a point open, the clauses rest on the choices of the model in log
entries 46, 48, 178. -/
def Obligations.PageJobs : Prop :=
  ∀ (i : Initiator) (n : Fin 4) (m : Fin 2) (blk : Bytes) (s s1 s2 : State),
    let submits (ins : Instr) (page size : Nat) (unit : State → Nat → Bytes → Admit) : Prop :=
      let a := (rd s (hdr page 0x84)).toNat
      MayStore s i (hdr page 0x88) → bit (rd s (hdr page 0x8C)) 31 = false → a % 16 = 0 → rangeSram a size = true → banksUp s a size = true →
      unitRead s (pageDomain s page) a size = (s1, .inr blk) →
      let s' := wr s1 (hdr page 0x8C) 0x80000000#32
      unit s' (pageDomain s' page) blk = .taken s2 → exec ins s = .next (landed s s2)
    submits (.aesJobcmd i n) (0x08 + n.val) 48 (fun s dom blk => laneAdmit s false n.val .page dom blk) ∧
    submits (.hshJobcmd i m) (0x0D + m.val) 48 (fun s dom blk => laneAdmit s true m.val .page dom blk) ∧
    submits (.bneJobcmd i n) (0x10 + n.val) 48 (fun s dom blk => bneAdmit s n.val .page dom blk) ∧
    submits (.lmsJobcmd i) 0x0F 32 (fun s dom blk => lmsAdmit s .page dom blk)

/-- R185, R186, R205, R212, R215 to R228: AES jobs on a lane. The lane takes the job of R224, a new one or a suspended one; KUW gives its
key; its blocks are computed and it ends; it yields to a higher priority with its context saved; an inverse-check mismatch takes the lane
out of service; CLRKEY clears the key. Where the spec leaves a point open, the clauses rest on the choices of the model in log entries 49,
52, 53, 54, 55, 56, 73. -/
def Obligations.AesRuns : Prop :=
  ∀ (i : Initiator) (n : Fin 4) (units : Nat) (host : List (Nat × Bytes)) (x : RunJob) (j : Job) (q : List Job) (susp : List RunJob)
    (d : KeyDest) (hd dom : Nat) (kuw : List (KeyDest × Nat × Nat)) (k : KeyRec) (r : AesRec) (s s1 s2 : State),
    let makes (i : Instr) (t : State) : Prop := exec i s = .next (landed s t)
    let lane (s : State) : Lane := getLane s false n.val
    (laneFree s false n.val = true →
      (laneNext s false n.val = .job j q → aesBlkOk (aesBlk j.blk) = true → (aesBlk j.blk).init = true →
        let s0 := setLane s false n.val { lane s with queue := q }
        aesFirst s0 j.src j.dom (aesBlk j.blk) host = (s1, .inr r) → makes (.aesJobStart n host) (aesTake s1 n.val j r)) ∧
      (laneNext s false n.val = .susp x susp →
        let s0 := setLane s false n.val { lane s with susp := susp }
        aesRead s0 x.job.src x.job.dom (aesBlk x.job.blk) x.token host = (s1, .inr r) → makes (.aesResume n host) (aesTake s1 n.val x.job r))) ∧
    (runReady s false n.val = some x →
      (∀ y, aesGo s n.val x (aesFuel (aesBlk x.job.blk)) host = (s1, y, stOK) → makes (.aesJobDone n host) (aesConclude s1 n.val y host)) ∧
      (∀ p dm y, nextClaim s false n.val = some (p, dm) → lanePri s false n.val x.job.cls < p → (lane s).susp.length < 4 →
        units < ((aesBlk x.job.blk).aadlen - (aesRec x.ctx).aadlen) / 16 + ((aesBlk x.job.blk).len - x.pos + 15) / 16 →
        aesPart s n.val x units host = (s1, some y) →
        let s2 := bumpSat s1 (laneReg false n.val 0xB0) 15 0
        ∀ s3, aesSave s2 y (decide (dm ≠ some y.job.dom)) (aesRec y.ctx) = (s3, stOK) →
          makes (.aesPreempt n units host) (setLane s3 false n.val { lane s2 with cur := none, susp := (lane s2).susp ++ [y] }))) ∧
    ((s.intake.frames.findIdx? fun f => decide (f.lane = some n.val) && decide (f.stage = .loaded)) = none →
      makes (.aesCheckMismatch n units host) (aesMismatch n.val units host s)) ∧
    (MayStore s i (hdr (0x08 + n.val) Off.CTRL) → frameRuns s n.val = false → (lane s).cur = none →
      makes (.aesClrkey i n units host) (setLane s false n.val { lane s with key := none, clr := false })) ∧
    (s.lanes.kuw = (d, hd, dom) :: kuw → kuwWaits s = false →
      let s0 := { s with lanes := { s.lanes with kuw := kuw } }
      (keyFor s0 hd dom (fun _ => true) = (s2, .inr k) →
        makes (.keyUnwrapDone .ok) (keyGiven s2 d { handle := hd, ktype := k.ktype, attr := k.attr, acct := false, mat := k.mat })) ∧
      makes (.keyUnwrapDone .fault) (goOos (keyRefused s0 d stLANE) 0x0C))

/-- R236 to R240, R256: Hash jobs on a lane, in the same stages; a mismatch of the two datapaths withholds the result of the work it
befell. Where the spec leaves a point open, the clauses rest on the choices of the model in log entries 52, 53, 59, 60. -/
def Obligations.HashRuns : Prop :=
  ∀ (i : Initiator) (n : Fin 2) (units : Nat) (host : List (Nat × Bytes)) (x y : RunJob) (j : Job) (q : List Job) (susp : List RunJob)
    (r : HshRec) (s s1 s2 s3 : State),
    let makes (i : Instr) (t : State) : Prop := exec i s = .next (landed s t)
    let lane (s : State) : Lane := getLane s true n.val
    (laneFree s true n.val = true →
      (laneNext s true n.val = .job j q → hshBlkOk j.blk = true → (hshBlk j.blk).init = true →
        let s0 := setLane s true n.val { lane s with queue := q }
        let t := s0.lanes.hshTok
        makes (.hshJobStart n host) (hshTake { s0 with lanes := { s0.lanes with hshTok := if t = 2 ^ 32 - 1 then 1 else t + 1 } } n.val j
          { dom := j.dom, mode := (hshBlk j.blk).mode, key := (hshBlk j.blk).key, token := t, jobpos := 0, datalen := 0, st := hshIv (hshBlk j.blk).mode })) ∧
      (laneNext s true n.val = .susp x susp →
        let s0 := setLane s true n.val { lane s with susp := susp }
        hshRead s0 x.job.src x.job.dom (hshBlk x.job.blk) x.token host = (s1, .inr r) → makes (.hshJobStart n host) (hshTake s1 n.val x.job r))) ∧
    (runReady s true n.val = some x →
      (hshGo s n.val x ((hshBlk x.job.blk).len / 64 + 1) host = (s1, y, stOK) → makes (.hshJobDone n host) (hshConclude s1 n.val y host)) ∧
      (∀ p dm, nextClaim s true n.val = some (p, dm) → lanePri s true n.val x.job.cls < p → (lane s).susp.length < 4 →
        x.pos + units * hshBlock (hshBlk x.job.blk).mode < (hshBlk x.job.blk).len →
        hshPart s n.val x units host = (s1, some y) →
        let s2 := bumpSat s1 (laneReg true n.val 0xB0) 15 0
        hshSave s2 y (decide (dm ≠ some y.job.dom)) (hshRec y.ctx) = (s3, stOK) →
          makes (.hshPreempt n units host) (setLane s3 true n.val { lane s2 with cur := none, susp := (lane s2).susp ++ [y] })) ∧
      (hshPart s n.val x units host = (s2, some y) → makes (.hshCheckMismatch n .job units host)
        (hshMismatch n.val y.job.cls y.job.dom (y.pos / hshBlock (hshBlk y.job.blk).mode) s2))) ∧
    (s.lanes.sealing.isSome = true → makes (.hshCheckMismatch n .seal units host) (sealWithheld (hshMismatch n.val 5 (pageDomain s 0x0F) units s))) ∧
    (s.lanes.lmsRun.isSome = true → makes (.hshCheckMismatch n .lms units host) (lmsWithheld (hshMismatch n.val 6 (pageDomain s 0x0F) units s))) ∧
    (MayStore s i (hdr (0x0D + n.val) Off.CTRL) → (lane s).cur = none →
      makes (.hshClrkey i n units host) (setLane s true n.val { lane s with key := none, clr := false }))

/-- R243 to R250, R257: LMS signatures. The sequencer takes its next request, whose index a verified advance of the key's counter gives; a
signature is released with its index; KSEL shows a key's state. Where the spec leaves a point open, the clauses rest on the choices of the
model in log entry 61. -/
def Obligations.LmsRuns : Prop :=
  ∀ (i : Initiator) (k : Fin 256) (v : Word) (q : LReq) (rest : List LReq) (x : LRun) (r : KeyRec) (p : HssParam) (m sig : Bytes)
    (g : Nat) (s s1 s2 s3 : State),
    let makes (i : Instr) (t : State) : Prop := exec i s = .next (landed s t)
    (s.lanes.lmsRun = none → s.lanes.lmsQ = q :: rest → lmsUp s = true → s.pmu.window = false → bfld q.blk 0 1 = 1 →
      0 < bfld q.blk 24 2 → bfld q.blk 24 2 ≤ 4096 →
      keyFor (setLanes s { s.lanes with lmsQ := rest }) (bfld q.blk 4 4) q.dom
        (fun k => k.ktype == 0x30 && nbit k.attr aSIGN && hKind (bfld q.blk 4 4) == 1) = (s1, .inr r) →
      hssParam r.param = some p → p.sigLen ≤ bfld q.blk 26 2 → drbgReady s1 = true →
      jobRead s1 q.src q.dom (bfld q.blk 8 8) (bfld q.blk 24 2) [] = (s2, .inr m) →
      makes .lmsSignStart (lmsBegin s2 q (hIdx (bfld q.blk 4 4)) r m)) ∧
    ((lmsKey s k.val).adv = true → writeReady s = true → lmsOfCtr s k.val = some r → lmsAdvanced s k.val (lmsTotal r) = some s1 →
      (s.lanes.lmsRun = none → makes (.lmsAdvanceDone k) s1) ∧
      (s.lanes.lmsRun = some x → x.idx = none → mget 0 s.nv.bound k.val = x.slot + 1 →
        makes (.lmsAdvanceDone k) (lmsBegin s1 x.req x.slot r x.msg))) ∧
    (s.lanes.lmsRun = some x → x.idx = some g → (vslot s x.slot).key = some r → lmsUp s = true →
      lmsRelease (setLanes s { s.lanes with lmsRun := none }) r g x.msg = (s2, .inr sig) →
      jobWrite s2 x.req.src x.req.dom (bfld x.req.blk 16 8) sig = (s3, stOK) →
      makes .lmsSignDone (lmsEnd s3 x.req stOK sig.length g)) ∧
    (MayStore s i Reg.LMS_KSEL → (vslot s (fld v 7 0)).key = none →
      let s1 := wr s Reg.LMS_KSEL (v &&& 0xFF#32)
      let s2 := wr (wr s1 Reg.LMS_KNEXT 0#32) (Reg.LMS_KNEXT + 4) 0#32
      makes (.lmsKsel i v) (wr (wr (wr s2 Reg.LMS_KLIMIT 0#32) (Reg.LMS_KLIMIT + 4) 0#32) Reg.LMS_KSTAT 0#32)) ∧
    (MayStore s i Reg.LMS_KSEL → (vslot s (fld v 7 0)).key = some r → r.ktype = 0x30 → mget LmsKey.none_ s.lanes.lmsKeys r.nvctr ≠ LmsKey.none_ →
      let y := mget LmsKey.none_ s.lanes.lmsKeys r.nvctr
      let s1 := wr s Reg.LMS_KSEL (v &&& 0xFF#32)
      let s2 := { s1 with fresh := s1.fresh + 1 }
      let stat := word (0x80000000 + b2n (Config.free 1 s1.fresh == 1#1) * 0x40000000 + b2n y.adv * 0x20000000 +
        b2n (decide (lmsTotal r ≤ y.next)) * 0x10000000 + r.nvctr)
      let s3 := wr (wr s2 Reg.LMS_KNEXT (word y.next)) (Reg.LMS_KNEXT + 4) (word (y.next / 2 ^ 32))
      makes (.lmsKsel i v) (wr (wr (wr s3 Reg.LMS_KLIMIT (word y.limit)) (Reg.LMS_KLIMIT + 4) (word (y.limit / 2 ^ 32))) Reg.LMS_KSTAT stat))

/-- R251 to R254: Seals. A request is queued; the engine takes the first whose till has room and captures its accounts; the tree's root
follows from the leaves; the header is signed under the number that counter 3 gives; the seal is delivered as one packet. Where the spec
leaves a point open, the clauses rest on the choices of the model in log entries 62, 63, 64. -/
def Obligations.SealRuns : Prop :=
  ∀ (i : Initiator) (v : Word) (q : SealReq) (rest : List SealReq) (r : SealRun) (n m : Nat) (k : KeyRec) (sg : Bytes) (s s1 s2 s3 : State),
    let makes (i : Instr) (t : State) : Prop := exec i s = .next (landed s t)
    let set (s : State) (r : SealRun) : State := setLanes s { s.lanes with sealing := some r }
    (MayStore s i Reg.LMS_SEALCMD → bit v 31 = true → enabled s 0x0F = true → lmem 0x0F s.enOff = false → sealRequest s (fld v 3 0) = some s1 →
      makes (.lmsSealcmd i v) (wrBit s1 Reg.LMS_SEALSTAT 31 false)) ∧
    (s.lanes.sealing = none → s.seals = q :: rest → accepting s 0x0F = true → s.pmu.window = false → kuwWaits s = false →
      let cfg := rd s (Reg.LMS_SPCFG + 16 * q.profile)
      let acct := rd s (Reg.LMS_SPCFG + 16 * q.profile + 4)
      let key := rd s (Reg.LMS_SPCFG + 16 * q.profile + 8)
      sealCheck s cfg acct key = (s1, .inr n) →
      let words := (128 + n + b2n (bit cfg 29) * (10 * (sealRange acct).2) + 7) / 8
      hwMayReserve s (fld cfg 6 0) words = true →
      let s2 := tillReserve { s1 with seals := rest } (fld cfg 6 0) words
      makes .sealStart (set s2 (sealCaptures s2 ⟨q, cfg, acct, key, words, stOK, [], 0, 0, none, 0, [], none⟩))) ∧
    (s.lanes.sealing = some r → unitLane s 30 = some m → r.status = stOK → r.root = none →
      let r1 := sealCaptures s r
      r1.caps.length = (sealRange r1.acct).2 →
      let s1 := set s r1
      let head := match sealClosing s1 r1.req with | some c => [c] | none => []
      let leaves := head.map (fun c => sha256 ([0#8, 2#8] ++ c)) ++ r1.caps.map fun c => sha256 ([0#8, 1#8] ++ c.leaf)
      leaves ≠ [] →
      let blocks := (match head with | c :: _ => (c.length + 2 + 9 + 63) / 64 | [] => 0) + r1.caps.length + 2 * (leaves.length - 1)
      makes .sealTreeDone (set (hshCount s1 m blocks) { r1 with
        root := some (sealRoot 11 leaves), header := leBytes 4 (match head with | c :: _ => c.length | [] => 0) })) ∧
    (∀ root r', s.lanes.sealing = some r → r.root = some root → r.sig = none → (r.no ≠ 0 ∨ writeReady s = true) → kuwWaits s = false →
      sealNumber s r = (s1, r') → r'.status = stOK → sealKey (setSealing s1 r') r'.key.toNat (fld r'.cfg 27 24) = (s2, .inr k) →
      r'.cfg = r.cfg → r'.key = r.key →
      let h := sealHeader s2 r' stOK (sealSigLen (fld r.cfg 27 24) k) k.keyId
      sealSign s2 (fld r.cfg 27 24) k h = some (s3, .inr sg) →
      makes .sealSigned (setSealing s3 { r' with header := h, sig := some sg })) ∧
    (s.lanes.sealing = some r → r.status = stOK → r.sig = some sg → (bit r.cfg 30 = true → writeReady s = true) →
      let s1 := if bit r.cfg 30 then sealToNv s r.no (r.header ++ sg) else s
      let s2 := wrFld (tillDeliver s1 (fld r.cfg 6 0) r.resv (r.header ++ sg ++ sealList r)) Reg.LMS_SEALSTAT 7 0 stOK
      let s3 := wr (wr s2 Reg.LMS_SEALNO (word r.no)) (Reg.LMS_SEALNO + 4) (word (r.no / 2 ^ 32))
      makes .sealDelivered (wrBit (setLanes s3 { s3.lanes with sealing := none }) (hdr 0x0F Off.EVT_RAW) 0 true))

/-- R258 to R264, R268 to R271, R275 to R280: Big-number jobs and the sequence memory. A lane takes its next job; a user sequence ends by
its operations or by its limit, a vendor function computes; a mismatch takes the lane out of service; CLRKEY zeroes the sealed key area;
sequence words are written and their CRC computed. Where the spec leaves a point open, the clauses rest on the choices of the model in log
entries 69, 70, 72, 73, 74. -/
def Obligations.BigNumberJobs : Prop :=
  ∀ (i : Initiator) (n : Fin 4) (j : Job) (rest : List Job) (r : BRun) (v : Word) (f : VFn) (st g : Nat) (host : List (Nat × Bytes))
    (s : State),
    let makes (i : Instr) (t : State) : Prop := exec i s = .next (landed s t)
    let page := 0x10 + n.val
    let lane (s : State) : BLane := getBne s n.val
    (laneUp s page = true → s.pmu.window = false → (lane s).cur = none → bneNext s n.val = some (j, rest) → bneBlkOk j.blk = true →
      (32768 ≤ bfld j.blk 0 2 ∨ outOfService s 0x14 = false) →
      let s1 := setBne s n.val { lane s with queue := rest }
      makes (.bneJobStart n .clean) (bneTake s1 n.val j)) ∧
    ((lane s).cur = some r → r.ready = true →
      (r.user = true → r.status = some st → makes (.bneJobDone n host) (bneFinish s n.val r st r.out 0)) ∧
      (r.user = true → r.status = none → inUser r.pc = false → makes (.bneJobDone n host) (bneFinish s n.val r stBADPROF r.out 0)) ∧
      (r.user = false → vfn (r.fld 0 2 % 4096) = some f → makes (.bneJobDone n host) (vrun s n.val r f host)) ∧
      (r.user = true → r.status = none → bnLimit s n.val r = true → makes (.bneLimitExpiry n) (bneFinish s n.val r stTIMEOUT r.out 0))) ∧
    ((lane s).cur = some r →
      let s1 := wr (bumpSat s (hdr page 0xB4) 15 0) (hdr page 0xB8) (word (0x80000000 + r.job.cls * 2 ^ 24 + r.job.dom * 2 ^ 16 + r.pc % 8192))
      let s2 := flushBne (goOos (bneFinish s1 n.val r stLANE r.out 0) page) n.val stLANE
      makes (.bneCheckMismatch n) (setBne s2 n.val { lane s2 with key := none, clr := false })) ∧
    (MayStore s i (hdr page Off.CTRL) →
      ((lane s).cur = none → makes (.bneClrkey i n) (setBne s n.val { lane s with key := none })) ∧
      ((lane s).cur = some r → r.ready = true → r.user = false → makes (.bneClrkey i n) (setBne s n.val { lane s with clr := true }))) ∧
    (MayLoad s i (hdr page 0xC4) → makes (.bneWsdataRead i n) (answer (bneWsdata s i n.val).1 (bneWsdata s i n.val).2)) ∧
    (MayStore s i Reg.BNC_SDATA →
      let k := fld (rd s Reg.BNC_SIDX) 12 0
      (k < 0x1000 → makes (.bncSdataWrite i v) (bncStep (noteErr s i 0x14 0x84 6 true))) ∧
      (0x1000 ≤ k → (∃ n, n < 4 ∧ userRuns s n = true) → makes (.bncSdataWrite i v) (bncStep (noteErr s i 0x14 0x84 4 true))) ∧
      (0x1000 ≤ k → (∀ n, n < 4 → userRuns s n = false) →
        makes (.bncSdataWrite i v) (bncStep { s with lanes := { s.lanes with seq := mset 0#32 s.lanes.seq k v } }))) ∧
    (MayStore s i Reg.BNC_CRCCMD → bit v 31 = true →
      let s1 := wr s Reg.BNC_CRCCMD (v &&& 1#32)
      makes (.bncCrccmd i v) { s1 with lanes := { s1.lanes with bncCrc := some (fld v 0 0) } }) ∧
    (s.lanes.bncCrc = some g →
      let s1 := wr { s with lanes := { s.lanes with bncCrc := none } } Reg.BNC_CRC (bncRegionCrc s g)
      makes .bncCrcDone (if g = 0 ∧ fld (bncRegionCrc s g) 31 16 ≠ fld Config.bncVver 31 16 then wrBit s1 (hdr 0x14 Off.EVT_RAW) 2 true else s1))

/-- R260 to R262, R264, R258, R259, R262, R265: The control operations of a user sequence. END and FAIL end the job with a status; jumps,
branches, calls and loops set the next slot, which must lie in the user region; SETLEN, CSET, MODSET, QSET and PFMT set what later
operations use; KLOAD is refused. Each counts the operation and its cycles. The moves and the arithmetic of a user sequence, on registers
of the job's own domain at the current length. The destination takes the result, the job's domain, and a secret if an operand was one;
CMP, ADD, SUB, the shifts, BTST and MINV set flags. Where the spec leaves a point open, the clauses rest on the choices of the model in
log entries 66, 67. -/
def Obligations.SequenceOperations : Prop :=
  (∀ (l : Fin 4) (r : BRun) (w : Word) (s : State),
    let leaves (ins : Instr) (op cyc : Nat) (r' : BRun → BRun) : Prop :=
      RunsOp s l r op w → exec ins s = .next (landed s (setRun (countedOp s l) l.val (r' { r with pc := r.pc + 1, cyc := r.cyc + cyc })))
    let goto (r : BRun) (k : Nat) : BRun := if inUser k then { r with pc := k } else { r with status := some stBADPROF }
    let ends (st : Nat) (r : BRun) : BRun := { r with status := some st }
    leaves (.bnEnd l) 0x00 2 (ends stOK) ∧
    leaves (.bnFail l) 0x01 2 (ends (if 0x15 < fld w 13 0 then stBADPROF else fld w 13 0)) ∧
    leaves (.bnJmp l) 0x02 2 (fun r => goto r (fld w 13 0)) ∧
    (let takes : Bool := if bD w = 0 then r.z else if bD w = 1 then !r.z else if bD w = 2 then r.c else !r.c
     leaves (.bnBr l) 0x03 2 (fun r => if takes then goto r (fld w 13 0) else r)) ∧
    (r.stack.length < 8 → leaves (.bnCall l) 0x04 2 (fun r => goto { r with stack := r.pc :: r.stack } (fld w 13 0))) ∧
    (8 ≤ r.stack.length → leaves (.bnCall l) 0x04 2 (ends stBADPROF)) ∧
    (∀ k ks, r.stack = k :: ks → leaves (.bnRet l) 0x05 2 (fun r => goto { r with stack := ks } k)) ∧
    (r.stack = [] → leaves (.bnRet l) 0x05 2 (ends stBADPROF)) ∧
    leaves (.cset l) 0x06 1 (fun r => { r with ctr := r.ctr.set (bD w) (fld w 13 0) }) ∧
    (let v := (r.ctr.getD (bD w) 0 + 65535) % 65536
     leaves (.cloop l) 0x07 2 (fun r => if v = 0 then { r with ctr := r.ctr.set (bD w) v } else goto { r with ctr := r.ctr.set (bD w) v } (fld w 13 0))) ∧
    leaves (.setlen l) 0x08 2 (fun r => { r with n := fld w 13 0 + 1 }) ∧
    (OwnReg s l r.job.dom (bA w) →
      let m := wval s l (bA w) % 2 ^ (64 * r.n)
      (m % 2 = 1 → leaves (.modset l) 0x09 70 (fun r => { r with m := some m })) ∧
      (m % 2 = 0 → leaves (.modset l) 0x09 70 (ends stBADPROF))) ∧
    leaves (.kload l) 0x0E (4 + r.n) (ends stPROT) ∧
    leaves (.qset l) 0x20 2 (fun r => { r with ring := fld w 13 0 }) ∧
    (0 < fld w 13 0 % 32 → fld w 13 0 % 32 ≤ 24 → fld w 13 0 ≤ 2047 → leaves (.pfmt l) 0x2A 1 (fun r => { r with fmt := fld w 13 0 })) ∧
    leaves (.hinit l) 0x30 2 (fun r => if fld w 13 0 = 7 then { r with status := some stBADPROF }
      else { r with hash := some { mode := fld w 13 0, msg := [], out := 0, secret := false } })) ∧
  (∀ (l : Fin 4) (host : List (Nat × Bytes)) (r : BRun) (w : Word) (m : Nat) (bs : Bytes) (s s2 : State),
    let n := r.n
    let dom := r.job.dom
    let s1 := countedOp s l
    let a := wval s l (bA w) % 2 ^ (64 * n)
    let b := wval s l (bB w) % 2 ^ (64 * n)
    let sa := wsecret s l (bA w)
    let sab := wsecret s l (bA w) || wsecret s l (bB w)
    let after (cyc : Nat) : BRun := { r with pc := r.pc + 1, cyc := r.cyc + cyc }
    let puts (ins : Instr) (op cyc x : Nat) (sec : Bool) (f : BRun → BRun) : Prop :=
      RunsOp s l r op w → exec ins s = .next (landed s (setRun (wput s1 l.val dom (bD w) n x sec) l.val (f (after cyc))))
    let keeps (ins : Instr) (op cyc : Nat) (f : BRun → BRun) : Prop :=
      RunsOp s l r op w → exec ins s = .next (landed s (setRun s1 l.val (f (after cyc))))
    (OwnReg s l dom (bA w) →
      puts (.bnMov l) 0x0A (4 + quarter n) a sa id ∧
      (bI w ≤ 8191 → keeps (.btst l) 0x19 3 (fun r => { r with z := !(wval s l (bA w) / 2 ^ bI w % 2 == 1) })) ∧
      (0 < bI w → puts (.bnShl l) 0x17 (4 + quarter n) (a * 2 ^ bI w) sa (fun r => { r with c := a / 2 ^ (64 * n - bI w) % 2 == 1 })) ∧
      (0 < bI w → puts (.bnShr l) 0x18 (4 + quarter n) (a / 2 ^ bI w) sa (fun r => { r with c := a / 2 ^ (bI w - 1) % 2 == 1 })) ∧
      (r.m = some m → a < m →
        puts (.minv l) 0x13 (16 + 128 * n * quarter n) (inv0 m a) sa
          (fun r => { r with z := (invMod m ((wreg s l.val (bA w)).val % 2 ^ (64 * n))).isNone })) ∧
      (bI w + 8 * n ≤ r.fld 36 4 →
        jobWrite s1 r.job.src dom (r.fld 24 8 + bI w) (bnBytes (bBE w) (8 * n) a) = (s2, stOK) → RunsOp s l r 0x0D w →
        (bnBytes (bBE w) (8 * n) a).length = 8 * n →
        exec (.bnPut l) s = .next (landed s (setRun s2 l.val { after (4 + n) with out := r.out + 8 * n })))) ∧
    (OwnReg s l dom (bA w) → OwnReg s l dom (bB w) →
      keeps (.bnCmp l) 0x14 (4 + quarter n) (fun r => { r with z := a == b, c := decide (a < b) }) ∧
      puts (.bnAdd l) 0x15 (4 + quarter n) (a + b) sab (fun r => { r with c := decide (2 ^ (64 * n) ≤ a + b) }) ∧
      puts (.bnSub l) 0x16 (4 + quarter n) (a + 2 ^ (64 * n) - b) sab (fun r => { r with c := decide (a < b) }) ∧
      (r.m = some m → a < m → b < m →
        puts (.mmul l) 0x10 (16 + n * ((n + 1) / 2)) (a * b * inv0 m (2 ^ (64 * n)) % m) sab id ∧
        puts (.madd l) 0x11 (6 + (n + 1) / 2) ((a + b) % m) sab id ∧
        puts (.msub l) 0x12 (6 + (n + 1) / 2) (subMod m a b) sab id) ∧
      (r.c = false → keeps (.cswap l) 0x1A (4 + quarter n) id) ∧
      (r.c = true → RunsOp s l r 0x1A w → exec (.cswap l) s = .next (landed s (setRun
        (wput (wput s1 l.val dom (bA w) n (wval s l (bB w)) sab) l.val dom (bB w) n (wval s l (bA w)) sab) l.val (after (4 + quarter n)))))) ∧
    (inUser (bI w) = true → inUser (bI w + 2 * n - 1) = true →
      puts (.ldc l) 0x0B (4 + n) ((List.range (2 * n)).foldr (fun k a => (seqSlot s (bI w + k)).toNat + 2 ^ 32 * a) 0) false id) ∧
    (bI w + 8 * n ≤ r.fld 32 2 → jobRead s1 r.job.src dom (r.fld 16 8 + bI w) (8 * n) host = (s2, .inr bs) → RunsOp s l r 0x0C w →
      exec (.bnGet l host) s = .next (landed s (setRun (wput s2 l.val dom (bD w) n (bnNum (bBE w) bs) false) l.val (after (4 + n))))) ∧
    (drbg s1 (8 * n) = some (bs, s2) → RunsOp s l r 0x0F w →
      exec (.bnRand l) s = .next (landed s (setRun (wput s2 l.val dom (bD w) n (leNat bs) false) l.val (after (16 + 7 * n))))) ∧
    (RunsOp s l r 0x1B w →
      (bI w = 1 → exec (.wipe l) s = .next (landed s (setRun (wipeAll s1 l.val) l.val (after 516)))) ∧
      (bI w ≠ 1 → exec (.wipe l) s = .next (landed s (setRun
        (setWreg s1 l.val (bD w) { wreg s l.val (bD w) with val := 0, written := false, secret := false }) l.val (after 36))))))

/-- R262, R266, R267: Ring mode and the hash unit. On polynomials whose coefficients are below q the ring operations give the standards'
results; samples and packed forms pass between the hash unit, the job's data and the workspace. Where the standards state no result the
destination takes a free value. Where the spec leaves a point open, the clauses rest on the choices of the model in log entries 67, 68. -/
def Obligations.SequenceRings : Prop :=
  ∀ (l : Fin 4) (host : List (Nat × Bytes)) (r : BRun) (w : Word) (h : HUnit) (bs : Bytes) (f : List Nat) (used : Nat) (s s2 : State),
    let dom := r.job.dom
    let s1 := countedOp s l
    let q := bnRing r
    let a := coefs (wval s l (bA w))
    let b := coefs (wval s l (bB w))
    let sa := wsecret s l (bA w)
    let sab := wsecret s l (bA w) || wsecret s l (bB w)
    let low (p : List Nat) : Prop := p.all (fun x => decide (x < q.q)) = true
    let after (cyc : Nat) : BRun := { r with pc := r.pc + 1, cyc := r.cyc + cyc }
    let puts (ins : Instr) (op cyc : Nat) (p : List Nat) (sec : Bool) : Prop :=
      RunsOp s l r op w → exec ins s = .next (landed s (setRun (wpoly s1 l.val dom (bD w) p sec) l.val (after cyc)))
    (OwnReg s l dom (bA w) →
      (low a → puts (.ntt l) 0x21 (64 + 8 * r.ring) (ntt q a) sa ∧ puts (.intt l) 0x22 (72 + 8 * r.ring) (intt q a) sa) ∧
      (low a → pmapOk w = true → bI w % 256 < 6 → pmapDef r w a = true →
        puts (.pmap l) 0x26 20 ((List.range 256).map fun i => pmapFn q.q w (a.getD i 0) 0) sa) ∧
      (¬ low a → RunsOp s l r 0x21 w → exec (.ntt l) s = .next (landed s (setRun
        (wput { s1 with fresh := s1.fresh + 1 } l.val dom (bD w) 128 (Config.free 8192 s1.fresh).toNat sa) l.val (after (64 + 8 * r.ring))))) ∧
      (pfmtW r.fmt ≠ 0 → bI w + 32 * pfmtW r.fmt ≤ r.fld 36 4 →
        let bs := packPoly q.q (pfmtW r.fmt) (pfmtB r.fmt) (pfmtNeg r.fmt) a
        bs.length = 32 * pfmtW r.fmt → jobWrite s1 r.job.src dom (r.fld 24 8 + bI w) bs = (s2, stOK) → RunsOp s l r 0x29 w →
        exec (.pput l) s = .next (landed s (setRun s2 l.val { after (4 + 4 * pfmtW r.fmt) with out := r.out + 32 * pfmtW r.fmt }))) ∧
      (r.hash = some h → h.out = 0 → 0 < bI w → bI w ≤ 1024 → RunsOp s l r 0x31 w →
        exec (.habs l) s = .next (landed s (setRun s1 l.val (bnAbsorb (after 0) (leBytes (bI w) (wval s l (bA w))) sa))))) ∧
    (OwnReg s l dom (bA w) → OwnReg s l dom (bB w) → low a → low b →
      (RunsOp s l r 0x23 w → exec (.pmul l) s = .next (landed s (setRun (wpoly s1 l.val dom (bD w) (polyMul q a b) sab) l.val
        { r with pc := r.pc + 1, cyc := r.cyc + 24 - 4 * r.ring }))) ∧
      puts (.padd l) 0x24 20 (polyAdd q a b) sab ∧ puts (.psub l) 0x25 20 (polySub q a b) sab) ∧
    (pfmtW r.fmt ≠ 0 → bI w + 32 * pfmtW r.fmt ≤ r.fld 32 2 →
      jobRead s1 r.job.src dom (r.fld 16 8 + bI w) (32 * pfmtW r.fmt) host = (s2, .inr bs) → RunsOp s l r 0x28 w →
      exec (.pget l host) s = .next (landed s (setRun
        (wpoly s2 l.val dom (bD w) (unpackPoly q.q (pfmtW r.fmt) (pfmtB r.fmt) (pfmtNeg r.fmt) bs) false) l.val (after (4 + 4 * pfmtW r.fmt))))) ∧
    (r.hash = some h → h.mode = (if bI w % 16 = 0 then 5 else 6) → psamp r.ring (bI w % 16) (bI w / 16) (hunitBytes h 3200) = some (f, used) →
      (bI w % 16 = 0 ∨ r.ring = (if bI w % 16 = 1 then 0 else 1)) → RunsOp s l r 0x27 w →
      exec (.psamp l) s = .next (landed s (setRun (wpoly s1 l.val dom (bD w) f h.secret) l.val
        { after (50 * hunitPerms h.mode h.out (h.out + used)) with hash := some { h with out := h.out + used } }))) ∧
    (bI w + r.ctr.getD 0 0 ≤ r.fld 32 2 → jobRead s1 r.job.src dom (r.fld 16 8 + bI w) (r.ctr.getD 0 0) host = (s2, .inr bs) → RunsOp s l r 0x32 w →
      exec (.habsi l host) s = .next (landed s (setRun s2 l.val (bnAbsorb (after 0) bs false)))) ∧
    (jobRead s1 r.job.src dom (r.fld 40 8) (r.fld 34 2) host = (s2, .inr bs) → RunsOp s l r 0x33 w →
      exec (.hmsg l host) s = .next (landed s (setRun s2 l.val (bnAbsorb (after 0) bs false)))) ∧
    (r.hash = some h → 5 ≤ h.mode → 0 < bI w → bI w ≤ 1024 → RunsOp s l r 0x34 w →
      exec (.hsqz l) s = .next (landed s (setRun (wput s1 l.val dom (bD w) 128 (leNat (hunitBytes h (bI w))) h.secret) l.val
        { after (50 * hunitPerms h.mode h.out (h.out + bI w)) with hash := some { h with out := h.out + bI w } })))

/-- R301, R302, R304, R298, R511: The cores' pages and MC's watchdog. EN of AC1 starts or holds it; a gate stack word and depth are
written while the stack may be; a cycle count is a free value; the kick value restarts the metrology watchdog, any other, a lockstep
mismatch or the expiry leads to WDR-M, after which the loader runs. Where the spec leaves a point open, the clauses rest on the choices of
the model in log entries 123, 133, 136. -/
def Obligations.CorePages : Prop :=
  ∀ (i : Initiator) (c : Fin 2) (k : CoreId) (v : Word) (en : Bool) (s : State),
    let makes (i : Instr) (t : State) : Prop := exec i s = .next (landed s t)
    let page := 0x60 + c.val
    (MayStore s i (hdr 0x61 Off.CTRL) →
      (en = bit (rd s (hdr 0x61 Off.CTRL)) 0 → makes (.ac1CtrlEn i en) s) ∧
      (en = true → bit (rd s (hdr 0x61 Off.CTRL)) 0 = false →
        makes (.ac1CtrlEn i en) { wrBit s (hdr 0x61 Off.CTRL) 0 true with
          ac1 := { Core.zero with run := .running, pc := rd (wrBit s (hdr 0x61 Off.CTRL) 0 true) (hdr 0x61 0x80) } }) ∧
      (en = false → bit (rd s (hdr 0x61 Off.CTRL)) 0 = true →
        makes (.ac1CtrlEn i en) { drain (wrBit s (hdr 0x61 Off.CTRL) 0 false) .ac1 with ac1 := Core.zero })) ∧
    (MayStore s i (hdr page 0xA0) → gstMay s i c = true →
      let core := getCore s (pageCore c)
      makes (.coreGdataWrite i c v) (setCore s (pageCore c) { core with gst := mset 0#32 core.gst (gstIndex s c) v })) ∧
    (MayStore s i (hdr page 0xA4) → gstMay s i c = true → fld v 3 0 ≤ 8 →
      makes (.coreGset i c v) (setCore s (pageCore c) { getCore s (pageCore c) with gdepth := fld v 3 0 })) ∧
    (MayLoad s i (cycReg k) →
      let x := (Config.free 64 s.fresh).toNat
      makes (.coreCycRead i k) (answer (wr { s with fresh := s.fresh + 1 } (cycReg k + 4) (word (x / 2 ^ 32))) (word x))) ∧
    (MayStore s i Reg.MCC_WDKICK →
      (v = 0x4B1C#32 → makes (.mccWdkick i v) { s with mcc := { s.mcc with kickAt := s.tick } }) ∧
      (v ≠ 0x4B1C#32 → bit (rd s Reg.MCC_WDCFG) 31 = true → makes (.mccWdkick i v) (setPmu s { s.pmu with due := linsert 6 s.pmu.due }))) ∧
    (bit (rd s Reg.MCC_WDCFG) 31 = true → makes .metrologyWatchdogWarn (wrBit s (hdr 0x29 Off.EVT_RAW) 1 true)) ∧
    (s.mc.run ≠ .held →
      let s1 := bumpSat { s with mc := { s.mc with run := .held }, boot := { s.boot with lockstep := true } } Reg.MCC_LSCNT 15 0
      makes .lockstepMismatch (setPmu s1 { s1.pmu with due := linsert 6 s1.pmu.due })) ∧
    (bit (rd s Reg.MCC_WDCFG) 31 = true ∨ lmem 6 s.pmu.due = true → makes .wdrM (mcReset s)) ∧
    (s.boot.loading = true →
      let s1 := loadAssay { s with boot := { s.boot with loading := false, lockstep := false } }
      makes .mccLoadDone (if s.boot.lockstep then wrBit s1 (hdr 0x29 Off.EVT_RAW) 0 true else s1))

/-- R340, R345 to R352: The banks. A visit runs COPY, TEST and RESTORE over a region, whose failure is repaired; failing spares retire; a
clear zeroes its banks; a bank is withdrawn after the buffers have drained, and returned repaired and cleared. Where the spec leaves a
point open, the clauses rest on the choices of the model in log entries 26, 27. -/
def Obligations.BankTests : Prop :=
  ∀ (i : Initiator) (bank : Fin 32) (x : Nat) (failing : List (Fin 1024)) (spares : List (Fin 32)) (n : Nat) (s : State),
    let makes (i : Instr) (t : State) : Prop := exec i s = .next (landed s t)
    let event (s : State) (k : Nat) : State := wrBit s (hdr 0x58 Off.EVT_RAW) k true
    let stat := Reg.MEM_BTSTAT
    (bit (rd s Reg.MEM_BTCFG) 31 = true → anyClearing s = false → s.pmu.mode ≠ .sleep → s.pmu.mode ≠ .off →
      (bit (rd s stat) 31 = true → makes .btVisitStart (wrBit s stat 28 true)) ∧
      (bit (rd s stat) 31 = false → btFind s 34 s.bt.next = some x → s.bt.next ≤ x →
        makes .btVisitStart (wr { s with bt := { s.bt with next := x } } stat
          (word (0xA0000000 + b2n (bit (rd s stat) 28) * 0x10000000 + x / 1024 * 0x10000 + x % 1024))))) ∧
    (fld (rd s stat) 30 29 = 1 → (s.mem.poison.filter fun w => regionAddr s.bt.next ≤ w && w < regionAddr s.bt.next + 256) = [] →
      makes (.btCopyDone []) (wrFld s stat 30 29 2)) ∧
    (fld (rd s stat) 30 29 = 2 →
      makes (.btTestDone false) (wrFld s stat 30 29 3) ∧
      (let k := s.bt.next / 1024
       let r := s.bt.next % 1024
       makes (.btTestDone true) (btEnd (event (wr (repairRegion s k r) Reg.MEM_BTFAIL (word (0x80000000 + k * 0x1000000 + r))) 3)))) ∧
    (fld (rd s stat) 30 29 = 3 → makes .btRestoreDone (btEnd s)) ∧
    (s.bt.sparesDue = true →
      makes (.btSpareTest spares) (spares.foldl (fun s k => retireSpare s k.val) { s with bt := { s.bt with sparesDue := false } })) ∧
    (let m := rd s Reg.MEM_CLEARING
     makes .bankClearDone (wr ((List.range 32).foldl (fun s k => if bit m k then clearBank s k else s) s) Reg.MEM_CLEARING 0#32)) ∧
    (MayStore s i Reg.MEM_BCMD →
      (30 ≤ bank.val → makes (.bankWithdraw i bank) (wr s Reg.MEM_BCMDSTAT (word (bank.val * 0x10000 + stPROT)))) ∧
      (bank.val < 30 → bankUp s bank.val = true →
        let s1 := event (wrBit (drain (drain (drain s .ac0) .ac1) .mc) Reg.MEM_SERVICE bank.val false) 4
        makes (.bankWithdraw i bank) (wr s1 Reg.MEM_BCMDSTAT (word (bank.val * 0x10000 + stOK)))) ∧
      (bankUp s bank.val = false → n ≤ 1 → failing.length + n ≤ 2 →
        let s1 := failing.foldl (fun s r => repairRegion s bank.val r.val) (wr s (repairReg bank.val) (word (b2n (decide (0 < n)) * 0x10000000)))
        let s2 := event (wrBit (clearBank s1 bank.val) Reg.MEM_SERVICE bank.val true) 4
        makes (.bankReturn i bank failing n) (wr s2 Reg.MEM_BCMDSTAT (word (bank.val * 0x10000 + stOK)))))

/-- R357, R362 to R364, R366 to R372: The rings of a channel. It is enabled with its ring state at the start and disabled once nothing is
outstanding; doorbells move its indices; descriptors are fetched as far as ring, slots and tokens allow and pass to their units; a
completion is written and its event follows the coalescing. Where the spec leaves a point open, the clauses rest on the choices of the
model in log entry 131. -/
def Obligations.ChannelRings : Prop :=
  ∀ (i : Initiator) (n : Fin 64) (v : Word) (k : Nat) (d : DmaData) (bs : Bytes) (c : Cpl) (rest : List Cpl) (s s1 : State),
    let makes (i : Instr) (t : State) : Prop := exec i s = .next (landed s t)
    let cfg := Reg.CHN_CFG + 32 * n.val
    let raw := Reg.CHN_EVRAW + 4 * n.val
    let burst := fld (rd s (Reg.CHN_TBKT + 32 * n.val)) 15 0
    let ch := getChan s n
    (MayStore s i cfg →
      (bit (rd s cfg) 31 = false →
        let s0 := wr s cfg ((v &&& 0xF03FFF00#32) ||| 0x80000000#32)
        let s1 := wr (wr (wr (wr s0 (dbReg n 0) 0#32) (dbReg n 4) 0#32) (dbReg n 8) 0#32) (dbReg n 12) 0x1000#32
        makes (.chnEnable i n v) (setChan s1 n { Chan.idle with
          tokens := fld (rd s0 (Reg.CHN_TBKT + 32 * n.val)) 15 0, active := ch.active })) ∧
      (bit (rd s cfg) 31 = true →
        let s1 := abortFetched s n
        makes (.chnDisable i n) (chanSettle (setChan s1 n { getChan s1 n with disabling := true }) n))) ∧
    (MayStore s i Reg.CHN_CMD → makes (.chnAbort i n) (wr (abortFetched s n) Reg.CHN_CMDSTAT 0#32)) ∧
    (MayStore s i (dbReg n 0) → chanOn s n = true → fld v 11 0 < sqSize s n →
      let s1 := wr s (dbReg n 0) (word (fld v 11 0))
      makes (.dbSqtail i n v) (if bit (rd s1 cfg) 28 then s1 else setChan s1 n { getChan s1 n with release := fld v 11 0 })) ∧
    (MayStore s i (dbReg n 4) → chanOn s n = true → fld v 11 0 < cqSize s n →
      (fld v 11 0 + cqSize s n - cqHead s n) % cqSize s n ≤ (cqTail s n + cqSize s n - cqHead s n) % cqSize s n →
      makes (.dbCqhead i n v) (wr s (dbReg n 4) (word (fld v 11 0)))) ∧
    (chanOn s n = true → burst ≠ 0 → makes (.tokenRefill n) (setChan s n { ch with tokens := min burst (ch.tokens + 1) })) ∧
    (chanOn s n = true → ch.halted = false → ch.disabling = false → ch.toRead = 0 → portOpen s n = true → s.pmu.window = false →
      (fetchLimits s n).2.1 ≠ 0 →
      let m := min k (min (fetchLimits s n).1 (min (fetchLimits s n).2.1 (fetchLimits s n).2.2))
      makes (.descFetch n k) (setChan s n { ch with cqwait := false, toRead := m, tokens := if burst = 0 then ch.tokens else ch.tokens - m })) ∧
    (ch.toRead ≠ 0 → dmaRead s n (rd64 s (Reg.CHN_SQBASE0 + 32 * n.val) + 64 * sqHead s n) (64 * ch.toRead) d = (s1, .inr bs) →
      let ds := (pieces 64 ch.toRead bs).zipIdx.map fun bj => (⟨n.val, (sqHead s n + bj.2) % sqSize s1 n, bj.1⟩ : Desc)
      let s2 := wr s1 (dbReg n 8) (word ((sqHead s n + ch.toRead) % sqSize s1 n))
      makes (.descArrive n d) (passFetched (setChan s2 n { getChan s2 n with toRead := 0, fetched := (getChan s2 n).fetched ++ ds }) n)) ∧
    (s.cplq = c :: rest → (getChan s c.ch).halted = false → (getChan s c.ch).discard = false →
      let s0 := { s with cplq := rest }
      makes (.completionWrite none) (passFetched (chanSettle (writeCpl s0 c) c.ch) c.ch)) ∧
    (fld (rd s (Reg.CHN_COAL + 32 * n.val)) 31 16 ≠ 0 → ch.counted ≠ 0 →
      makes (.cqCoalTimeout n) (wrBit (setChan s n { ch with counted := 0 }) raw 0 true))

/-- R356, R374 to R376, R381 to R384: The operations of channels on memory and tills, and the tills' own commands. Each operation ends
with its status and bytes; a till is enabled in its range, disabled, flushed, marked stale, and reset where its pointers differ. Where the
spec leaves a point open, the clauses rest on the choices of the model in log entries 17, 18. -/
def Obligations.ChannelOperations : Prop :=
  ∀ (i : Initiator) (n : Fin 64) (t : Fin 128) (o : ActOp) (d : DmaData) (data bs : Bytes) (k : Nat) (e : ReadError) (v : Word) (s s1 : State),
    let makes (i : Instr) (t : State) : Prop := exec i s = .next (landed s t)
    let cfg := tillCfgReg t
    makes (.chanNop n) (endOp s n 0x00 stOK []) ∧
    (firstOp s n 0x01 = some o →
      let src := descFld o.d 16 8
      let dst := descFld o.d 24 8
      let len := descFld o.d 32 4
      overlap src dst len = false → busOk src len = true → busOk dst len = true → (isHostAddr src = true → s.pcie.bme = true) →
      let r := copyPieces n src dst len data (copyFuel len) 0 s
      makes (.chanCopy n data) (endOp r.1 n 0x01 r.2.1 (leBytes 4 r.2.2))) ∧
    (firstOp s n 0x11 = some o →
      let u := descFld o.d 16 1
      (bit (tillCfg s u) 28 = false → fld (tillCfg s u) 21 16 = n.val → dmaCheck s n (descFld o.d 24 8) (descFld o.d 32 4) true = (s1, 0) →
        max 1 (descFld o.d 17 1) ≤ (getTill s1 u).packets.length → makes (.tillRead n) (tillReadRun s1 n o)) ∧
      (o.begun = true → makes (.tillReadTimeout n) (tillReadRun s n o))) ∧
    (firstOp s n 0x12 = some o →
      let u := descFld o.d 16 1
      let len := descFld o.d 20 4
      let w := (len + 7) / 8
      tillProd s u = 1 → fld (tillCfg s u) 27 22 = n.val → w ≤ tillSize s u → tillOpenFor s u = true → w ≤ tillRoom s u →
      (isHostAddr (descFld o.d 24 8) = true → s.pcie.bme = true) → dmaRead s n (descFld o.d 24 8) len d = (s1, .inr bs) →
      makes (.tillWrite n d) (endOp (tillCommit s1 u (toWords bs)) n 0x12 stOK (leBytes 4 len ++ zeros 4 ++ leBytes 4 (getTill s1 u).next))) ∧
    makes (.dmaTimeout n k bs) (failActive s n k stTIMEOUT 1 bs) ∧
    makes (.dmaReadError n k e bs) (failActive s n k stDOMAIN (match e with | .ur => 2 | .ca => 3 | .poisoned => 4) bs) ∧
    (MayStore s i cfg →
      (let s1 := wr s cfg (v &&& 0x7FFFFFFF#32)
       bit (tillCfg s t) 31 = false →
        (tillRangeBad s1 t = true → makes (.tillEnable i t v) (tillRaise s1 t 6)) ∧
        (tillRangeBad s1 t = false → makes (.tillEnable i t v) (setTill (wrBit s1 cfg 31 true) t Till.idle))) ∧
      (bit (tillCfg s t) 31 = true → makes (.tillDisable i t) (tillSettle (setTill s t { getTill s t with disabling := true }) t))) ∧
    (MayStore s i (hdr (tillPage t) 0x80) → bit (rd s (hdr (tillPage t) 0x84)) 31 = false →
      let s1 := wr s (hdr (tillPage t) 0x80) (word (0x10000000 + t.val % 64))
      makes (.tillFlush i t) (if (getTill s1 t).opener.isNone then tillFlushNow s1 t else wr s1 (hdr (tillPage t) 0x84) 0x80000000#32)) ∧
    (fld (tillCfg s t) 15 0 ≠ 0 → (getTill s t).packets ≠ [] → (getTill s t).stale = false →
      makes (.tillStale t) (tillRaise (setTill s t { getTill s t with stale := true }) t 2)) ∧
    (bit (tillCfg s t) 31 = true → (getTill s t).opener = none →
      let x := getTill s t
      let lost := hdr (tillPage t) 0x88
      let s1 := wr s lost (word (min 0xFFFF ((rd s lost).toNat + x.packets.length)))
      makes (.tillPtrerr t) (tillAfterOpen (tillRaise (setTill s1 t { x with packets := [], open_ := [], opener := none, stale := false }) t 3) t))

/-- R388 to R404: The contact port. Reset, mode selection, ATR and PPS; the commands read and write the window, submit and reap on
channels 62 and 63, and answer with their status; a persistent command runs on until its transaction has ended. Where the spec leaves a
point open, the clauses rest on the choices of the model in log entries 118, 150, 151, 152, 154. -/
def Obligations.ContactPort : Prop :=
  ∀ (m : PortCmd) (req d pw : Bytes) (off n k : Nat) (ch : Fin 64) (s s1 : State) (a : Nat) (j : CptJob) (r : Bytes) (tn ta : Nat),
    let makes (i : Instr) (t : State) : Prop := exec i s = .next (landed s t)
    let reply (s : State) (code st : Nat) (bs : Bytes) : State := cptAnswer s code st bs
    let open_ (exempt lockOk : Bool) : Prop := cptGate s exempt lockOk = stOK
    let began (s1 : State) (code : Nat) : State := if cptMode s1 = 1 then s1 else cardAnswer s1 code stOK (leBytes 2 (fld (rd s1 Reg.CPT_PSEQ) 31 16 + 1))
    let rec_ := s.cpt.lockRec
    makes .crstNRise (setCpt s { s.cpt with crst := true, choosing := s.cpt.power && cptMode s == 0 }) ∧
    makes .crstNFall (setCpt (cptDrop (hir s 2)) { (cptDrop (hir s 2)).cpt with crst := false }) ∧
    (s.cpt.choosing = true → s.cpt.power = true → s.cpt.crst = true → awake s = true → s.pmu.vmain = true →
      let s0 := setCpt s { s.cpt with choosing := false }
      (bit (rd s Reg.CPT_CFG) 0 = true →
        makes (.modeSelect true) (wr s0 Reg.CPT_STAT (setFld (setFld (rd s Reg.CPT_STAT) 31 30 1) 15 0 0x0110))) ∧
      (bit (rd s Reg.CPT_CFG) 1 = true →
        makes (.modeSelect false) (cptRaise (wrBit (wrFld s0 Reg.CPT_STAT 31 30 2) Reg.CPT_STAT 29 true) 0))) ∧
    (cptLive s 1 = true → cptBit s 29 = false → awake s = true →
      makes (.atr true) (cptRaise (wrBit (emit s (.contact atrBytes)) Reg.CPT_STAT 29 true) 0)) ∧
    (cptLive s 1 = true → cptBit s 29 = true → ppsReply req = some (r, some (tn, ta)) →
      makes (.pps req) (wrFld (wrFld (emit s (.contact r)) Reg.CPT_STAT 15 12 tn) Reg.CPT_STAT 11 4 ta)) ∧
    (Arrives s m off d none (leBytes 2 off ++ d) → off < 65536 → open_ false false → 1 ≤ d.length → d.length ≤ 255 →
      inWindow s off d.length = some a → makes (.writeBuf m) (reply (bankWrite s .cport a d) 0xD6 stOK [])) ∧
    (Arrives s m off [] (some n) (leBytes 2 off ++ leBytes 2 n) → off < 65536 → open_ false false → 1 ≤ n → n ≤ 256 →
      inWindow s off n = some a → poisoned s a n = false → makes (.readBuf m) (reply s 0xB0 stOK (sramRead s a n))) ∧
    (62 ≤ ch.val → Arrives s m (256 * ch.val) d none (byte ch.val :: d) → d.length = 64 → open_ false false → cportChan s ch.val = true →
      (sqTail s ch.val + sqSize s ch.val - sqHead s ch.val) % sqSize s ch.val + 1 < sqSize s ch.val →
      let s2 := bankWrite s .cport (sramOf (rd64 s (Reg.CHN_SQBASE0 + 32 * ch.val)) + 64 * sqTail s ch.val) d
      makes (.cpSubmit m) (reply (doDbSqtail .cport ch (word ((sqTail s ch.val + 1) % sqSize s ch.val)) s2) 0xC1 stOK [])) ∧
    (62 ≤ ch.val → Arrives s m (256 * ch.val) [] (some (16 * k + 1)) [byte ch.val, byte k] → 1 ≤ k → k ≤ 15 → open_ false false →
      cportChan s ch.val = true →
      let base := sramOf (rd64 s (Reg.CHN_CQBASE0 + 32 * ch.val))
      let size := cqSize s ch.val
      let head := cqHead s ch.val
      let c := min k ((cqTail s ch.val + size - head) % size)
      (∀ x, x < c → poisoned s (base + 16 * ((head + x) % size)) 16 = false) →
      makes (.cpReap m) (reply (wr s (dbReg ch.val 4) (word ((head + c) % size))) 0xC3 stOK
        ([byte c] ++ (List.range c).flatMap (fun x => sramRead s (base + 16 * ((head + x) % size)) 16) ++ zeros (16 * (k - c))))) ∧
    (Arrives s m 0 [] (some 40) [] → makes (.cpStatus m) (reply s 0xCA stOK (statusBlock s))) ∧
    (Arrives s m 0 pw none pw → pw.length = 16 →
      (open_ false false → pw ≠ zeros 16 →
        persist s false 0xE1 pw stOK { rec_ with hash := some (sha256 (serial ++ pw)), pseq := nextPseq s, pstat := stOK } = .runs s1 →
        makes (.setPassword m) (began s1 0xE1)) ∧
      (open_ false false → rec_.hash ≠ none →
        persist s false 0xE2 pw stAUTH { rec_ with fails := min 255 (rec_.fails + 1), pseq := nextPseq s, pstat := stAUTH } = .runs s1 →
        makes (.clearPassword m) (began s1 0xE2)) ∧
      (open_ false true → rec_.hash ≠ none → cptDelay s = 0 →
        persist s false 0xE3 pw stAUTH { rec_ with fails := min 255 (rec_.fails + 1), pseq := nextPseq s, pstat := stAUTH } = .runs s1 →
        makes (.cpUnlock m) (began s1 0xE3)) ∧
      (open_ false true → rec_.hash = none → makes (.cpUnlock m) (reply (wrBit s Reg.CPT_STAT 28 false) 0xE3 stOK []))) ∧
    (Arrives s m 0 [] none [] → makes (.lockPort m) (reply (wrBit s Reg.CPT_STAT 28 true) 0xE4 stOK [])) ∧
    (let erase := serial ++ [0x45#8, 0x52#8, 0x41#8, 0x53#8]
     Arrives s m 0 erase none erase → open_ false true → bit (rd s Reg.CPT_CFG) 2 = true → lcode s ≠ 1 → lcode s ≠ 5 → s.lcs = none →
      persist s (lcode s == 3) 0xEE erase stOK { hash := none, fails := 0, pseq := nextPseq s, pstat := stOK } = .runs s1 →
      makes (.forceErase m) (began s1 0xEE)) ∧
    (s.cpt.job = some j → takeDone s (.txn 2 (s.cpt.refs - 1)) = some (stOK, s1) →
      let s2 := setCpt s1 { s1.cpt with lockRec := j.next }
      (j.code = 0xE1 → makes .persistDone (persistEnd s2 j stOK)) ∧
      (j.code = 0xEE → makes .persistDone (persistEnd (forceErased s2) j stOK)) ∧
      (j.code = 0xE2 ∨ j.code = 0xE3 → j.second = false → j.next.hash ≠ some (pwHash j.data) →
        makes .persistDone (persistEnd (cptRaise (setCpt s2 { s2.cpt with failAt := s.tick }) 4) j stAUTH))) ∧
    (s.cpt.job = some j → j.asked = true → cptLive s 1 = true →
      makes .wtxRequest (emit s (.contact (if fld (rd s Reg.CPT_STAT) 15 12 = 0 then [0x60#8] else [0x00#8, 0xC3#8, 0x01#8, 0x01#8, 0xC3#8])))) ∧
    (s.cpt.power = true → makes .cvccLoss (setCpt (cptDrop s) { (cptDrop s).cpt with power := false })) ∧
    (s.cpt.power = false → makes .cvccReturn (setCpt s { s.cpt with power := true, choosing := s.cpt.crst }))

/-- R406 to R411: The card bus. A module whose serial number wins IDENTIFY is assigned an address, may switch to class 1 and confirm it,
and sleeps and wakes. Where the spec leaves a point open, the clauses rest on the choices of the model in log entry 153. -/
def Obligations.CardBus : Prop :=
  ∀ (d : Bytes) (x : Byte) (line : BitVec 128) (s : State) (t0 : Nat),
    let makes (i : Instr) (t : State) : Prop := exec i s = .next (landed s t)
    let all : CardFrame := ⟨0#8, d, true⟩
    let mine : CardFrame := ⟨x, d, true⟩
    let here : Prop := x.toNat = cptAddr s ∧ 0 < cptAddr s
    (busUp s = true →
      (cptAddr s = 0 →
        let won := decide (BitVec.ofNat 128 (beNat serial) &&& ~~~line = 0#128)
        let s1 := setCpt s { s.cpt with armed := won }
        makes (.cbIdentify all line) (if won then emit s1 (.contact serial) else s1)) ∧
      (s.cpt.armed = true → d = serial ++ [x] → 1 ≤ x.toNat → x.toNat ≤ 15 →
        makes (.cbAssign all) (cardAnswer (wrFld s Reg.CPT_STAT 19 16 x.toNat) 0x02 stOK [])) ∧
      makes (.cbRelease all) (setCpt (wrBit (wrFld s Reg.CPT_STAT 19 16 0) Reg.CPT_STAT 25 false) { s.cpt with swAt := none }) ∧
      (here → d = [1#8] → makes (.cbSwitch mine) (setCpt (cardAnswer s 0x09 stOK []) { s.cpt with swAt := some s.tick })) ∧
      (here → d = checkPattern → s.cpt.swAt = some t0 → s.tick ≤ t0 + 10000 →
        makes (.cbCheck mine)
          (cptRaise (cardAnswer (setCpt (wrBit s Reg.CPT_STAT 25 true) { s.cpt with swAt := none }) 0x0A stOK checkPattern) 2)) ∧
      (here → d = checkPattern → s.cpt.swAt = none → cptBit s 25 = true → makes (.cbCheck mine) (cardAnswer s 0x0A stOK checkPattern)) ∧
      (d = [] → makes (.cbSleep all) (cptSleep s)) ∧
      (d = [] → here → makes (.cbSleep mine) (cptSleep (cardAnswer s 0x0B stOK [])))) ∧
    (s.cpt.swAt = some t0 → makes .switchTimeout (cptRaise (setCpt (wrBit s Reg.CPT_STAT 25 false) { s.cpt with swAt := none }) 3)) ∧
    (cptLive s 2 = true → cptBit s 24 = true → d = [] →
      let s1 := cptRaise (wrBit s Reg.CPT_STAT 24 false) 6
      makes (.cbWake all) (if bit (rd s1 Reg.PMU_WAKECFG) 1 then wakeFrom s1 2 else s1)) ∧
    (cptLive s 2 = true → makes .frameGapTimeout (bumpSat s Reg.CPT_ERRCNT 7 0))

/-- R56, R373, R413 to R420: PCIe. A reset or a loss of the link ends its channels' work and returns the configuration; the link comes up,
sleeps and is mastered; what was held goes out; the host's mailbox word is shown; vectors are masked and enabled. Where the spec leaves a
point open, the clauses rest on the choices of the model in log entry 155. -/
def Obligations.PcieLink : Prop :=
  ∀ (w : Fin 3) (sp : Fin 4) (l1 en fm : Bool) (x : Fin 64) (v : Word) (s : State),
    let makes (i : Instr) (t : State) : Prop := exec i s = .next (landed s t)
    let gone (cause : Nat) : State :=
      let t := hirReads (hir s 1)
      wrBit (setPcie { t with held := [] } { t.pcie with linkUp := false, l1 := false, width := 0, speed := 0 }) (hdr 0x39 Off.EVT_RAW) cause true
    let fresh0 (p : Pcie) : Pcie := { p with bme := false, msixEn := false, fmask := false, clkPm := false, d3hot := false, msixTab := [] }
    let cleared (s : State) : State := setPcie { s with router := { s.router with pba := 0#64 } } (fresh0 s.pcie)
    (s.pcie.perst = false →
      makes .perstNFall (setPcie (cleared (gone 0)) { (cleared (gone 0)).pcie with perst := true }) ∧
      (s.pcie.linkUp = true → makes .pcieLinkDown (bumpSat (gone 2) Reg.PCI_LINKDN 15 0)) ∧
      (s.pcie.linkUp = false → awake s = true → s.boot.steps.head? ≠ some 1 → w ≠ 0 → sp ≠ 0 →
        makes (.pcieLinkUp w sp)
          (wrBit (setPcie s { s.pcie with linkUp := true, l1 := false, width := w.val, speed := sp.val }) (hdr 0x39 Off.EVT_RAW) 1 true))) ∧
    (s.pcie.perst = true →
      let s1 := setPcie s { s.pcie with perst := false }
      makes .perstNRise (if bit (rd s1 Reg.PMU_WAKECFG) 2 then wakeFrom s1 3 else s1)) ∧
    (s.pcie.linkUp = true →
      makes .flr (setPcie (cleared (gone 0)) { (cleared (gone 0)).pcie with linkUp := true, width := s.pcie.width, speed := s.pcie.speed }) ∧
      makes .d3hotEntry (setPcie s { s.pcie with d3hot := true }) ∧
      makes .d3hotExit (setPcie s { s.pcie with d3hot := false }) ∧
      makes .busMasterEnable (msixFlush (setPcie { s with out := s.out ++ s.held, held := [] } { s.pcie with bme := true })) ∧
      makes .busMasterDisable (setPcie s { s.pcie with bme := false }) ∧
      (s.pcie.l1 ≠ l1 → makes (.aspmStateChange l1) (wrBit (setPcie s { s.pcie with l1 := l1 }) (hdr 0x39 Off.EVT_RAW) 3 true))) ∧
    (inert s .pcie = false → s.boot.rom = false →
      let s1 := wr (wr s Reg.HIF_H2D v) Reg.PCI_H2D v
      makes (.hifH2dWrite v) (if bit (rd s1 Reg.PCI_CFG) 4 then wrBit s1 Reg.EVR_SWDB (fld (rd s1 Reg.PCI_CFG) 3 0) true else s1)) ∧
    makes (.msixUnmask (.vector x en)) (msixFlush (setPcie s
      { s.pcie with msixTab := mset 1#32 s.pcie.msixTab (4 * x.val + 3) (word (b2n en)) })) ∧
    makes (.msixUnmask (.enable en fm)) (msixFlush (setPcie s { s.pcie with msixEn := en, fmask := fm }))

/-- R423, R426 to R436, R438, R440: A fabric port. It trains, goes down and rekeys by command; the handshake goes from OFFER to CONFIRM
and ACTIVE; frames are received, acknowledged, repeated and kept alive; losses lead to HOLDOFF, whose expiry ends it. Where the spec
leaves a point open, the clauses rest on the choices of the model in log entries 89, 90, 91, 92, 93, 102, 103, 104, 116. -/
def Obligations.FabricLinks : Prop :=
  ∀ (i : Initiator) (p : Fin 4) (m wire : Bytes) (h : Hsk) (q : FTx) (qs : List FTx) (r : FRx) (rest : List FRx) (ok : Bool) (v : Word) (s : State),
    let makes (i : Instr) (t : State) : Prop := exec i s = .next (landed s t)
    let x := getPort s p.val
    let cmd := MayStore s i (fabReg p.val 0x88)
    let cause (s : State) (k : Nat) : State := wrBit s (hdr (0x40 + p.val) Off.EVT_RAW) k true
    let lost (k : Nat) : State := leavePort (cause s k) p.val .holdoff
    let handshake := x.st = .hsk ∧ x.hsk = some h
    (cmd → x.st = .disabled → fabOn s p.val = true → makes (.fabTrain (some i) p) (setLstate s p.val .detect)) ∧
    (bit (rd s (fabReg p.val 0x80)) 31 = true → x.st = .disabled → fabOn s p.val = true →
      makes (.fabTrain none p) (setLstate s p.val .detect)) ∧
    (cmd → x.st = .active → makes (.fabDown i p) (leavePort (sendCtrl s p.val true) p.val .disabled)) ∧
    (cmd → x.st = .active → makes (.rekey i p) (portTrain (leavePort (sendCtrl s p.val true) p.val .disabled) p.val)) ∧
    (x.st = .detect → makes (.linkTrained p) (sendOffer (setLstate s p.val .hsk) p.val)) ∧
    (x.hsk = some h → h.peer = none → m.length = 60 →
      let s1 := (List.range 4).foldl (fun s k => wr s (fabReg p.val (0x90 + 4 * k)) (word (leNat (part (m.take 16) (4 * k) 4)))) s
      let h1 : Hsk := { h with peer := some m, tries := 0 }
      (part m 16 8 ≠ fabId s1 → makes (.hskOffer p m) (hskFail s1 p.val 2)) ∧
      (part m 16 8 = fabId s1 → m.take 16 = serial → makes (.hskOffer p m) (hskFail s1 p.val 8)) ∧
      (part m 16 8 = fabId s1 → beNat serial < beNat (m.take 16) →
        makes (.hskOffer p m) (sendInit (setPort s1 p.val { x with initiator := true, hsk := some h1 }) p.val h1)) ∧
      (part m 16 8 = fabId s1 → m.take 16 ≠ serial → beNat (m.take 16) ≤ beNat serial →
        makes (.hskOffer p m) (setPort s1 p.val { x with initiator := false, hsk := some h1 }))) ∧
    (x.hsk = some h → h.peer ≠ none → h.todo = false →
      (x.initiator = false → h.init = [] → m.length = 6799 →
        makes (.hskInit p m) (setPort s p.val { x with hsk := some { h with init := m, todo := true, tries := 0 } })) ∧
      (x.initiator = true → h.init ≠ [] → h.reply = [] → m.length = 10108 →
        makes (.hskReply p m) (setPort s p.val { x with hsk := some { h with reply := m, todo := true, tries := 0 } })) ∧
      (x.initiator = false → h.reply ≠ [] → m.length = 3405 →
        (partnerSigs (part h.init 4750 2049) h.t2 m = false → makes (.hskConfirm p m) (hskFail s p.val 6)) ∧
        (partnerSigs (part h.init 4750 2049) h.t2 m = true →
          makes (.hskConfirm p m) (sendDiscovery (cause (setLstate (dropHsk s p.val) p.val .active) 0) p.val)))) ∧
    (x.hsk = some h → h.todo = true → bneInternal s = true →
      makes (.hskChecksDone p) (if x.initiator then checkReply s p.val x h else checkInit s p.val x h)) ∧
    (handshake → h.tries < 2 → (x.initiator = false ∨ h.init ≠ []) →
      makes (.hskTimeout p) (sendHsk (setPort s p.val { x with hsk := some { h with tries := h.tries + 1 } }) p.val (hskCode x h) h.sent)) ∧
    (handshake → 2 ≤ h.tries →
      makes (.hskTimeout p) (hskFail { s with fresh := s.fresh + 1 } p.val (Config.free 8 s.fresh).toNat)) ∧
    (isCtrl wire = false → makes (.frameReceive p wire) (frameIn s p.val wire)) ∧
    (isCtrl wire = true → makes (.ctrlFrame p wire) (frameIn s p.val wire)) ∧
    (x.st = .active →
      makes (.blockLockLost p) (lost 5) ∧
      makes (.keepaliveMiss p) (lost 6) ∧
      makes (.keepaliveSend p) (sendCtrl s p.val false) ∧
      (x.ackDue = true → makes (.ackSend p) (sendCtrl s p.val false)) ∧
      (x.replay ≠ [] → 8 ≤ x.rounds → makes (.replayTimeout p) (lost 3)) ∧
      (x.replay ≠ [] → x.rounds < 8 →
        makes (.replayTimeout p) (resend (bumpSat (setPort s p.val { x with rounds := x.rounds + 1 }) (fabReg p.val 0xB4) 15 8) p.val)) ∧
      (x.queue = q :: qs → q.m.best = false → x.stalled = false → x.rel < q.m.units →
        makes (.creditStall p) (cause (setPort s p.val { x with stalled := true }) 4)) ∧
      (let s1 := leavePort (cause (bumpSat s (fabReg p.val 0xC8) 15 0) 7) p.val .holdoff
       makes (.fabLaneMismatch p ok) (if ok then s1 else wrBit s1 (fabReg p.val Off.STAT) 5 true))) ∧
    (x.st = .holdoff → halted s = false →
      makes (.holdoffExpiry p)
        (setLstate s p.val (if bit (rd s (fabReg p.val 0x80)) 31 && !outOfService s (0x40 + p.val) then .detect else .disabled))) ∧
    (rxFind s p.val 2 (fun m => m.msg == 0) = some (r, rest) →
      let f (off n : Nat) : Nat := leNat ((r.m.body.drop off).take n)
      let link := f 0 2 + 0x80000000 * (f 2 1 % 2) + 0x40000000 * (f 2 1 / 2 % 2) + 0x1000000 * ((f 3 1 + 3) % 4)
      let s1 := wr (rxTake s p.val r rest) (fabReg p.val 0x8C) (word link)
      let y := getPort s1 p.val
      let s2 := setPort s1 p.val { y with rel := y.rel + f 4 2 - y.pRel, be := y.be + f 6 2 - y.pBe, pRel := f 4 2, pBe := f 6 2 }
      makes (.discovery p) (pump (wrBit s2 (hdr 0x44 Off.EVT_RAW) 0 true) p.val)) ∧
    (MayStore s i Reg.FRT_ADDR →
      let s1 := wr s Reg.FRT_ADDR (v &&& 0x8000FFFF#32)
      (bit v 31 = true → fld v 15 8 ≤ 15 → fld v 7 0 ≤ 15 →
        makes (.frtAddrWrite i v)
          (discoverAll (wrBit (wr s1 Reg.DIR_SELF (word (0x80000000 + fld v 11 8 * 16 + fld v 3 0))) (hdr 0x44 Off.EVT_RAW) 1 true))) ∧
      (bit v 31 = false → makes (.frtAddrWrite i v) (discoverAll (wr s1 Reg.DIR_SELF 0#32)))) ∧
    (MayStore s i (fabReg p.val 0x84) →
      let t := storeReg s i (fabReg p.val 0x84) v
      makes (.fabCreditWrite i p v) (if rd s (fabReg p.val 0x84) = rd t (fabReg p.val 0x84) then t else sendDiscovery t p.val))

/-- R440 to R453: The fabric's transactions. Routed frames pass on, requests are answered once and their responses end what asked; remote
operations lease, stage, commit, dispose of, release and show accounts; the clearing descriptors start theirs; leases and cache entries
expire. Where the spec leaves a point open, the clauses rest on the choices of the model in log entries 94, 95, 96, 97, 98, 99, 100, 102.
-/
def Obligations.FabricTransactions : Prop :=
  ∀ (p q : Fin 4) (n : Fin 64) (k : Nat) (r : FRx) (rest : List FRx) (t : FTxn) (o : FOp) (a : ActOp) (l : Lease) (d : DmaData) (e : Dedup)
    (bs : Bytes) (s s1 s2 : State),
    let makes (i : Instr) (t : State) : Prop := exec i s = .next (landed s t)
    let txid := mHdr r.m 0 4
    let taken := rxTake s p.val r rest
    let entered := setFab taken { taken.fab with dedup := taken.fab.dedup ++ [{ src := r.m.src, txid := txid, resp := none, at_ := 0 }] }
    let x := getPort s p.val
    (s.fab.txns[k]? = some t → isSelf s t.dst = false →
      (t.tries < fld (rd s Reg.FRT_TXCFG) 3 0 →
        let again := fun x : FTxn => if x.txid == t.txid then { x with tries := x.tries + 1 } else x
        let s1 := setFab s { s.fab with txns := s.fab.txns.map again }
        makes (.txnTimeout k) (fabSweep (sendRouted s1 ⟨ownMsg s1 3 t.msg t.dst (ownTtl s1) t.body, none⟩))) ∧
      (fld (rd s Reg.FRT_TXCFG) 3 0 ≤ t.tries → makes (.txnTimeout k) (fabSweep (txnEnd s t false stTIMEOUT 0 0 [])))) ∧
    (let find (m : FMsg) : Option FTxn := s.fab.txns.find? fun t => t.txid == mHdr m 0 4
     let answered := txnEnd taken t true (mHdr r.m 5 1) (mHdr r.m 6 2) (mHdr r.m 12 4) (r.m.body.drop 16)
     find r.m = some t →
      (rxFind s p.val 3 (fun m => m.msg == 2 && (find m).elim true fun t => !t.isIntake) = some (r, rest) → makes (.txnRsp p) (fabSweep answered)) ∧
      (rxFind s p.val 3 (fun m => m.msg == 2 && (find m).elim false FTxn.isIntake) = some (r, rest) →
        makes (.forwardResponse p) (fabSweep answered)) ∧
      (rxFind s p.val 3 (fun m => m.msg == 4) = some (r, rest) →
        makes (.unreach p) (fabSweep (txnEnd taken t false stPARTNER (mHdr r.m 6 2) (mHdr r.m 12 4) (r.m.body.drop 16))))) ∧
    (rxFind s p.val 3 (fun m => m.msg == 1) = some (r, rest) → (taken.fab.dedup.find? fun d => d.is r.m.src txid) = none →
      taken.fab.dedup.length < 1024 → 0x10 ≤ mHdr r.m 4 1 → mHdr r.m 4 1 ≤ 0x15 →
      let op : FOp := { wire := true, src := r.m.src, txid := txid, epoch := mHdr r.m 8 4, dom := pageDomain entered (0x40 + p.val),
                        op := mHdr r.m 4 1, arg := mHdr r.m 12 4, body := r.m.body.drop 16 }
      makes (.txnReq p) (setFab entered { entered.fab with ops := entered.fab.ops ++ [op] })) ∧
    (rxFind s p.val 3 (fun m => m.msg == 0) = some (r, rest) → mHdr r.m 8 4 = (rd taken Reg.DIR_EPOCH).toNat →
      (taken.fab.dedup.find? fun d => d.is r.m.src txid) = none → taken.fab.dedup.length < 1024 → entered.intake.frames.length < 256 →
      let f := r.m.body.drop 16
      let req : FrameReq := {
        src := .fabric p.val r.m.src txid (mHdr r.m 8 4) r.m.ttl, dom := pageDomain entered (0x40 + p.val),
        profile := mHdr r.m 12 4 % 32, len := f.length, recEn := false, noFwd := false, frameAddr := 0, recAddr := 0, recLen := 0, data := some f }
      makes (.forwardedIntake p) (setIntake entered { entered.intake with reqs := entered.intake.reqs ++ [req] })) ∧
    (s.fab.dedup[k]? = some e → e.resp ≠ none → makes (.dedupExpire k) (setFab s { s.fab with dedup := s.fab.dedup.eraseIdx k })) ∧
    (k < s.fab.leases.length →
      makes (.leaseExpire k) (wrBit (setFab s { s.fab with leases := s.fab.leases.eraseIdx k }) (hdr 0x44 Off.EVT_RAW) 5 true)) ∧
    (rxFind s p.val 3 (fun m => m.msg == 3) = some (r, rest) →
      makes (.notify p) (wrBit (wr taken Reg.FRT_NOTIFY (word (r.m.src * 65536 + mHdr r.m 0 2 % 1024))) (hdr 0x44 Off.EVT_RAW) 6 true)) ∧
    (takeFirst (fun r : FRx => (r.m.kind == 2 && r.m.msg == 1) || (r.m.kind == 3 && r.m.msg == 5 && r.here)) x.rx = some (r, rest) →
      agentPacket s r.m.src (b2n (r.m.kind == 2)) p.val r.m.asg r.m.body = some s1 → makes (.agent p) (rxTake s1 p.val r rest)) ∧
    (takeFirst (fun r : FRx => r.m.kind == 3 && !r.here) x.rx = some (r, rest) →
      (r.m.dst = 0xFFFF → r.m.msg = 3 ∨ r.m.msg = 5 → makes (.routedForward p) (broadcastIn s p.val r rest)) ∧
      (r.m.dst ≠ 0xFFFF → route s r.m.dst = .here →
        makes (.routedForward p) (setPort s p.val { x with rx := x.rx.map fun y => if y = r then { y with here := true } else y })) ∧
      (r.m.dst ≠ 0xFFFF → route s r.m.dst = .port q.val → r.m.ttl ≠ 0 →
        makes (.routedForward p) (enqueue taken q.val ⟨{ r.m with ttl := r.m.ttl - 1 }, none⟩)) ∧
      (r.m.dst ≠ 0xFFFF → route s r.m.dst = .none → makes (.routedForward p) (unreachable taken ⟨r.m, none⟩ false))) ∧
    (opNext s 0x10 = some o → 0 < o.hi → o.hi ≤ 10000 → acctLeased s o.acct = false → acctFlag s o.acct 0 = true →
      opDom o (acctFld s o.acct 0x0A 1) = true → s.fab.leases.length < 64 → newLease s (acctAddrOf s o.acct) o.acct o.hi none = (k, s1) →
      makes .leaseRead (opDone s1 o stOK 0 (k * 65536) (sramRead s (acctAddr o.acct) 128))) ∧
    (opNext s 0x11 = some o → 0 < o.hi → o.hi ≤ 10000 → o.body.length = 128 → opDom o (leNat (part o.body 0x0A 1)) = true →
      acctFlag s o.acct 0 = false → addrHeld s (o.body.take 8) = false → (chainOf s (localBucket (o.body.take 8))).length < 8 →
      s.fab.leases.length < 64 → newLease s (o.body.take 8) o.acct o.hi (some o.body) = (k, s1) →
      makes .frtStage (opDone s1 o stOK 0 (k * 65536) [])) ∧
    (opNext s 0x12 = some o → opLease s o true = some l → opDom o (leNat (part (l.staged.getD []) 0x0A 1)) = true → acctFlag s o.acct 0 = false →
      (chainOf s (localBucket l.addr)).length < 8 → unitLane s 31 ≠ none →
      let s1 := setFab s { s.fab with leases := s.fab.leases.filter fun x => !(decide (x = l)) }
      makes .frtCommit (opDone (buildStaged s1 o.acct (l.staged.getD [])) o stOK 0 0 [])) ∧
    (opNext s 0x13 = some o → opLease s o false = some l → acctFlag s o.acct 0 = true → opDom o (acctFld s o.acct 0x0A 1) = true →
      makes .frtDispose (opDone (deleteAcct s o.acct) o stOK 0 0 [])) ∧
    (opNext s 0x14 = some o → (acctFlag s o.acct 0 = true → opDom o (acctFld s o.acct 0x0A 1) = true) →
      makes .frtRelease
        (opDone (setFab s { s.fab with leases := s.fab.leases.filter fun l => !(l.num == o.hi && l.acct == o.acct) }) o stOK 0 0 [])) ∧
    (opNext s 0x15 = some o → (acctFlag s o.acct 0 = true → opDom o (acctFld s o.acct 0x0A 1) = true) →
      let f := b2n (acctFlag s o.acct 0) + 2 * b2n (acctFlag s o.acct 1) + 4 * b2n (acctLeased s o.acct)
      makes .remoteQuery (opDone s o stOK 0 0 (byte f :: zeros 7 ++ acctAddrOf s o.acct ++ sramRead s (acctAddr o.acct + 0x20) 40))) ∧
    (let ch := getChan s n.val
     let begun (op : Nat) : Prop := (ch.active.find? fun o => descOp o.d == op && !o.begun) = some a ∧
       s1 = setChan s n.val { ch with active := ch.active.map fun x => if x = a then { x with begun := true, at_ := s.tick } else x }
     let f (off : Nat) : Nat := descFld a.d off 2
     let tag := descTag a.d
     (begun 0x40 → dmaRead s1 n.val (descFld a.d 24 8) (f 20) d = (s2, .inr bs) → descFld a.d 18 1 = 1 → portUp s2 (descFld a.d 19 1) = true →
       makes (.clrSend n d) (enqueue s2 (descFld a.d 19 1) ⟨ownMsg s2 2 1 0 0 bs, some (n.val, tag)⟩)) ∧
     (begun 0x40 → dmaRead s1 n.val (descFld a.d 24 8) (f 20) d = (s2, .inr bs) → descFld a.d 18 1 ≠ 1 → f 16 ≠ 0xFFFF → isSelf s2 (f 16) = false →
       makes (.clrSend n d) (sendRouted s2 ⟨ownMsg s2 3 5 (f 16) (ownTtl s2) bs, some (n.val, tag)⟩)) ∧
     (begun 0x41 →
       let c : FClear := { n := n.val, tag := tag, srcDev := f 16, srcAcct := f 18, dstDev := f 20, dstAcct := f 22, ms := f 24, phase := 1,
                           leaseS := 0, leaseT := 0, record := [] }
       makes (.clrClear n) (fabSweep (clearGo (setFab s1 { s1.fab with clears := s1.fab.clears ++ [c] }) c 1))) ∧
     (begun 0x42 → fabOpen s1 (f 16) 1 0x15 (f 18) (chanDom s1 n.val) [] (.query n.val tag) = some s2 → makes (.clrQuery n) (fabSweep s2)))

/-- R459 to R486, R461, R466, R469, R477, R480, R483: The NV store's commands. NVC commands read, erase, write and close images, read,
write and flush the page buffers and start a scrub; NVK commands read, step and set monotonic counters; each is busy until its programs or
erases have ended. What goes on in the NV store. A bank's program takes effect and its task goes on or ends; an erase wipes its sector, or
retires it the third time; a transaction begins, and commits or rolls back; a group's halves switch; the oldest sector is reclaimed; the
assay port stores and fetches. Where the spec leaves a point open, the clauses rest on the choices of the model in log entries 28, 29, 30,
31, 147. -/
def Obligations.NvStore : Prop :=
  (∀ (i : Initiator) (k : Fin 256) (ws : List NvWrite) (finds : List FlashFind) (s s1 : State),
    let makes (i : Instr) (t : State) : Prop := exec i s = .next (landed s t)
    let free := bit (rd s Reg.NVC_CMDSTAT) 31 = false
    let ends (t : State) : State := wr t Reg.NVC_CMDSTAT (word stOK)
    let a := nvcArg s 0
    let n := nvcArg s 1
    let buf := nvcBuf s
    (MayStore s i Reg.NVC_CMD → free →
      (0 < n → n ≤ 65536 → a + n ≤ 0x1000000 → rangeSram buf n = true → readForbidden a n = false →
        makes (.nvcRead i .clean) (serveRead (setNv (wr s Reg.NVC_CMDSTAT 0x80000000#32) { s.nv with readWait := some i }) false)) ∧
      (a < 4 → nvGate s true = (s1, 0) →
        let first := (nvRegion (a + 1)).1
        makes (.imgErase i) ((List.range (nvRegion (a + 1)).2).foldl (fun s k => addErase s (first + 1024 * b2n (inactiveB s1 a) + k) true)
          (wr s1 Reg.NVC_CMDSTAT 0x80000000#32))) ∧
      (let r := a / 2 ^ 30 + 1
       0 < n → n % 256 = 0 → n ≤ 4096 → rangeSram buf n = true → poisoned s buf n = false →
        imgPages s (a / 2 ^ 30) (a % 65536) (sramRead s buf n) = some ws →
        makes (.imgWrite i) (nvcWrites (setNv s { s.nv with seqs := mset 0 s.nv.seqs r (mget 0 s.nv.seqs r + n / 256) }) r ws)) ∧
      (a < 4 → imgClose s a n = some ws → makes (.imgClose i) (nvcWrites s (a + 1) ws)) ∧
      (a < 128 → rangeSram buf 256 = true → makes (.pbRead i) (ends (bankWrite s i buf (pbPage s a)))) ∧
      (let lid := a % 65536
       let off := a / 65536
       let old := pbPage s lid
       let others := s.nv.bufs.filter fun b => b.1 != lid
       lid < 128 → 0 < n → off + n ≤ 256 → rangeSram buf n = true → poisoned s buf n = false → others.length < 8 →
        makes (.pbWrite i) (ends (setNv s { s.nv with bufs := others ++ [(lid, old.take off ++ sramRead s buf n ++ old.drop (off + n))] }))) ∧
      makes (.pbFlush i) (nvcWrites s 11 (s.nv.bufs.map fun b => .page 11 b.1 3 b.2)) ∧
      makes (.scrub i) (ends (wr s Reg.NVC_SCRUBSTAT 0x80000000#32))) ∧
    (bit (rd s Reg.NVC_SCRUB) 31 = true → makes (.scrubPeriod finds) (finds.foldl scrubFind (wr s Reg.NVC_SCRUBSTAT 0x80000000#32))) ∧
    (MayStore s i Reg.NVK_CMD → bit (rd s Reg.NVK_CMDSTAT) 31 = false →
      let busy := wr s Reg.NVK_CMDSTAT 0x80000000#32
      let v := rd64 s Reg.NVK_ARG
      makes (.nvkRead i k) (nvkEnd s k.val stOK 0) ∧
      (k.val < 4 ∨ 16 ≤ k.val → makes (.nvkInc i k) (nvkEnd s k.val stPROT 0) ∧ makes (.nvkSet i k) (nvkEnd s k.val stPROT 0)) ∧
      (4 ≤ k.val → k.val < 16 →
        (ctrValue s k.val < ctrMax k.val → makes (.nvkInc i k) (setNv busy { s.nv with tasks := s.nv.tasks ++ [plainTask (.nvk k.val) [.unary k.val]] })) ∧
        (ctrMax k.val ≤ ctrValue s k.val → makes (.nvkInc i k) (nvkEnd (ctrExhausted s) k.val stEXHAUST 0)) ∧
        (ctrValue s k.val < v → v ≤ ctrMax k.val →
          makes (.nvkSet i k) (setNv busy { s.nv with tasks := s.nv.tasks ++ [plainTask (.nvk k.val) [.base k.val v]] })) ∧
        (v ≤ ctrValue s k.val → v ≤ ctrMax k.val → makes (.nvkSet i k) (nvkEnd s k.val stREPLAY 0))))) ∧
  (∀ (b : Bool) (e : EraseJob) (t : NvTask) (w : NvWrite) (rest : List NvWrite) (j : Fin 32) (bs : Bytes) (lead p r : Nat) (x : FPage) (s : State),
    let makes (i : Instr) (t : State) : Prop := exec i s = .next (landed s t)
    (erasing s b = some e →
      (let s1 := dropErase (wipeSector s e.sector) b
       let s2 := showWear (ledgerEntry s1 b 0x43 e.sector (mget 0 s1.nv.ecount e.sector)) e.sector
       makes (.nvEraseDone b true) (if e.cmd then nvcOpEnd s2 b else s2)) ∧
      (e.n < 3 → makes (.nvEraseDone b false)
        (setNv s { s.nv with erases := s.nv.erases.map fun f => if f = e then { f with n := f.n + 1 } else f })) ∧
      (3 ≤ e.n →
        let s1 := ledgerEntry (dropErase s b) b 0x52 e.sector 0
        let s2 := setNv s1 { s1.nv with retired := linsert e.sector s1.nv.retired }
        let s3 := wrBit (wr s2 Reg.NVC_RETIRED (word s2.nv.retired.length)) (hdr 0x48 Off.EVT_RAW) 10 true
        makes (.nvEraseDone b false) (if e.cmd then nvcOpEnd s3 b else s3)) ∧
      (readTouches s b = true → makes (.eraseSuspend b) (serveRead s true))) ∧
    (erasing s b = none → bankTask s b = some t → takeWrite s b t.todo = some (w, rest) → s.pmu.window = false →
      (t.source = 0 → rest = [] → (∀ k v, w ≠ .base k v) →
        let s1 := applyWrite s t true w
        let t1 := { t with todo := [], failed := false }
        makes (.nvProgramDone b true) (serveRead (taskEnd (setNv s1 { s1.nv with tasks := s1.nv.tasks.filter fun x => decide (x ≠ t) }) t1 b) false)) ∧
      (rest ≠ [] → (∀ k v, w ≠ .base k v) →
        let s1 := applyWrite s t true w
        makes (.nvProgramDone b true)
          (serveRead (setNv s1 { s1.nv with tasks := replaceTask t { t with todo := rest, failed := false } s1.nv.tasks }) false)) ∧
      (t.source = 0 → (∀ k v, w ≠ .base k v) →
        let s1 := applyWrite s t false w
        let t1 := { t with todo := [], failed := true }
        makes (.nvProgramDone b false) (serveRead (taskEnd (setNv s1 { s1.nv with tasks := s1.nv.tasks.filter fun x => decide (x ≠ t) }) t1 b) false))) ∧
    (openTxn s = none → s.pmu.window = false → writeReady s = true → (s.nv.tasks.find? fun t => t.source != 0) = some t →
      let s1 := dbEntry s 1 t.source (if t.source = 2 then t.info else t.todo.length) s.nv.txn
      makes .daybookBegin (setNv s1 { s1.nv with txn := s.nv.txn + 1, tasks := replaceTask t { t with txn := s.nv.txn } s1.nv.tasks })) ∧
    (openTxn s = some t → t.todo = [] →
      let s1 := setNv s { s.nv with tasks := s.nv.tasks.filter fun x => decide (x ≠ t) }
      let info := if t.source = 2 then t.info else 0
      (t.failed = true →
        let s2 := dbEntry s1 3 t.source info t.txn
        makes .daybookCommit (setNv s2 { s2.nv with done := s2.nv.done ++ [(t.src, stLANE)] })) ∧
      (t.failed = false →
        let s2 := dbEntry s1 2 t.source info t.txn
        let s3 := setNv s2 { s2.nv with committed := linsert t.txn s2.nv.committed, done := s2.nv.done ++ [(t.src, stOK)] }
        makes .daybookCommit (t.sets.foldl (fun s kv => ctrSet s kv.1 kv.2) s3))) ∧
    (groupWaits s j.val = true → openTxn s = none → writeReady s = true →
      let g := getGrp s j.val
      let s1 := (List.range 8).foldl
        (fun s k => setCtr s (8 * j.val + k) { base := ctrValue s (8 * j.val + k), u := 0, uoff := 0, slots := 1 }) s
      let s2 := wipeSector s1 (520 + 1024 * b2n (!g.halfB) + j.val)
      makes (.counterHalfSwitch j)
        (setNv s2 { s2.nv with grp := mset { gseq := 0, halfB := false } s2.nv.grp j.val { gseq := (g.gseq + 1) % 256, halfB := !g.halfB } })) ∧
    (r ∈ [6, 7, 9, 10, 11, 14] → writeReady s = true →
      let used := regionPages s r b
      let mine := used.filter fun kv => tagRtype kv.2 == r
      let there := mine.filter fun kv => kv.1 / 32 == p / 32
      (copyPages r b).2 < used.length + 32 → oldestPage mine = some (p, x) → reclaimWaits s (p / 32) there = false →
      makes (.sectorReclaim r b)
        (addErase (if r = 14 then s else reclaimCopies s r (copyPages r b).1 (copyPages r b).2 there) (p / 32) false)) ∧
    (let c := assayCtl s
     let n := c % 4096
     let taken := assayTake s
     (assayGo s false = true → 0 < n → n ≤ 3840 →
       let data := (List.range n).map fun k => mget 0#8 taken.mem.dram (0x3F100 + k)
       makes .assayPortWrite (setNv taken { taken.nv with tasks := taken.nv.tasks ++ [plainTask .assay (recordPages 9 (c / 65536 % 256) data)] })) ∧
     (assayGo s true = true → nvRecord taken 9 (c / 65536 % 256) = some (lead, bs) →
       makes .assayPortRead (assayEnd { taken with mem :=
         { taken.mem with dram := putBytes (fun _ => true) taken.mem.dram 0x3F100 bs } } stOK (some bs.length)))))

/-- R487 to R491, R506: The tamper sensors. Each sample shows its condition, and where it is present counts as a raw detection of its
source; a detection that does not fill its filter only counts there. Where the spec leaves a point open, the clauses rest on the choices
of the model in log entries 156, 158. -/
def Obligations.TamperSensors : Prop :=
  ∀ (count t : BitVec 16) (n : Fin 16) (c : Fin 2) (l : Fin 4) (lux : Nat) (a b : Bool) (s : State),
    let makes (i : Instr) (t : State) : Prop := exec i s = .next (landed s t)
    let counted (src : Nat) : State :=
      let w := rd s (filtReg src)
      let win := fld w 15 0 * 1000
      let again := fld w 31 24 == 0 || (win != 0 && decide (mget 0 s.tmp.start src + win ≤ tmpNow s))
      let s1 := if again then setTmp s { s.tmp with start := mset 0 s.tmp.start src (tmpNow s) } else s
      let x := (if again then 0 else fld w 31 24) + 1
      if max 1 (fld w 23 16) ≤ x then filtered (wrFld s1 (filtReg src) 31 24 0) src else wrFld s1 (filtReg src) 31 24 x
    (s.pmu.mode ≠ .off → s.pmu.window = false →
      makes (.vmainGlitch .lasting) (sample s 0 true) ∧
      makes (.vmainGlitch .ended) (sample s 0 false) ∧
      (disabled s 0 = false → makes (.vmainGlitch .brief) (counted 0))) ∧
    (awake s = true →
      (disabled s 1 = false → makes .coreRailGlitch (counted 1)) ∧
      (disabled s 1 = true → makes .coreRailGlitch s) ∧
      (s.boot.steps.head? ≠ some 1 →
        let ref := fld (rd s Reg.TMP_XTAL) 31 16
        let k := count.toNat
        let bad := k = 0 ∨ xtalTol s * ref < ((k - ref) + (ref - k)) * 1000
        (bad → makes (.xtalWindow count) (sample (wr s Reg.TMP_XTAL (word (ref * 0x10000 + k))) 2 true)) ∧
        (¬ bad → makes (.xtalWindow count) (sample (wr s Reg.TMP_XTAL (word (xtalMove ref k * 0x10000 + k))) 2 false))) ∧
      makes (.lightSample n lux) (sample s (4 + n.val) (decide (2 * max 1 (fld (eff s Reg.TMP_LIGHT) 7 0) < lux))) ∧
      (let s1 := if a then bumpSat s Reg.SHD_SHIELD 15 0 else s
       makes (.shieldMismatch a b) (sample (if b then bumpSat s1 Reg.SHD_SHIELD 31 16 else s1) 20 (a || b)))) ∧
    (s.pmu.mode ≠ .off →
      makes (.tempSample t) (sample (wr s Reg.TMP_TEMP (word (0x80000000 + t.toNat))) 3
        (decide ((tempLimits s).2 * 256 < t.toInt) || decide (t.toInt < (tempLimits s).1 * 256)))) ∧
    makes (.meshMismatch a) (sample s 21 a) ∧
    makes (.lidSwitchSample a) (sample s 22 a) ∧
    makes (.caseSample c a) (sample s (23 + c.val) (a != bit (eff s Reg.SHD_CASECFG) c.val)) ∧
    (let s1 := wrBit s Reg.SHD_RAW (8 + l.val) a
     let r := loopReg s1 l.val
     let differs := a != decide (r / 16384 % 2 = 1)
     let s2 := setTmp s1 { s1.tmp with lfsr := mset 0 s1.tmp.lfsr l.val (loopNext r) }
     (bit (eff s1 (Reg.SHD_LOOPCFG + 4 * l.val)) 31 = false → makes (.loopSample l a) (sample s1 (25 + l.val) (!a))) ∧
     (bit (eff s1 (Reg.SHD_LOOPCFG + 4 * l.val)) 31 = true →
       makes (.loopSample l a)
         (sample (if differs then bumpSat s2 Reg.SHD_LOOPERR (8 * l.val + 7) (8 * l.val) else s2) (25 + l.val) differs)))

/-- R496, R499 to R504, R513, R520, R521: Tamper responses and life-cycle transitions. Evidence is burned bit by bit; a halt ends by
RELEASE or after its time once its conditions are absent; zeroization burns, erases, and ends with the vault's actions and TMR; a
transition begins by its command and ends with a restart. Where the spec leaves a point open, the clauses rest on the choices of the model
in log entries 148, 157, 159. -/
def Obligations.TamperResponses : Prop :=
  ∀ (i : Initiator) (b : EvBurn) (rest : List EvBurn) (m : Bytes) (r : LcsRec) (k : Nat) (s s1 s2 : State),
    let makes (i : Instr) (t : State) : Prop := exec i s = .next (landed s t)
    let released (s : State) : State := vaultRun (wrBit (setTmp s { s.tmp with l2src := [] }) (hdr 0x50 Off.STAT) 8 false)
    let h := fld (eff s Reg.TMP_L2HOLD) 15 0
    (s.tmp.burns = b :: rest →
      let s1 := evidBurn s (evClass b.src)
      makes .evidenceBurnDone (burnNext (setTmp s1 { s1.tmp with burns := rest }) b.level)) ∧
    (s.tmp.zero = .burn → makes .zeroizeBurnDone (setTmp { s with otp := { s.otp with scrapped := true } } { s.tmp with zero := .erase })) ∧
    (s.tmp.zero = .erase →
      makes .zeroizeEraseDone
        (setTmp (setVlt s { s.vlt with helper := s.vlt.helper.map fun h => { h with regionS := false } }) { s.tmp with zero := .tail })) ∧
    (s.tmp.zero = .tail →
      let s1 := wrBit (vaultErase s 2) (hdr 4 Off.EVT_RAW) 0 true
      let s2 := setTmp s1 { s1.tmp with zero := .idle, zpend := false }
      makes .zeroizeDone (setPmu s2 { s2.pmu with due := linsert 3 s2.pmu.due })) ∧
    (lmem 3 s.pmu.due = true →
      (s.pmu.window = false → makes .tmr (fullReset s 3 false)) ∧
      (s.pmu.window = true → makes .tmr (keyClear (setPmu s { s.pmu with due := lerase 3 s.pmu.due })))) ∧
    (MayStore s i Reg.TMP_CMD →
      (halted s = true → condsAbsent s = false → makes (.tmpRelease i) (wr s Reg.TMP_CMDSTAT (word stLOCKED))) ∧
      (condsAbsent (wr s Reg.TMP_CMDSTAT (word stOK)) = true → condsAbsent s = true →
        makes (.tmpRelease i) (released (wr s Reg.TMP_CMDSTAT (word stOK))))) ∧
    (halted s = true → 0 < h → s.tmp.since + h * 1000 ≤ s.tick → condsAbsent s = true → makes .l2holdExpiry (released s)) ∧
    (MayStore s i Reg.LCS_CMD → bit (rd s Reg.LCS_CMDSTAT) 31 = false → s.lcs = none →
      let a := (rd s Reg.LCS_BUF).toNat
      let n := fld (rd s Reg.LCS_LEN) 15 0
      (n = 0 ∨ rangeSram a n = true) → unitRead s 0 a n = (s1, .inr m) → lcsCheck s1 m = (s2, stOK, k) →
      makes (.lcsTransition i)
        (wr (lcsBurn s2 (mfld m 6 1) (some (mfld m 5 1, mfld m 24 4)) (claimAnchor s2 (mfld m 6 1))) Reg.LCS_CMDSTAT 0x80000000#32)) ∧
    (s.lcs = some r → r.burned = true → s.pmu.window = false → awake s = true → makes .lifecycleRestart (start (lcsComplete s r) 0x0A false))

/-- R299, R399, R482, R510, R514 to R517, R522, R527, R517: The steps of a start. Each ends in turn; a rail fault keeps the first, a
missing image leads to ROM service, and the hand-over gives AC0 to the supervisor, on the warm path once its image has the recorded hash.
ROM service. A command whose three words the mailbox holds is read from the host and executed as the unit's own command, its status posted
to the host, or ends with the restart. Where the spec leaves a point open, the clauses rest on the choices of the model in log entries
117, 161, 162, 163, 164, 166, 167, 168. -/
def Obligations.BootSteps : Prop :=
  (∀ (count : BitVec 16) (fails : List (Fin 256)) (c : Bool × Bool) (s : State),
    let makes (i : Instr) (t : State) : Prop := exec i s = .next (landed s t)
    let done (s : State) : State := setBoot s { s.boot with steps := s.boot.steps.drop 1 }
    (atStep s 1 = true →
      makes (.bootRails false count) (wrBit s (hdr 1 Off.EVT_RAW) 3 true) ∧
      (let s1 := wrBit (wrBit s Reg.PMU_RAILS 1 true) (hdr 0 Off.STAT) 8 true
       let m := rd s1 Reg.MEM_CLEARING
       let s2 := wr ((List.range 32).foldl (fun s k => if bit m k then clearBank s k else s) s1) Reg.MEM_CLEARING 0#32
       let s3 := wr s2 Reg.TMP_XTAL (word (count.toNat * 0x10001))
       makes (.bootRails true count) (setBoot s3 { s3.boot with steps := s3.boot.steps.drop 2 }))) ∧
    (atStep s 3 = true →
      let s1 := doBankClearDone s
      let s2 := fails.foldl (fun s p => if hasTest p.val then setOos s p.val true else s) s1
      makes (.bootSelftest fails) (beforePuf (done (if s2.vlt.rngStart && !outOfService s2 6 then doDrbgReseedDone s2 else s2)))) ∧
    (atStep s 4 = true → pufEnded s = true → s.tmp.zero = .idle →
      let s1 := setBoot s { s.boot with steps := s.boot.steps.drop 2 }
      let s2 := match s1.lcs with
        | some r => if r.burned then lcsComplete s1 r else { s1 with lcs := none }
        | none => s1
      let b := match s2.vlt.helper with | some h => !h.okA && h.okB | none => false
      let s3 := setBoot s2 { s2.boot with flags := s2.boot.flags + 16 * b2n b }
      makes .bootLifecycle (if s3.boot.steps.head? = some 6 then s3 else vaultService s3)) ∧
    (atStep s 6 = true →
      let unclean := if s.nv.started then !s.nv.clean else anyCheckpoint s
      let s1 := wr s Reg.NVC_RECOV (word (b2n unclean * 2 ^ 30))
      let s2 := if writeReady s1 then recoverWrites s1 else setNv s1 { s1.nv with owed := true }
      let s3 := setBoot s2 { s2.boot with flags := s2.boot.flags + b2n unclean + 4 * b2n (!s.nv.cut.isEmpty) + 8 * b2n (openBegin s s.nv.dseq).isSome }
      let r := s3.cpt.lockRec
      let s4 := wr s3 Reg.CPT_PSEQ (word (r.pseq * 0x10000 + r.fails * 0x100 + r.pstat))
      makes .bootNvRecovery (vaultService (done (if r.hash.isSome then wrBit s4 Reg.CPT_STAT 28 true else s4)))) ∧
    (atStep s 7 = true →
      (selectImage s 0 = none →
        makes .bootImageSelect (wr (setBoot s { s.boot with rom := true, mail := [] }) Reg.SYS_BOOTFAIL (word (0x80000000 + 7 * 0x100 + 3)))) ∧
      (selectImage s 0 = some c →
        let m := (imageOf s 0 c.1).getD []
        let s1 := wrWords (loadSup (noteOthers (noteImage s 0 c)) m) Reg.SYS_SUPHASH 8 (leNat (sha256 m))
        makes .bootImageSelect (done (if s.boot.steps.drop 1 == [8, 9] then loadAssay s1 else s1)))) ∧
    (atStep s 8 = true →
      let unclean := decide (s.boot.flags % 2 = 1)
      let s1 := wrBit (wrBit s (hdr 0x18 Off.STAT) 9 true) (hdr 0x18 Off.STAT) 10 unclean
      let pages := (lidsOf s1 7).filter (· < 512)
      let accts := pages.flatMap fun k => [2 * k, 2 * k + 1]
      let s2 := accts.foldl restoreAcct s1
      let s3 := (accts.filter fun a => acctFlag s2 a 0).foldl relink s2
      let s4 := ((lidsOf s3 6).filter (· < 512)).foldl loadKeys s3
      let s5 := setIntake s4 { s4.intake with dirty := (pages.filter (pageDiffers s4)).map fun k => (k, s4.tick) }
      let bad := bit (rd s5 (hdr 0x18 Off.STAT)) 12
      let s6 := if unclean || bad then wrBit s5 (hdr 0x18 Off.EVT_RAW) 1 true else s5
      makes .bootRestore (done (setBoot s6 { s6.boot with flags := s6.boot.flags + 2 * b2n bad }))) ∧
    (atStep s 9 = true → s.tmp.zero = .idle →
      let m := (imageOf s 0 (bit (rd s Reg.SYS_IMGSEL) 0)).getD []
      let h := (List.range 8).foldl (fun n k => n + (rd s (Reg.SYS_SUPHASH + 4 * k)).toNat * 2 ^ (32 * k)) 0
      (s.boot.warm = false → makes .handOver (passControl s)) ∧
      (s.boot.warm = true → leNat (sha256 m) = h → makes .handOver (passControl (loadSup s m))) ∧
      (s.boot.warm = true → leNat (sha256 m) ≠ h →
        makes .handOver (pufStart (setBoot s { s.boot with steps := [4, 5, 7, 9], warm := false }))))) ∧
  (∀ (bs : Bytes) (a b c : Word) (ws : List NvWrite) (s s1 : State),
    let makes (i : Instr) (t : State) : Prop := exec i s = .next (landed s t)
    let op := fld c 31 24
    let m := (bs ++ zeros (fld c 23 0)).take (fld c 23 0)
    let unit (t : State) (u : Word) : State := romTick (setBoot t { t.boot with mail := t.boot.mail ++ [u] })
    let posted (t : State) (st : Nat) : State := wr (setBoot t { t.boot with mail := [] }) Reg.PCI_D2H (word (0x80000000 + st))
    s.boot.rom = true → s.boot.mail = [a, b, c] → s.pcie.linkUp = true → s.pcie.bme = true →
    (op = 1 → m.length = 1 → mfld m 0 1 < 4 → makes (.romImgErase (.data bs)) (unit (imgErase s (mfld m 0 1)) 0#32)) ∧
    (op = 1 → makes (.romImgErase .timeout) (posted s stTIMEOUT)) ∧
    (op = 2 → mfld m 0 1 < 4 → mfld m 1 1 = 0 → 4 < m.length → (m.length - 4) % 256 = 0 → m.length - 4 ≤ 4096 →
      imgPages s (mfld m 0 1) (mfld m 2 2) (m.drop 4) = some ws →
      let r := mfld m 0 1 + 1
      makes (.romImgWrite (.data bs))
        (unit (nvcWrites (setNv s { s.nv with seqs := mset 0 s.nv.seqs r (mget 0 s.nv.seqs r + (m.length - 4) / 256) }) r ws) 0#32)) ∧
    (op = 3 → m.length = 8 → mfld m 0 1 < 4 → mfld m 1 3 = 0 → imgClose s (mfld m 0 1) (mfld m 4 4) = some ws →
      makes (.romImgClose (.data bs)) (unit (nvcWrites s (mfld m 0 1 + 1) ws) 0#32)) ∧
    (op = 4 → vaultUp s = true →
      let q : VReq := { src := .page, dom := 0, op := 1, args := [m.length, 0, 0, 0], buf := 0, obuf := 0, olen := 0 }
      makes (.romUpdate (.data bs)) (unit (vUpdateMsg (wr s Reg.VLT_CMDSTAT 0x80000000#32) q m) 1#32)) ∧
    (op = 5 → vaultUp s = true → s.lcs = none → lcsMessage s m = (s1, stOK) →
      makes (.romTransition (.data bs)) (setBoot s1 { s1.boot with mail := [] })) ∧
    (op = 6 → makes .romRestart (start s 8 false)))

/-- R24, R510 to R513, R528, R534, R539: What leads to a reset. The supply, the pin, the watchdogs and software start the device with
their codes, or wait for their turn; a kick restarts the watchdog. Where the spec leaves a point open, the clauses rest on the choices of
the model in log entries 129, 130, 136, 146. -/
def Obligations.Resets : Prop :=
  ∀ (i : Initiator) (v : Word) (s : State),
    let makes (i : Instr) (t : State) : Prop := exec i s = .next (landed s t)
    let vmain (b : Bool) : State := wrBit (wrBit (setPmu s { s.pmu with vmain := b }) Reg.PMU_RAILS 0 b) Reg.PMU_HUSTAT 29 b
    let asked (code : Nat) : State := setPmu s { s.pmu with due := linsert code s.pmu.due }
    let on := bit (rd s Reg.SYS_WDCFG) 31 = true
    (s.pmu.window = false → makes .por (start (vmain true) (if s.pmu.mode = .off ∧ s.boot.code = 2 then 2 else 1) false)) ∧
    (s.pmu.window = true → s.pmu.vmain = false →
      makes .por (setPmu (vmain true) { (vmain true).pmu with back := true }) ∧
      makes .vmainReturn (setPmu (vmain true) { (vmain true).pmu with back := true })) ∧
    (s.pmu.window = true → makes .hur (windowEnd s false true)) ∧
    (s.pmu.window = false → s.pmu.vmain = true → makes .pinReset (start s 8 false)) ∧
    (on → makes .supervisorWatchdogWarn (wrBit s (hdr 0 Off.EVT_RAW) 2 true)) ∧
    (on ∨ lmem 4 s.pmu.due = true → makes .wdrS (dueResets (asked 4))) ∧
    (MayStore s i Reg.SYS_WDKICK →
      (v = 0x4B1C#32 → makes (.sysWdkick i v) { s with boot := { s.boot with kickAt := s.tick } }) ∧
      (v ≠ 0x4B1C#32 → on → makes (.sysWdkick i v) (dueResets (asked 4)))) ∧
    (MayStore s i Reg.SYS_SWR → v = 0xA55A#32 → makes (.swr i v) (dueResets (asked 5))) ∧
    makes .pllLockLost (wrBit (wrBit s (hdr 0 Off.STAT) 8 false) (hdr 0 Off.EVT_RAW) 1 true) ∧
    makes .railFault (wrBit (wrBit s Reg.PMU_RAILS 1 false) (hdr 1 Off.EVT_RAW) 3 true) ∧
    (let s1 := wrBit (wrBit (resetRegs s fun a => !vbatReg a) axsStat 8 false) Reg.PMU_RAILS 2 true
     makes .vbatApplied { s1 with
       axs := { s1.axs with rtcPhase := 0, rtcSub := 0 }
       tmp := { s1.tmp with log := [], zpend := false, lfsr := [] } }) ∧
    makes .vbatLoss (wrBit s Reg.PMU_RAILS 2 false)

/-- R424, R523 to R528, R531 to R534: Power states. RUN, DOZE and IDLE follow commands and cores; SLEEP is entered once all rests and left
by a wake source; OFF and power-fail open the service window, which ends complete once its list is done. Where the spec leaves a point
open, the clauses rest on the choices of the model in log entries 115, 140, 141, 142, 143, 145. -/
def Obligations.PowerStates : Prop :=
  ∀ (i : Initiator) (s : State),
    let makes (i : Instr) (t : State) : Prop := exec i s = .next (landed s t)
    let ok (t : State) : State := wr t Reg.PMU_CMDSTAT (word stOK)
    let portsDown (s : State) : State :=
      [0, 1, 2, 3].foldl (fun s p => if (getPort s p).st = .disabled then s else leavePort s p .disabled) s
    let rests (k : Core) : Prop := k.run = .waiting ∨ k.run = .held
    let all := rests s.ac0 ∧ rests s.ac1 ∧ rests s.mc
    let rtc := rd64 s Reg.AXS_RTC
    let timer := bit (rd s Reg.PMU_WAKECFG) 0 = true ∧ rd64 s Reg.PMU_WAKETIME ≤ rtc
    (MayStore s i Reg.PMU_CMD → bit (rd s Reg.PMU_CMDSTAT) 31 = false →
      (s.pmu.mode = .doze ∨ s.pmu.mode = .idle → makes (.pmuRun i) (ok (setMode (wrFld s Reg.PMU_STATE 10 8 0) .run))) ∧
      (s.pmu.window = false →
        makes (.pmuDoze i) (ok (setMode (wrFld (portsDown s) Reg.PMU_STATE 10 8 2) .doze))) ∧
      (s.pmu.window = false → lifeBusy s = false → s.pmu.entering = false → awake s = true →
        let s1 := setPmu (wrFld s Reg.PMU_STATE 10 8 3) { s.pmu with entering := true }
        makes (.pmuSleep i) (sleepPages.foldl (fun s p => setQuiesce s p true) (wr s1 Reg.PMU_CMDSTAT 0x80000000#32))) ∧
      (s.pmu.window = false → makes (.pmuOff i) (ok (windowOpen s)))) ∧
    (MayStore s i Reg.PMU_CMD → s.pmu.entering = false → makes (.pmuAbort i) (ok s)) ∧
    (MayStore s i Reg.PMU_CMD → s.pmu.entering = true →
      let t := sleepPages.foldl (fun s p => setQuiesce s p false) (setPmu s { s.pmu with entering := false })
      makes (.pmuAbort i) (wr (pmuRun t) Reg.PMU_CMDSTAT (word stABORT))) ∧
    (s.pmu.entering = true → (sleepPages.all fun p => bit (rd s (hdr p Off.STAT)) 2 && !pageBusy s p) = true → s.nv.tasks = [] → s.nv.erases = [] →
      (s.nv.bufs ≠ [] →
        makes .sleepEnter (setNv s { s.nv with tasks := [plainTask .pb (s.nv.bufs.map fun b => .page 11 b.1 3 b.2)] })) ∧
      (s.nv.bufs = [] → coreRests s.ac0 = true → coreRests s.ac1 = true → coreRests s.mc = true →
        let s1 := pcieLost (portsDown s)
        let s2 := sleepLoses (wr s1 Reg.PMU_CMDSTAT 0#32)
        makes .sleepEnter
          (setMode (setPmu s2 { s2.pmu with entering := false, slept := 0, wakeAt := (heapRoot s1 0).map fun p => postCmp s1 p }) .sleep))) ∧
    (s.pmu.mode = .run → all → makes .idleEntry (setMode s .idle)) ∧
    (s.pmu.mode = .idle → ¬ all → makes .idleEntry (setMode s .run)) ∧
    (timer →
      (s.pmu.mode ≠ .off → s.pmu.wakeAt = none → makes .wakeTimer (wakeFrom s 1)) ∧
      (s.pmu.mode = .off → s.pmu.vmain = true → makes .wakeTimer (start s 7 false))) ∧
    (∀ c, s.pmu.mode ≠ .off → s.pmu.wakeAt = some c → c ≤ rtc → makes .wakeTimer (wakeFrom s 0)) ∧
    (s.pmu.waking = true →
      let s1 := wr (wrBit (sclkBack s) (hdr 1 Off.EVT_RAW) 5 true) Reg.MEM_CLEARING 0x3FFFFFFF#32
      makes .pmuWake { s1 with
        ac0 := { Core.zero with run := .running }
        boot := { s1.boot with
          steps := [3, 9], code := 9, rom := false, mail := [], flags := 0, warm := true, rails := s1.tick } }) ∧
    (s.pmu.vmain = true →
      let s1 := wrBit (wrBit (setPmu s { s.pmu with vmain := false }) Reg.PMU_RAILS 0 false) Reg.PMU_HUSTAT 29 false
      let s2 := setPmu s1 { s1.pmu with back := false }
      (s.pmu.window = true ∨ s.pmu.mode = .off → makes .powerFail s2) ∧
      (s.pmu.window = false → s.pmu.mode ≠ .off → makes .powerFail (windowOpen s2))) ∧
    (s.pmu.window = true → windowDone s = true →
      (s.pmu.winOk = true → s.pmu.whole = true → s.intake.dirty = [] →
        let s1 := bumpSat (dbEntry s 4 4 0 0) Reg.PMU_WINSTAT 23 16
        makes .windowComplete (windowEnd (setNv s1 { s1.nv with clean := true }) true false)) ∧
      (s.pmu.winOk = false ∨ s.pmu.whole = false ∨ s.intake.dirty ≠ [] → makes .windowComplete (windowEnd s false false)))

/-- R529, R530, R535 to R538: The hold-up reserve and the load switches. The reserve is write-ready from its threshold up and is measured;
a switch opens and closes by orders, by its time limit and by a trip. Where the spec leaves a point open, the clauses rest on the choices
of the model in log entries 105, 106, 144. -/
def Obligations.SuppliesAndSwitches : Prop :=
  ∀ (i : Initiator) (n : Fin 4) (mv fall : BitVec 16) (v : Word) (s : State),
    let makes (i : Instr) (t : State) : Prop := exec i s = .next (landed s t)
    let volts (x : Nat) (s : State) : State := wrFld s Reg.PMU_HUSTAT 15 0 x
    let measured (s : State) (c : Nat) : State :=
      let s1 := wr (wr s Reg.PMU_HUCAP (word (0x80000000 + min 65535 c))) Reg.PMU_HUTHR (word (huThr (min 65535 c)))
      if 4800 < huThr (min 65535 c) then
        let s2 := wrBit s1 Reg.PMU_HUSTAT 30 true
        (if wready s2 then huLow s2 else wrBit s2 (hdr 1 Off.EVT_RAW) 2 true)
      else wrBit s1 Reg.PMU_HUSTAT 30 false
    let thr := fld (rd s Reg.PMU_HUTHR) 15 0
    let h := rd s Reg.PMU_HUSTAT
    let lsw := rd s Reg.LSW_STAT
    (s.pmu.vmain = true → thr ≤ mv.toNat → makes (.huWriteReady mv) (huReady (volts mv.toNat s))) ∧
    (mv.toNat < thr → makes (.huBelowThreshold mv) (huLow (volts mv.toNat s))) ∧
    (s.pmu.vmain = true → bit h 29 = true →
      let s1 := wrBit (volts 5000 s) Reg.PMU_HUSTAT 29 false
      makes (.huChargeComplete none) (huReady s1) ∧
      makes (.huChargeComplete (some mv)) (huReady (measured s1 mv.toNat))) ∧
    (bit (rd s Reg.PMU_HUCFG) 31 = true → s.pmu.vmain = true → s.pmu.window = false → huVolt s = 5000 → bit h 28 = false → pageBusy s 0x48 = false →
      makes .huCapTest (wrBit (wrBit s Reg.PMU_HUSTAT 28 true) Reg.PMU_HUSTAT 29 false)) ∧
    (bit h 28 = true →
      let s1 := volts (5000 - fall.toNat) (wrBit (wrBit s Reg.PMU_HUSTAT 28 false) Reg.PMU_HUSTAT 29 true)
      (fall ≠ 0#16 → makes (.huCapTestDone fall) (measured s1 (100000 / fall.toNat))) ∧
      (fall = 0#16 → makes (.huCapTestDone fall) (measured { s1 with fresh := s1.fresh + 1 } (Config.free 16 s1.fresh).toNat))) ∧
    (MayStore s i Reg.LSW_ORDER →
      let t := lswAll.foldl (fun s n => lswAssay s n (lswAsk v n)) s
      makes (.lswOrder i v) (lswEvents s (wr t Reg.LSW_ASTAT (word (fld (rd t Reg.LSW_STAT) 3 0))))) ∧
    (MayStore s i Reg.PMU_LSWREQ →
      let veto := lswAll.filter fun n => lswVeto s n (lswAsk v n)
      let mask := veto.foldl (fun m n => m + 2 ^ n) 0
      let t := lswAll.foldl (fun s n => if lmem n veto then s else lswSup s n (lswAsk v n)) s
      let shown (st : Nat) : State :=
        wr t Reg.PMU_LSWSTAT (word (0x80000000 + fld v 29 24 * 0x1000000 + st * 0x10000 + mask * 0x100 + fld (rd t Reg.LSW_STAT) 3 0))
      (veto = [] → makes (.pmuLswreq i v) (lswEvents s (shown stOK))) ∧
      (veto ≠ [] → makes (.pmuLswreq i v) (lswEvents s (wrBit (shown stPROT) (hdr 2 Off.EVT_RAW) 8 true)))) ∧
    (bit lsw (16 + n.val) = true → fld (lswPol s n.val) 15 0 ≠ 0 → makes (.lswMaxonExpiry n) (lswEvents s (lswOpen s n.val))) ∧
    (lswClosed s n.val = true →
      let t := bumpSat (wrBit (lswOpen s n.val) Reg.LSW_STAT (8 + n.val) true) Reg.LSW_TRIPS (8 * n.val + 7) (8 * n.val)
      makes (.lswTrip (some n)) (lswEvents s (wrBit t (hdr 2 Off.EVT_RAW) (4 + n.val) true))) ∧
    (MayStore s i (Reg.LSW_POL + 4 * n.val) →
      makes (.lswPolWrite i n v) (storeReg s i (Reg.LSW_POL + 4 * n.val) v)) ∧
    makes .vloadLoss (wrBit (wrBit s Reg.PMU_RAILS 3 false) Reg.LSW_STAT 24 false) ∧
    makes .vloadReturn (wrBit (wrBit s Reg.PMU_RAILS 3 true) Reg.LSW_STAT 24 true)

/-- R57, R417: After every step EVT_N and CLKREQ_N are driven as the events, their routes and the modes say. -/
def Obligations.OutputsFollow : Prop :=
 ∀ s t : State, step s = .next t → OutputsRight t

/-- R57, R417: Right after reset the outputs are driven as they should be. Where the spec leaves a point open, the clauses rest on the
choices of the model in log entry 3. -/
def Obligations.OutputsAtReset : Prop :=
 OutputsRight State.reset

/-- R56, R58: Every command ends in a router that has taken up its events: for an event that is asserted and routed to a vector now, and
was not asserted or not routed to that vector before, a message is sent, or the vector's pending bit is set where it cannot be sent. Where
the spec leaves a point open, the clauses rest on the choices of the model in log entry 5. -/
def Obligations.EventsSent : Prop :=
  (∀ (c : Instr) (s u : State), exec c s = .next u → ∃ t, u = landed s t) ∧
  ∀ (s t : State) (ev : Nat),
    let u := landed s t
    let before := routeOf (rd s (Reg.EVR_ROUTE + ev / 2 * 4)) ev
    let now := routeOf (rd u (Reg.EVR_ROUTE + ev / 2 * 4)) ev
    let v := fld now 12 7
    ev < 1024 → asserted u ev = true → bit now 13 = true →
    (asserted s ev = false ∨ bit before 13 = false ∨ fld before 12 7 ≠ v) →
    (msixOpen u.pcie = true → vecMasked u.pcie v = false → ∃ l, u.router.sent = t.router.sent ++ l ∧ Msg.msix v ∈ l) ∧
    (msixOpen u.pcie = false ∨ vecMasked u.pcie v = true → u.router.pba.getLsbD v = true)

/-- No command stops the block: as many steps as commands wait take them all in turn, first in, first out, and an idle step leaves the
queue empty. That an idle step lets a microsecond pass is the model's choice, logged in the assumption log. Where the spec leaves a point
open, the clauses rest on the choices of the model in log entries 7, 186. -/
def Obligations.QueueDrains : Prop :=
  (∀ (n : Nat) (s : State), n ≤ s.pending.length → ∃ t, StepsTo n s t ∧ t.pending = s.pending.drop n) ∧
  (∀ s : State, s.pending = [] → ∃ t, step s = .next t ∧ t.pending = [])

/-- R336, R338, R339: What is written reads back, and nothing else changes: a register, the banks where no word holds an error, and any
map in canonical form, which what it reads as determines. Where the spec leaves a point open, the clauses rest on the choices of the model
in log entries 1, 2. -/
def Obligations.StoresAndReads : Prop :=
  (∀ (s : State) (a b : Nat) (v : Word), rd (wr s a v) b = if b = a then v else rd s b) ∧
  (∀ (s : State) (i : Initiator) (a x : Nat) (bs : Bytes), s.mem.poison = [] →
    sramByte (bankWrite s i a bs) x = if a ≤ x ∧ x < a + bs.length then bs.getD (x - a) 0#8 else sramByte s x) ∧
  (∀ (d : Nat → Word) (m m' : Sparse Word), mwf d m = true → mwf d m' = true → (∀ a, mget (d a) m a = mget (d a) m' a) → m = m') ∧
  (∀ (d : Nat → Byte) (m m' : Sparse Byte), mwf d m = true → mwf d m' = true → (∀ a, mget (d a) m a = mget (d a) m' a) → m = m')

/-- R28, R296, R319: What a store leaves unchanged. Where it stores, at the address that its meaning computes, the core sees the operand's
low bytes; every other byte it sees as before, and its registers but the PC and, for PUSH, G15 are as before. Where the spec leaves a
point open, the clauses rest on the choices of the model in log entries 2, 11. -/
def Obligations.StoreFrame : Prop :=
  ∀ (h : Head) (wide : Bool) (d r : Gpr) (disp : Field) (dw : Word) (imm : BitVec 16) (s t : State),
    let k := getCore s h.core
    let ea := effAddr k r disp
    let len := 2 + fieldLen disp + b2n h.check
    let n := wordLen wide
    let sp := gget k 15 - word n
    let frame (a : Nat) (bs : Bytes) : Prop :=
      (∀ x, loadSees t h.core x 1 = if a ≤ x ∧ x < a + bs.length then (bs.getD (x - a) 0#8).toNat else loadSees s h.core x 1) ∧
      (∀ g, g < 15 → gget (getCore t h.core) g = gget k g) ∧ (getCore t h.core).psw = k.psw ∧
      (∀ c, c ≠ h.core → getCore t c = getCore s c)
    s.mem.poison = [] →
    (Runs s h len → AccessOpen s h ea 1 .store → exec (.stb h d r disp quietBank) s = .next t →
      frame ea (leBytes 1 (gget k d.val).toNat) ∧ gget (getCore t h.core) 15 = gget k 15) ∧
    (Runs s h len → AccessOpen s h ea 2 .store → exec (.sth h d r disp quietBank) s = .next t →
      frame ea (leBytes 2 (gget k d.val).toNat) ∧ gget (getCore t h.core) 15 = gget k 15) ∧
    (Runs s h (2 + fieldLen disp + preLen h wide) → AccessOpen s h ea n .store → oddPair wide d = false →
      exec (.stw h wide d r disp) s = .next t → frame ea (leBytes n (dget k wide d.val)) ∧ gget (getCore t h.core) 15 = gget k 15) ∧
    (Runs s h (9 + preLen h wide) → AccessOpen s h (gget k r.val + dw).toNat n .store → exec (.stwi h wide r dw imm) s = .next t →
      frame (gget k r.val + dw).toNat (leBytes n (immVal wide imm)) ∧ gget (getCore t h.core) 15 = gget k 15) ∧
    (Runs s h (2 + preLen h wide) → AccessOpen s h sp.toNat n .store → oddPair wide r = false → exec (.push h wide r) s = .next t →
      frame sp.toNat (leBytes n (dget k wide r.val)) ∧ gget (getCore t h.core) 15 = sp)

/-- R38: A core's read of a reserved offset of a page returns 0, and its write is discarded. Both are recorded in ERRINFO with KIND 3, and
neither raises an exception: the instruction retires. -/
def Obligations.ReservedOffsets : Prop :=
  ∀ (h : Head) (d r : Gpr) (disp : Field) (b : BankEvent) (p : Nat) (s : State),
    let ea := effAddr (getCore s h.core) r disp
    let len := 2 + fieldLen disp + preLen h false
    let s1 := drain s h.core
    Runs s h len → ea % 4 = 0 → corePlace s h.core ea = .page p → codeOf (p / 4096) (p % 4096) = none →
    (readVerdict s1 (initOf h.core) p = .ok →
      let t := noteErr s1 (initOf h.core) (p / 4096) (p % 4096) 3 false
      exec (.ldw h false d r disp b) s = .next (landed s (retire t h.core (dset (getCore t h.core) false d.val 0) (nextPc s h len)))) ∧
    (writeVerdict s1 (initOf h.core) p = .ok →
      exec (.stw h false d r disp) s = .next (landed s
        (noteErr (retire s1 h.core (getCore s1 h.core) (nextPc s h len)) (initOf h.core) (p / 4096) (p % 4096) 3 true)))

/-- R76: The buckets of a meter address. -/
def Obligations.MeterBuckets : Prop :=
  ∀ m : Bytes, m.length = 8 →
    let w (k : Nat) : BitVec 16 := BitVec.ofNat 16 (leNat ((m.drop (2 * k)).take 2))
    ownerBucket m = (w 0 ^^^ w 1 ^^^ w 2 ^^^ w 3).toNat ∧ ownerBucket m ≤ 65535 ∧
    localBucket m = (w 0 ^^^ (w 1).rotateLeft 5 ^^^ (w 2).rotateLeft 10 ^^^ (w 3).rotateLeft 15).toNat % 2048 ∧ localBucket m ≤ 2047
end

