-- ==== Sys2Proof/Laws/Access.lean ====
section
/-! SUPPORT. What a guarded access of a page register does, and where a command lands. -/

namespace Sys2Proof.Machine

open Sys2Proof

/-- A write that the page permits is performed. -/
theorem guardW_open {s : State} {i : Initiator} {a : Nat} (h : MayStore s i a) (k : State → State) : guardW s i a k = k s := by
  simp [guardW, h.1, h.2]

/-- A read that the page permits is performed. -/
theorem guardR_open {s : State} {i : Initiator} {a : Nat} (h : MayLoad s i a) (k : State → State) : guardR s i a k = k s := by
  simp [guardR, h.1, h.2]

/-- A write from an initiator that makes no access does nothing. -/
theorem guardW_inert {s : State} {i : Initiator} (h : inert s i = true) (a : Nat) (k : State → State) : guardW s i a k = s := by
  simp [guardW, h]

/-- A write that the page refuses is told. -/
theorem guardW_refused {s : State} {i : Initiator} {a : Nat} (h : inert s i = false) (hv : writeVerdict s i a ≠ .ok) (k : State → State) :
    guardW s i a k = refuseAccess s i a (writeVerdict s i a) true := by
  unfold guardW
  cases hw : writeVerdict s i a <;> simp_all

/-- The write of a permitted register. -/
theorem busWrite_open {s : State} {i : Initiator} {a : Nat} (h : MayStore s i a) (v : Word) : busWrite s i a v = writeReg s i a v :=
  guardW_open h _

/-- The queue where a command lands is the one it was given. -/
@[simp] theorem landed_pending (s t : State) : (landed s t).pending = s.pending := rfl
/-- The outputs where a command lands are those of the state it leaves. -/
theorem landed_pins (s t : State) : (landed s t).pins = pinsOf t := rfl
/-- Nothing but the router and the outputs changes as a command lands. -/
@[simp] theorem landed_regs (s t : State) : (landed s t).regs = t.regs := rfl
/-- The memories land as they are. -/
@[simp] theorem landed_mem (s t : State) : (landed s t).mem = t.mem := rfl
/-- The NV store lands as it is. -/
@[simp] theorem landed_nv (s t : State) : (landed s t).nv = t.nv := rfl

/-- The page of a header register. -/
theorem hdr_div {page off : Nat} (h : off < 4096) : hdr page off / 4096 = page := by unfold hdr; omega

/-- The offset of a header register. -/
theorem hdr_mod {page off : Nat} (h : off < 4096) : hdr page off % 4096 = off := by unfold hdr; omega

/-- A permitted write goes to a page of the page table. -/
theorem mayStore_row {s : State} {i : Initiator} {a : Nat} (h : MayStore s i a) : ∃ p, pageRow? (a / 4096) = some p := by
  have := h.2
  unfold writeVerdict reaches at this
  cases hp : pageRow? (a / 4096) with
  | none => simp [hp] at this
  | some p => exact ⟨p, rfl⟩

end Sys2Proof.Machine
end

