-- ==== Sys2Proof/Laws/Dispatch.lean ====
section
/-! SUPPORT. What each arm of the dispatch answers: the block as it lands after the command's effect. -/

namespace Sys2Proof.Machine

open Sys2Proof

/-- The registerWrite arm. -/
@[simp] theorem exec_registerWrite (i : Initiator) (addr : Nat) (v : Word) (s : State) : exec (.registerWrite i addr v) s = .next (landed s (doRegisterWrite i addr v s)) := rfl

/-- The hostMemoryWrite arm. -/
@[simp] theorem exec_hostMemoryWrite (bar : Bar) (off : Nat) (dws : List (Word × Bool)) (s : State) : exec (.hostMemoryWrite bar off dws) s = .next (landed s (doHostMemoryWrite bar off dws s)) := rfl

/-- The hostMemoryRead arm. -/
@[simp] theorem exec_hostMemoryRead (bar : Bar) (off : Nat) (n : Nat) (full : Bool) (s : State) : exec (.hostMemoryRead bar off n full) s = .next (landed s (doHostMemoryRead bar off n full s)) := rfl

/-- The ctrlEnClear arm. -/
@[simp] theorem exec_ctrlEnClear (i : Initiator) (page : Nat) (s : State) : exec (.ctrlEnClear i page) s = .next (landed s (doCtrlEnClear i page s)) := rfl

/-- The quiesce arm. -/
@[simp] theorem exec_quiesce (i : Initiator) (page : Nat) (on : Bool) (s : State) : exec (.quiesce i page on) s = .next (landed s (doQuiesce i page on s)) := rfl

/-- The quiescedReached arm. -/
@[simp] theorem exec_quiescedReached (page : Nat) (s : State) : exec (.quiescedReached page) s = .next (landed s (doQuiescedReached page s)) := rfl

/-- The selftest arm. -/
@[simp] theorem exec_selftest (i : Initiator) (page : Nat) (s : State) : exec (.selftest i page) s = .next (landed s (doSelftest i page s)) := rfl

/-- The selftestDone arm. -/
@[simp] theorem exec_selftestDone (page : Nat) (pass : Bool) (s : State) : exec (.selftestDone page pass) s = .next (landed s (doSelftestDone page pass s)) := rfl

/-- The evtRawClear arm. -/
@[simp] theorem exec_evtRawClear (i : Initiator) (addr : Nat) (clr hw : Word) (s : State) : exec (.evtRawClear i addr clr hw) s = .next (landed s (doEvtRawClear i addr clr hw s)) := rfl

/-- The evtSet arm. -/
@[simp] theorem exec_evtSet (i : Initiator) (addr : Nat) (v : Word) (s : State) : exec (.evtSet i addr v) s = .next (landed s (doEvtSet i addr v s)) := rfl

/-- The lockWrite arm. -/
@[simp] theorem exec_lockWrite (i : Initiator) (page : Nat) (s : State) : exec (.lockWrite i page) s = .next (landed s (doLockWrite i page s)) := rfl

/-- The ownerWrite arm. -/
@[simp] theorem exec_ownerWrite (i : Initiator) (page : Nat) (v : Word) (s : State) : exec (.ownerWrite i page v) s = .next (landed s (doOwnerWrite i page v s)) := rfl

/-- The ownerReassignComplete arm. -/
@[simp] theorem exec_ownerReassignComplete (page : Nat) (s : State) : exec (.ownerReassignComplete page) s = .next (landed s (doOwnerReassignComplete page s)) := rfl

/-- The errinfoClear arm. -/
@[simp] theorem exec_errinfoClear (i : Initiator) (page : Nat) (v : Word) (s : State) : exec (.errinfoClear i page v) s = .next (landed s (doErrinfoClear i page v s)) := rfl

/-- The shadowMismatch arm. -/
@[simp] theorem exec_shadowMismatch (addr : Nat) (prim shad : Word) (s : State) : exec (.shadowMismatch addr prim shad) s = .next (landed s (doShadowMismatch addr prim shad s)) := rfl

/-- The autoincDataAccess arm. -/
@[simp] theorem exec_autoincDataAccess (i : Initiator) (addr : Nat) (w : Option Word) (s : State) : exec (.autoincDataAccess i addr w) s = .next (landed s (doAutoincDataAccess i addr w s)) := rfl

/-- The evrClaim arm. -/
@[simp] theorem exec_evrClaim (i : Initiator) (n : Fin 2) (s : State) : exec (.evrClaim i n) s = .next (landed s (doEvrClaim i n s)) := rfl

/-- The evrDone arm. -/
@[simp] theorem exec_evrDone (i : Initiator) (n : Fin 2) (v : Word) (s : State) : exec (.evrDone i n v) s = .next (landed s (doEvrDone i n v s)) := rfl

/-- The evrRouteWrite arm. -/
@[simp] theorem exec_evrRouteWrite (i : Initiator) (m : Fin 512) (v : Word) (s : State) : exec (.evrRouteWrite i m v) s = .next (landed s (doEvrRouteWrite i m v s)) := rfl

/-- The evrSwdbSet arm. -/
@[simp] theorem exec_evrSwdbSet (i : Initiator) (v : Word) (s : State) : exec (.evrSwdbSet i v) s = .next (landed s (doEvrSwdbSet i v s)) := rfl

/-- The evrSwdbClear arm. -/
@[simp] theorem exec_evrSwdbClear (i : Initiator) (v : Word) (s : State) : exec (.evrSwdbClear i v) s = .next (landed s (doEvrSwdbClear i v s)) := rfl

/-- The msixUnmask arm. -/
@[simp] theorem exec_msixUnmask (c : MsixCtl) (s : State) : exec (.msixUnmask c) s = .next (landed s (doMsixUnmask c s)) := rfl

/-- The intake arm. -/
@[simp] theorem exec_intake (n : Fin 64) (s : State) : exec (.intake n) s = .next (landed s (doIntake n s)) := rfl

/-- The frameAdmit arm. -/
@[simp] theorem exec_frameAdmit (d : DmaData) (s : State) : exec (.frameAdmit d) s = .next (landed s (doFrameAdmit d s)) := rfl

/-- The gateEnter arm. -/
@[simp] theorem exec_gateEnter (k : Nat) (s : State) : exec (.gateEnter k) s = .next (landed s (doGateEnter k s)) := rfl

/-- The intakeUnwrap arm. -/
@[simp] theorem exec_intakeUnwrap (k : Nat) (fault : Bool) (s : State) : exec (.intakeUnwrap k fault) s = .next (landed s (doIntakeUnwrap k fault s)) := rfl

/-- The decryptVerify arm. -/
@[simp] theorem exec_decryptVerify (k : Nat) (s : State) : exec (.decryptVerify k) s = .next (landed s (doDecryptVerify k s)) := rfl

/-- The ledgerExtend arm. -/
@[simp] theorem exec_ledgerExtend (k : Nat) (s : State) : exec (.ledgerExtend k) s = .next (landed s (doLedgerExtend k s)) := rfl

/-- The frameCommit arm. -/
@[simp] theorem exec_frameCommit (k : Nat) (s : State) : exec (.frameCommit k) s = .next (landed s (doFrameCommit k s)) := rfl

/-- The forwardResponse arm. -/
@[simp] theorem exec_forwardResponse (p : Fin 4) (s : State) : exec (.forwardResponse p) s = .next (landed s (doForwardResponse p s)) := rfl

/-- The dirSwap arm. -/
@[simp] theorem exec_dirSwap (i : Initiator) (s : State) : exec (.dirSwap i) s = .next (landed s (doDirSwap i s)) := rfl

/-- The dirSwapApply arm. -/
@[simp] theorem exec_dirSwapApply (s : State) : exec .dirSwapApply s = .next (landed s (doDirSwapApply s)) := rfl

/-- The accCreate arm. -/
@[simp] theorem exec_accCreate (i : Initiator) (a : Fin 1024) (s : State) : exec (.accCreate i a) s = .next (landed s (doAccCreate i a s)) := rfl

/-- The accDelete arm. -/
@[simp] theorem exec_accDelete (i : Initiator) (a : Fin 1024) (s : State) : exec (.accDelete i a) s = .next (landed s (doAccDelete i a s)) := rfl

/-- The accEnable arm. -/
@[simp] theorem exec_accEnable (i : Initiator) (a : Fin 1024) (s : State) : exec (.accEnable i a) s = .next (landed s (doAccEnable i a s)) := rfl

/-- The accDisable arm. -/
@[simp] theorem exec_accDisable (i : Initiator) (a : Fin 1024) (s : State) : exec (.accDisable i a) s = .next (landed s (doAccDisable i a s)) := rfl

/-- The setFeed arm. -/
@[simp] theorem exec_setFeed (i : Initiator) (a : Fin 1024) (s : State) : exec (.setFeed i a) s = .next (landed s (doSetFeed i a s)) := rfl

/-- The setProfile arm. -/
@[simp] theorem exec_setProfile (i : Initiator) (a : Fin 1024) (s : State) : exec (.setProfile i a) s = .next (landed s (doSetProfile i a s)) := rfl

/-- The reseat arm. -/
@[simp] theorem exec_reseat (i : Initiator) (a : Fin 1024) (s : State) : exec (.reseat i a) s = .next (landed s (doReseat i a s)) := rfl

/-- The accRead arm. -/
@[simp] theorem exec_accRead (i : Initiator) (a : Fin 1024) (s : State) : exec (.accRead i a) s = .next (landed s (doAccRead i a s)) := rfl

/-- The clearFails arm. -/
@[simp] theorem exec_clearFails (i : Initiator) (a : Fin 1024) (s : State) : exec (.clearFails i a) s = .next (landed s (doClearFails i a s)) := rfl

/-- The clrcnt arm. -/
@[simp] theorem exec_clrcnt (i : Initiator) (a : Fin 1024) (s : State) : exec (.clrcnt i a) s = .next (landed s (doClrcnt i a s)) := rfl

/-- The ckpt arm. -/
@[simp] theorem exec_ckpt (i : Initiator) (a : Fin 1024) (s : State) : exec (.ckpt i a) s = .next (landed s (doCkpt i a s)) := rfl

/-- The retotal arm. -/
@[simp] theorem exec_retotal (i : Initiator) (a : Fin 1024) (s : State) : exec (.retotal i a) s = .next (landed s (doRetotal i a s)) := rfl

/-- The ckptNow arm. -/
@[simp] theorem exec_ckptNow (i : Initiator) (s : State) : exec (.ckptNow i) s = .next (landed s (doCkptNow i s)) := rfl

/-- The checkpointCapture arm. -/
@[simp] theorem exec_checkpointCapture (s : State) : exec .checkpointCapture s = .next (landed s (doCheckpointCapture s)) := rfl

/-- The checkpointProgramDone arm. -/
@[simp] theorem exec_checkpointProgramDone (ok : Bool) (s : State) : exec (.checkpointProgramDone ok) s = .next (landed s (doCheckpointProgramDone ok s)) := rfl

/-- The pulseEdge arm. -/
@[simp] theorem exec_pulseEdge (k : Fin 32) (rising : Bool) (s : State) : exec (.pulseEdge k rising) s = .next (landed s (doPulseEdge k rising s)) := rfl

/-- The sourceConsume arm. -/
@[simp] theorem exec_sourceConsume (src : TallySrc) (s : State) : exec (.sourceConsume src) s = .next (landed s (doSourceConsume src s)) := rfl

/-- The tallyDispatch arm. -/
@[simp] theorem exec_tallyDispatch (s : State) : exec .tallyDispatch s = .next (landed s (doTallyDispatch s)) := rfl

/-- The tallyUpdateCommit arm. -/
@[simp] theorem exec_tallyUpdateCommit (mism : Fin 3) (s : State) : exec (.tallyUpdateCommit mism) s = .next (landed s (doTallyUpdateCommit mism s)) := rfl

/-- The talSnapcmd arm. -/
@[simp] theorem exec_talSnapcmd (i : Initiator) (p : Fin 4) (v : Word) (s : State) : exec (.talSnapcmd i p v) s = .next (landed s (doTalSnapcmd i p v s)) := rfl

/-- The snapshotCapture arm. -/
@[simp] theorem exec_snapshotCapture (p : Fin 4) (s : State) : exec (.snapshotCapture p) s = .next (landed s (doSnapshotCapture p s)) := rfl

/-- The talPrecmd arm. -/
@[simp] theorem exec_talPrecmd (i : Initiator) (p : Fin 4) (v : Word) (s : State) : exec (.talPrecmd i p v) s = .next (landed s (doTalPrecmd i p v s)) := rfl

/-- The presetApply arm. -/
@[simp] theorem exec_presetApply (p : Fin 4) (s : State) : exec (.presetApply p) s = .next (landed s (doPresetApply p s)) := rfl

/-- The tcoCrcsel arm. -/
@[simp] theorem exec_tcoCrcsel (i : Initiator) (v : Word) (s : State) : exec (.tcoCrcsel i v) s = .next (landed s (doTcoCrcsel i v s)) := rfl

/-- The tcoCrcDone arm. -/
@[simp] theorem exec_tcoCrcDone (s : State) : exec .tcoCrcDone s = .next (landed s (doTcoCrcDone s)) := rfl

/-- The tcoCdataWrite arm. -/
@[simp] theorem exec_tcoCdataWrite (i : Initiator) (v : Word) (s : State) : exec (.tcoCdataWrite i v) s = .next (landed s (doTcoCdataWrite i v s)) := rfl

/-- The snsRunStart arm. -/
@[simp] theorem exec_snsRunStart (s : State) : exec .snsRunStart s = .next (landed s (doSnsRunStart s)) := rfl

/-- The runNow arm. -/
@[simp] theorem exec_runNow (i : Initiator) (s : State) : exec (.runNow i) s = .next (landed s (doRunNow i s)) := rfl

/-- The snsXfer arm. -/
@[simp] theorem exec_snsXfer (rx : List Byte) (s : State) : exec (.snsXfer rx) s = .next (landed s (doSnsXfer rx s)) := rfl

/-- The snsWait arm. -/
@[simp] theorem exec_snsWait (s : State) : exec .snsWait s = .next (landed s (doSnsWait s)) := rfl

/-- The snsWaitrdy arm. -/
@[simp] theorem exec_snsWaitrdy (low : Bool) (s : State) : exec (.snsWaitrdy low) s = .next (landed s (doSnsWaitrdy low s)) := rfl

/-- The snsCheck arm. -/
@[simp] theorem exec_snsCheck (s : State) : exec .snsCheck s = .next (landed s (doSnsCheck s)) := rfl

/-- The snsStore arm. -/
@[simp] theorem exec_snsStore (s : State) : exec .snsStore s = .next (landed s (doSnsStore s)) := rfl

/-- The snsCommit arm. -/
@[simp] theorem exec_snsCommit (s : State) : exec .snsCommit s = .next (landed s (doSnsCommit s)) := rfl

/-- The snsEnd arm. -/
@[simp] theorem exec_snsEnd (s : State) : exec .snsEnd s = .next (landed s (doSnsEnd s)) := rfl

/-- The snsWcmd arm. -/
@[simp] theorem exec_snsWcmd (i : Initiator) (v : Word) (s : State) : exec (.snsWcmd i v) s = .next (landed s (doSnsWcmd i v s)) := rfl

/-- The snsSidx arm. -/
@[simp] theorem exec_snsSidx (i : Initiator) (v : Word) (s : State) : exec (.snsSidx i v) s = .next (landed s (doSnsSidx i v s)) := rfl

/-- The axsRtccmd arm. -/
@[simp] theorem exec_axsRtccmd (i : Initiator) (v : Word) (s : State) : exec (.axsRtccmd i v) s = .next (landed s (doAxsRtccmd i v s)) := rfl

/-- The axsMcmd arm. -/
@[simp] theorem exec_axsMcmd (i : Initiator) (v : Word) (s : State) : exec (.axsMcmd i v) s = .next (landed s (doAxsMcmd i v s)) := rfl

/-- The axsNcmd arm. -/
@[simp] theorem exec_axsNcmd (i : Initiator) (v : Word) (s : State) : exec (.axsNcmd i v) s = .next (landed s (doAxsNcmd i v s)) := rfl

/-- The axsRtcslew arm. -/
@[simp] theorem exec_axsRtcslew (i : Initiator) (v : Word) (s : State) : exec (.axsRtcslew i v) s = .next (landed s (doAxsRtcslew i v s)) := rfl

/-- The axsNslew arm. -/
@[simp] theorem exec_axsNslew (i : Initiator) (v : Word) (s : State) : exec (.axsNslew i v) s = .next (landed s (doAxsNslew i v s)) := rfl

/-- The slewDone arm. -/
@[simp] theorem exec_slewDone (net : Bool) (s : State) : exec (.slewDone net) s = .next (landed s (doSlewDone net s)) := rfl

/-- The axsLowRead arm. -/
@[simp] theorem exec_axsLowRead (i : Initiator) (ax : Axs64) (s : State) : exec (.axsLowRead i ax) s = .next (landed s (doAxsLowRead i ax s)) := rfl

/-- The mainsEdge arm. -/
@[simp] theorem exec_mainsEdge (s : State) : exec .mainsEdge s = .next (landed s (doMainsEdge s)) := rfl

/-- The mainsTimeout arm. -/
@[simp] theorem exec_mainsTimeout (s : State) : exec .mainsTimeout s = .next (landed s (doMainsTimeout s)) := rfl

/-- The postingDue arm. -/
@[simp] theorem exec_postingDue (axis : Nat) (s : State) : exec (.postingDue axis) s = .next (landed s (doPostingDue axis s)) := rfl

/-- The postingFire arm. -/
@[simp] theorem exec_postingFire (delay : Nat) (s : State) : exec (.postingFire delay) s = .next (landed s (doPostingFire delay s)) := rfl

/-- The closingCapture arm. -/
@[simp] theorem exec_closingCapture (s : State) : exec .closingCapture s = .next (landed s (doClosingCapture s)) := rfl

/-- The closingRecordMove arm. -/
@[simp] theorem exec_closingRecordMove (s : State) : exec .closingRecordMove s = .next (landed s (doClosingRecordMove s)) := rfl

/-- The arm arm. -/
@[simp] theorem exec_arm (i : Initiator) (v : Word) (s : State) : exec (.arm i v) s = .next (landed s (doArm i v s)) := rfl

/-- The disarm arm. -/
@[simp] theorem exec_disarm (i : Initiator) (v : Word) (s : State) : exec (.disarm i v) s = .next (landed s (doDisarm i v s)) := rfl

/-- The disarmAxis arm. -/
@[simp] theorem exec_disarmAxis (i : Initiator) (v : Word) (s : State) : exec (.disarmAxis i v) s = .next (landed s (doDisarmAxis i v s)) := rfl

/-- The calPeekax arm. -/
@[simp] theorem exec_calPeekax (i : Initiator) (v : Word) (s : State) : exec (.calPeekax i v) s = .next (landed s (doCalPeekax i v s)) := rfl

/-- The calLatmaxWrite arm. -/
@[simp] theorem exec_calLatmaxWrite (i : Initiator) (v : Word) (s : State) : exec (.calLatmaxWrite i v) s = .next (landed s (doCalLatmaxWrite i v s)) := rfl

/-- The pufPowerDone arm. -/
@[simp] theorem exec_pufPowerDone (s : State) : exec .pufPowerDone s = .next (landed s (doPufPowerDone s)) := rfl

/-- The pufReadDone arm. -/
@[simp] theorem exec_pufReadDone (s : State) : exec .pufReadDone s = .next (landed s (doPufReadDone s)) := rfl

/-- The pufDecodeDone arm. -/
@[simp] theorem exec_pufDecodeDone (ok : Bool) (errbits : BitVec 15) (bad : List (Fin 256)) (s : State) : exec (.pufDecodeDone ok errbits bad) s = .next (landed s (doPufDecodeDone ok errbits bad s)) := rfl

/-- The pufCoolDone arm. -/
@[simp] theorem exec_pufCoolDone (s : State) : exec .pufCoolDone s = .next (landed s (doPufCoolDone s)) := rfl

/-- The vltUpdate arm. -/
@[simp] theorem exec_vltUpdate (i : Initiator) (s : State) : exec (.vltUpdate i) s = .next (landed s (doVltUpdate i s)) := rfl

/-- The updateSigsVerified arm. -/
@[simp] theorem exec_updateSigsVerified (s : State) : exec .updateSigsVerified s = .next (landed s (doUpdateSigsVerified s)) := rfl

/-- The updateCommit arm. -/
@[simp] theorem exec_updateCommit (s : State) : exec .updateCommit s = .next (landed s (doUpdateCommit s)) := rfl

/-- The accountKeyInstall arm. -/
@[simp] theorem exec_accountKeyInstall (s : State) : exec .accountKeyInstall s = .next (landed s (doAccountKeyInstall s)) := rfl

/-- The vltMint arm. -/
@[simp] theorem exec_vltMint (i : Initiator) (s : State) : exec (.vltMint i) s = .next (landed s (doVltMint i s)) := rfl

/-- The vltOpen arm. -/
@[simp] theorem exec_vltOpen (i : Initiator) (s : State) : exec (.vltOpen i) s = .next (landed s (doVltOpen i s)) := rfl

/-- The vltGetpub arm. -/
@[simp] theorem exec_vltGetpub (i : Initiator) (s : State) : exec (.vltGetpub i) s = .next (landed s (doVltGetpub i s)) := rfl

/-- The hallmark arm. -/
@[simp] theorem exec_hallmark (i : Initiator) (s : State) : exec (.hallmark i) s = .next (landed s (doHallmark i s)) := rfl

/-- The report arm. -/
@[simp] theorem exec_report (i : Initiator) (s : State) : exec (.report i) s = .next (landed s (doReport i s)) := rfl

/-- The vltDestroy arm. -/
@[simp] theorem exec_vltDestroy (i : Initiator) (s : State) : exec (.vltDestroy i) s = .next (landed s (doVltDestroy i s)) := rfl

/-- The vltDerive arm. -/
@[simp] theorem exec_vltDerive (i : Initiator) (s : State) : exec (.vltDerive i) s = .next (landed s (doVltDerive i s)) := rfl

/-- The vltAgree arm. -/
@[simp] theorem exec_vltAgree (i : Initiator) (s : State) : exec (.vltAgree i) s = .next (landed s (doVltAgree i s)) := rfl

/-- The vltGetid arm. -/
@[simp] theorem exec_vltGetid (i : Initiator) (s : State) : exec (.vltGetid i) s = .next (landed s (doVltGetid i s)) := rfl

/-- The vltEnroll arm. -/
@[simp] theorem exec_vltEnroll (i : Initiator) (s : State) : exec (.vltEnroll i) s = .next (landed s (doVltEnroll i s)) := rfl

/-- The vltSidx arm. -/
@[simp] theorem exec_vltSidx (i : Initiator) (v : Word) (s : State) : exec (.vltSidx i v) s = .next (landed s (doVltSidx i v s)) := rfl

/-- The keyUnwrapDone arm. -/
@[simp] theorem exec_keyUnwrapDone (r : Unwrap) (s : State) : exec (.keyUnwrapDone r) s = .next (landed s (doKeyUnwrapDone r s)) := rfl

/-- The rngHealthFail arm. -/
@[simp] theorem exec_rngHealthFail (apt : Bool) (s : State) : exec (.rngHealthFail apt) s = .next (landed s (doRngHealthFail apt s)) := rfl

/-- The reseedNow arm. -/
@[simp] theorem exec_reseedNow (i : Initiator) (s : State) : exec (.reseedNow i) s = .next (landed s (doReseedNow i s)) := rfl

/-- The rngRestart arm. -/
@[simp] theorem exec_rngRestart (i : Initiator) (s : State) : exec (.rngRestart i) s = .next (landed s (doRngRestart i s)) := rfl

/-- The drbgReseedDone arm. -/
@[simp] theorem exec_drbgReseedDone (s : State) : exec .drbgReseedDone s = .next (landed s (doDrbgReseedDone s)) := rfl

/-- The rngDataRead arm. -/
@[simp] theorem exec_rngDataRead (i : Initiator) (s : State) : exec (.rngDataRead i) s = .next (landed s (doRngDataRead i s)) := rfl

/-- The rngHstatRead arm. -/
@[simp] theorem exec_rngHstatRead (i : Initiator) (s : State) : exec (.rngHstatRead i) s = .next (landed s (doRngHstatRead i s)) := rfl

/-- The aesJobcmd arm. -/
@[simp] theorem exec_aesJobcmd (i : Initiator) (n : Fin 4) (s : State) : exec (.aesJobcmd i n) s = .next (landed s (doAesJobcmd i n s)) := rfl

/-- The aesJobStart arm. -/
@[simp] theorem exec_aesJobStart (n : Fin 4) (host : List (Nat × Bytes)) (s : State) : exec (.aesJobStart n host) s = .next (landed s (doAesJobStart n host s)) := rfl

/-- The aesJobDone arm. -/
@[simp] theorem exec_aesJobDone (n : Fin 4) (host : List (Nat × Bytes)) (s : State) : exec (.aesJobDone n host) s = .next (landed s (doAesJobDone n host s)) := rfl

/-- The aesPreempt arm. -/
@[simp] theorem exec_aesPreempt (n : Fin 4) (units : Nat) (host : List (Nat × Bytes)) (s : State) : exec (.aesPreempt n units host) s = .next (landed s (doAesPreempt n units host s)) := rfl

/-- The aesResume arm. -/
@[simp] theorem exec_aesResume (n : Fin 4) (host : List (Nat × Bytes)) (s : State) : exec (.aesResume n host) s = .next (landed s (doAesResume n host s)) := rfl

/-- The aesCheckMismatch arm. -/
@[simp] theorem exec_aesCheckMismatch (n : Fin 4) (units : Nat) (host : List (Nat × Bytes)) (s : State) : exec (.aesCheckMismatch n units host) s = .next (landed s (doAesCheckMismatch n units host s)) := rfl

/-- The aesClrkey arm. -/
@[simp] theorem exec_aesClrkey (i : Initiator) (n : Fin 4) (units : Nat) (host : List (Nat × Bytes)) (s : State) : exec (.aesClrkey i n units host) s = .next (landed s (doAesClrkey i n units host s)) := rfl

/-- The hshJobcmd arm. -/
@[simp] theorem exec_hshJobcmd (i : Initiator) (n : Fin 2) (s : State) : exec (.hshJobcmd i n) s = .next (landed s (doHshJobcmd i n s)) := rfl

/-- The hshJobStart arm. -/
@[simp] theorem exec_hshJobStart (n : Fin 2) (host : List (Nat × Bytes)) (s : State) : exec (.hshJobStart n host) s = .next (landed s (doHshJobStart n host s)) := rfl

/-- The hshJobDone arm. -/
@[simp] theorem exec_hshJobDone (n : Fin 2) (host : List (Nat × Bytes)) (s : State) : exec (.hshJobDone n host) s = .next (landed s (doHshJobDone n host s)) := rfl

/-- The hshPreempt arm. -/
@[simp] theorem exec_hshPreempt (n : Fin 2) (units : Nat) (host : List (Nat × Bytes)) (s : State) : exec (.hshPreempt n units host) s = .next (landed s (doHshPreempt n units host s)) := rfl

/-- The hshCheckMismatch arm. -/
@[simp] theorem exec_hshCheckMismatch (n : Fin 2) (w : HashWork) (units : Nat) (host : List (Nat × Bytes)) (s : State) : exec (.hshCheckMismatch n w units host) s = .next (landed s (doHshCheckMismatch n w units host s)) := rfl

/-- The hshClrkey arm. -/
@[simp] theorem exec_hshClrkey (i : Initiator) (n : Fin 2) (units : Nat) (host : List (Nat × Bytes)) (s : State) : exec (.hshClrkey i n units host) s = .next (landed s (doHshClrkey i n units host s)) := rfl

/-- The lmsJobcmd arm. -/
@[simp] theorem exec_lmsJobcmd (i : Initiator) (s : State) : exec (.lmsJobcmd i) s = .next (landed s (doLmsJobcmd i s)) := rfl

/-- The lmsSignStart arm. -/
@[simp] theorem exec_lmsSignStart (s : State) : exec .lmsSignStart s = .next (landed s (doLmsSignStart s)) := rfl

/-- The lmsAdvanceDone arm. -/
@[simp] theorem exec_lmsAdvanceDone (k : Fin 256) (s : State) : exec (.lmsAdvanceDone k) s = .next (landed s (doLmsAdvanceDone k s)) := rfl

/-- The lmsSignDone arm. -/
@[simp] theorem exec_lmsSignDone (s : State) : exec .lmsSignDone s = .next (landed s (doLmsSignDone s)) := rfl

/-- The lmsKsel arm. -/
@[simp] theorem exec_lmsKsel (i : Initiator) (v : Word) (s : State) : exec (.lmsKsel i v) s = .next (landed s (doLmsKsel i v s)) := rfl

/-- The lmsSealcmd arm. -/
@[simp] theorem exec_lmsSealcmd (i : Initiator) (v : Word) (s : State) : exec (.lmsSealcmd i v) s = .next (landed s (doLmsSealcmd i v s)) := rfl

/-- The sealStart arm. -/
@[simp] theorem exec_sealStart (s : State) : exec .sealStart s = .next (landed s (doSealStart s)) := rfl

/-- The sealTreeDone arm. -/
@[simp] theorem exec_sealTreeDone (s : State) : exec .sealTreeDone s = .next (landed s (doSealTreeDone s)) := rfl

/-- The sealSigned arm. -/
@[simp] theorem exec_sealSigned (s : State) : exec .sealSigned s = .next (landed s (doSealSigned s)) := rfl

/-- The sealDelivered arm. -/
@[simp] theorem exec_sealDelivered (s : State) : exec .sealDelivered s = .next (landed s (doSealDelivered s)) := rfl

/-- The bneJobcmd arm. -/
@[simp] theorem exec_bneJobcmd (i : Initiator) (n : Fin 4) (s : State) : exec (.bneJobcmd i n) s = .next (landed s (doBneJobcmd i n s)) := rfl

/-- The bneJobStart arm. -/
@[simp] theorem exec_bneJobStart (n : Fin 4) (ecc : EccFind) (s : State) : exec (.bneJobStart n ecc) s = .next (landed s (doBneJobStart n ecc s)) := rfl

/-- The bneJobDone arm. -/
@[simp] theorem exec_bneJobDone (n : Fin 4) (host : List (Nat × Bytes)) (s : State) : exec (.bneJobDone n host) s = .next (landed s (doBneJobDone n host s)) := rfl

/-- The bneCheckMismatch arm. -/
@[simp] theorem exec_bneCheckMismatch (n : Fin 4) (s : State) : exec (.bneCheckMismatch n) s = .next (landed s (doBneCheckMismatch n s)) := rfl

/-- The bneLimitExpiry arm. -/
@[simp] theorem exec_bneLimitExpiry (n : Fin 4) (s : State) : exec (.bneLimitExpiry n) s = .next (landed s (doBneLimitExpiry n s)) := rfl

/-- The bneClrkey arm. -/
@[simp] theorem exec_bneClrkey (i : Initiator) (n : Fin 4) (s : State) : exec (.bneClrkey i n) s = .next (landed s (doBneClrkey i n s)) := rfl

/-- The bnEnd arm. -/
@[simp] theorem exec_bnEnd (l : Fin 4) (s : State) : exec (.bnEnd l) s = .next (landed s (doBnEnd l s)) := rfl

/-- The bnFail arm. -/
@[simp] theorem exec_bnFail (l : Fin 4) (s : State) : exec (.bnFail l) s = .next (landed s (doBnFail l s)) := rfl

/-- The bnJmp arm. -/
@[simp] theorem exec_bnJmp (l : Fin 4) (s : State) : exec (.bnJmp l) s = .next (landed s (doBnJmp l s)) := rfl

/-- The bnBr arm. -/
@[simp] theorem exec_bnBr (l : Fin 4) (s : State) : exec (.bnBr l) s = .next (landed s (doBnBr l s)) := rfl

/-- The bnCall arm. -/
@[simp] theorem exec_bnCall (l : Fin 4) (s : State) : exec (.bnCall l) s = .next (landed s (doBnCall l s)) := rfl

/-- The bnRet arm. -/
@[simp] theorem exec_bnRet (l : Fin 4) (s : State) : exec (.bnRet l) s = .next (landed s (doBnRet l s)) := rfl

/-- The cset arm. -/
@[simp] theorem exec_cset (l : Fin 4) (s : State) : exec (.cset l) s = .next (landed s (doCset l s)) := rfl

/-- The cloop arm. -/
@[simp] theorem exec_cloop (l : Fin 4) (s : State) : exec (.cloop l) s = .next (landed s (doCloop l s)) := rfl

/-- The setlen arm. -/
@[simp] theorem exec_setlen (l : Fin 4) (s : State) : exec (.setlen l) s = .next (landed s (doSetlen l s)) := rfl

/-- The modset arm. -/
@[simp] theorem exec_modset (l : Fin 4) (s : State) : exec (.modset l) s = .next (landed s (doModset l s)) := rfl

/-- The bnMov arm. -/
@[simp] theorem exec_bnMov (l : Fin 4) (s : State) : exec (.bnMov l) s = .next (landed s (doBnMov l s)) := rfl

/-- The ldc arm. -/
@[simp] theorem exec_ldc (l : Fin 4) (s : State) : exec (.ldc l) s = .next (landed s (doLdc l s)) := rfl

/-- The bnGet arm. -/
@[simp] theorem exec_bnGet (l : Fin 4) (host : List (Nat × Bytes)) (s : State) : exec (.bnGet l host) s = .next (landed s (doBnGet l host s)) := rfl

/-- The bnPut arm. -/
@[simp] theorem exec_bnPut (l : Fin 4) (s : State) : exec (.bnPut l) s = .next (landed s (doBnPut l s)) := rfl

/-- The kload arm. -/
@[simp] theorem exec_kload (l : Fin 4) (s : State) : exec (.kload l) s = .next (landed s (doKload l s)) := rfl

/-- The bnRand arm. -/
@[simp] theorem exec_bnRand (l : Fin 4) (s : State) : exec (.bnRand l) s = .next (landed s (doBnRand l s)) := rfl

/-- The mmul arm. -/
@[simp] theorem exec_mmul (l : Fin 4) (s : State) : exec (.mmul l) s = .next (landed s (doMmul l s)) := rfl

/-- The madd arm. -/
@[simp] theorem exec_madd (l : Fin 4) (s : State) : exec (.madd l) s = .next (landed s (doMadd l s)) := rfl

/-- The msub arm. -/
@[simp] theorem exec_msub (l : Fin 4) (s : State) : exec (.msub l) s = .next (landed s (doMsub l s)) := rfl

/-- The minv arm. -/
@[simp] theorem exec_minv (l : Fin 4) (s : State) : exec (.minv l) s = .next (landed s (doMinv l s)) := rfl

/-- The bnCmp arm. -/
@[simp] theorem exec_bnCmp (l : Fin 4) (s : State) : exec (.bnCmp l) s = .next (landed s (doBnCmp l s)) := rfl

/-- The bnAdd arm. -/
@[simp] theorem exec_bnAdd (l : Fin 4) (s : State) : exec (.bnAdd l) s = .next (landed s (doBnAdd l s)) := rfl

/-- The bnSub arm. -/
@[simp] theorem exec_bnSub (l : Fin 4) (s : State) : exec (.bnSub l) s = .next (landed s (doBnSub l s)) := rfl

/-- The bnShl arm. -/
@[simp] theorem exec_bnShl (l : Fin 4) (s : State) : exec (.bnShl l) s = .next (landed s (doBnShl l s)) := rfl

/-- The bnShr arm. -/
@[simp] theorem exec_bnShr (l : Fin 4) (s : State) : exec (.bnShr l) s = .next (landed s (doBnShr l s)) := rfl

/-- The btst arm. -/
@[simp] theorem exec_btst (l : Fin 4) (s : State) : exec (.btst l) s = .next (landed s (doBtst l s)) := rfl

/-- The cswap arm. -/
@[simp] theorem exec_cswap (l : Fin 4) (s : State) : exec (.cswap l) s = .next (landed s (doCswap l s)) := rfl

/-- The wipe arm. -/
@[simp] theorem exec_wipe (l : Fin 4) (s : State) : exec (.wipe l) s = .next (landed s (doWipe l s)) := rfl

/-- The qset arm. -/
@[simp] theorem exec_qset (l : Fin 4) (s : State) : exec (.qset l) s = .next (landed s (doQset l s)) := rfl

/-- The ntt arm. -/
@[simp] theorem exec_ntt (l : Fin 4) (s : State) : exec (.ntt l) s = .next (landed s (doNtt l s)) := rfl

/-- The intt arm. -/
@[simp] theorem exec_intt (l : Fin 4) (s : State) : exec (.intt l) s = .next (landed s (doIntt l s)) := rfl

/-- The pmul arm. -/
@[simp] theorem exec_pmul (l : Fin 4) (s : State) : exec (.pmul l) s = .next (landed s (doPmul l s)) := rfl

/-- The padd arm. -/
@[simp] theorem exec_padd (l : Fin 4) (s : State) : exec (.padd l) s = .next (landed s (doPadd l s)) := rfl

/-- The psub arm. -/
@[simp] theorem exec_psub (l : Fin 4) (s : State) : exec (.psub l) s = .next (landed s (doPsub l s)) := rfl

/-- The pmap arm. -/
@[simp] theorem exec_pmap (l : Fin 4) (s : State) : exec (.pmap l) s = .next (landed s (doPmap l s)) := rfl

/-- The psamp arm. -/
@[simp] theorem exec_psamp (l : Fin 4) (s : State) : exec (.psamp l) s = .next (landed s (doPsamp l s)) := rfl

/-- The pget arm. -/
@[simp] theorem exec_pget (l : Fin 4) (host : List (Nat × Bytes)) (s : State) : exec (.pget l host) s = .next (landed s (doPget l host s)) := rfl

/-- The pput arm. -/
@[simp] theorem exec_pput (l : Fin 4) (s : State) : exec (.pput l) s = .next (landed s (doPput l s)) := rfl

/-- The pfmt arm. -/
@[simp] theorem exec_pfmt (l : Fin 4) (s : State) : exec (.pfmt l) s = .next (landed s (doPfmt l s)) := rfl

/-- The hinit arm. -/
@[simp] theorem exec_hinit (l : Fin 4) (s : State) : exec (.hinit l) s = .next (landed s (doHinit l s)) := rfl

/-- The habs arm. -/
@[simp] theorem exec_habs (l : Fin 4) (s : State) : exec (.habs l) s = .next (landed s (doHabs l s)) := rfl

/-- The habsi arm. -/
@[simp] theorem exec_habsi (l : Fin 4) (host : List (Nat × Bytes)) (s : State) : exec (.habsi l host) s = .next (landed s (doHabsi l host s)) := rfl

/-- The hmsg arm. -/
@[simp] theorem exec_hmsg (l : Fin 4) (host : List (Nat × Bytes)) (s : State) : exec (.hmsg l host) s = .next (landed s (doHmsg l host s)) := rfl

/-- The hsqz arm. -/
@[simp] theorem exec_hsqz (l : Fin 4) (s : State) : exec (.hsqz l) s = .next (landed s (doHsqz l s)) := rfl

/-- The bneWsdataRead arm. -/
@[simp] theorem exec_bneWsdataRead (i : Initiator) (n : Fin 4) (s : State) : exec (.bneWsdataRead i n) s = .next (landed s (doBneWsdataRead i n s)) := rfl

/-- The bncSdataWrite arm. -/
@[simp] theorem exec_bncSdataWrite (i : Initiator) (v : Word) (s : State) : exec (.bncSdataWrite i v) s = .next (landed s (doBncSdataWrite i v s)) := rfl

/-- The bncCrccmd arm. -/
@[simp] theorem exec_bncCrccmd (i : Initiator) (v : Word) (s : State) : exec (.bncCrccmd i v) s = .next (landed s (doBncCrccmd i v s)) := rfl

/-- The bncCrcDone arm. -/
@[simp] theorem exec_bncCrcDone (s : State) : exec .bncCrcDone s = .next (landed s (doBncCrcDone s)) := rfl

/-- The nopOp arm. -/
@[simp] theorem exec_nopOp (h : Head) (s : State) : exec (.nopOp h) s = .next (landed s (doNopOp h s)) := rfl

/-- The fence arm. -/
@[simp] theorem exec_fence (h : Head) (s : State) : exec (.fence h) s = .next (landed s (doFence h s)) := rfl

/-- The wfe arm. -/
@[simp] theorem exec_wfe (h : Head) (s : State) : exec (.wfe h) s = .next (landed s (doWfe h s)) := rfl

/-- The wfeRelease arm. -/
@[simp] theorem exec_wfeRelease (c : CoreId) (s : State) : exec (.wfeRelease c) s = .next (landed s (doWfeRelease c s)) := rfl

/-- The retOp arm. -/
@[simp] theorem exec_retOp (h : Head) (s : State) : exec (.retOp h) s = .next (landed s (doRetOp h s)) := rfl

/-- The trap arm. -/
@[simp] theorem exec_trap (h : Head) (n : BitVec 8) (s : State) : exec (.trap h n) s = .next (landed s (doTrap h n s)) := rfl

/-- The callOp arm. -/
@[simp] theorem exec_callOp (h : Head) (rel : Field) (s : State) : exec (.callOp h rel) s = .next (landed s (doCallOp h rel s)) := rfl

/-- The callr arm. -/
@[simp] theorem exec_callr (h : Head) (r : Gpr) (s : State) : exec (.callr h r) s = .next (landed s (doCallr h r s)) := rfl

/-- The jmp arm. -/
@[simp] theorem exec_jmp (h : Head) (rel : Field) (s : State) : exec (.jmp h rel) s = .next (landed s (doJmp h rel s)) := rfl

/-- The jmpr arm. -/
@[simp] theorem exec_jmpr (h : Head) (r : Gpr) (s : State) : exec (.jmpr h r) s = .next (landed s (doJmpr h r s)) := rfl

/-- The bcc arm. -/
@[simp] theorem exec_bcc (h : Head) (cc : Fin 16) (rel : Field) (s : State) : exec (.bcc h cc rel) s = .next (landed s (doBcc h cc rel s)) := rfl

/-- The cbcc arm. -/
@[simp] theorem exec_cbcc (h : Head) (wide : Bool) (cc : Fin 16) (d r : Gpr) (rel : BitVec 16) (s : State) : exec (.cbcc h wide cc d r rel) s = .next (landed s (doCbcc h wide cc d r rel s)) := rfl

/-- The cbicc arm. -/
@[simp] theorem exec_cbicc (h : Head) (wide : Bool) (cc : Fin 16) (d : Gpr) (imm : Word) (rel : BitVec 16) (s : State) : exec (.cbicc h wide cc d imm rel) s = .next (landed s (doCbicc h wide cc d imm rel s)) := rfl

/-- The gateCall arm. -/
@[simp] theorem exec_gateCall (h : Head) (g : BitVec 16) (s : State) : exec (.gateCall h g) s = .next (landed s (doGateCall h g s)) := rfl

/-- The gateReturn arm. -/
@[simp] theorem exec_gateReturn (h : Head) (s : State) : exec (.gateReturn h) s = .next (landed s (doGateReturn h s)) := rfl

/-- The eret arm. -/
@[simp] theorem exec_eret (h : Head) (cross : Bool) (s : State) : exec (.eret h cross) s = .next (landed s (doEret h cross s)) := rfl

/-- The mfs arm. -/
@[simp] theorem exec_mfs (h : Head) (d : Gpr) (n : BitVec 8) (s : State) : exec (.mfs h d n) s = .next (landed s (doMfs h d n s)) := rfl

/-- The mts arm. -/
@[simp] theorem exec_mts (h : Head) (n : BitVec 8) (r : Gpr) (s : State) : exec (.mts h n r) s = .next (landed s (doMts h n r s)) := rfl

/-- The divu arm. -/
@[simp] theorem exec_divu (h : Head) (d r : Gpr) (s : State) : exec (.divu h d r) s = .next (landed s (doDivu h d r s)) := rfl

/-- The divs arm. -/
@[simp] theorem exec_divs (h : Head) (d r : Gpr) (s : State) : exec (.divs h d r) s = .next (landed s (doDivs h d r s)) := rfl

/-- The remu arm. -/
@[simp] theorem exec_remu (h : Head) (d r : Gpr) (s : State) : exec (.remu h d r) s = .next (landed s (doRemu h d r s)) := rfl

/-- The rems arm. -/
@[simp] theorem exec_rems (h : Head) (d r : Gpr) (s : State) : exec (.rems h d r) s = .next (landed s (doRems h d r s)) := rfl

/-- The stwi arm. -/
@[simp] theorem exec_stwi (h : Head) (wide : Bool) (r : Gpr) (disp : Word) (imm : BitVec 16) (s : State) : exec (.stwi h wide r disp imm) s = .next (landed s (doStwi h wide r disp imm s)) := rfl

/-- The sextb arm. -/
@[simp] theorem exec_sextb (h : Head) (d r : Gpr) (s : State) : exec (.sextb h d r) s = .next (landed s (doSextb h d r s)) := rfl

/-- The sexth arm. -/
@[simp] theorem exec_sexth (h : Head) (d r : Gpr) (s : State) : exec (.sexth h d r) s = .next (landed s (doSexth h d r s)) := rfl

/-- The zextb arm. -/
@[simp] theorem exec_zextb (h : Head) (d r : Gpr) (s : State) : exec (.zextb h d r) s = .next (landed s (doZextb h d r s)) := rfl

/-- The zexth arm. -/
@[simp] theorem exec_zexth (h : Head) (d r : Gpr) (s : State) : exec (.zexth h d r) s = .next (landed s (doZexth h d r s)) := rfl

/-- The clz arm. -/
@[simp] theorem exec_clz (h : Head) (d r : Gpr) (s : State) : exec (.clz h d r) s = .next (landed s (doClz h d r s)) := rfl

/-- The bswap arm. -/
@[simp] theorem exec_bswap (h : Head) (wide : Bool) (d r : Gpr) (s : State) : exec (.bswap h wide d r) s = .next (landed s (doBswap h wide d r s)) := rfl

/-- The setcc arm. -/
@[simp] theorem exec_setcc (h : Head) (cc : Fin 16) (d : Gpr) (s : State) : exec (.setcc h cc d) s = .next (landed s (doSetcc h cc d s)) := rfl

/-- The cselcc arm. -/
@[simp] theorem exec_cselcc (h : Head) (wide : Bool) (cc : Fin 16) (d r : Gpr) (s : State) : exec (.cselcc h wide cc d r) s = .next (landed s (doCselcc h wide cc d r s)) := rfl

/-- The addOp arm. -/
@[simp] theorem exec_addOp (h : Head) (wide : Bool) (d : Gpr) (src : Src) (s : State) : exec (.addOp h wide d src) s = .next (landed s (doAddOp h wide d src s)) := rfl

/-- The adcOp arm. -/
@[simp] theorem exec_adcOp (h : Head) (wide : Bool) (d : Gpr) (src : Src) (s : State) : exec (.adcOp h wide d src) s = .next (landed s (doAdcOp h wide d src s)) := rfl

/-- The subOp arm. -/
@[simp] theorem exec_subOp (h : Head) (wide : Bool) (d : Gpr) (src : Src) (s : State) : exec (.subOp h wide d src) s = .next (landed s (doSubOp h wide d src s)) := rfl

/-- The sbcOp arm. -/
@[simp] theorem exec_sbcOp (h : Head) (wide : Bool) (d : Gpr) (src : Src) (s : State) : exec (.sbcOp h wide d src) s = .next (landed s (doSbcOp h wide d src s)) := rfl

/-- The andOp arm. -/
@[simp] theorem exec_andOp (h : Head) (wide : Bool) (d : Gpr) (src : Src) (s : State) : exec (.andOp h wide d src) s = .next (landed s (doAndOp h wide d src s)) := rfl

/-- The orOp arm. -/
@[simp] theorem exec_orOp (h : Head) (wide : Bool) (d : Gpr) (src : Src) (s : State) : exec (.orOp h wide d src) s = .next (landed s (doOrOp h wide d src s)) := rfl

/-- The xorOp arm. -/
@[simp] theorem exec_xorOp (h : Head) (wide : Bool) (d : Gpr) (src : Src) (s : State) : exec (.xorOp h wide d src) s = .next (landed s (doXorOp h wide d src s)) := rfl

/-- The cmpOp arm. -/
@[simp] theorem exec_cmpOp (h : Head) (wide : Bool) (d : Gpr) (src : Src) (s : State) : exec (.cmpOp h wide d src) s = .next (landed s (doCmpOp h wide d src s)) := rfl

/-- The tstOp arm. -/
@[simp] theorem exec_tstOp (h : Head) (wide : Bool) (d : Gpr) (src : Src) (s : State) : exec (.tstOp h wide d src) s = .next (landed s (doTstOp h wide d src s)) := rfl

/-- The movOp arm. -/
@[simp] theorem exec_movOp (h : Head) (wide : Bool) (d : Gpr) (src : Src) (s : State) : exec (.movOp h wide d src) s = .next (landed s (doMovOp h wide d src s)) := rfl

/-- The shlOp arm. -/
@[simp] theorem exec_shlOp (h : Head) (wide : Bool) (d : Gpr) (n : Count) (s : State) : exec (.shlOp h wide d n) s = .next (landed s (doShlOp h wide d n s)) := rfl

/-- The shrOp arm. -/
@[simp] theorem exec_shrOp (h : Head) (wide : Bool) (d : Gpr) (n : Count) (s : State) : exec (.shrOp h wide d n) s = .next (landed s (doShrOp h wide d n s)) := rfl

/-- The sarOp arm. -/
@[simp] theorem exec_sarOp (h : Head) (wide : Bool) (d : Gpr) (n : Count) (s : State) : exec (.sarOp h wide d n) s = .next (landed s (doSarOp h wide d n s)) := rfl

/-- The rorOp arm. -/
@[simp] theorem exec_rorOp (h : Head) (wide : Bool) (d : Gpr) (n : Count) (s : State) : exec (.rorOp h wide d n) s = .next (landed s (doRorOp h wide d n s)) := rfl

/-- The mulOp arm. -/
@[simp] theorem exec_mulOp (h : Head) (d r : Gpr) (s : State) : exec (.mulOp h d r) s = .next (landed s (doMulOp h d r s)) := rfl

/-- The mulhuOp arm. -/
@[simp] theorem exec_mulhuOp (h : Head) (d r : Gpr) (s : State) : exec (.mulhuOp h d r) s = .next (landed s (doMulhuOp h d r s)) := rfl

/-- The ldb arm. -/
@[simp] theorem exec_ldb (h : Head) (d r : Gpr) (disp : Field) (b : BankEvent) (s : State) : exec (.ldb h d r disp b) s = .next (landed s (doLdb h d r disp b s)) := rfl

/-- The ldbs arm. -/
@[simp] theorem exec_ldbs (h : Head) (d r : Gpr) (disp : Field) (b : BankEvent) (s : State) : exec (.ldbs h d r disp b) s = .next (landed s (doLdbs h d r disp b s)) := rfl

/-- The ldh arm. -/
@[simp] theorem exec_ldh (h : Head) (d r : Gpr) (disp : Field) (b : BankEvent) (s : State) : exec (.ldh h d r disp b) s = .next (landed s (doLdh h d r disp b s)) := rfl

/-- The ldhs arm. -/
@[simp] theorem exec_ldhs (h : Head) (d r : Gpr) (disp : Field) (b : BankEvent) (s : State) : exec (.ldhs h d r disp b) s = .next (landed s (doLdhs h d r disp b s)) := rfl

/-- The ldw arm. -/
@[simp] theorem exec_ldw (h : Head) (wide : Bool) (d r : Gpr) (disp : Field) (b : BankEvent) (s : State) : exec (.ldw h wide d r disp b) s = .next (landed s (doLdw h wide d r disp b s)) := rfl

/-- The stb arm. -/
@[simp] theorem exec_stb (h : Head) (d r : Gpr) (disp : Field) (b : BankEvent) (s : State) : exec (.stb h d r disp b) s = .next (landed s (doStb h d r disp b s)) := rfl

/-- The sth arm. -/
@[simp] theorem exec_sth (h : Head) (d r : Gpr) (disp : Field) (b : BankEvent) (s : State) : exec (.sth h d r disp b) s = .next (landed s (doSth h d r disp b s)) := rfl

/-- The stw arm. -/
@[simp] theorem exec_stw (h : Head) (wide : Bool) (d r : Gpr) (disp : Field) (s : State) : exec (.stw h wide d r disp) s = .next (landed s (doStw h wide d r disp s)) := rfl

/-- The atomicSwap arm. -/
@[simp] theorem exec_atomicSwap (h : Head) (wide : Bool) (d r : Gpr) (disp : Field) (b : BankEvent) (s : State) : exec (.atomicSwap h wide d r disp b) s = .next (landed s (doAtomicSwap h wide d r disp b s)) := rfl

/-- The atomicAdd arm. -/
@[simp] theorem exec_atomicAdd (h : Head) (wide : Bool) (d : Gpr) (imm : Option (BitVec 16)) (r : Gpr) (disp : Field) (b : BankEvent) (s : State) : exec (.atomicAdd h wide d imm r disp b) s = .next (landed s (doAtomicAdd h wide d imm r disp b s)) := rfl

/-- The ldpc arm. -/
@[simp] theorem exec_ldpc (h : Head) (wide : Bool) (d : Gpr) (rel : Word) (b : BankEvent) (s : State) : exec (.ldpc h wide d rel b) s = .next (landed s (doLdpc h wide d rel b s)) := rfl

/-- The lea arm. -/
@[simp] theorem exec_lea (h : Head) (d r : Gpr) (disp : Word) (s : State) : exec (.lea h d r disp) s = .next (landed s (doLea h d r disp s)) := rfl

/-- The leapc arm. -/
@[simp] theorem exec_leapc (h : Head) (d : Gpr) (rel : Word) (s : State) : exec (.leapc h d rel) s = .next (landed s (doLeapc h d rel s)) := rfl

/-- The push arm. -/
@[simp] theorem exec_push (h : Head) (wide : Bool) (r : Gpr) (s : State) : exec (.push h wide r) s = .next (landed s (doPush h wide r s)) := rfl

/-- The pop arm. -/
@[simp] theorem exec_pop (h : Head) (wide : Bool) (d : Gpr) (b : BankEvent) (s : State) : exec (.pop h wide d b) s = .next (landed s (doPop h wide d b s)) := rfl

/-- The vcmd arm. -/
@[simp] theorem exec_vcmd (h : Head) (d r : Gpr) (s : State) : exec (.vcmd h d r) s = .next (landed s (doVcmd h d r s)) := rfl

/-- The ajob arm. -/
@[simp] theorem exec_ajob (h : Head) (d r : Gpr) (s : State) : exec (.ajob h d r) s = .next (landed s (doAjob h d r s)) := rfl

/-- The hjob arm. -/
@[simp] theorem exec_hjob (h : Head) (d r : Gpr) (s : State) : exec (.hjob h d r) s = .next (landed s (doHjob h d r s)) := rfl

/-- The lsign arm. -/
@[simp] theorem exec_lsign (h : Head) (d r : Gpr) (s : State) : exec (.lsign h d r) s = .next (landed s (doLsign h d r s)) := rfl

/-- The cp2Seal arm. -/
@[simp] theorem exec_cp2Seal (h : Head) (d r : Gpr) (s : State) : exec (.cp2Seal h d r) s = .next (landed s (doCp2Seal h d r s)) := rfl

/-- The bjob arm. -/
@[simp] theorem exec_bjob (h : Head) (d r : Gpr) (s : State) : exec (.bjob h d r) s = .next (landed s (doBjob h d r s)) := rfl

/-- The tickWait arm. -/
@[simp] theorem exec_tickWait (h : Head) (cp : Fin 4) (d r : Gpr) (s : State) : exec (.tickWait h cp d r) s = .next (landed s (doTickWait h cp d r s)) := rfl

/-- The tickPoll arm. -/
@[simp] theorem exec_tickPoll (h : Head) (cp : Fin 4) (d r : Gpr) (s : State) : exec (.tickPoll h cp d r) s = .next (landed s (doTickPoll h cp d r s)) := rfl

/-- The ticketDone arm. -/
@[simp] theorem exec_ticketDone (s : State) : exec .ticketDone s = .next (landed s (doTicketDone s)) := rfl

/-- The cpSnap arm. -/
@[simp] theorem exec_cpSnap (h : Head) (d r : Gpr) (s : State) : exec (.cpSnap h d r) s = .next (landed s (doCpSnap h d r s)) := rfl

/-- The snapw arm. -/
@[simp] theorem exec_snapw (h : Head) (d r : Gpr) (s : State) : exec (.snapw h d r) s = .next (landed s (doSnapw h d r s)) := rfl

/-- The cpPreset arm. -/
@[simp] theorem exec_cpPreset (h : Head) (d r : Gpr) (target : BitVec 8) (s : State) : exec (.cpPreset h d r target) s = .next (landed s (doCpPreset h d r target s)) := rfl

/-- The presetw arm. -/
@[simp] theorem exec_presetw (h : Head) (d r : Gpr) (s : State) : exec (.presetw h d r) s = .next (landed s (doPresetw h d r s)) := rfl

/-- The cp5Push arm. -/
@[simp] theorem exec_cp5Push (h : Head) (d r : Gpr) (s : State) : exec (.cp5Push h d r) s = .next (landed s (doCp5Push h d r s)) := rfl

/-- The pushl arm. -/
@[simp] theorem exec_pushl (h : Head) (d r : Gpr) (s : State) : exec (.pushl h d r) s = .next (landed s (doPushl h d r s)) := rfl

/-- The rewind arm. -/
@[simp] theorem exec_rewind (h : Head) (r : Gpr) (s : State) : exec (.rewind h r) s = .next (landed s (doRewind h r s)) := rfl

/-- The cp5Pop arm. -/
@[simp] theorem exec_cp5Pop (h : Head) (d r : Gpr) (s : State) : exec (.cp5Pop h d r) s = .next (landed s (doCp5Pop h d r s)) := rfl

/-- The popw arm. -/
@[simp] theorem exec_popw (h : Head) (d r : Gpr) (s : State) : exec (.popw h d r) s = .next (landed s (doPopw h d r s)) := rfl

/-- The tillLevel arm. -/
@[simp] theorem exec_tillLevel (h : Head) (d r : Gpr) (s : State) : exec (.tillLevel h d r) s = .next (landed s (doTillLevel h d r s)) := rfl

/-- The exceptionEntry arm. -/
@[simp] theorem exec_exceptionEntry (c : CoreId) (e : ExcEvent) (s : State) : exec (.exceptionEntry c e) s = .next (landed s (doExceptionEntry c e s)) := rfl

/-- The interruptEntry arm. -/
@[simp] theorem exec_interruptEntry (c : CoreId) (s : State) : exec (.interruptEntry c) s = .next (landed s (doInterruptEntry c s)) := rfl

/-- The lockstepMismatch arm. -/
@[simp] theorem exec_lockstepMismatch (s : State) : exec .lockstepMismatch s = .next (landed s (doLockstepMismatch s)) := rfl

/-- The ac1CtrlEn arm. -/
@[simp] theorem exec_ac1CtrlEn (i : Initiator) (en : Bool) (s : State) : exec (.ac1CtrlEn i en) s = .next (landed s (doAc1CtrlEn i en s)) := rfl

/-- The coreGdataWrite arm. -/
@[simp] theorem exec_coreGdataWrite (i : Initiator) (c : Fin 2) (v : Word) (s : State) : exec (.coreGdataWrite i c v) s = .next (landed s (doCoreGdataWrite i c v s)) := rfl

/-- The coreGset arm. -/
@[simp] theorem exec_coreGset (i : Initiator) (c : Fin 2) (v : Word) (s : State) : exec (.coreGset i c v) s = .next (landed s (doCoreGset i c v s)) := rfl

/-- The coreCycRead arm. -/
@[simp] theorem exec_coreCycRead (i : Initiator) (c : CoreId) (s : State) : exec (.coreCycRead i c) s = .next (landed s (doCoreCycRead i c s)) := rfl

/-- The mccClaim arm. -/
@[simp] theorem exec_mccClaim (i : Initiator) (s : State) : exec (.mccClaim i) s = .next (landed s (doMccClaim i s)) := rfl

/-- The mccDone arm. -/
@[simp] theorem exec_mccDone (i : Initiator) (v : Word) (s : State) : exec (.mccDone i v) s = .next (landed s (doMccDone i v s)) := rfl

/-- The mccSwdbSet arm. -/
@[simp] theorem exec_mccSwdbSet (i : Initiator) (v : Word) (s : State) : exec (.mccSwdbSet i v) s = .next (landed s (doMccSwdbSet i v s)) := rfl

/-- The mccWdkick arm. -/
@[simp] theorem exec_mccWdkick (i : Initiator) (v : Word) (s : State) : exec (.mccWdkick i v) s = .next (landed s (doMccWdkick i v s)) := rfl

/-- The metrologyWatchdogWarn arm. -/
@[simp] theorem exec_metrologyWatchdogWarn (s : State) : exec .metrologyWatchdogWarn s = .next (landed s (doMetrologyWatchdogWarn s)) := rfl

/-- The wdrM arm. -/
@[simp] theorem exec_wdrM (s : State) : exec .wdrM s = .next (landed s (doWdrM s)) := rfl

/-- The mccLoadDone arm. -/
@[simp] theorem exec_mccLoadDone (s : State) : exec .mccLoadDone s = .next (landed s (doMccLoadDone s)) := rfl

/-- The btVisitStart arm. -/
@[simp] theorem exec_btVisitStart (s : State) : exec .btVisitStart s = .next (landed s (doBtVisitStart s)) := rfl

/-- The btCopyDone arm. -/
@[simp] theorem exec_btCopyDone (corr : List (Fin 64)) (s : State) : exec (.btCopyDone corr) s = .next (landed s (doBtCopyDone corr s)) := rfl

/-- The btTestDone arm. -/
@[simp] theorem exec_btTestDone (fails : Bool) (s : State) : exec (.btTestDone fails) s = .next (landed s (doBtTestDone fails s)) := rfl

/-- The btRestoreDone arm. -/
@[simp] theorem exec_btRestoreDone (s : State) : exec .btRestoreDone s = .next (landed s (doBtRestoreDone s)) := rfl

/-- The btSpareTest arm. -/
@[simp] theorem exec_btSpareTest (failing : List (Fin 32)) (s : State) : exec (.btSpareTest failing) s = .next (landed s (doBtSpareTest failing s)) := rfl

/-- The bankWithdraw arm. -/
@[simp] theorem exec_bankWithdraw (i : Initiator) (bank : Fin 32) (s : State) : exec (.bankWithdraw i bank) s = .next (landed s (doBankWithdraw i bank s)) := rfl

/-- The bankReturn arm. -/
@[simp] theorem exec_bankReturn (i : Initiator) (bank : Fin 32) (failing : List (Fin 1024)) (spareFails : Nat) (s : State) : exec (.bankReturn i bank failing spareFails) s = .next (landed s (doBankReturn i bank failing spareFails s)) := rfl

/-- The bankClearDone arm. -/
@[simp] theorem exec_bankClearDone (s : State) : exec .bankClearDone s = .next (landed s (doBankClearDone s)) := rfl

/-- The chnEnable arm. -/
@[simp] theorem exec_chnEnable (i : Initiator) (n : Fin 64) (cfg : Word) (s : State) : exec (.chnEnable i n cfg) s = .next (landed s (doChnEnable i n cfg s)) := rfl

/-- The chnDisable arm. -/
@[simp] theorem exec_chnDisable (i : Initiator) (n : Fin 64) (s : State) : exec (.chnDisable i n) s = .next (landed s (doChnDisable i n s)) := rfl

/-- The dbSqtail arm. -/
@[simp] theorem exec_dbSqtail (i : Initiator) (n : Fin 64) (v : Word) (s : State) : exec (.dbSqtail i n v) s = .next (landed s (doDbSqtail i n v s)) := rfl

/-- The dbCqhead arm. -/
@[simp] theorem exec_dbCqhead (i : Initiator) (n : Fin 64) (v : Word) (s : State) : exec (.dbCqhead i n v) s = .next (landed s (doDbCqhead i n v s)) := rfl

/-- The descFetch arm. -/
@[simp] theorem exec_descFetch (n : Fin 64) (k : Nat) (s : State) : exec (.descFetch n k) s = .next (landed s (doDescFetch n k s)) := rfl

/-- The descArrive arm. -/
@[simp] theorem exec_descArrive (n : Fin 64) (d : DmaData) (s : State) : exec (.descArrive n d) s = .next (landed s (doDescArrive n d s)) := rfl

/-- The completionWrite arm. -/
@[simp] theorem exec_completionWrite (coll : Option Bool) (s : State) : exec (.completionWrite coll) s = .next (landed s (doCompletionWrite coll s)) := rfl

/-- The cqCoalTimeout arm. -/
@[simp] theorem exec_cqCoalTimeout (n : Fin 64) (s : State) : exec (.cqCoalTimeout n) s = .next (landed s (doCqCoalTimeout n s)) := rfl

/-- The tokenRefill arm. -/
@[simp] theorem exec_tokenRefill (n : Fin 64) (s : State) : exec (.tokenRefill n) s = .next (landed s (doTokenRefill n s)) := rfl

/-- The chnAbort arm. -/
@[simp] theorem exec_chnAbort (i : Initiator) (n : Fin 64) (s : State) : exec (.chnAbort i n) s = .next (landed s (doChnAbort i n s)) := rfl

/-- The chanNop arm. -/
@[simp] theorem exec_chanNop (n : Fin 64) (s : State) : exec (.chanNop n) s = .next (landed s (doChanNop n s)) := rfl

/-- The chanCopy arm. -/
@[simp] theorem exec_chanCopy (n : Fin 64) (data : Bytes) (s : State) : exec (.chanCopy n data) s = .next (landed s (doChanCopy n data s)) := rfl

/-- The tillRead arm. -/
@[simp] theorem exec_tillRead (n : Fin 64) (s : State) : exec (.tillRead n) s = .next (landed s (doTillRead n s)) := rfl

/-- The tillReadTimeout arm. -/
@[simp] theorem exec_tillReadTimeout (n : Fin 64) (s : State) : exec (.tillReadTimeout n) s = .next (landed s (doTillReadTimeout n s)) := rfl

/-- The tillWrite arm. -/
@[simp] theorem exec_tillWrite (n : Fin 64) (d : DmaData) (s : State) : exec (.tillWrite n d) s = .next (landed s (doTillWrite n d s)) := rfl

/-- The dmaTimeout arm. -/
@[simp] theorem exec_dmaTimeout (n : Fin 64) (k : Nat) (got : Bytes) (s : State) : exec (.dmaTimeout n k got) s = .next (landed s (doDmaTimeout n k got s)) := rfl

/-- The dmaReadError arm. -/
@[simp] theorem exec_dmaReadError (n : Fin 64) (k : Nat) (e : ReadError) (got : Bytes) (s : State) : exec (.dmaReadError n k e got) s = .next (landed s (doDmaReadError n k e got s)) := rfl

/-- The tillEnable arm. -/
@[simp] theorem exec_tillEnable (i : Initiator) (t : Fin 128) (cfg : Word) (s : State) : exec (.tillEnable i t cfg) s = .next (landed s (doTillEnable i t cfg s)) := rfl

/-- The tillDisable arm. -/
@[simp] theorem exec_tillDisable (i : Initiator) (t : Fin 128) (s : State) : exec (.tillDisable i t) s = .next (landed s (doTillDisable i t s)) := rfl

/-- The tillFlush arm. -/
@[simp] theorem exec_tillFlush (i : Initiator) (t : Fin 128) (s : State) : exec (.tillFlush i t) s = .next (landed s (doTillFlush i t s)) := rfl

/-- The tillStale arm. -/
@[simp] theorem exec_tillStale (t : Fin 128) (s : State) : exec (.tillStale t) s = .next (landed s (doTillStale t s)) := rfl

/-- The tillPtrerr arm. -/
@[simp] theorem exec_tillPtrerr (t : Fin 128) (s : State) : exec (.tillPtrerr t) s = .next (landed s (doTillPtrerr t s)) := rfl

/-- The crstNRise arm. -/
@[simp] theorem exec_crstNRise (s : State) : exec .crstNRise s = .next (landed s (doCrstNRise s)) := rfl

/-- The modeSelect arm. -/
@[simp] theorem exec_modeSelect (cdat1 : Bool) (s : State) : exec (.modeSelect cdat1) s = .next (landed s (doModeSelect cdat1 s)) := rfl

/-- The crstNFall arm. -/
@[simp] theorem exec_crstNFall (s : State) : exec .crstNFall s = .next (landed s (doCrstNFall s)) := rfl

/-- The atr arm. -/
@[simp] theorem exec_atr (inRange : Bool) (s : State) : exec (.atr inRange) s = .next (landed s (doAtr inRange s)) := rfl

/-- The pps arm. -/
@[simp] theorem exec_pps (m : Bytes) (s : State) : exec (.pps m) s = .next (landed s (doPps m s)) := rfl

/-- The writeBuf arm. -/
@[simp] theorem exec_writeBuf (m : PortCmd) (s : State) : exec (.writeBuf m) s = .next (landed s (doWriteBuf m s)) := rfl

/-- The readBuf arm. -/
@[simp] theorem exec_readBuf (m : PortCmd) (s : State) : exec (.readBuf m) s = .next (landed s (doReadBuf m s)) := rfl

/-- The cpSubmit arm. -/
@[simp] theorem exec_cpSubmit (m : PortCmd) (s : State) : exec (.cpSubmit m) s = .next (landed s (doCpSubmit m s)) := rfl

/-- The cpReap arm. -/
@[simp] theorem exec_cpReap (m : PortCmd) (s : State) : exec (.cpReap m) s = .next (landed s (doCpReap m s)) := rfl

/-- The cpStatus arm. -/
@[simp] theorem exec_cpStatus (m : PortCmd) (s : State) : exec (.cpStatus m) s = .next (landed s (doCpStatus m s)) := rfl

/-- The setPassword arm. -/
@[simp] theorem exec_setPassword (m : PortCmd) (s : State) : exec (.setPassword m) s = .next (landed s (doSetPassword m s)) := rfl

/-- The clearPassword arm. -/
@[simp] theorem exec_clearPassword (m : PortCmd) (s : State) : exec (.clearPassword m) s = .next (landed s (doClearPassword m s)) := rfl

/-- The cpUnlock arm. -/
@[simp] theorem exec_cpUnlock (m : PortCmd) (s : State) : exec (.cpUnlock m) s = .next (landed s (doCpUnlock m s)) := rfl

/-- The lockPort arm. -/
@[simp] theorem exec_lockPort (m : PortCmd) (s : State) : exec (.lockPort m) s = .next (landed s (doLockPort m s)) := rfl

/-- The forceErase arm. -/
@[simp] theorem exec_forceErase (m : PortCmd) (s : State) : exec (.forceErase m) s = .next (landed s (doForceErase m s)) := rfl

/-- The persistDone arm. -/
@[simp] theorem exec_persistDone (s : State) : exec .persistDone s = .next (landed s (doPersistDone s)) := rfl

/-- The cbIdentify arm. -/
@[simp] theorem exec_cbIdentify (f : CardFrame) (line : BitVec 128) (s : State) : exec (.cbIdentify f line) s = .next (landed s (doCbIdentify f line s)) := rfl

/-- The cbAssign arm. -/
@[simp] theorem exec_cbAssign (f : CardFrame) (s : State) : exec (.cbAssign f) s = .next (landed s (doCbAssign f s)) := rfl

/-- The cbRelease arm. -/
@[simp] theorem exec_cbRelease (f : CardFrame) (s : State) : exec (.cbRelease f) s = .next (landed s (doCbRelease f s)) := rfl

/-- The cbSwitch arm. -/
@[simp] theorem exec_cbSwitch (f : CardFrame) (s : State) : exec (.cbSwitch f) s = .next (landed s (doCbSwitch f s)) := rfl

/-- The cbCheck arm. -/
@[simp] theorem exec_cbCheck (f : CardFrame) (s : State) : exec (.cbCheck f) s = .next (landed s (doCbCheck f s)) := rfl

/-- The switchTimeout arm. -/
@[simp] theorem exec_switchTimeout (s : State) : exec .switchTimeout s = .next (landed s (doSwitchTimeout s)) := rfl

/-- The cbSleep arm. -/
@[simp] theorem exec_cbSleep (f : CardFrame) (s : State) : exec (.cbSleep f) s = .next (landed s (doCbSleep f s)) := rfl

/-- The cbWake arm. -/
@[simp] theorem exec_cbWake (f : CardFrame) (s : State) : exec (.cbWake f) s = .next (landed s (doCbWake f s)) := rfl

/-- The frameGapTimeout arm. -/
@[simp] theorem exec_frameGapTimeout (s : State) : exec .frameGapTimeout s = .next (landed s (doFrameGapTimeout s)) := rfl

/-- The perstNFall arm. -/
@[simp] theorem exec_perstNFall (s : State) : exec .perstNFall s = .next (landed s (doPerstNFall s)) := rfl

/-- The perstNRise arm. -/
@[simp] theorem exec_perstNRise (s : State) : exec .perstNRise s = .next (landed s (doPerstNRise s)) := rfl

/-- The flr arm. -/
@[simp] theorem exec_flr (s : State) : exec .flr s = .next (landed s (doFlr s)) := rfl

/-- The pcieLinkUp arm. -/
@[simp] theorem exec_pcieLinkUp (width : Fin 3) (speed : Fin 4) (s : State) : exec (.pcieLinkUp width speed) s = .next (landed s (doPcieLinkUp width speed s)) := rfl

/-- The pcieLinkDown arm. -/
@[simp] theorem exec_pcieLinkDown (s : State) : exec .pcieLinkDown s = .next (landed s (doPcieLinkDown s)) := rfl

/-- The d3hotEntry arm. -/
@[simp] theorem exec_d3hotEntry (s : State) : exec .d3hotEntry s = .next (landed s (doD3hotEntry s)) := rfl

/-- The busMasterEnable arm. -/
@[simp] theorem exec_busMasterEnable (s : State) : exec .busMasterEnable s = .next (landed s (doBusMasterEnable s)) := rfl

/-- The hifH2dWrite arm. -/
@[simp] theorem exec_hifH2dWrite (v : Word) (s : State) : exec (.hifH2dWrite v) s = .next (landed s (doHifH2dWrite v s)) := rfl

/-- The fabTrain arm. -/
@[simp] theorem exec_fabTrain (i : Option Initiator) (p : Fin 4) (s : State) : exec (.fabTrain i p) s = .next (landed s (doFabTrain i p s)) := rfl

/-- The fabDown arm. -/
@[simp] theorem exec_fabDown (i : Initiator) (p : Fin 4) (s : State) : exec (.fabDown i p) s = .next (landed s (doFabDown i p s)) := rfl

/-- The rekey arm. -/
@[simp] theorem exec_rekey (i : Initiator) (p : Fin 4) (s : State) : exec (.rekey i p) s = .next (landed s (doRekey i p s)) := rfl

/-- The linkTrained arm. -/
@[simp] theorem exec_linkTrained (p : Fin 4) (s : State) : exec (.linkTrained p) s = .next (landed s (doLinkTrained p s)) := rfl

/-- The hskOffer arm. -/
@[simp] theorem exec_hskOffer (p : Fin 4) (m : Bytes) (s : State) : exec (.hskOffer p m) s = .next (landed s (doHskOffer p m s)) := rfl

/-- The hskInit arm. -/
@[simp] theorem exec_hskInit (p : Fin 4) (m : Bytes) (s : State) : exec (.hskInit p m) s = .next (landed s (doHskInit p m s)) := rfl

/-- The hskReply arm. -/
@[simp] theorem exec_hskReply (p : Fin 4) (m : Bytes) (s : State) : exec (.hskReply p m) s = .next (landed s (doHskReply p m s)) := rfl

/-- The hskConfirm arm. -/
@[simp] theorem exec_hskConfirm (p : Fin 4) (m : Bytes) (s : State) : exec (.hskConfirm p m) s = .next (landed s (doHskConfirm p m s)) := rfl

/-- The hskChecksDone arm. -/
@[simp] theorem exec_hskChecksDone (p : Fin 4) (s : State) : exec (.hskChecksDone p) s = .next (landed s (doHskChecksDone p s)) := rfl

/-- The hskTimeout arm. -/
@[simp] theorem exec_hskTimeout (p : Fin 4) (s : State) : exec (.hskTimeout p) s = .next (landed s (doHskTimeout p s)) := rfl

/-- The blockLockLost arm. -/
@[simp] theorem exec_blockLockLost (p : Fin 4) (s : State) : exec (.blockLockLost p) s = .next (landed s (doBlockLockLost p s)) := rfl

/-- The keepaliveMiss arm. -/
@[simp] theorem exec_keepaliveMiss (p : Fin 4) (s : State) : exec (.keepaliveMiss p) s = .next (landed s (doKeepaliveMiss p s)) := rfl

/-- The holdoffExpiry arm. -/
@[simp] theorem exec_holdoffExpiry (p : Fin 4) (s : State) : exec (.holdoffExpiry p) s = .next (landed s (doHoldoffExpiry p s)) := rfl

/-- The keepaliveSend arm. -/
@[simp] theorem exec_keepaliveSend (p : Fin 4) (s : State) : exec (.keepaliveSend p) s = .next (landed s (doKeepaliveSend p s)) := rfl

/-- The ackSend arm. -/
@[simp] theorem exec_ackSend (p : Fin 4) (s : State) : exec (.ackSend p) s = .next (landed s (doAckSend p s)) := rfl

/-- The frameReceive arm. -/
@[simp] theorem exec_frameReceive (p : Fin 4) (wire : Bytes) (s : State) : exec (.frameReceive p wire) s = .next (landed s (doFrameReceive p wire s)) := rfl

/-- The ctrlFrame arm. -/
@[simp] theorem exec_ctrlFrame (p : Fin 4) (wire : Bytes) (s : State) : exec (.ctrlFrame p wire) s = .next (landed s (doCtrlFrame p wire s)) := rfl

/-- The replayTimeout arm. -/
@[simp] theorem exec_replayTimeout (p : Fin 4) (s : State) : exec (.replayTimeout p) s = .next (landed s (doReplayTimeout p s)) := rfl

/-- The creditStall arm. -/
@[simp] theorem exec_creditStall (p : Fin 4) (s : State) : exec (.creditStall p) s = .next (landed s (doCreditStall p s)) := rfl

/-- The fabLaneMismatch arm. -/
@[simp] theorem exec_fabLaneMismatch (p : Fin 4) (ok : Bool) (s : State) : exec (.fabLaneMismatch p ok) s = .next (landed s (doFabLaneMismatch p ok s)) := rfl

/-- The discovery arm. -/
@[simp] theorem exec_discovery (p : Fin 4) (s : State) : exec (.discovery p) s = .next (landed s (doDiscovery p s)) := rfl

/-- The agent arm. -/
@[simp] theorem exec_agent (p : Fin 4) (s : State) : exec (.agent p) s = .next (landed s (doAgent p s)) := rfl

/-- The routedForward arm. -/
@[simp] theorem exec_routedForward (p : Fin 4) (s : State) : exec (.routedForward p) s = .next (landed s (doRoutedForward p s)) := rfl

/-- The forwardedIntake arm. -/
@[simp] theorem exec_forwardedIntake (p : Fin 4) (s : State) : exec (.forwardedIntake p) s = .next (landed s (doForwardedIntake p s)) := rfl

/-- The txnReq arm. -/
@[simp] theorem exec_txnReq (p : Fin 4) (s : State) : exec (.txnReq p) s = .next (landed s (doTxnReq p s)) := rfl

/-- The txnRsp arm. -/
@[simp] theorem exec_txnRsp (p : Fin 4) (s : State) : exec (.txnRsp p) s = .next (landed s (doTxnRsp p s)) := rfl

/-- The notify arm. -/
@[simp] theorem exec_notify (p : Fin 4) (s : State) : exec (.notify p) s = .next (landed s (doNotify p s)) := rfl

/-- The unreach arm. -/
@[simp] theorem exec_unreach (p : Fin 4) (s : State) : exec (.unreach p) s = .next (landed s (doUnreach p s)) := rfl

/-- The txnTimeout arm. -/
@[simp] theorem exec_txnTimeout (k : Nat) (s : State) : exec (.txnTimeout k) s = .next (landed s (doTxnTimeout k s)) := rfl

/-- The dedupExpire arm. -/
@[simp] theorem exec_dedupExpire (k : Nat) (s : State) : exec (.dedupExpire k) s = .next (landed s (doDedupExpire k s)) := rfl

/-- The leaseExpire arm. -/
@[simp] theorem exec_leaseExpire (k : Nat) (s : State) : exec (.leaseExpire k) s = .next (landed s (doLeaseExpire k s)) := rfl

/-- The frtAddrWrite arm. -/
@[simp] theorem exec_frtAddrWrite (i : Initiator) (v : Word) (s : State) : exec (.frtAddrWrite i v) s = .next (landed s (doFrtAddrWrite i v s)) := rfl

/-- The leaseRead arm. -/
@[simp] theorem exec_leaseRead (s : State) : exec .leaseRead s = .next (landed s (doLeaseRead s)) := rfl

/-- The frtStage arm. -/
@[simp] theorem exec_frtStage (s : State) : exec .frtStage s = .next (landed s (doFrtStage s)) := rfl

/-- The frtCommit arm. -/
@[simp] theorem exec_frtCommit (s : State) : exec .frtCommit s = .next (landed s (doFrtCommit s)) := rfl

/-- The frtDispose arm. -/
@[simp] theorem exec_frtDispose (s : State) : exec .frtDispose s = .next (landed s (doFrtDispose s)) := rfl

/-- The frtRelease arm. -/
@[simp] theorem exec_frtRelease (s : State) : exec .frtRelease s = .next (landed s (doFrtRelease s)) := rfl

/-- The remoteQuery arm. -/
@[simp] theorem exec_remoteQuery (s : State) : exec .remoteQuery s = .next (landed s (doRemoteQuery s)) := rfl

/-- The clrSend arm. -/
@[simp] theorem exec_clrSend (n : Fin 64) (d : DmaData) (s : State) : exec (.clrSend n d) s = .next (landed s (doClrSend n d s)) := rfl

/-- The clrClear arm. -/
@[simp] theorem exec_clrClear (n : Fin 64) (s : State) : exec (.clrClear n) s = .next (landed s (doClrClear n s)) := rfl

/-- The clrQuery arm. -/
@[simp] theorem exec_clrQuery (n : Fin 64) (s : State) : exec (.clrQuery n) s = .next (landed s (doClrQuery n s)) := rfl

/-- The nvcRead arm. -/
@[simp] theorem exec_nvcRead (i : Initiator) (e : EccFind) (s : State) : exec (.nvcRead i e) s = .next (landed s (doNvcRead i e s)) := rfl

/-- The imgErase arm. -/
@[simp] theorem exec_imgErase (i : Initiator) (s : State) : exec (.imgErase i) s = .next (landed s (doImgErase i s)) := rfl

/-- The imgWrite arm. -/
@[simp] theorem exec_imgWrite (i : Initiator) (s : State) : exec (.imgWrite i) s = .next (landed s (doImgWrite i s)) := rfl

/-- The imgClose arm. -/
@[simp] theorem exec_imgClose (i : Initiator) (s : State) : exec (.imgClose i) s = .next (landed s (doImgClose i s)) := rfl

/-- The pbRead arm. -/
@[simp] theorem exec_pbRead (i : Initiator) (s : State) : exec (.pbRead i) s = .next (landed s (doPbRead i s)) := rfl

/-- The pbWrite arm. -/
@[simp] theorem exec_pbWrite (i : Initiator) (s : State) : exec (.pbWrite i) s = .next (landed s (doPbWrite i s)) := rfl

/-- The pbFlush arm. -/
@[simp] theorem exec_pbFlush (i : Initiator) (s : State) : exec (.pbFlush i) s = .next (landed s (doPbFlush i s)) := rfl

/-- The scrub arm. -/
@[simp] theorem exec_scrub (i : Initiator) (s : State) : exec (.scrub i) s = .next (landed s (doScrub i s)) := rfl

/-- The scrubPeriod arm. -/
@[simp] theorem exec_scrubPeriod (finds : List FlashFind) (s : State) : exec (.scrubPeriod finds) s = .next (landed s (doScrubPeriod finds s)) := rfl

/-- The nvProgramDone arm. -/
@[simp] theorem exec_nvProgramDone (bankB : Bool) (ok : Bool) (s : State) : exec (.nvProgramDone bankB ok) s = .next (landed s (doNvProgramDone bankB ok s)) := rfl

/-- The nvEraseDone arm. -/
@[simp] theorem exec_nvEraseDone (bankB : Bool) (pass : Bool) (s : State) : exec (.nvEraseDone bankB pass) s = .next (landed s (doNvEraseDone bankB pass s)) := rfl

/-- The eraseSuspend arm. -/
@[simp] theorem exec_eraseSuspend (bankB : Bool) (s : State) : exec (.eraseSuspend bankB) s = .next (landed s (doEraseSuspend bankB s)) := rfl

/-- The sectorReclaim arm. -/
@[simp] theorem exec_sectorReclaim (r : Nat) (copyB : Bool) (s : State) : exec (.sectorReclaim r copyB) s = .next (landed s (doSectorReclaim r copyB s)) := rfl

/-- The nvkRead arm. -/
@[simp] theorem exec_nvkRead (i : Initiator) (k : Fin 256) (s : State) : exec (.nvkRead i k) s = .next (landed s (doNvkRead i k s)) := rfl

/-- The nvkInc arm. -/
@[simp] theorem exec_nvkInc (i : Initiator) (k : Fin 256) (s : State) : exec (.nvkInc i k) s = .next (landed s (doNvkInc i k s)) := rfl

/-- The nvkSet arm. -/
@[simp] theorem exec_nvkSet (i : Initiator) (k : Fin 256) (s : State) : exec (.nvkSet i k) s = .next (landed s (doNvkSet i k s)) := rfl

/-- The counterHalfSwitch arm. -/
@[simp] theorem exec_counterHalfSwitch (j : Fin 32) (s : State) : exec (.counterHalfSwitch j) s = .next (landed s (doCounterHalfSwitch j s)) := rfl

/-- The daybookBegin arm. -/
@[simp] theorem exec_daybookBegin (s : State) : exec .daybookBegin s = .next (landed s (doDaybookBegin s)) := rfl

/-- The daybookCommit arm. -/
@[simp] theorem exec_daybookCommit (s : State) : exec .daybookCommit s = .next (landed s (doDaybookCommit s)) := rfl

/-- The assayPortWrite arm. -/
@[simp] theorem exec_assayPortWrite (s : State) : exec .assayPortWrite s = .next (landed s (doAssayPortWrite s)) := rfl

/-- The assayPortRead arm. -/
@[simp] theorem exec_assayPortRead (s : State) : exec .assayPortRead s = .next (landed s (doAssayPortRead s)) := rfl

/-- The vmainGlitch arm. -/
@[simp] theorem exec_vmainGlitch (e : Excursion) (s : State) : exec (.vmainGlitch e) s = .next (landed s (doVmainGlitch e s)) := rfl

/-- The coreRailGlitch arm. -/
@[simp] theorem exec_coreRailGlitch (s : State) : exec .coreRailGlitch s = .next (landed s (doCoreRailGlitch s)) := rfl

/-- The xtalWindow arm. -/
@[simp] theorem exec_xtalWindow (count : BitVec 16) (s : State) : exec (.xtalWindow count) s = .next (landed s (doXtalWindow count s)) := rfl

/-- The tempSample arm. -/
@[simp] theorem exec_tempSample (t : BitVec 16) (s : State) : exec (.tempSample t) s = .next (landed s (doTempSample t s)) := rfl

/-- The lightSample arm. -/
@[simp] theorem exec_lightSample (n : Fin 16) (lux : Nat) (s : State) : exec (.lightSample n lux) s = .next (landed s (doLightSample n lux s)) := rfl

/-- The shieldMismatch arm. -/
@[simp] theorem exec_shieldMismatch (l0 l1 : Bool) (s : State) : exec (.shieldMismatch l0 l1) s = .next (landed s (doShieldMismatch l0 l1 s)) := rfl

/-- The meshMismatch arm. -/
@[simp] theorem exec_meshMismatch (differs : Bool) (s : State) : exec (.meshMismatch differs) s = .next (landed s (doMeshMismatch differs s)) := rfl

/-- The lidSwitchSample arm. -/
@[simp] theorem exec_lidSwitchSample (isOpen : Bool) (s : State) : exec (.lidSwitchSample isOpen) s = .next (landed s (doLidSwitchSample isOpen s)) := rfl

/-- The caseSample arm. -/
@[simp] theorem exec_caseSample (n : Fin 2) (isOpen : Bool) (s : State) : exec (.caseSample n isOpen) s = .next (landed s (doCaseSample n isOpen s)) := rfl

/-- The loopSample arm. -/
@[simp] theorem exec_loopSample (n : Fin 4) (level : Bool) (s : State) : exec (.loopSample n level) s = .next (landed s (doLoopSample n level s)) := rfl

/-- The evidenceBurnDone arm. -/
@[simp] theorem exec_evidenceBurnDone (s : State) : exec .evidenceBurnDone s = .next (landed s (doEvidenceBurnDone s)) := rfl

/-- The tmpRelease arm. -/
@[simp] theorem exec_tmpRelease (i : Initiator) (s : State) : exec (.tmpRelease i) s = .next (landed s (doTmpRelease i s)) := rfl

/-- The l2holdExpiry arm. -/
@[simp] theorem exec_l2holdExpiry (s : State) : exec .l2holdExpiry s = .next (landed s (doL2holdExpiry s)) := rfl

/-- The zeroizeBurnDone arm. -/
@[simp] theorem exec_zeroizeBurnDone (s : State) : exec .zeroizeBurnDone s = .next (landed s (doZeroizeBurnDone s)) := rfl

/-- The zeroizeEraseDone arm. -/
@[simp] theorem exec_zeroizeEraseDone (s : State) : exec .zeroizeEraseDone s = .next (landed s (doZeroizeEraseDone s)) := rfl

/-- The zeroizeDone arm. -/
@[simp] theorem exec_zeroizeDone (s : State) : exec .zeroizeDone s = .next (landed s (doZeroizeDone s)) := rfl

/-- The por arm. -/
@[simp] theorem exec_por (s : State) : exec .por s = .next (landed s (doPor s)) := rfl

/-- The hur arm. -/
@[simp] theorem exec_hur (s : State) : exec .hur s = .next (landed s (doHur s)) := rfl

/-- The tmr arm. -/
@[simp] theorem exec_tmr (s : State) : exec .tmr s = .next (landed s (doTmr s)) := rfl

/-- The supervisorWatchdogWarn arm. -/
@[simp] theorem exec_supervisorWatchdogWarn (s : State) : exec .supervisorWatchdogWarn s = .next (landed s (doSupervisorWatchdogWarn s)) := rfl

/-- The wdrS arm. -/
@[simp] theorem exec_wdrS (s : State) : exec .wdrS s = .next (landed s (doWdrS s)) := rfl

/-- The sysWdkick arm. -/
@[simp] theorem exec_sysWdkick (i : Initiator) (v : Word) (s : State) : exec (.sysWdkick i v) s = .next (landed s (doSysWdkick i v s)) := rfl

/-- The swr arm. -/
@[simp] theorem exec_swr (i : Initiator) (v : Word) (s : State) : exec (.swr i v) s = .next (landed s (doSwr i v s)) := rfl

/-- The pinReset arm. -/
@[simp] theorem exec_pinReset (s : State) : exec .pinReset s = .next (landed s (doPinReset s)) := rfl

/-- The pllLockLost arm. -/
@[simp] theorem exec_pllLockLost (s : State) : exec .pllLockLost s = .next (landed s (doPllLockLost s)) := rfl

/-- The bootRails arm. -/
@[simp] theorem exec_bootRails (ok : Bool) (count : BitVec 16) (s : State) : exec (.bootRails ok count) s = .next (landed s (doBootRails ok count s)) := rfl

/-- The bootSelftest arm. -/
@[simp] theorem exec_bootSelftest (fails : List (Fin 256)) (s : State) : exec (.bootSelftest fails) s = .next (landed s (doBootSelftest fails s)) := rfl

/-- The bootLifecycle arm. -/
@[simp] theorem exec_bootLifecycle (s : State) : exec .bootLifecycle s = .next (landed s (doBootLifecycle s)) := rfl

/-- The bootNvRecovery arm. -/
@[simp] theorem exec_bootNvRecovery (s : State) : exec .bootNvRecovery s = .next (landed s (doBootNvRecovery s)) := rfl

/-- The bootImageSelect arm. -/
@[simp] theorem exec_bootImageSelect (s : State) : exec .bootImageSelect s = .next (landed s (doBootImageSelect s)) := rfl

/-- The bootRestore arm. -/
@[simp] theorem exec_bootRestore (s : State) : exec .bootRestore s = .next (landed s (doBootRestore s)) := rfl

/-- The handOver arm. -/
@[simp] theorem exec_handOver (s : State) : exec .handOver s = .next (landed s (doHandOver s)) := rfl

/-- The romImgErase arm. -/
@[simp] theorem exec_romImgErase (d : DmaData) (s : State) : exec (.romImgErase d) s = .next (landed s (doRomImgErase d s)) := rfl

/-- The romImgWrite arm. -/
@[simp] theorem exec_romImgWrite (d : DmaData) (s : State) : exec (.romImgWrite d) s = .next (landed s (doRomImgWrite d s)) := rfl

/-- The romImgClose arm. -/
@[simp] theorem exec_romImgClose (d : DmaData) (s : State) : exec (.romImgClose d) s = .next (landed s (doRomImgClose d s)) := rfl

/-- The romUpdate arm. -/
@[simp] theorem exec_romUpdate (d : DmaData) (s : State) : exec (.romUpdate d) s = .next (landed s (doRomUpdate d s)) := rfl

/-- The romTransition arm. -/
@[simp] theorem exec_romTransition (d : DmaData) (s : State) : exec (.romTransition d) s = .next (landed s (doRomTransition d s)) := rfl

/-- The romRestart arm. -/
@[simp] theorem exec_romRestart (s : State) : exec .romRestart s = .next (landed s (doRomRestart s)) := rfl

/-- The lcsTransition arm. -/
@[simp] theorem exec_lcsTransition (i : Initiator) (s : State) : exec (.lcsTransition i) s = .next (landed s (doLcsTransition i s)) := rfl

/-- The lifecycleRestart arm. -/
@[simp] theorem exec_lifecycleRestart (s : State) : exec .lifecycleRestart s = .next (landed s (doLifecycleRestart s)) := rfl

/-- The pmuRun arm. -/
@[simp] theorem exec_pmuRun (i : Initiator) (s : State) : exec (.pmuRun i) s = .next (landed s (doPmuRun i s)) := rfl

/-- The pmuDoze arm. -/
@[simp] theorem exec_pmuDoze (i : Initiator) (s : State) : exec (.pmuDoze i) s = .next (landed s (doPmuDoze i s)) := rfl

/-- The pmuSleep arm. -/
@[simp] theorem exec_pmuSleep (i : Initiator) (s : State) : exec (.pmuSleep i) s = .next (landed s (doPmuSleep i s)) := rfl

/-- The sleepEnter arm. -/
@[simp] theorem exec_sleepEnter (s : State) : exec .sleepEnter s = .next (landed s (doSleepEnter s)) := rfl

/-- The pmuAbort arm. -/
@[simp] theorem exec_pmuAbort (i : Initiator) (s : State) : exec (.pmuAbort i) s = .next (landed s (doPmuAbort i s)) := rfl

/-- The pmuOff arm. -/
@[simp] theorem exec_pmuOff (i : Initiator) (s : State) : exec (.pmuOff i) s = .next (landed s (doPmuOff i s)) := rfl

/-- The idleEntry arm. -/
@[simp] theorem exec_idleEntry (s : State) : exec .idleEntry s = .next (landed s (doIdleEntry s)) := rfl

/-- The wakeTimer arm. -/
@[simp] theorem exec_wakeTimer (s : State) : exec .wakeTimer s = .next (landed s (doWakeTimer s)) := rfl

/-- The pmuWake arm. -/
@[simp] theorem exec_pmuWake (s : State) : exec .pmuWake s = .next (landed s (doPmuWake s)) := rfl

/-- The huWriteReady arm. -/
@[simp] theorem exec_huWriteReady (mv : BitVec 16) (s : State) : exec (.huWriteReady mv) s = .next (landed s (doHuWriteReady mv s)) := rfl

/-- The huBelowThreshold arm. -/
@[simp] theorem exec_huBelowThreshold (mv : BitVec 16) (s : State) : exec (.huBelowThreshold mv) s = .next (landed s (doHuBelowThreshold mv s)) := rfl

/-- The huCapTest arm. -/
@[simp] theorem exec_huCapTest (s : State) : exec .huCapTest s = .next (landed s (doHuCapTest s)) := rfl

/-- The powerFail arm. -/
@[simp] theorem exec_powerFail (s : State) : exec .powerFail s = .next (landed s (doPowerFail s)) := rfl

/-- The windowComplete arm. -/
@[simp] theorem exec_windowComplete (s : State) : exec .windowComplete s = .next (landed s (doWindowComplete s)) := rfl

/-- The vmainReturn arm. -/
@[simp] theorem exec_vmainReturn (s : State) : exec .vmainReturn s = .next (landed s (doVmainReturn s)) := rfl

/-- The lswOrder arm. -/
@[simp] theorem exec_lswOrder (i : Initiator) (v : Word) (s : State) : exec (.lswOrder i v) s = .next (landed s (doLswOrder i v s)) := rfl

/-- The pmuLswreq arm. -/
@[simp] theorem exec_pmuLswreq (i : Initiator) (v : Word) (s : State) : exec (.pmuLswreq i v) s = .next (landed s (doPmuLswreq i v s)) := rfl

/-- The lswMaxonExpiry arm. -/
@[simp] theorem exec_lswMaxonExpiry (n : Fin 4) (s : State) : exec (.lswMaxonExpiry n) s = .next (landed s (doLswMaxonExpiry n s)) := rfl

/-- The lswTrip arm. -/
@[simp] theorem exec_lswTrip (n : Option (Fin 4)) (s : State) : exec (.lswTrip n) s = .next (landed s (doLswTrip n s)) := rfl

/-- The lswPolWrite arm. -/
@[simp] theorem exec_lswPolWrite (i : Initiator) (n : Fin 4) (v : Word) (s : State) : exec (.lswPolWrite i n v) s = .next (landed s (doLswPolWrite i n v s)) := rfl

/-- The vbatApplied arm. -/
@[simp] theorem exec_vbatApplied (s : State) : exec .vbatApplied s = .next (landed s (doVbatApplied s)) := rfl

/-- The vbatLoss arm. -/
@[simp] theorem exec_vbatLoss (s : State) : exec .vbatLoss s = .next (landed s (doVbatLoss s)) := rfl

/-- The vloadLoss arm. -/
@[simp] theorem exec_vloadLoss (s : State) : exec .vloadLoss s = .next (landed s (doVloadLoss s)) := rfl

/-- The vloadReturn arm. -/
@[simp] theorem exec_vloadReturn (s : State) : exec .vloadReturn s = .next (landed s (doVloadReturn s)) := rfl

/-- The cvccLoss arm. -/
@[simp] theorem exec_cvccLoss (s : State) : exec .cvccLoss s = .next (landed s (doCvccLoss s)) := rfl

/-- The cvccReturn arm. -/
@[simp] theorem exec_cvccReturn (s : State) : exec .cvccReturn s = .next (landed s (doCvccReturn s)) := rfl

/-- The railFault arm. -/
@[simp] theorem exec_railFault (s : State) : exec .railFault s = .next (landed s (doRailFault s)) := rfl

/-- The aspmStateChange arm. -/
@[simp] theorem exec_aspmStateChange (l1 : Bool) (s : State) : exec (.aspmStateChange l1) s = .next (landed s (doAspmStateChange l1 s)) := rfl

/-- The d3hotExit arm. -/
@[simp] theorem exec_d3hotExit (s : State) : exec .d3hotExit s = .next (landed s (doD3hotExit s)) := rfl

/-- The busMasterDisable arm. -/
@[simp] theorem exec_busMasterDisable (s : State) : exec .busMasterDisable s = .next (landed s (doBusMasterDisable s)) := rfl

/-- The huChargeComplete arm. -/
@[simp] theorem exec_huChargeComplete (c : Option (BitVec 16)) (s : State) : exec (.huChargeComplete c) s = .next (landed s (doHuChargeComplete c s)) := rfl

/-- The huCapTestDone arm. -/
@[simp] theorem exec_huCapTestDone (fall : BitVec 16) (s : State) : exec (.huCapTestDone fall) s = .next (landed s (doHuCapTestDone fall s)) := rfl

/-- The wtxRequest arm. -/
@[simp] theorem exec_wtxRequest (s : State) : exec .wtxRequest s = .next (landed s (doWtxRequest s)) := rfl

/-- The fabCreditWrite arm. -/
@[simp] theorem exec_fabCreditWrite (i : Initiator) (p : Fin 4) (v : Word) (s : State) : exec (.fabCreditWrite i p v) s = .next (landed s (doFabCreditWrite i p v s)) := rfl

end Sys2Proof.Machine
end

