-- ==== Sys2Proof/Laws/State.lean ====
section
/-! SUPPORT. What each update of the state leaves of each field: one fact per field and update, so that no proof unfolds a record update. -/

namespace Sys2Proof.Machine

open Sys2Proof

/-! ### `setIntake` -/

@[simp] theorem setIntake_pending (s : State) (x : Intake) : (setIntake s x).pending = s.pending := rfl
@[simp] theorem setIntake_regs (s : State) (x : Intake) : (setIntake s x).regs = s.regs := rfl
@[simp] theorem setIntake_shadow (s : State) (x : Intake) : (setIntake s x).shadow = s.shadow := rfl
@[simp] theorem setIntake_tick (s : State) (x : Intake) : (setIntake s x).tick = s.tick := rfl
@[simp] theorem setIntake_fresh (s : State) (x : Intake) : (setIntake s x).fresh = s.fresh := rfl
@[simp] theorem setIntake_out (s : State) (x : Intake) : (setIntake s x).out = s.out := rfl
@[simp] theorem setIntake_router (s : State) (x : Intake) : (setIntake s x).router = s.router := rfl
@[simp] theorem setIntake_pins (s : State) (x : Intake) : (setIntake s x).pins = s.pins := rfl
@[simp] theorem setIntake_pcie (s : State) (x : Intake) : (setIntake s x).pcie = s.pcie := rfl
@[simp] theorem setIntake_ac0 (s : State) (x : Intake) : (setIntake s x).ac0 = s.ac0 := rfl
@[simp] theorem setIntake_ac1 (s : State) (x : Intake) : (setIntake s x).ac1 = s.ac1 := rfl
@[simp] theorem setIntake_mc (s : State) (x : Intake) : (setIntake s x).mc = s.mc := rfl
@[simp] theorem setIntake_mpu (s : State) (x : Intake) : (setIntake s x).mpu = s.mpu := rfl
@[simp] theorem setIntake_mem (s : State) (x : Intake) : (setIntake s x).mem = s.mem := rfl
@[simp] theorem setIntake_mcc (s : State) (x : Intake) : (setIntake s x).mcc = s.mcc := rfl
@[simp] theorem setIntake_enOff (s : State) (x : Intake) : (setIntake s x).enOff = s.enOff := rfl
@[simp] theorem setIntake_chans (s : State) (x : Intake) : (setIntake s x).chans = s.chans := rfl
@[simp] theorem setIntake_cplq (s : State) (x : Intake) : (setIntake s x).cplq = s.cplq := rfl
@[simp] theorem setIntake_tills (s : State) (x : Intake) : (setIntake s x).tills = s.tills := rfl
@[simp] theorem setIntake_intake (s : State) (x : Intake) : (setIntake s x).intake = x := rfl
@[simp] theorem setIntake_otp (s : State) (x : Intake) : (setIntake s x).otp = s.otp := rfl
@[simp] theorem setIntake_held (s : State) (x : Intake) : (setIntake s x).held = s.held := rfl
@[simp] theorem setIntake_tal (s : State) (x : Intake) : (setIntake s x).tal = s.tal := rfl
@[simp] theorem setIntake_sns (s : State) (x : Intake) : (setIntake s x).sns = s.sns := rfl
@[simp] theorem setIntake_axs (s : State) (x : Intake) : (setIntake s x).axs = s.axs := rfl
@[simp] theorem setIntake_cal (s : State) (x : Intake) : (setIntake s x).cal = s.cal := rfl
@[simp] theorem setIntake_seals (s : State) (x : Intake) : (setIntake s x).seals = s.seals := rfl
@[simp] theorem setIntake_lsw (s : State) (x : Intake) : (setIntake s x).lsw = s.lsw := rfl
@[simp] theorem setIntake_pmu (s : State) (x : Intake) : (setIntake s x).pmu = s.pmu := rfl
@[simp] theorem setIntake_nv (s : State) (x : Intake) : (setIntake s x).nv = s.nv := rfl
@[simp] theorem setIntake_bt (s : State) (x : Intake) : (setIntake s x).bt = s.bt := rfl
@[simp] theorem setIntake_vlt (s : State) (x : Intake) : (setIntake s x).vlt = s.vlt := rfl
@[simp] theorem setIntake_lanes (s : State) (x : Intake) : (setIntake s x).lanes = s.lanes := rfl
@[simp] theorem setIntake_fab (s : State) (x : Intake) : (setIntake s x).fab = s.fab := rfl
@[simp] theorem setIntake_cpt (s : State) (x : Intake) : (setIntake s x).cpt = s.cpt := rfl
@[simp] theorem setIntake_tmp (s : State) (x : Intake) : (setIntake s x).tmp = s.tmp := rfl
@[simp] theorem setIntake_lcs (s : State) (x : Intake) : (setIntake s x).lcs = s.lcs := rfl
@[simp] theorem setIntake_boot (s : State) (x : Intake) : (setIntake s x).boot = s.boot := rfl
@[simp] theorem setIntake_tickq (s : State) (x : Intake) : (setIntake s x).tickq = s.tickq := rfl

/-! ### `setBoot` -/

@[simp] theorem setBoot_pending (s : State) (x : BootSt) : (setBoot s x).pending = s.pending := rfl
@[simp] theorem setBoot_regs (s : State) (x : BootSt) : (setBoot s x).regs = s.regs := rfl
@[simp] theorem setBoot_shadow (s : State) (x : BootSt) : (setBoot s x).shadow = s.shadow := rfl
@[simp] theorem setBoot_tick (s : State) (x : BootSt) : (setBoot s x).tick = s.tick := rfl
@[simp] theorem setBoot_fresh (s : State) (x : BootSt) : (setBoot s x).fresh = s.fresh := rfl
@[simp] theorem setBoot_out (s : State) (x : BootSt) : (setBoot s x).out = s.out := rfl
@[simp] theorem setBoot_router (s : State) (x : BootSt) : (setBoot s x).router = s.router := rfl
@[simp] theorem setBoot_pins (s : State) (x : BootSt) : (setBoot s x).pins = s.pins := rfl
@[simp] theorem setBoot_pcie (s : State) (x : BootSt) : (setBoot s x).pcie = s.pcie := rfl
@[simp] theorem setBoot_ac0 (s : State) (x : BootSt) : (setBoot s x).ac0 = s.ac0 := rfl
@[simp] theorem setBoot_ac1 (s : State) (x : BootSt) : (setBoot s x).ac1 = s.ac1 := rfl
@[simp] theorem setBoot_mc (s : State) (x : BootSt) : (setBoot s x).mc = s.mc := rfl
@[simp] theorem setBoot_mpu (s : State) (x : BootSt) : (setBoot s x).mpu = s.mpu := rfl
@[simp] theorem setBoot_mem (s : State) (x : BootSt) : (setBoot s x).mem = s.mem := rfl
@[simp] theorem setBoot_mcc (s : State) (x : BootSt) : (setBoot s x).mcc = s.mcc := rfl
@[simp] theorem setBoot_enOff (s : State) (x : BootSt) : (setBoot s x).enOff = s.enOff := rfl
@[simp] theorem setBoot_chans (s : State) (x : BootSt) : (setBoot s x).chans = s.chans := rfl
@[simp] theorem setBoot_cplq (s : State) (x : BootSt) : (setBoot s x).cplq = s.cplq := rfl
@[simp] theorem setBoot_tills (s : State) (x : BootSt) : (setBoot s x).tills = s.tills := rfl
@[simp] theorem setBoot_intake (s : State) (x : BootSt) : (setBoot s x).intake = s.intake := rfl
@[simp] theorem setBoot_otp (s : State) (x : BootSt) : (setBoot s x).otp = s.otp := rfl
@[simp] theorem setBoot_held (s : State) (x : BootSt) : (setBoot s x).held = s.held := rfl
@[simp] theorem setBoot_tal (s : State) (x : BootSt) : (setBoot s x).tal = s.tal := rfl
@[simp] theorem setBoot_sns (s : State) (x : BootSt) : (setBoot s x).sns = s.sns := rfl
@[simp] theorem setBoot_axs (s : State) (x : BootSt) : (setBoot s x).axs = s.axs := rfl
@[simp] theorem setBoot_cal (s : State) (x : BootSt) : (setBoot s x).cal = s.cal := rfl
@[simp] theorem setBoot_seals (s : State) (x : BootSt) : (setBoot s x).seals = s.seals := rfl
@[simp] theorem setBoot_lsw (s : State) (x : BootSt) : (setBoot s x).lsw = s.lsw := rfl
@[simp] theorem setBoot_pmu (s : State) (x : BootSt) : (setBoot s x).pmu = s.pmu := rfl
@[simp] theorem setBoot_nv (s : State) (x : BootSt) : (setBoot s x).nv = s.nv := rfl
@[simp] theorem setBoot_bt (s : State) (x : BootSt) : (setBoot s x).bt = s.bt := rfl
@[simp] theorem setBoot_vlt (s : State) (x : BootSt) : (setBoot s x).vlt = s.vlt := rfl
@[simp] theorem setBoot_lanes (s : State) (x : BootSt) : (setBoot s x).lanes = s.lanes := rfl
@[simp] theorem setBoot_fab (s : State) (x : BootSt) : (setBoot s x).fab = s.fab := rfl
@[simp] theorem setBoot_cpt (s : State) (x : BootSt) : (setBoot s x).cpt = s.cpt := rfl
@[simp] theorem setBoot_tmp (s : State) (x : BootSt) : (setBoot s x).tmp = s.tmp := rfl
@[simp] theorem setBoot_lcs (s : State) (x : BootSt) : (setBoot s x).lcs = s.lcs := rfl
@[simp] theorem setBoot_boot (s : State) (x : BootSt) : (setBoot s x).boot = x := rfl
@[simp] theorem setBoot_tickq (s : State) (x : BootSt) : (setBoot s x).tickq = s.tickq := rfl

/-! ### `setCal` -/

@[simp] theorem setCal_pending (s : State) (x : CalSt) : (setCal s x).pending = s.pending := rfl
@[simp] theorem setCal_regs (s : State) (x : CalSt) : (setCal s x).regs = s.regs := rfl
@[simp] theorem setCal_shadow (s : State) (x : CalSt) : (setCal s x).shadow = s.shadow := rfl
@[simp] theorem setCal_tick (s : State) (x : CalSt) : (setCal s x).tick = s.tick := rfl
@[simp] theorem setCal_fresh (s : State) (x : CalSt) : (setCal s x).fresh = s.fresh := rfl
@[simp] theorem setCal_out (s : State) (x : CalSt) : (setCal s x).out = s.out := rfl
@[simp] theorem setCal_router (s : State) (x : CalSt) : (setCal s x).router = s.router := rfl
@[simp] theorem setCal_pins (s : State) (x : CalSt) : (setCal s x).pins = s.pins := rfl
@[simp] theorem setCal_pcie (s : State) (x : CalSt) : (setCal s x).pcie = s.pcie := rfl
@[simp] theorem setCal_ac0 (s : State) (x : CalSt) : (setCal s x).ac0 = s.ac0 := rfl
@[simp] theorem setCal_ac1 (s : State) (x : CalSt) : (setCal s x).ac1 = s.ac1 := rfl
@[simp] theorem setCal_mc (s : State) (x : CalSt) : (setCal s x).mc = s.mc := rfl
@[simp] theorem setCal_mpu (s : State) (x : CalSt) : (setCal s x).mpu = s.mpu := rfl
@[simp] theorem setCal_mem (s : State) (x : CalSt) : (setCal s x).mem = s.mem := rfl
@[simp] theorem setCal_mcc (s : State) (x : CalSt) : (setCal s x).mcc = s.mcc := rfl
@[simp] theorem setCal_enOff (s : State) (x : CalSt) : (setCal s x).enOff = s.enOff := rfl
@[simp] theorem setCal_chans (s : State) (x : CalSt) : (setCal s x).chans = s.chans := rfl
@[simp] theorem setCal_cplq (s : State) (x : CalSt) : (setCal s x).cplq = s.cplq := rfl
@[simp] theorem setCal_tills (s : State) (x : CalSt) : (setCal s x).tills = s.tills := rfl
@[simp] theorem setCal_intake (s : State) (x : CalSt) : (setCal s x).intake = s.intake := rfl
@[simp] theorem setCal_otp (s : State) (x : CalSt) : (setCal s x).otp = s.otp := rfl
@[simp] theorem setCal_held (s : State) (x : CalSt) : (setCal s x).held = s.held := rfl
@[simp] theorem setCal_tal (s : State) (x : CalSt) : (setCal s x).tal = s.tal := rfl
@[simp] theorem setCal_sns (s : State) (x : CalSt) : (setCal s x).sns = s.sns := rfl
@[simp] theorem setCal_axs (s : State) (x : CalSt) : (setCal s x).axs = s.axs := rfl
@[simp] theorem setCal_cal (s : State) (x : CalSt) : (setCal s x).cal = x := rfl
@[simp] theorem setCal_seals (s : State) (x : CalSt) : (setCal s x).seals = s.seals := rfl
@[simp] theorem setCal_lsw (s : State) (x : CalSt) : (setCal s x).lsw = s.lsw := rfl
@[simp] theorem setCal_pmu (s : State) (x : CalSt) : (setCal s x).pmu = s.pmu := rfl
@[simp] theorem setCal_nv (s : State) (x : CalSt) : (setCal s x).nv = s.nv := rfl
@[simp] theorem setCal_bt (s : State) (x : CalSt) : (setCal s x).bt = s.bt := rfl
@[simp] theorem setCal_vlt (s : State) (x : CalSt) : (setCal s x).vlt = s.vlt := rfl
@[simp] theorem setCal_lanes (s : State) (x : CalSt) : (setCal s x).lanes = s.lanes := rfl
@[simp] theorem setCal_fab (s : State) (x : CalSt) : (setCal s x).fab = s.fab := rfl
@[simp] theorem setCal_cpt (s : State) (x : CalSt) : (setCal s x).cpt = s.cpt := rfl
@[simp] theorem setCal_tmp (s : State) (x : CalSt) : (setCal s x).tmp = s.tmp := rfl
@[simp] theorem setCal_lcs (s : State) (x : CalSt) : (setCal s x).lcs = s.lcs := rfl
@[simp] theorem setCal_boot (s : State) (x : CalSt) : (setCal s x).boot = s.boot := rfl
@[simp] theorem setCal_tickq (s : State) (x : CalSt) : (setCal s x).tickq = s.tickq := rfl

/-! ### `setCpt` -/

@[simp] theorem setCpt_pending (s : State) (x : CptSt) : (setCpt s x).pending = s.pending := rfl
@[simp] theorem setCpt_regs (s : State) (x : CptSt) : (setCpt s x).regs = s.regs := rfl
@[simp] theorem setCpt_shadow (s : State) (x : CptSt) : (setCpt s x).shadow = s.shadow := rfl
@[simp] theorem setCpt_tick (s : State) (x : CptSt) : (setCpt s x).tick = s.tick := rfl
@[simp] theorem setCpt_fresh (s : State) (x : CptSt) : (setCpt s x).fresh = s.fresh := rfl
@[simp] theorem setCpt_out (s : State) (x : CptSt) : (setCpt s x).out = s.out := rfl
@[simp] theorem setCpt_router (s : State) (x : CptSt) : (setCpt s x).router = s.router := rfl
@[simp] theorem setCpt_pins (s : State) (x : CptSt) : (setCpt s x).pins = s.pins := rfl
@[simp] theorem setCpt_pcie (s : State) (x : CptSt) : (setCpt s x).pcie = s.pcie := rfl
@[simp] theorem setCpt_ac0 (s : State) (x : CptSt) : (setCpt s x).ac0 = s.ac0 := rfl
@[simp] theorem setCpt_ac1 (s : State) (x : CptSt) : (setCpt s x).ac1 = s.ac1 := rfl
@[simp] theorem setCpt_mc (s : State) (x : CptSt) : (setCpt s x).mc = s.mc := rfl
@[simp] theorem setCpt_mpu (s : State) (x : CptSt) : (setCpt s x).mpu = s.mpu := rfl
@[simp] theorem setCpt_mem (s : State) (x : CptSt) : (setCpt s x).mem = s.mem := rfl
@[simp] theorem setCpt_mcc (s : State) (x : CptSt) : (setCpt s x).mcc = s.mcc := rfl
@[simp] theorem setCpt_enOff (s : State) (x : CptSt) : (setCpt s x).enOff = s.enOff := rfl
@[simp] theorem setCpt_chans (s : State) (x : CptSt) : (setCpt s x).chans = s.chans := rfl
@[simp] theorem setCpt_cplq (s : State) (x : CptSt) : (setCpt s x).cplq = s.cplq := rfl
@[simp] theorem setCpt_tills (s : State) (x : CptSt) : (setCpt s x).tills = s.tills := rfl
@[simp] theorem setCpt_intake (s : State) (x : CptSt) : (setCpt s x).intake = s.intake := rfl
@[simp] theorem setCpt_otp (s : State) (x : CptSt) : (setCpt s x).otp = s.otp := rfl
@[simp] theorem setCpt_held (s : State) (x : CptSt) : (setCpt s x).held = s.held := rfl
@[simp] theorem setCpt_tal (s : State) (x : CptSt) : (setCpt s x).tal = s.tal := rfl
@[simp] theorem setCpt_sns (s : State) (x : CptSt) : (setCpt s x).sns = s.sns := rfl
@[simp] theorem setCpt_axs (s : State) (x : CptSt) : (setCpt s x).axs = s.axs := rfl
@[simp] theorem setCpt_cal (s : State) (x : CptSt) : (setCpt s x).cal = s.cal := rfl
@[simp] theorem setCpt_seals (s : State) (x : CptSt) : (setCpt s x).seals = s.seals := rfl
@[simp] theorem setCpt_lsw (s : State) (x : CptSt) : (setCpt s x).lsw = s.lsw := rfl
@[simp] theorem setCpt_pmu (s : State) (x : CptSt) : (setCpt s x).pmu = s.pmu := rfl
@[simp] theorem setCpt_nv (s : State) (x : CptSt) : (setCpt s x).nv = s.nv := rfl
@[simp] theorem setCpt_bt (s : State) (x : CptSt) : (setCpt s x).bt = s.bt := rfl
@[simp] theorem setCpt_vlt (s : State) (x : CptSt) : (setCpt s x).vlt = s.vlt := rfl
@[simp] theorem setCpt_lanes (s : State) (x : CptSt) : (setCpt s x).lanes = s.lanes := rfl
@[simp] theorem setCpt_fab (s : State) (x : CptSt) : (setCpt s x).fab = s.fab := rfl
@[simp] theorem setCpt_cpt (s : State) (x : CptSt) : (setCpt s x).cpt = x := rfl
@[simp] theorem setCpt_tmp (s : State) (x : CptSt) : (setCpt s x).tmp = s.tmp := rfl
@[simp] theorem setCpt_lcs (s : State) (x : CptSt) : (setCpt s x).lcs = s.lcs := rfl
@[simp] theorem setCpt_boot (s : State) (x : CptSt) : (setCpt s x).boot = s.boot := rfl
@[simp] theorem setCpt_tickq (s : State) (x : CptSt) : (setCpt s x).tickq = s.tickq := rfl

/-! ### `setFab` -/

@[simp] theorem setFab_pending (s : State) (x : FabSt) : (setFab s x).pending = s.pending := rfl
@[simp] theorem setFab_regs (s : State) (x : FabSt) : (setFab s x).regs = s.regs := rfl
@[simp] theorem setFab_shadow (s : State) (x : FabSt) : (setFab s x).shadow = s.shadow := rfl
@[simp] theorem setFab_tick (s : State) (x : FabSt) : (setFab s x).tick = s.tick := rfl
@[simp] theorem setFab_fresh (s : State) (x : FabSt) : (setFab s x).fresh = s.fresh := rfl
@[simp] theorem setFab_out (s : State) (x : FabSt) : (setFab s x).out = s.out := rfl
@[simp] theorem setFab_router (s : State) (x : FabSt) : (setFab s x).router = s.router := rfl
@[simp] theorem setFab_pins (s : State) (x : FabSt) : (setFab s x).pins = s.pins := rfl
@[simp] theorem setFab_pcie (s : State) (x : FabSt) : (setFab s x).pcie = s.pcie := rfl
@[simp] theorem setFab_ac0 (s : State) (x : FabSt) : (setFab s x).ac0 = s.ac0 := rfl
@[simp] theorem setFab_ac1 (s : State) (x : FabSt) : (setFab s x).ac1 = s.ac1 := rfl
@[simp] theorem setFab_mc (s : State) (x : FabSt) : (setFab s x).mc = s.mc := rfl
@[simp] theorem setFab_mpu (s : State) (x : FabSt) : (setFab s x).mpu = s.mpu := rfl
@[simp] theorem setFab_mem (s : State) (x : FabSt) : (setFab s x).mem = s.mem := rfl
@[simp] theorem setFab_mcc (s : State) (x : FabSt) : (setFab s x).mcc = s.mcc := rfl
@[simp] theorem setFab_enOff (s : State) (x : FabSt) : (setFab s x).enOff = s.enOff := rfl
@[simp] theorem setFab_chans (s : State) (x : FabSt) : (setFab s x).chans = s.chans := rfl
@[simp] theorem setFab_cplq (s : State) (x : FabSt) : (setFab s x).cplq = s.cplq := rfl
@[simp] theorem setFab_tills (s : State) (x : FabSt) : (setFab s x).tills = s.tills := rfl
@[simp] theorem setFab_intake (s : State) (x : FabSt) : (setFab s x).intake = s.intake := rfl
@[simp] theorem setFab_otp (s : State) (x : FabSt) : (setFab s x).otp = s.otp := rfl
@[simp] theorem setFab_held (s : State) (x : FabSt) : (setFab s x).held = s.held := rfl
@[simp] theorem setFab_tal (s : State) (x : FabSt) : (setFab s x).tal = s.tal := rfl
@[simp] theorem setFab_sns (s : State) (x : FabSt) : (setFab s x).sns = s.sns := rfl
@[simp] theorem setFab_axs (s : State) (x : FabSt) : (setFab s x).axs = s.axs := rfl
@[simp] theorem setFab_cal (s : State) (x : FabSt) : (setFab s x).cal = s.cal := rfl
@[simp] theorem setFab_seals (s : State) (x : FabSt) : (setFab s x).seals = s.seals := rfl
@[simp] theorem setFab_lsw (s : State) (x : FabSt) : (setFab s x).lsw = s.lsw := rfl
@[simp] theorem setFab_pmu (s : State) (x : FabSt) : (setFab s x).pmu = s.pmu := rfl
@[simp] theorem setFab_nv (s : State) (x : FabSt) : (setFab s x).nv = s.nv := rfl
@[simp] theorem setFab_bt (s : State) (x : FabSt) : (setFab s x).bt = s.bt := rfl
@[simp] theorem setFab_vlt (s : State) (x : FabSt) : (setFab s x).vlt = s.vlt := rfl
@[simp] theorem setFab_lanes (s : State) (x : FabSt) : (setFab s x).lanes = s.lanes := rfl
@[simp] theorem setFab_fab (s : State) (x : FabSt) : (setFab s x).fab = x := rfl
@[simp] theorem setFab_cpt (s : State) (x : FabSt) : (setFab s x).cpt = s.cpt := rfl
@[simp] theorem setFab_tmp (s : State) (x : FabSt) : (setFab s x).tmp = s.tmp := rfl
@[simp] theorem setFab_lcs (s : State) (x : FabSt) : (setFab s x).lcs = s.lcs := rfl
@[simp] theorem setFab_boot (s : State) (x : FabSt) : (setFab s x).boot = s.boot := rfl
@[simp] theorem setFab_tickq (s : State) (x : FabSt) : (setFab s x).tickq = s.tickq := rfl

/-! ### `setPmu` -/

@[simp] theorem setPmu_pending (s : State) (x : Pmu) : (setPmu s x).pending = s.pending := rfl
@[simp] theorem setPmu_regs (s : State) (x : Pmu) : (setPmu s x).regs = s.regs := rfl
@[simp] theorem setPmu_shadow (s : State) (x : Pmu) : (setPmu s x).shadow = s.shadow := rfl
@[simp] theorem setPmu_tick (s : State) (x : Pmu) : (setPmu s x).tick = s.tick := rfl
@[simp] theorem setPmu_fresh (s : State) (x : Pmu) : (setPmu s x).fresh = s.fresh := rfl
@[simp] theorem setPmu_out (s : State) (x : Pmu) : (setPmu s x).out = s.out := rfl
@[simp] theorem setPmu_router (s : State) (x : Pmu) : (setPmu s x).router = s.router := rfl
@[simp] theorem setPmu_pins (s : State) (x : Pmu) : (setPmu s x).pins = s.pins := rfl
@[simp] theorem setPmu_pcie (s : State) (x : Pmu) : (setPmu s x).pcie = s.pcie := rfl
@[simp] theorem setPmu_ac0 (s : State) (x : Pmu) : (setPmu s x).ac0 = s.ac0 := rfl
@[simp] theorem setPmu_ac1 (s : State) (x : Pmu) : (setPmu s x).ac1 = s.ac1 := rfl
@[simp] theorem setPmu_mc (s : State) (x : Pmu) : (setPmu s x).mc = s.mc := rfl
@[simp] theorem setPmu_mpu (s : State) (x : Pmu) : (setPmu s x).mpu = s.mpu := rfl
@[simp] theorem setPmu_mem (s : State) (x : Pmu) : (setPmu s x).mem = s.mem := rfl
@[simp] theorem setPmu_mcc (s : State) (x : Pmu) : (setPmu s x).mcc = s.mcc := rfl
@[simp] theorem setPmu_enOff (s : State) (x : Pmu) : (setPmu s x).enOff = s.enOff := rfl
@[simp] theorem setPmu_chans (s : State) (x : Pmu) : (setPmu s x).chans = s.chans := rfl
@[simp] theorem setPmu_cplq (s : State) (x : Pmu) : (setPmu s x).cplq = s.cplq := rfl
@[simp] theorem setPmu_tills (s : State) (x : Pmu) : (setPmu s x).tills = s.tills := rfl
@[simp] theorem setPmu_intake (s : State) (x : Pmu) : (setPmu s x).intake = s.intake := rfl
@[simp] theorem setPmu_otp (s : State) (x : Pmu) : (setPmu s x).otp = s.otp := rfl
@[simp] theorem setPmu_held (s : State) (x : Pmu) : (setPmu s x).held = s.held := rfl
@[simp] theorem setPmu_tal (s : State) (x : Pmu) : (setPmu s x).tal = s.tal := rfl
@[simp] theorem setPmu_sns (s : State) (x : Pmu) : (setPmu s x).sns = s.sns := rfl
@[simp] theorem setPmu_axs (s : State) (x : Pmu) : (setPmu s x).axs = s.axs := rfl
@[simp] theorem setPmu_cal (s : State) (x : Pmu) : (setPmu s x).cal = s.cal := rfl
@[simp] theorem setPmu_seals (s : State) (x : Pmu) : (setPmu s x).seals = s.seals := rfl
@[simp] theorem setPmu_lsw (s : State) (x : Pmu) : (setPmu s x).lsw = s.lsw := rfl
@[simp] theorem setPmu_pmu (s : State) (x : Pmu) : (setPmu s x).pmu = x := rfl
@[simp] theorem setPmu_nv (s : State) (x : Pmu) : (setPmu s x).nv = s.nv := rfl
@[simp] theorem setPmu_bt (s : State) (x : Pmu) : (setPmu s x).bt = s.bt := rfl
@[simp] theorem setPmu_vlt (s : State) (x : Pmu) : (setPmu s x).vlt = s.vlt := rfl
@[simp] theorem setPmu_lanes (s : State) (x : Pmu) : (setPmu s x).lanes = s.lanes := rfl
@[simp] theorem setPmu_fab (s : State) (x : Pmu) : (setPmu s x).fab = s.fab := rfl
@[simp] theorem setPmu_cpt (s : State) (x : Pmu) : (setPmu s x).cpt = s.cpt := rfl
@[simp] theorem setPmu_tmp (s : State) (x : Pmu) : (setPmu s x).tmp = s.tmp := rfl
@[simp] theorem setPmu_lcs (s : State) (x : Pmu) : (setPmu s x).lcs = s.lcs := rfl
@[simp] theorem setPmu_boot (s : State) (x : Pmu) : (setPmu s x).boot = s.boot := rfl
@[simp] theorem setPmu_tickq (s : State) (x : Pmu) : (setPmu s x).tickq = s.tickq := rfl

/-! ### `setLsw` -/

@[simp] theorem setLsw_pending (s : State) (x : LswSt) : (setLsw s x).pending = s.pending := rfl
@[simp] theorem setLsw_regs (s : State) (x : LswSt) : (setLsw s x).regs = s.regs := rfl
@[simp] theorem setLsw_shadow (s : State) (x : LswSt) : (setLsw s x).shadow = s.shadow := rfl
@[simp] theorem setLsw_tick (s : State) (x : LswSt) : (setLsw s x).tick = s.tick := rfl
@[simp] theorem setLsw_fresh (s : State) (x : LswSt) : (setLsw s x).fresh = s.fresh := rfl
@[simp] theorem setLsw_out (s : State) (x : LswSt) : (setLsw s x).out = s.out := rfl
@[simp] theorem setLsw_router (s : State) (x : LswSt) : (setLsw s x).router = s.router := rfl
@[simp] theorem setLsw_pins (s : State) (x : LswSt) : (setLsw s x).pins = s.pins := rfl
@[simp] theorem setLsw_pcie (s : State) (x : LswSt) : (setLsw s x).pcie = s.pcie := rfl
@[simp] theorem setLsw_ac0 (s : State) (x : LswSt) : (setLsw s x).ac0 = s.ac0 := rfl
@[simp] theorem setLsw_ac1 (s : State) (x : LswSt) : (setLsw s x).ac1 = s.ac1 := rfl
@[simp] theorem setLsw_mc (s : State) (x : LswSt) : (setLsw s x).mc = s.mc := rfl
@[simp] theorem setLsw_mpu (s : State) (x : LswSt) : (setLsw s x).mpu = s.mpu := rfl
@[simp] theorem setLsw_mem (s : State) (x : LswSt) : (setLsw s x).mem = s.mem := rfl
@[simp] theorem setLsw_mcc (s : State) (x : LswSt) : (setLsw s x).mcc = s.mcc := rfl
@[simp] theorem setLsw_enOff (s : State) (x : LswSt) : (setLsw s x).enOff = s.enOff := rfl
@[simp] theorem setLsw_chans (s : State) (x : LswSt) : (setLsw s x).chans = s.chans := rfl
@[simp] theorem setLsw_cplq (s : State) (x : LswSt) : (setLsw s x).cplq = s.cplq := rfl
@[simp] theorem setLsw_tills (s : State) (x : LswSt) : (setLsw s x).tills = s.tills := rfl
@[simp] theorem setLsw_intake (s : State) (x : LswSt) : (setLsw s x).intake = s.intake := rfl
@[simp] theorem setLsw_otp (s : State) (x : LswSt) : (setLsw s x).otp = s.otp := rfl
@[simp] theorem setLsw_held (s : State) (x : LswSt) : (setLsw s x).held = s.held := rfl
@[simp] theorem setLsw_tal (s : State) (x : LswSt) : (setLsw s x).tal = s.tal := rfl
@[simp] theorem setLsw_sns (s : State) (x : LswSt) : (setLsw s x).sns = s.sns := rfl
@[simp] theorem setLsw_axs (s : State) (x : LswSt) : (setLsw s x).axs = s.axs := rfl
@[simp] theorem setLsw_cal (s : State) (x : LswSt) : (setLsw s x).cal = s.cal := rfl
@[simp] theorem setLsw_seals (s : State) (x : LswSt) : (setLsw s x).seals = s.seals := rfl
@[simp] theorem setLsw_lsw (s : State) (x : LswSt) : (setLsw s x).lsw = x := rfl
@[simp] theorem setLsw_pmu (s : State) (x : LswSt) : (setLsw s x).pmu = s.pmu := rfl
@[simp] theorem setLsw_nv (s : State) (x : LswSt) : (setLsw s x).nv = s.nv := rfl
@[simp] theorem setLsw_bt (s : State) (x : LswSt) : (setLsw s x).bt = s.bt := rfl
@[simp] theorem setLsw_vlt (s : State) (x : LswSt) : (setLsw s x).vlt = s.vlt := rfl
@[simp] theorem setLsw_lanes (s : State) (x : LswSt) : (setLsw s x).lanes = s.lanes := rfl
@[simp] theorem setLsw_fab (s : State) (x : LswSt) : (setLsw s x).fab = s.fab := rfl
@[simp] theorem setLsw_cpt (s : State) (x : LswSt) : (setLsw s x).cpt = s.cpt := rfl
@[simp] theorem setLsw_tmp (s : State) (x : LswSt) : (setLsw s x).tmp = s.tmp := rfl
@[simp] theorem setLsw_lcs (s : State) (x : LswSt) : (setLsw s x).lcs = s.lcs := rfl
@[simp] theorem setLsw_boot (s : State) (x : LswSt) : (setLsw s x).boot = s.boot := rfl
@[simp] theorem setLsw_tickq (s : State) (x : LswSt) : (setLsw s x).tickq = s.tickq := rfl

/-! ### `setNv` -/

@[simp] theorem setNv_pending (s : State) (x : NvSt) : (setNv s x).pending = s.pending := rfl
@[simp] theorem setNv_regs (s : State) (x : NvSt) : (setNv s x).regs = s.regs := rfl
@[simp] theorem setNv_shadow (s : State) (x : NvSt) : (setNv s x).shadow = s.shadow := rfl
@[simp] theorem setNv_tick (s : State) (x : NvSt) : (setNv s x).tick = s.tick := rfl
@[simp] theorem setNv_fresh (s : State) (x : NvSt) : (setNv s x).fresh = s.fresh := rfl
@[simp] theorem setNv_out (s : State) (x : NvSt) : (setNv s x).out = s.out := rfl
@[simp] theorem setNv_router (s : State) (x : NvSt) : (setNv s x).router = s.router := rfl
@[simp] theorem setNv_pins (s : State) (x : NvSt) : (setNv s x).pins = s.pins := rfl
@[simp] theorem setNv_pcie (s : State) (x : NvSt) : (setNv s x).pcie = s.pcie := rfl
@[simp] theorem setNv_ac0 (s : State) (x : NvSt) : (setNv s x).ac0 = s.ac0 := rfl
@[simp] theorem setNv_ac1 (s : State) (x : NvSt) : (setNv s x).ac1 = s.ac1 := rfl
@[simp] theorem setNv_mc (s : State) (x : NvSt) : (setNv s x).mc = s.mc := rfl
@[simp] theorem setNv_mpu (s : State) (x : NvSt) : (setNv s x).mpu = s.mpu := rfl
@[simp] theorem setNv_mem (s : State) (x : NvSt) : (setNv s x).mem = s.mem := rfl
@[simp] theorem setNv_mcc (s : State) (x : NvSt) : (setNv s x).mcc = s.mcc := rfl
@[simp] theorem setNv_enOff (s : State) (x : NvSt) : (setNv s x).enOff = s.enOff := rfl
@[simp] theorem setNv_chans (s : State) (x : NvSt) : (setNv s x).chans = s.chans := rfl
@[simp] theorem setNv_cplq (s : State) (x : NvSt) : (setNv s x).cplq = s.cplq := rfl
@[simp] theorem setNv_tills (s : State) (x : NvSt) : (setNv s x).tills = s.tills := rfl
@[simp] theorem setNv_intake (s : State) (x : NvSt) : (setNv s x).intake = s.intake := rfl
@[simp] theorem setNv_otp (s : State) (x : NvSt) : (setNv s x).otp = s.otp := rfl
@[simp] theorem setNv_held (s : State) (x : NvSt) : (setNv s x).held = s.held := rfl
@[simp] theorem setNv_tal (s : State) (x : NvSt) : (setNv s x).tal = s.tal := rfl
@[simp] theorem setNv_sns (s : State) (x : NvSt) : (setNv s x).sns = s.sns := rfl
@[simp] theorem setNv_axs (s : State) (x : NvSt) : (setNv s x).axs = s.axs := rfl
@[simp] theorem setNv_cal (s : State) (x : NvSt) : (setNv s x).cal = s.cal := rfl
@[simp] theorem setNv_seals (s : State) (x : NvSt) : (setNv s x).seals = s.seals := rfl
@[simp] theorem setNv_lsw (s : State) (x : NvSt) : (setNv s x).lsw = s.lsw := rfl
@[simp] theorem setNv_pmu (s : State) (x : NvSt) : (setNv s x).pmu = s.pmu := rfl
@[simp] theorem setNv_nv (s : State) (x : NvSt) : (setNv s x).nv = x := rfl
@[simp] theorem setNv_bt (s : State) (x : NvSt) : (setNv s x).bt = s.bt := rfl
@[simp] theorem setNv_vlt (s : State) (x : NvSt) : (setNv s x).vlt = s.vlt := rfl
@[simp] theorem setNv_lanes (s : State) (x : NvSt) : (setNv s x).lanes = s.lanes := rfl
@[simp] theorem setNv_fab (s : State) (x : NvSt) : (setNv s x).fab = s.fab := rfl
@[simp] theorem setNv_cpt (s : State) (x : NvSt) : (setNv s x).cpt = s.cpt := rfl
@[simp] theorem setNv_tmp (s : State) (x : NvSt) : (setNv s x).tmp = s.tmp := rfl
@[simp] theorem setNv_lcs (s : State) (x : NvSt) : (setNv s x).lcs = s.lcs := rfl
@[simp] theorem setNv_boot (s : State) (x : NvSt) : (setNv s x).boot = s.boot := rfl
@[simp] theorem setNv_tickq (s : State) (x : NvSt) : (setNv s x).tickq = s.tickq := rfl

/-! ### `setPcie` -/

@[simp] theorem setPcie_pending (s : State) (x : Pcie) : (setPcie s x).pending = s.pending := rfl
@[simp] theorem setPcie_regs (s : State) (x : Pcie) : (setPcie s x).regs = s.regs := rfl
@[simp] theorem setPcie_shadow (s : State) (x : Pcie) : (setPcie s x).shadow = s.shadow := rfl
@[simp] theorem setPcie_tick (s : State) (x : Pcie) : (setPcie s x).tick = s.tick := rfl
@[simp] theorem setPcie_fresh (s : State) (x : Pcie) : (setPcie s x).fresh = s.fresh := rfl
@[simp] theorem setPcie_out (s : State) (x : Pcie) : (setPcie s x).out = s.out := rfl
@[simp] theorem setPcie_router (s : State) (x : Pcie) : (setPcie s x).router = s.router := rfl
@[simp] theorem setPcie_pins (s : State) (x : Pcie) : (setPcie s x).pins = s.pins := rfl
@[simp] theorem setPcie_pcie (s : State) (x : Pcie) : (setPcie s x).pcie = x := rfl
@[simp] theorem setPcie_ac0 (s : State) (x : Pcie) : (setPcie s x).ac0 = s.ac0 := rfl
@[simp] theorem setPcie_ac1 (s : State) (x : Pcie) : (setPcie s x).ac1 = s.ac1 := rfl
@[simp] theorem setPcie_mc (s : State) (x : Pcie) : (setPcie s x).mc = s.mc := rfl
@[simp] theorem setPcie_mpu (s : State) (x : Pcie) : (setPcie s x).mpu = s.mpu := rfl
@[simp] theorem setPcie_mem (s : State) (x : Pcie) : (setPcie s x).mem = s.mem := rfl
@[simp] theorem setPcie_mcc (s : State) (x : Pcie) : (setPcie s x).mcc = s.mcc := rfl
@[simp] theorem setPcie_enOff (s : State) (x : Pcie) : (setPcie s x).enOff = s.enOff := rfl
@[simp] theorem setPcie_chans (s : State) (x : Pcie) : (setPcie s x).chans = s.chans := rfl
@[simp] theorem setPcie_cplq (s : State) (x : Pcie) : (setPcie s x).cplq = s.cplq := rfl
@[simp] theorem setPcie_tills (s : State) (x : Pcie) : (setPcie s x).tills = s.tills := rfl
@[simp] theorem setPcie_intake (s : State) (x : Pcie) : (setPcie s x).intake = s.intake := rfl
@[simp] theorem setPcie_otp (s : State) (x : Pcie) : (setPcie s x).otp = s.otp := rfl
@[simp] theorem setPcie_held (s : State) (x : Pcie) : (setPcie s x).held = s.held := rfl
@[simp] theorem setPcie_tal (s : State) (x : Pcie) : (setPcie s x).tal = s.tal := rfl
@[simp] theorem setPcie_sns (s : State) (x : Pcie) : (setPcie s x).sns = s.sns := rfl
@[simp] theorem setPcie_axs (s : State) (x : Pcie) : (setPcie s x).axs = s.axs := rfl
@[simp] theorem setPcie_cal (s : State) (x : Pcie) : (setPcie s x).cal = s.cal := rfl
@[simp] theorem setPcie_seals (s : State) (x : Pcie) : (setPcie s x).seals = s.seals := rfl
@[simp] theorem setPcie_lsw (s : State) (x : Pcie) : (setPcie s x).lsw = s.lsw := rfl
@[simp] theorem setPcie_pmu (s : State) (x : Pcie) : (setPcie s x).pmu = s.pmu := rfl
@[simp] theorem setPcie_nv (s : State) (x : Pcie) : (setPcie s x).nv = s.nv := rfl
@[simp] theorem setPcie_bt (s : State) (x : Pcie) : (setPcie s x).bt = s.bt := rfl
@[simp] theorem setPcie_vlt (s : State) (x : Pcie) : (setPcie s x).vlt = s.vlt := rfl
@[simp] theorem setPcie_lanes (s : State) (x : Pcie) : (setPcie s x).lanes = s.lanes := rfl
@[simp] theorem setPcie_fab (s : State) (x : Pcie) : (setPcie s x).fab = s.fab := rfl
@[simp] theorem setPcie_cpt (s : State) (x : Pcie) : (setPcie s x).cpt = s.cpt := rfl
@[simp] theorem setPcie_tmp (s : State) (x : Pcie) : (setPcie s x).tmp = s.tmp := rfl
@[simp] theorem setPcie_lcs (s : State) (x : Pcie) : (setPcie s x).lcs = s.lcs := rfl
@[simp] theorem setPcie_boot (s : State) (x : Pcie) : (setPcie s x).boot = s.boot := rfl
@[simp] theorem setPcie_tickq (s : State) (x : Pcie) : (setPcie s x).tickq = s.tickq := rfl

/-! ### `setLanes` -/

@[simp] theorem setLanes_pending (s : State) (x : LanesSt) : (setLanes s x).pending = s.pending := rfl
@[simp] theorem setLanes_regs (s : State) (x : LanesSt) : (setLanes s x).regs = s.regs := rfl
@[simp] theorem setLanes_shadow (s : State) (x : LanesSt) : (setLanes s x).shadow = s.shadow := rfl
@[simp] theorem setLanes_tick (s : State) (x : LanesSt) : (setLanes s x).tick = s.tick := rfl
@[simp] theorem setLanes_fresh (s : State) (x : LanesSt) : (setLanes s x).fresh = s.fresh := rfl
@[simp] theorem setLanes_out (s : State) (x : LanesSt) : (setLanes s x).out = s.out := rfl
@[simp] theorem setLanes_router (s : State) (x : LanesSt) : (setLanes s x).router = s.router := rfl
@[simp] theorem setLanes_pins (s : State) (x : LanesSt) : (setLanes s x).pins = s.pins := rfl
@[simp] theorem setLanes_pcie (s : State) (x : LanesSt) : (setLanes s x).pcie = s.pcie := rfl
@[simp] theorem setLanes_ac0 (s : State) (x : LanesSt) : (setLanes s x).ac0 = s.ac0 := rfl
@[simp] theorem setLanes_ac1 (s : State) (x : LanesSt) : (setLanes s x).ac1 = s.ac1 := rfl
@[simp] theorem setLanes_mc (s : State) (x : LanesSt) : (setLanes s x).mc = s.mc := rfl
@[simp] theorem setLanes_mpu (s : State) (x : LanesSt) : (setLanes s x).mpu = s.mpu := rfl
@[simp] theorem setLanes_mem (s : State) (x : LanesSt) : (setLanes s x).mem = s.mem := rfl
@[simp] theorem setLanes_mcc (s : State) (x : LanesSt) : (setLanes s x).mcc = s.mcc := rfl
@[simp] theorem setLanes_enOff (s : State) (x : LanesSt) : (setLanes s x).enOff = s.enOff := rfl
@[simp] theorem setLanes_chans (s : State) (x : LanesSt) : (setLanes s x).chans = s.chans := rfl
@[simp] theorem setLanes_cplq (s : State) (x : LanesSt) : (setLanes s x).cplq = s.cplq := rfl
@[simp] theorem setLanes_tills (s : State) (x : LanesSt) : (setLanes s x).tills = s.tills := rfl
@[simp] theorem setLanes_intake (s : State) (x : LanesSt) : (setLanes s x).intake = s.intake := rfl
@[simp] theorem setLanes_otp (s : State) (x : LanesSt) : (setLanes s x).otp = s.otp := rfl
@[simp] theorem setLanes_held (s : State) (x : LanesSt) : (setLanes s x).held = s.held := rfl
@[simp] theorem setLanes_tal (s : State) (x : LanesSt) : (setLanes s x).tal = s.tal := rfl
@[simp] theorem setLanes_sns (s : State) (x : LanesSt) : (setLanes s x).sns = s.sns := rfl
@[simp] theorem setLanes_axs (s : State) (x : LanesSt) : (setLanes s x).axs = s.axs := rfl
@[simp] theorem setLanes_cal (s : State) (x : LanesSt) : (setLanes s x).cal = s.cal := rfl
@[simp] theorem setLanes_seals (s : State) (x : LanesSt) : (setLanes s x).seals = s.seals := rfl
@[simp] theorem setLanes_lsw (s : State) (x : LanesSt) : (setLanes s x).lsw = s.lsw := rfl
@[simp] theorem setLanes_pmu (s : State) (x : LanesSt) : (setLanes s x).pmu = s.pmu := rfl
@[simp] theorem setLanes_nv (s : State) (x : LanesSt) : (setLanes s x).nv = s.nv := rfl
@[simp] theorem setLanes_bt (s : State) (x : LanesSt) : (setLanes s x).bt = s.bt := rfl
@[simp] theorem setLanes_vlt (s : State) (x : LanesSt) : (setLanes s x).vlt = s.vlt := rfl
@[simp] theorem setLanes_lanes (s : State) (x : LanesSt) : (setLanes s x).lanes = x := rfl
@[simp] theorem setLanes_fab (s : State) (x : LanesSt) : (setLanes s x).fab = s.fab := rfl
@[simp] theorem setLanes_cpt (s : State) (x : LanesSt) : (setLanes s x).cpt = s.cpt := rfl
@[simp] theorem setLanes_tmp (s : State) (x : LanesSt) : (setLanes s x).tmp = s.tmp := rfl
@[simp] theorem setLanes_lcs (s : State) (x : LanesSt) : (setLanes s x).lcs = s.lcs := rfl
@[simp] theorem setLanes_boot (s : State) (x : LanesSt) : (setLanes s x).boot = s.boot := rfl
@[simp] theorem setLanes_tickq (s : State) (x : LanesSt) : (setLanes s x).tickq = s.tickq := rfl

/-! ### `setSns` -/

@[simp] theorem setSns_pending (s : State) (x : SnsSt) : (setSns s x).pending = s.pending := rfl
@[simp] theorem setSns_regs (s : State) (x : SnsSt) : (setSns s x).regs = s.regs := rfl
@[simp] theorem setSns_shadow (s : State) (x : SnsSt) : (setSns s x).shadow = s.shadow := rfl
@[simp] theorem setSns_tick (s : State) (x : SnsSt) : (setSns s x).tick = s.tick := rfl
@[simp] theorem setSns_fresh (s : State) (x : SnsSt) : (setSns s x).fresh = s.fresh := rfl
@[simp] theorem setSns_out (s : State) (x : SnsSt) : (setSns s x).out = s.out := rfl
@[simp] theorem setSns_router (s : State) (x : SnsSt) : (setSns s x).router = s.router := rfl
@[simp] theorem setSns_pins (s : State) (x : SnsSt) : (setSns s x).pins = s.pins := rfl
@[simp] theorem setSns_pcie (s : State) (x : SnsSt) : (setSns s x).pcie = s.pcie := rfl
@[simp] theorem setSns_ac0 (s : State) (x : SnsSt) : (setSns s x).ac0 = s.ac0 := rfl
@[simp] theorem setSns_ac1 (s : State) (x : SnsSt) : (setSns s x).ac1 = s.ac1 := rfl
@[simp] theorem setSns_mc (s : State) (x : SnsSt) : (setSns s x).mc = s.mc := rfl
@[simp] theorem setSns_mpu (s : State) (x : SnsSt) : (setSns s x).mpu = s.mpu := rfl
@[simp] theorem setSns_mem (s : State) (x : SnsSt) : (setSns s x).mem = s.mem := rfl
@[simp] theorem setSns_mcc (s : State) (x : SnsSt) : (setSns s x).mcc = s.mcc := rfl
@[simp] theorem setSns_enOff (s : State) (x : SnsSt) : (setSns s x).enOff = s.enOff := rfl
@[simp] theorem setSns_chans (s : State) (x : SnsSt) : (setSns s x).chans = s.chans := rfl
@[simp] theorem setSns_cplq (s : State) (x : SnsSt) : (setSns s x).cplq = s.cplq := rfl
@[simp] theorem setSns_tills (s : State) (x : SnsSt) : (setSns s x).tills = s.tills := rfl
@[simp] theorem setSns_intake (s : State) (x : SnsSt) : (setSns s x).intake = s.intake := rfl
@[simp] theorem setSns_otp (s : State) (x : SnsSt) : (setSns s x).otp = s.otp := rfl
@[simp] theorem setSns_held (s : State) (x : SnsSt) : (setSns s x).held = s.held := rfl
@[simp] theorem setSns_tal (s : State) (x : SnsSt) : (setSns s x).tal = s.tal := rfl
@[simp] theorem setSns_sns (s : State) (x : SnsSt) : (setSns s x).sns = x := rfl
@[simp] theorem setSns_axs (s : State) (x : SnsSt) : (setSns s x).axs = s.axs := rfl
@[simp] theorem setSns_cal (s : State) (x : SnsSt) : (setSns s x).cal = s.cal := rfl
@[simp] theorem setSns_seals (s : State) (x : SnsSt) : (setSns s x).seals = s.seals := rfl
@[simp] theorem setSns_lsw (s : State) (x : SnsSt) : (setSns s x).lsw = s.lsw := rfl
@[simp] theorem setSns_pmu (s : State) (x : SnsSt) : (setSns s x).pmu = s.pmu := rfl
@[simp] theorem setSns_nv (s : State) (x : SnsSt) : (setSns s x).nv = s.nv := rfl
@[simp] theorem setSns_bt (s : State) (x : SnsSt) : (setSns s x).bt = s.bt := rfl
@[simp] theorem setSns_vlt (s : State) (x : SnsSt) : (setSns s x).vlt = s.vlt := rfl
@[simp] theorem setSns_lanes (s : State) (x : SnsSt) : (setSns s x).lanes = s.lanes := rfl
@[simp] theorem setSns_fab (s : State) (x : SnsSt) : (setSns s x).fab = s.fab := rfl
@[simp] theorem setSns_cpt (s : State) (x : SnsSt) : (setSns s x).cpt = s.cpt := rfl
@[simp] theorem setSns_tmp (s : State) (x : SnsSt) : (setSns s x).tmp = s.tmp := rfl
@[simp] theorem setSns_lcs (s : State) (x : SnsSt) : (setSns s x).lcs = s.lcs := rfl
@[simp] theorem setSns_boot (s : State) (x : SnsSt) : (setSns s x).boot = s.boot := rfl
@[simp] theorem setSns_tickq (s : State) (x : SnsSt) : (setSns s x).tickq = s.tickq := rfl

/-! ### `setTmp` -/

@[simp] theorem setTmp_pending (s : State) (x : TmpSt) : (setTmp s x).pending = s.pending := rfl
@[simp] theorem setTmp_regs (s : State) (x : TmpSt) : (setTmp s x).regs = s.regs := rfl
@[simp] theorem setTmp_shadow (s : State) (x : TmpSt) : (setTmp s x).shadow = s.shadow := rfl
@[simp] theorem setTmp_tick (s : State) (x : TmpSt) : (setTmp s x).tick = s.tick := rfl
@[simp] theorem setTmp_fresh (s : State) (x : TmpSt) : (setTmp s x).fresh = s.fresh := rfl
@[simp] theorem setTmp_out (s : State) (x : TmpSt) : (setTmp s x).out = s.out := rfl
@[simp] theorem setTmp_router (s : State) (x : TmpSt) : (setTmp s x).router = s.router := rfl
@[simp] theorem setTmp_pins (s : State) (x : TmpSt) : (setTmp s x).pins = s.pins := rfl
@[simp] theorem setTmp_pcie (s : State) (x : TmpSt) : (setTmp s x).pcie = s.pcie := rfl
@[simp] theorem setTmp_ac0 (s : State) (x : TmpSt) : (setTmp s x).ac0 = s.ac0 := rfl
@[simp] theorem setTmp_ac1 (s : State) (x : TmpSt) : (setTmp s x).ac1 = s.ac1 := rfl
@[simp] theorem setTmp_mc (s : State) (x : TmpSt) : (setTmp s x).mc = s.mc := rfl
@[simp] theorem setTmp_mpu (s : State) (x : TmpSt) : (setTmp s x).mpu = s.mpu := rfl
@[simp] theorem setTmp_mem (s : State) (x : TmpSt) : (setTmp s x).mem = s.mem := rfl
@[simp] theorem setTmp_mcc (s : State) (x : TmpSt) : (setTmp s x).mcc = s.mcc := rfl
@[simp] theorem setTmp_enOff (s : State) (x : TmpSt) : (setTmp s x).enOff = s.enOff := rfl
@[simp] theorem setTmp_chans (s : State) (x : TmpSt) : (setTmp s x).chans = s.chans := rfl
@[simp] theorem setTmp_cplq (s : State) (x : TmpSt) : (setTmp s x).cplq = s.cplq := rfl
@[simp] theorem setTmp_tills (s : State) (x : TmpSt) : (setTmp s x).tills = s.tills := rfl
@[simp] theorem setTmp_intake (s : State) (x : TmpSt) : (setTmp s x).intake = s.intake := rfl
@[simp] theorem setTmp_otp (s : State) (x : TmpSt) : (setTmp s x).otp = s.otp := rfl
@[simp] theorem setTmp_held (s : State) (x : TmpSt) : (setTmp s x).held = s.held := rfl
@[simp] theorem setTmp_tal (s : State) (x : TmpSt) : (setTmp s x).tal = s.tal := rfl
@[simp] theorem setTmp_sns (s : State) (x : TmpSt) : (setTmp s x).sns = s.sns := rfl
@[simp] theorem setTmp_axs (s : State) (x : TmpSt) : (setTmp s x).axs = s.axs := rfl
@[simp] theorem setTmp_cal (s : State) (x : TmpSt) : (setTmp s x).cal = s.cal := rfl
@[simp] theorem setTmp_seals (s : State) (x : TmpSt) : (setTmp s x).seals = s.seals := rfl
@[simp] theorem setTmp_lsw (s : State) (x : TmpSt) : (setTmp s x).lsw = s.lsw := rfl
@[simp] theorem setTmp_pmu (s : State) (x : TmpSt) : (setTmp s x).pmu = s.pmu := rfl
@[simp] theorem setTmp_nv (s : State) (x : TmpSt) : (setTmp s x).nv = s.nv := rfl
@[simp] theorem setTmp_bt (s : State) (x : TmpSt) : (setTmp s x).bt = s.bt := rfl
@[simp] theorem setTmp_vlt (s : State) (x : TmpSt) : (setTmp s x).vlt = s.vlt := rfl
@[simp] theorem setTmp_lanes (s : State) (x : TmpSt) : (setTmp s x).lanes = s.lanes := rfl
@[simp] theorem setTmp_fab (s : State) (x : TmpSt) : (setTmp s x).fab = s.fab := rfl
@[simp] theorem setTmp_cpt (s : State) (x : TmpSt) : (setTmp s x).cpt = s.cpt := rfl
@[simp] theorem setTmp_tmp (s : State) (x : TmpSt) : (setTmp s x).tmp = x := rfl
@[simp] theorem setTmp_lcs (s : State) (x : TmpSt) : (setTmp s x).lcs = s.lcs := rfl
@[simp] theorem setTmp_boot (s : State) (x : TmpSt) : (setTmp s x).boot = s.boot := rfl
@[simp] theorem setTmp_tickq (s : State) (x : TmpSt) : (setTmp s x).tickq = s.tickq := rfl

/-! ### `setVlt` -/

@[simp] theorem setVlt_pending (s : State) (x : VltSt) : (setVlt s x).pending = s.pending := rfl
@[simp] theorem setVlt_regs (s : State) (x : VltSt) : (setVlt s x).regs = s.regs := rfl
@[simp] theorem setVlt_shadow (s : State) (x : VltSt) : (setVlt s x).shadow = s.shadow := rfl
@[simp] theorem setVlt_tick (s : State) (x : VltSt) : (setVlt s x).tick = s.tick := rfl
@[simp] theorem setVlt_fresh (s : State) (x : VltSt) : (setVlt s x).fresh = s.fresh := rfl
@[simp] theorem setVlt_out (s : State) (x : VltSt) : (setVlt s x).out = s.out := rfl
@[simp] theorem setVlt_router (s : State) (x : VltSt) : (setVlt s x).router = s.router := rfl
@[simp] theorem setVlt_pins (s : State) (x : VltSt) : (setVlt s x).pins = s.pins := rfl
@[simp] theorem setVlt_pcie (s : State) (x : VltSt) : (setVlt s x).pcie = s.pcie := rfl
@[simp] theorem setVlt_ac0 (s : State) (x : VltSt) : (setVlt s x).ac0 = s.ac0 := rfl
@[simp] theorem setVlt_ac1 (s : State) (x : VltSt) : (setVlt s x).ac1 = s.ac1 := rfl
@[simp] theorem setVlt_mc (s : State) (x : VltSt) : (setVlt s x).mc = s.mc := rfl
@[simp] theorem setVlt_mpu (s : State) (x : VltSt) : (setVlt s x).mpu = s.mpu := rfl
@[simp] theorem setVlt_mem (s : State) (x : VltSt) : (setVlt s x).mem = s.mem := rfl
@[simp] theorem setVlt_mcc (s : State) (x : VltSt) : (setVlt s x).mcc = s.mcc := rfl
@[simp] theorem setVlt_enOff (s : State) (x : VltSt) : (setVlt s x).enOff = s.enOff := rfl
@[simp] theorem setVlt_chans (s : State) (x : VltSt) : (setVlt s x).chans = s.chans := rfl
@[simp] theorem setVlt_cplq (s : State) (x : VltSt) : (setVlt s x).cplq = s.cplq := rfl
@[simp] theorem setVlt_tills (s : State) (x : VltSt) : (setVlt s x).tills = s.tills := rfl
@[simp] theorem setVlt_intake (s : State) (x : VltSt) : (setVlt s x).intake = s.intake := rfl
@[simp] theorem setVlt_otp (s : State) (x : VltSt) : (setVlt s x).otp = s.otp := rfl
@[simp] theorem setVlt_held (s : State) (x : VltSt) : (setVlt s x).held = s.held := rfl
@[simp] theorem setVlt_tal (s : State) (x : VltSt) : (setVlt s x).tal = s.tal := rfl
@[simp] theorem setVlt_sns (s : State) (x : VltSt) : (setVlt s x).sns = s.sns := rfl
@[simp] theorem setVlt_axs (s : State) (x : VltSt) : (setVlt s x).axs = s.axs := rfl
@[simp] theorem setVlt_cal (s : State) (x : VltSt) : (setVlt s x).cal = s.cal := rfl
@[simp] theorem setVlt_seals (s : State) (x : VltSt) : (setVlt s x).seals = s.seals := rfl
@[simp] theorem setVlt_lsw (s : State) (x : VltSt) : (setVlt s x).lsw = s.lsw := rfl
@[simp] theorem setVlt_pmu (s : State) (x : VltSt) : (setVlt s x).pmu = s.pmu := rfl
@[simp] theorem setVlt_nv (s : State) (x : VltSt) : (setVlt s x).nv = s.nv := rfl
@[simp] theorem setVlt_bt (s : State) (x : VltSt) : (setVlt s x).bt = s.bt := rfl
@[simp] theorem setVlt_vlt (s : State) (x : VltSt) : (setVlt s x).vlt = x := rfl
@[simp] theorem setVlt_lanes (s : State) (x : VltSt) : (setVlt s x).lanes = s.lanes := rfl
@[simp] theorem setVlt_fab (s : State) (x : VltSt) : (setVlt s x).fab = s.fab := rfl
@[simp] theorem setVlt_cpt (s : State) (x : VltSt) : (setVlt s x).cpt = s.cpt := rfl
@[simp] theorem setVlt_tmp (s : State) (x : VltSt) : (setVlt s x).tmp = s.tmp := rfl
@[simp] theorem setVlt_lcs (s : State) (x : VltSt) : (setVlt s x).lcs = s.lcs := rfl
@[simp] theorem setVlt_boot (s : State) (x : VltSt) : (setVlt s x).boot = s.boot := rfl
@[simp] theorem setVlt_tickq (s : State) (x : VltSt) : (setVlt s x).tickq = s.tickq := rfl

/-! ### `wr` -/

@[simp] theorem wr_pending (s : State) (a : Nat) (v : Word) : (wr s a v).pending = s.pending := rfl
@[simp] theorem wr_shadow (s : State) (a : Nat) (v : Word) : (wr s a v).shadow = s.shadow := rfl
@[simp] theorem wr_tick (s : State) (a : Nat) (v : Word) : (wr s a v).tick = s.tick := rfl
@[simp] theorem wr_fresh (s : State) (a : Nat) (v : Word) : (wr s a v).fresh = s.fresh := rfl
@[simp] theorem wr_out (s : State) (a : Nat) (v : Word) : (wr s a v).out = s.out := rfl
@[simp] theorem wr_router (s : State) (a : Nat) (v : Word) : (wr s a v).router = s.router := rfl
@[simp] theorem wr_pins (s : State) (a : Nat) (v : Word) : (wr s a v).pins = s.pins := rfl
@[simp] theorem wr_pcie (s : State) (a : Nat) (v : Word) : (wr s a v).pcie = s.pcie := rfl
@[simp] theorem wr_ac0 (s : State) (a : Nat) (v : Word) : (wr s a v).ac0 = s.ac0 := rfl
@[simp] theorem wr_ac1 (s : State) (a : Nat) (v : Word) : (wr s a v).ac1 = s.ac1 := rfl
@[simp] theorem wr_mc (s : State) (a : Nat) (v : Word) : (wr s a v).mc = s.mc := rfl
@[simp] theorem wr_mpu (s : State) (a : Nat) (v : Word) : (wr s a v).mpu = s.mpu := rfl
@[simp] theorem wr_mem (s : State) (a : Nat) (v : Word) : (wr s a v).mem = s.mem := rfl
@[simp] theorem wr_mcc (s : State) (a : Nat) (v : Word) : (wr s a v).mcc = s.mcc := rfl
@[simp] theorem wr_enOff (s : State) (a : Nat) (v : Word) : (wr s a v).enOff = s.enOff := rfl
@[simp] theorem wr_chans (s : State) (a : Nat) (v : Word) : (wr s a v).chans = s.chans := rfl
@[simp] theorem wr_cplq (s : State) (a : Nat) (v : Word) : (wr s a v).cplq = s.cplq := rfl
@[simp] theorem wr_tills (s : State) (a : Nat) (v : Word) : (wr s a v).tills = s.tills := rfl
@[simp] theorem wr_intake (s : State) (a : Nat) (v : Word) : (wr s a v).intake = s.intake := rfl
@[simp] theorem wr_otp (s : State) (a : Nat) (v : Word) : (wr s a v).otp = s.otp := rfl
@[simp] theorem wr_held (s : State) (a : Nat) (v : Word) : (wr s a v).held = s.held := rfl
@[simp] theorem wr_tal (s : State) (a : Nat) (v : Word) : (wr s a v).tal = s.tal := rfl
@[simp] theorem wr_sns (s : State) (a : Nat) (v : Word) : (wr s a v).sns = s.sns := rfl
@[simp] theorem wr_axs (s : State) (a : Nat) (v : Word) : (wr s a v).axs = s.axs := rfl
@[simp] theorem wr_cal (s : State) (a : Nat) (v : Word) : (wr s a v).cal = s.cal := rfl
@[simp] theorem wr_seals (s : State) (a : Nat) (v : Word) : (wr s a v).seals = s.seals := rfl
@[simp] theorem wr_lsw (s : State) (a : Nat) (v : Word) : (wr s a v).lsw = s.lsw := rfl
@[simp] theorem wr_pmu (s : State) (a : Nat) (v : Word) : (wr s a v).pmu = s.pmu := rfl
@[simp] theorem wr_nv (s : State) (a : Nat) (v : Word) : (wr s a v).nv = s.nv := rfl
@[simp] theorem wr_bt (s : State) (a : Nat) (v : Word) : (wr s a v).bt = s.bt := rfl
@[simp] theorem wr_vlt (s : State) (a : Nat) (v : Word) : (wr s a v).vlt = s.vlt := rfl
@[simp] theorem wr_lanes (s : State) (a : Nat) (v : Word) : (wr s a v).lanes = s.lanes := rfl
@[simp] theorem wr_fab (s : State) (a : Nat) (v : Word) : (wr s a v).fab = s.fab := rfl
@[simp] theorem wr_cpt (s : State) (a : Nat) (v : Word) : (wr s a v).cpt = s.cpt := rfl
@[simp] theorem wr_tmp (s : State) (a : Nat) (v : Word) : (wr s a v).tmp = s.tmp := rfl
@[simp] theorem wr_lcs (s : State) (a : Nat) (v : Word) : (wr s a v).lcs = s.lcs := rfl
@[simp] theorem wr_boot (s : State) (a : Nat) (v : Word) : (wr s a v).boot = s.boot := rfl
@[simp] theorem wr_tickq (s : State) (a : Nat) (v : Word) : (wr s a v).tickq = s.tickq := rfl

/-! ### `wrBit` and `wrFld` -/

@[simp] theorem wrBit_pending (s : State) (a k : Nat) (b : Bool) : (wrBit s a k b).pending = s.pending := rfl
@[simp] theorem wrFld_pending (s : State) (a hi lo v : Nat) : (wrFld s a hi lo v).pending = s.pending := rfl
@[simp] theorem wrBit_shadow (s : State) (a k : Nat) (b : Bool) : (wrBit s a k b).shadow = s.shadow := rfl
@[simp] theorem wrFld_shadow (s : State) (a hi lo v : Nat) : (wrFld s a hi lo v).shadow = s.shadow := rfl
@[simp] theorem wrBit_tick (s : State) (a k : Nat) (b : Bool) : (wrBit s a k b).tick = s.tick := rfl
@[simp] theorem wrFld_tick (s : State) (a hi lo v : Nat) : (wrFld s a hi lo v).tick = s.tick := rfl
@[simp] theorem wrBit_fresh (s : State) (a k : Nat) (b : Bool) : (wrBit s a k b).fresh = s.fresh := rfl
@[simp] theorem wrFld_fresh (s : State) (a hi lo v : Nat) : (wrFld s a hi lo v).fresh = s.fresh := rfl
@[simp] theorem wrBit_out (s : State) (a k : Nat) (b : Bool) : (wrBit s a k b).out = s.out := rfl
@[simp] theorem wrFld_out (s : State) (a hi lo v : Nat) : (wrFld s a hi lo v).out = s.out := rfl
@[simp] theorem wrBit_router (s : State) (a k : Nat) (b : Bool) : (wrBit s a k b).router = s.router := rfl
@[simp] theorem wrFld_router (s : State) (a hi lo v : Nat) : (wrFld s a hi lo v).router = s.router := rfl
@[simp] theorem wrBit_pins (s : State) (a k : Nat) (b : Bool) : (wrBit s a k b).pins = s.pins := rfl
@[simp] theorem wrFld_pins (s : State) (a hi lo v : Nat) : (wrFld s a hi lo v).pins = s.pins := rfl
@[simp] theorem wrBit_pcie (s : State) (a k : Nat) (b : Bool) : (wrBit s a k b).pcie = s.pcie := rfl
@[simp] theorem wrFld_pcie (s : State) (a hi lo v : Nat) : (wrFld s a hi lo v).pcie = s.pcie := rfl
@[simp] theorem wrBit_ac0 (s : State) (a k : Nat) (b : Bool) : (wrBit s a k b).ac0 = s.ac0 := rfl
@[simp] theorem wrFld_ac0 (s : State) (a hi lo v : Nat) : (wrFld s a hi lo v).ac0 = s.ac0 := rfl
@[simp] theorem wrBit_ac1 (s : State) (a k : Nat) (b : Bool) : (wrBit s a k b).ac1 = s.ac1 := rfl
@[simp] theorem wrFld_ac1 (s : State) (a hi lo v : Nat) : (wrFld s a hi lo v).ac1 = s.ac1 := rfl
@[simp] theorem wrBit_mc (s : State) (a k : Nat) (b : Bool) : (wrBit s a k b).mc = s.mc := rfl
@[simp] theorem wrFld_mc (s : State) (a hi lo v : Nat) : (wrFld s a hi lo v).mc = s.mc := rfl
@[simp] theorem wrBit_mpu (s : State) (a k : Nat) (b : Bool) : (wrBit s a k b).mpu = s.mpu := rfl
@[simp] theorem wrFld_mpu (s : State) (a hi lo v : Nat) : (wrFld s a hi lo v).mpu = s.mpu := rfl
@[simp] theorem wrBit_mem (s : State) (a k : Nat) (b : Bool) : (wrBit s a k b).mem = s.mem := rfl
@[simp] theorem wrFld_mem (s : State) (a hi lo v : Nat) : (wrFld s a hi lo v).mem = s.mem := rfl
@[simp] theorem wrBit_mcc (s : State) (a k : Nat) (b : Bool) : (wrBit s a k b).mcc = s.mcc := rfl
@[simp] theorem wrFld_mcc (s : State) (a hi lo v : Nat) : (wrFld s a hi lo v).mcc = s.mcc := rfl
@[simp] theorem wrBit_enOff (s : State) (a k : Nat) (b : Bool) : (wrBit s a k b).enOff = s.enOff := rfl
@[simp] theorem wrFld_enOff (s : State) (a hi lo v : Nat) : (wrFld s a hi lo v).enOff = s.enOff := rfl
@[simp] theorem wrBit_chans (s : State) (a k : Nat) (b : Bool) : (wrBit s a k b).chans = s.chans := rfl
@[simp] theorem wrFld_chans (s : State) (a hi lo v : Nat) : (wrFld s a hi lo v).chans = s.chans := rfl
@[simp] theorem wrBit_cplq (s : State) (a k : Nat) (b : Bool) : (wrBit s a k b).cplq = s.cplq := rfl
@[simp] theorem wrFld_cplq (s : State) (a hi lo v : Nat) : (wrFld s a hi lo v).cplq = s.cplq := rfl
@[simp] theorem wrBit_tills (s : State) (a k : Nat) (b : Bool) : (wrBit s a k b).tills = s.tills := rfl
@[simp] theorem wrFld_tills (s : State) (a hi lo v : Nat) : (wrFld s a hi lo v).tills = s.tills := rfl
@[simp] theorem wrBit_intake (s : State) (a k : Nat) (b : Bool) : (wrBit s a k b).intake = s.intake := rfl
@[simp] theorem wrFld_intake (s : State) (a hi lo v : Nat) : (wrFld s a hi lo v).intake = s.intake := rfl
@[simp] theorem wrBit_otp (s : State) (a k : Nat) (b : Bool) : (wrBit s a k b).otp = s.otp := rfl
@[simp] theorem wrFld_otp (s : State) (a hi lo v : Nat) : (wrFld s a hi lo v).otp = s.otp := rfl
@[simp] theorem wrBit_held (s : State) (a k : Nat) (b : Bool) : (wrBit s a k b).held = s.held := rfl
@[simp] theorem wrFld_held (s : State) (a hi lo v : Nat) : (wrFld s a hi lo v).held = s.held := rfl
@[simp] theorem wrBit_tal (s : State) (a k : Nat) (b : Bool) : (wrBit s a k b).tal = s.tal := rfl
@[simp] theorem wrFld_tal (s : State) (a hi lo v : Nat) : (wrFld s a hi lo v).tal = s.tal := rfl
@[simp] theorem wrBit_sns (s : State) (a k : Nat) (b : Bool) : (wrBit s a k b).sns = s.sns := rfl
@[simp] theorem wrFld_sns (s : State) (a hi lo v : Nat) : (wrFld s a hi lo v).sns = s.sns := rfl
@[simp] theorem wrBit_axs (s : State) (a k : Nat) (b : Bool) : (wrBit s a k b).axs = s.axs := rfl
@[simp] theorem wrFld_axs (s : State) (a hi lo v : Nat) : (wrFld s a hi lo v).axs = s.axs := rfl
@[simp] theorem wrBit_cal (s : State) (a k : Nat) (b : Bool) : (wrBit s a k b).cal = s.cal := rfl
@[simp] theorem wrFld_cal (s : State) (a hi lo v : Nat) : (wrFld s a hi lo v).cal = s.cal := rfl
@[simp] theorem wrBit_seals (s : State) (a k : Nat) (b : Bool) : (wrBit s a k b).seals = s.seals := rfl
@[simp] theorem wrFld_seals (s : State) (a hi lo v : Nat) : (wrFld s a hi lo v).seals = s.seals := rfl
@[simp] theorem wrBit_lsw (s : State) (a k : Nat) (b : Bool) : (wrBit s a k b).lsw = s.lsw := rfl
@[simp] theorem wrFld_lsw (s : State) (a hi lo v : Nat) : (wrFld s a hi lo v).lsw = s.lsw := rfl
@[simp] theorem wrBit_pmu (s : State) (a k : Nat) (b : Bool) : (wrBit s a k b).pmu = s.pmu := rfl
@[simp] theorem wrFld_pmu (s : State) (a hi lo v : Nat) : (wrFld s a hi lo v).pmu = s.pmu := rfl
@[simp] theorem wrBit_nv (s : State) (a k : Nat) (b : Bool) : (wrBit s a k b).nv = s.nv := rfl
@[simp] theorem wrFld_nv (s : State) (a hi lo v : Nat) : (wrFld s a hi lo v).nv = s.nv := rfl
@[simp] theorem wrBit_bt (s : State) (a k : Nat) (b : Bool) : (wrBit s a k b).bt = s.bt := rfl
@[simp] theorem wrFld_bt (s : State) (a hi lo v : Nat) : (wrFld s a hi lo v).bt = s.bt := rfl
@[simp] theorem wrBit_vlt (s : State) (a k : Nat) (b : Bool) : (wrBit s a k b).vlt = s.vlt := rfl
@[simp] theorem wrFld_vlt (s : State) (a hi lo v : Nat) : (wrFld s a hi lo v).vlt = s.vlt := rfl
@[simp] theorem wrBit_lanes (s : State) (a k : Nat) (b : Bool) : (wrBit s a k b).lanes = s.lanes := rfl
@[simp] theorem wrFld_lanes (s : State) (a hi lo v : Nat) : (wrFld s a hi lo v).lanes = s.lanes := rfl
@[simp] theorem wrBit_fab (s : State) (a k : Nat) (b : Bool) : (wrBit s a k b).fab = s.fab := rfl
@[simp] theorem wrFld_fab (s : State) (a hi lo v : Nat) : (wrFld s a hi lo v).fab = s.fab := rfl
@[simp] theorem wrBit_cpt (s : State) (a k : Nat) (b : Bool) : (wrBit s a k b).cpt = s.cpt := rfl
@[simp] theorem wrFld_cpt (s : State) (a hi lo v : Nat) : (wrFld s a hi lo v).cpt = s.cpt := rfl
@[simp] theorem wrBit_tmp (s : State) (a k : Nat) (b : Bool) : (wrBit s a k b).tmp = s.tmp := rfl
@[simp] theorem wrFld_tmp (s : State) (a hi lo v : Nat) : (wrFld s a hi lo v).tmp = s.tmp := rfl
@[simp] theorem wrBit_lcs (s : State) (a k : Nat) (b : Bool) : (wrBit s a k b).lcs = s.lcs := rfl
@[simp] theorem wrFld_lcs (s : State) (a hi lo v : Nat) : (wrFld s a hi lo v).lcs = s.lcs := rfl
@[simp] theorem wrBit_boot (s : State) (a k : Nat) (b : Bool) : (wrBit s a k b).boot = s.boot := rfl
@[simp] theorem wrFld_boot (s : State) (a hi lo v : Nat) : (wrFld s a hi lo v).boot = s.boot := rfl
@[simp] theorem wrBit_tickq (s : State) (a k : Nat) (b : Bool) : (wrBit s a k b).tickq = s.tickq := rfl
@[simp] theorem wrFld_tickq (s : State) (a hi lo v : Nat) : (wrFld s a hi lo v).tickq = s.tickq := rfl

/-! ### `setCore` -/

@[simp] theorem setCore_pending (s : State) (c : CoreId) (k : Core) : (setCore s c k).pending = s.pending := by cases c <;> rfl
@[simp] theorem setCore_regs (s : State) (c : CoreId) (k : Core) : (setCore s c k).regs = s.regs := by cases c <;> rfl
@[simp] theorem setCore_shadow (s : State) (c : CoreId) (k : Core) : (setCore s c k).shadow = s.shadow := by cases c <;> rfl
@[simp] theorem setCore_tick (s : State) (c : CoreId) (k : Core) : (setCore s c k).tick = s.tick := by cases c <;> rfl
@[simp] theorem setCore_fresh (s : State) (c : CoreId) (k : Core) : (setCore s c k).fresh = s.fresh := by cases c <;> rfl
@[simp] theorem setCore_out (s : State) (c : CoreId) (k : Core) : (setCore s c k).out = s.out := by cases c <;> rfl
@[simp] theorem setCore_router (s : State) (c : CoreId) (k : Core) : (setCore s c k).router = s.router := by cases c <;> rfl
@[simp] theorem setCore_pins (s : State) (c : CoreId) (k : Core) : (setCore s c k).pins = s.pins := by cases c <;> rfl
@[simp] theorem setCore_pcie (s : State) (c : CoreId) (k : Core) : (setCore s c k).pcie = s.pcie := by cases c <;> rfl
@[simp] theorem setCore_mpu (s : State) (c : CoreId) (k : Core) : (setCore s c k).mpu = s.mpu := by cases c <;> rfl
@[simp] theorem setCore_mem (s : State) (c : CoreId) (k : Core) : (setCore s c k).mem = s.mem := by cases c <;> rfl
@[simp] theorem setCore_mcc (s : State) (c : CoreId) (k : Core) : (setCore s c k).mcc = s.mcc := by cases c <;> rfl
@[simp] theorem setCore_enOff (s : State) (c : CoreId) (k : Core) : (setCore s c k).enOff = s.enOff := by cases c <;> rfl
@[simp] theorem setCore_chans (s : State) (c : CoreId) (k : Core) : (setCore s c k).chans = s.chans := by cases c <;> rfl
@[simp] theorem setCore_cplq (s : State) (c : CoreId) (k : Core) : (setCore s c k).cplq = s.cplq := by cases c <;> rfl
@[simp] theorem setCore_tills (s : State) (c : CoreId) (k : Core) : (setCore s c k).tills = s.tills := by cases c <;> rfl
@[simp] theorem setCore_intake (s : State) (c : CoreId) (k : Core) : (setCore s c k).intake = s.intake := by cases c <;> rfl
@[simp] theorem setCore_otp (s : State) (c : CoreId) (k : Core) : (setCore s c k).otp = s.otp := by cases c <;> rfl
@[simp] theorem setCore_held (s : State) (c : CoreId) (k : Core) : (setCore s c k).held = s.held := by cases c <;> rfl
@[simp] theorem setCore_tal (s : State) (c : CoreId) (k : Core) : (setCore s c k).tal = s.tal := by cases c <;> rfl
@[simp] theorem setCore_sns (s : State) (c : CoreId) (k : Core) : (setCore s c k).sns = s.sns := by cases c <;> rfl
@[simp] theorem setCore_axs (s : State) (c : CoreId) (k : Core) : (setCore s c k).axs = s.axs := by cases c <;> rfl
@[simp] theorem setCore_cal (s : State) (c : CoreId) (k : Core) : (setCore s c k).cal = s.cal := by cases c <;> rfl
@[simp] theorem setCore_seals (s : State) (c : CoreId) (k : Core) : (setCore s c k).seals = s.seals := by cases c <;> rfl
@[simp] theorem setCore_lsw (s : State) (c : CoreId) (k : Core) : (setCore s c k).lsw = s.lsw := by cases c <;> rfl
@[simp] theorem setCore_pmu (s : State) (c : CoreId) (k : Core) : (setCore s c k).pmu = s.pmu := by cases c <;> rfl
@[simp] theorem setCore_nv (s : State) (c : CoreId) (k : Core) : (setCore s c k).nv = s.nv := by cases c <;> rfl
@[simp] theorem setCore_bt (s : State) (c : CoreId) (k : Core) : (setCore s c k).bt = s.bt := by cases c <;> rfl
@[simp] theorem setCore_vlt (s : State) (c : CoreId) (k : Core) : (setCore s c k).vlt = s.vlt := by cases c <;> rfl
@[simp] theorem setCore_lanes (s : State) (c : CoreId) (k : Core) : (setCore s c k).lanes = s.lanes := by cases c <;> rfl
@[simp] theorem setCore_fab (s : State) (c : CoreId) (k : Core) : (setCore s c k).fab = s.fab := by cases c <;> rfl
@[simp] theorem setCore_cpt (s : State) (c : CoreId) (k : Core) : (setCore s c k).cpt = s.cpt := by cases c <;> rfl
@[simp] theorem setCore_tmp (s : State) (c : CoreId) (k : Core) : (setCore s c k).tmp = s.tmp := by cases c <;> rfl
@[simp] theorem setCore_lcs (s : State) (c : CoreId) (k : Core) : (setCore s c k).lcs = s.lcs := by cases c <;> rfl
@[simp] theorem setCore_boot (s : State) (c : CoreId) (k : Core) : (setCore s c k).boot = s.boot := by cases c <;> rfl
@[simp] theorem setCore_tickq (s : State) (c : CoreId) (k : Core) : (setCore s c k).tickq = s.tickq := by cases c <;> rfl

/-- The core that was set. -/
@[simp] theorem getCore_setCore (s : State) (c : CoreId) (k : Core) : getCore (setCore s c k) c = k := by cases c <;> rfl

/-- Another core than the one that was set. -/
theorem getCore_setCore_ne (s : State) {c d : CoreId} (k : Core) (h : d ≠ c) : getCore (setCore s c k) d = getCore s d := by
  cases c <;> cases d <;> first | rfl | exact absurd rfl h

/-- A register write leaves the cores. -/
@[simp] theorem getCore_wr (s : State) (c : CoreId) (a : Nat) (v : Word) : getCore (wr s a v) c = getCore s c := by cases c <;> rfl

/-- A bit set leaves the cores. -/
@[simp] theorem getCore_wrBit (s : State) (c : CoreId) (a k : Nat) (b : Bool) : getCore (wrBit s a k b) c = getCore s c := by cases c <;> rfl

/-- An event cause leaves the cores. -/
@[simp] theorem getCore_raise (s : State) (c : CoreId) (p k : Nat) : getCore (raise s p k) c = getCore s c := by cases c <;> rfl

/-! ### `landed` -/

@[simp] theorem landed_shadow (s t : State) : (landed s t).shadow = t.shadow := rfl
@[simp] theorem landed_tick (s t : State) : (landed s t).tick = t.tick := rfl
@[simp] theorem landed_fresh (s t : State) : (landed s t).fresh = t.fresh := rfl
@[simp] theorem landed_out (s t : State) : (landed s t).out = t.out := rfl
@[simp] theorem landed_pcie (s t : State) : (landed s t).pcie = t.pcie := rfl
@[simp] theorem landed_ac0 (s t : State) : (landed s t).ac0 = t.ac0 := rfl
@[simp] theorem landed_ac1 (s t : State) : (landed s t).ac1 = t.ac1 := rfl
@[simp] theorem landed_mc (s t : State) : (landed s t).mc = t.mc := rfl
@[simp] theorem landed_mpu (s t : State) : (landed s t).mpu = t.mpu := rfl
@[simp] theorem landed_mcc (s t : State) : (landed s t).mcc = t.mcc := rfl
@[simp] theorem landed_enOff (s t : State) : (landed s t).enOff = t.enOff := rfl
@[simp] theorem landed_chans (s t : State) : (landed s t).chans = t.chans := rfl
@[simp] theorem landed_cplq (s t : State) : (landed s t).cplq = t.cplq := rfl
@[simp] theorem landed_tills (s t : State) : (landed s t).tills = t.tills := rfl
@[simp] theorem landed_intake (s t : State) : (landed s t).intake = t.intake := rfl
@[simp] theorem landed_otp (s t : State) : (landed s t).otp = t.otp := rfl
@[simp] theorem landed_held (s t : State) : (landed s t).held = t.held := rfl
@[simp] theorem landed_tal (s t : State) : (landed s t).tal = t.tal := rfl
@[simp] theorem landed_sns (s t : State) : (landed s t).sns = t.sns := rfl
@[simp] theorem landed_axs (s t : State) : (landed s t).axs = t.axs := rfl
@[simp] theorem landed_cal (s t : State) : (landed s t).cal = t.cal := rfl
@[simp] theorem landed_seals (s t : State) : (landed s t).seals = t.seals := rfl
@[simp] theorem landed_lsw (s t : State) : (landed s t).lsw = t.lsw := rfl
@[simp] theorem landed_pmu (s t : State) : (landed s t).pmu = t.pmu := rfl
@[simp] theorem landed_bt (s t : State) : (landed s t).bt = t.bt := rfl
@[simp] theorem landed_vlt (s t : State) : (landed s t).vlt = t.vlt := rfl
@[simp] theorem landed_lanes (s t : State) : (landed s t).lanes = t.lanes := rfl
@[simp] theorem landed_fab (s t : State) : (landed s t).fab = t.fab := rfl
@[simp] theorem landed_cpt (s t : State) : (landed s t).cpt = t.cpt := rfl
@[simp] theorem landed_tmp (s t : State) : (landed s t).tmp = t.tmp := rfl
@[simp] theorem landed_lcs (s t : State) : (landed s t).lcs = t.lcs := rfl
@[simp] theorem landed_boot (s t : State) : (landed s t).boot = t.boot := rfl
@[simp] theorem landed_tickq (s t : State) : (landed s t).tickq = t.tickq := rfl

end Sys2Proof.Machine
end

