-- ==== Sys2Proof/Laws/Bignum.lean ====
section
/-! SUPPORT. What the operations of a user sequence share: their frame, and the reading of registers that a job may use. -/

namespace Sys2Proof.Machine

open Sys2Proof

/-- An operation that the lane's next word holds is counted, costs its cycles and goes on to the next slot. -/
theorem bnOp_runs {s : State} {l : Fin 4} {r : BRun} {op : Nat} {w : Word} (h : RunsOp s l r op w) (cyc : Nat → Nat)
    (f : State → BRun → Word → State × BRun) :
    bnOp s l.val op cyc f = setRun (f (countedOp s l) { r with pc := r.pc + 1, cyc := r.cyc + cyc r.n } w).1 l.val
      (f (countedOp s l) { r with pc := r.pc + 1, cyc := r.cyc + cyc r.n } w).2 := by
  obtain ⟨h1, h2, rfl, h4, h5⟩ := h
  simp [bnOp, h1, h2, h4, h5, upd, countedOp]

/-- One register that the job may read is given to the operation with its value. -/
theorem bnUse_own {s : State} {l : Fin 4} {r : BRun} {d k : Nat} (h : OwnReg s l d k) (hd : r.job.dom = d)
    (f : List Nat → Bool → State × BRun) : bnUse (countedOp s l) l.val r [k] f = f [wval s l k] (wsecret s l k) := by
  have e : wreg (countedOp s l) l.val k = wreg s l.val k := rfl
  subst hd
  unfold OwnReg at h
  simp only [bnUse, List.map, List.any, e]
  rw [if_neg]
  · simp [wval, wsecret]
  · simpa using h

/-- Two registers that the job may read are given to the operation with their values. -/
theorem bnUse_own2 {s : State} {l : Fin 4} {r : BRun} {d k j : Nat} (h : OwnReg s l d k) (h' : OwnReg s l d j) (hd : r.job.dom = d)
    (f : List Nat → Bool → State × BRun) :
    bnUse (countedOp s l) l.val r [k, j] f = f [wval s l k, wval s l j] (wsecret s l k || wsecret s l j) := by
  have e : wreg (countedOp s l) l.val k = wreg s l.val k := rfl
  have e' : wreg (countedOp s l) l.val j = wreg s l.val j := rfl
  subst hd
  unfold OwnReg at h h'
  simp only [bnUse, List.map, List.any, e, e']
  rw [if_neg]
  · simp [wval, wsecret]
  · simpa using ⟨h, h'⟩

end Sys2Proof.Machine
end

