-- ==== Sys2Proof/Laws/Cores.lean ====
section
/-! SUPPORT. What the shared operations of the cores do: the frame of an instruction, exceptions, loads and stores that nothing refuses. -/

namespace Sys2Proof.Machine

open Sys2Proof

/-- An instruction whose bytes may be fetched runs its body. -/
theorem insn_runs {s : State} {h : Head} {len : Nat} (hr : Runs s h len) (body : Core → Word → State) :
    insn s h len body = body (getCore s h.core) (nextPc s h len) := by
  obtain ⟨h1, h2⟩ := hr
  simp [insn, h1, h2, nextPc]

/-- A core that does not run makes nothing of an instruction. -/
theorem insn_rests {s : State} {h : Head} (hr : (getCore s h.core).run ≠ .running) (len : Nat) (body : Core → Word → State) :
    insn s h len body = s := by
  simp [insn, hr]

/-- A byte that may not be fetched raises FETCH at its address. -/
theorem insn_fetch {s : State} {h : Head} {len a : Nat} (hr : (getCore s h.core).run = .running)
    (hb : fetchBad s h.core (getCore s h.core).pc.toNat len = some a) (body : Core → Word → State) :
    insn s h len body = excFetch s h (word a) := by
  simp [insn, hr, hb]

/-- The core that retires an instruction. -/
@[simp] theorem getCore_retire (s : State) (c : CoreId) (k : Core) (pc : Word) : getCore (retire s c k pc) c = { k with pc := pc } := by
  cases c <;> rfl

/-- What an exception notes on the page leaves the cores. -/
@[simp] theorem getCore_noteExc (s : State) (c d : CoreId) (a b : Word) : getCore (noteExc s d a b) c = getCore s c := by
  cases d <;> cases c <;> rfl

/-- The count of exceptions leaves the cores. -/
@[simp] theorem getCore_countExc (s : State) (c d : CoreId) : getCore (countExc s d) c = getCore s c := by
  cases d <;> cases c <;> rfl

/-- Nothing found at a word leaves the state. -/
@[simp] theorem findEcc_clean (s : State) (i : Initiator) (a : Nat) : findEcc s i a .clean = s := rfl

/-- A range without poisoned words has no bad word. -/
theorem badWord_none {s : State} {a n : Nat} (h : poisoned s a n = false) : badWord s a n = none := by
  unfold badWord
  unfold poisoned at h
  rw [List.find?_eq_none]
  simpa [List.any_eq_false] using h

/-- The number of bytes of a number. -/
@[simp] theorem leBytes_length (n v : Nat) : (leBytes n v).length = n := by
  induction n generalizing v <;> simp_all [leBytes]

/-- A load that nothing refuses gives what the core sees. -/
theorem coreLoad_open {s : State} {h : Head} {a n : Nat} (h1 : AccessOpen s h a n .load) (h2 : poisoned s a n = false) (f : State → Nat → State) :
    coreLoad s h a n quietBank f = f s (loadSees s h.core a n) := by
  obtain ⟨ha, hp⟩ := h1
  revert hp
  cases hc : corePlace s h.core a <;> simp [coreLoad, ha, hc, loadSees]
  intro h3 h4 h5
  simp [bankLoad, bankAccess, h3, h4, h5, quietBank, badWord_none h2]

/-- A store that nothing refuses is made, and its instruction retires. -/
theorem coreStore_open {s : State} {h : Head} {a : Nat} {bs : Bytes} (h1 : AccessOpen s h a bs.length .store) (f : Core → Core) (next : Word) :
    coreStore s h a bs quietBank next f = retire (stored s h.core a bs) h.core (f (getCore (stored s h.core a bs) h.core)) next := by
  obtain ⟨ha, hp⟩ := h1
  revert hp
  cases hc : corePlace s h.core a <;> simp [coreStore, ha, hc, stored]
  intro h3 h4 h5
  simp [bankAccess, h3, h4, h5, quietBank, storeEvent]

/-- A misaligned load raises ALIGN, noted where a page sees it. -/
theorem coreLoad_misaligned {s : State} {h : Head} {a n : Nat} (ha : a % n ≠ 0) (b : BankEvent) (f : State → Nat → State) :
    coreLoad s h a n b f = misaligned s h a false := by
  simp [coreLoad, ha]

/-- A load outside the map raises BUS. -/
theorem coreLoad_outside {s : State} {h : Head} {a n : Nat} (ha : a % n = 0) (hp : corePlace s h.core a = .outside) (b : BankEvent)
    (f : State → Nat → State) : coreLoad s h a n b f = excBus s h a 0 false := by
  simp [coreLoad, ha, hp]

end Sys2Proof.Machine
end

