-- ==== Sys2Proof/Laws/Sparse.lean ====
section
/-! SUPPORT. The maps: what a read sees after a write, and that every operation keeps the canonical form. -/

namespace Sys2Proof.Machine

open Sys2Proof

variable {α : Type}

/-- An erased key reads as unlisted. -/
theorem mget_merase_self (d : α) (m : Sparse α) (a : Nat) : mget d (merase m a) a = d := by
  induction m with
  | nil => rfl
  | cons kv m ih => obtain ⟨k, v⟩ := kv; simp only [merase]; split <;> simp_all [mget]

/-- Erasing a key leaves every other. -/
theorem mget_merase_ne (d : α) (m : Sparse α) {a x : Nat} (h : x ≠ a) : mget d (merase m a) x = mget d m x := by
  induction m with
  | nil => rfl
  | cons kv m ih =>
    obtain ⟨k, v⟩ := kv
    simp only [merase]
    by_cases hk : k = a
    · subst hk; simp [ih, mget, Ne.symm h]
    · simp [hk, mget, ih]

/-- A key inserted where it is not listed reads as its value. -/
theorem mget_minsert_self (d : α) (m : Sparse α) (a : Nat) (v : α) : mget d (minsert (merase m a) a v) a = v := by
  induction m with
  | nil => simp [merase, minsert, mget]
  | cons kv m ih =>
    obtain ⟨k, w⟩ := kv
    simp only [merase]
    by_cases hk : k = a
    · simp [hk, ih]
    · simp only [hk, if_false, minsert]; split <;> simp [mget, hk, ih]

/-- Inserting a key leaves every other. -/
theorem mget_minsert_ne (d : α) (m : Sparse α) {a x : Nat} (v : α) (h : x ≠ a) : mget d (minsert m a v) x = mget d m x := by
  induction m with
  | nil => simp [minsert, mget, Ne.symm h]
  | cons kv m ih =>
    obtain ⟨k, w⟩ := kv
    simp only [minsert]
    split <;> simp_all [mget, Ne.symm h]

variable [DecidableEq α]

/-- A read of the key that was set. -/
@[simp] theorem mget_mset_self (d : α) (m : Sparse α) (a : Nat) (v : α) : mget d (mset d m a v) a = v := by
  unfold mset
  split
  · simp_all [mget_merase_self]
  · exact mget_minsert_self d m a v

/-- A read of another key than the one set, whatever it reads as unlisted. -/
theorem mget_mset_ne (d e : α) (m : Sparse α) {a x : Nat} (v : α) (h : x ≠ a) : mget e (mset d m a v) x = mget e m x := by
  unfold mset
  split
  · exact mget_merase_ne e m h
  · rw [mget_minsert_ne e _ v h, mget_merase_ne e m h]

/-- Every key of a map lies above a bound. -/
def Above (m : Sparse α) (a : Nat) : Prop := ∀ kv ∈ m, a < kv.1

/-- The canonical form, entry by entry. -/
theorem mwf_cons (d : Nat → α) (k : Nat) (v : α) (m : Sparse α) : mwf d ((k, v) :: m) = true ↔ v ≠ d k ∧ Above m k ∧ mwf d m = true := by
  induction m generalizing k v with
  | nil => simp [mwf, Above]
  | cons kv m ih =>
    obtain ⟨k', v'⟩ := kv
    constructor
    · intro h
      simp only [mwf, Bool.and_eq_true, decide_eq_true_eq] at h
      obtain ⟨⟨h1, h2⟩, h3⟩ := h
      refine ⟨h1, ?_, h3⟩
      have h4 := ((ih k' v').1 h3).2.1
      intro kv hkv
      rcases List.mem_cons.1 hkv with rfl | hkv
      · exact h2
      · exact Nat.lt_trans h2 (h4 kv hkv)
    · rintro ⟨h1, h2, h3⟩
      simp only [mwf, Bool.and_eq_true, decide_eq_true_eq]
      exact ⟨⟨h1, h2 _ (List.mem_cons_self ..)⟩, h3⟩

/-- A part of a map in canonical form is in canonical form. -/
theorem mwf_filter (d : Nat → α) (p : Nat × α → Bool) (m : Sparse α) (h : mwf d m = true) : mwf d (m.filter p) = true := by
  induction m with
  | nil => rfl
  | cons kv m ih =>
    obtain ⟨k, v⟩ := kv
    obtain ⟨h1, h2, h3⟩ := (mwf_cons d k v m).1 h
    rw [List.filter_cons]
    split
    · exact (mwf_cons d k v _).2 ⟨h1, fun kv hkv => h2 kv (List.mem_filter.1 hkv).1, ih h3⟩
    · exact ih h3

omit [DecidableEq α] in
/-- Erasing a key is leaving its entries out. -/
theorem merase_eq_filter (m : Sparse α) (a : Nat) : merase m a = m.filter fun kv => kv.1 ≠ a := by
  induction m with
  | nil => rfl
  | cons kv m ih =>
    obtain ⟨k, v⟩ := kv
    simp only [merase, List.filter_cons]
    by_cases hk : k = a <;> simp [hk, ih]

omit [DecidableEq α] in
/-- What an insertion lists. -/
theorem mem_minsert (m : Sparse α) (a : Nat) (v : α) (kv : Nat × α) : kv ∈ minsert m a v ↔ kv = (a, v) ∨ kv ∈ m := by
  induction m with
  | nil => simp [minsert]
  | cons kw m ih =>
    obtain ⟨k, w⟩ := kw
    simp only [minsert]
    split
    · simp
    · simp only [List.mem_cons, ih]; tauto

/-- Inserting a key that is not listed keeps the canonical form. -/
theorem mwf_minsert (d : Nat → α) (m : Sparse α) (a : Nat) (v : α) (hv : v ≠ d a) (ha : ∀ kv ∈ m, kv.1 ≠ a) (h : mwf d m = true) :
    mwf d (minsert m a v) = true := by
  induction m with
  | nil => simp [minsert, mwf, hv]
  | cons kv m ih =>
    obtain ⟨k, w⟩ := kv
    obtain ⟨h1, h2, h3⟩ := (mwf_cons d k w m).1 h
    simp only [minsert]
    split
    · rename_i hlt
      refine (mwf_cons d a v _).2 ⟨hv, ?_, h⟩
      intro kv hkv
      rcases List.mem_cons.1 hkv with rfl | hkv
      · exact hlt
      · exact Nat.lt_trans hlt (h2 kv hkv)
    · rename_i hge
      have hk : k ≠ a := ha (k, w) (List.mem_cons_self ..)
      refine (mwf_cons d k w _).2 ⟨h1, ?_, ih (fun kv hkv => ha kv (List.mem_cons_of_mem _ hkv)) h3⟩
      intro kv hkv
      rcases (mem_minsert m a v kv).1 hkv with rfl | hkv
      · show k < a
        omega
      · exact h2 kv hkv

/-- Setting a key keeps the canonical form. -/
theorem mwf_mset (d : Nat → α) (m : Sparse α) (a : Nat) (v : α) (h : mwf d m = true) : mwf d (mset (d a) m a v) = true := by
  unfold mset
  have he : mwf d (merase m a) = true := by rw [merase_eq_filter]; exact mwf_filter d _ m h
  split
  · exact he
  · rename_i hv
    refine mwf_minsert d _ a v hv ?_ he
    intro kv hkv
    rw [merase_eq_filter] at hkv
    simpa using (List.mem_filter.1 hkv).2

end Sys2Proof.Machine
end

