-- ==== Sys2Proof/Laws/Memory.lean ====
section
/-! SUPPORT. The memories keep their canonical form under every operation on them, and have it at reset. -/

namespace Sys2Proof.Machine

open Sys2Proof

/-- Writing bytes into a byte map keeps its canonical form. -/
theorem mwf_putBytes (keep : Nat → Bool) (bs : Bytes) (m : Sparse Byte) (a : Nat) (h : mwf (fun _ => 0#8) m = true) :
    mwf (fun _ => 0#8) (putBytes keep m a bs) = true := by
  induction bs generalizing m a with
  | nil => exact h
  | cons b bs ih =>
    refine ih _ _ ?_
    split
    · exact mwf_mset (fun _ => 0#8) m a b h
    · exact h

/-- A write of a register keeps the registers' canonical form. -/
theorem wr_wf (s : State) (a : Nat) (v : Word) (h : mwf resetVal s.regs = true) : mwf resetVal (wr s a v).regs = true :=
  mwf_mset resetVal s.regs a v h

/-- Records of errors leave the memories. -/
theorem noteEcc_mem (s : State) (i : Initiator) (c : Bool) (w : Nat) (u : Bool) : (noteEcc s i c w u).mem = s.mem := by
  cases u <;> rfl

/-- Folding an operation that leaves the memories leaves them. -/
theorem foldl_mem {β : Type} (f : State → β → State) (hf : ∀ s b, (f s b).mem = s.mem) (l : List β) (s : State) : (l.foldl f s).mem = s.mem := by
  induction l generalizing s with
  | nil => rfl
  | cons b l ih => simp [List.foldl_cons, ih, hf]

/-- A write to the banks keeps the canonical form. -/
theorem bankWrite_wf (s : State) (i : Initiator) (a : Nat) (bs : Bytes) (h : Memory.wf s.mem = true) : Memory.wf (bankWrite s i a bs).mem = true := by
  unfold bankWrite bankWriteBy
  rw [foldl_mem _ (fun s w => noteEcc_mem s i false w true)]
  simp only [Memory.wf, Bool.and_eq_true] at h ⊢
  exact ⟨⟨mwf_putBytes _ bs _ a h.1.1, h.1.2⟩, h.2⟩

/-- A bank cleared keeps the canonical form. -/
theorem clearBank_wf (s : State) (k : Nat) (h : Memory.wf s.mem = true) : Memory.wf (clearBank s k).mem = true := by
  simp only [Memory.wf, Bool.and_eq_true] at h ⊢
  exact ⟨⟨mwf_filter _ _ _ h.1.1, h.1.2⟩, h.2⟩

/-- The RAM that the loader fills is in canonical form. -/
theorem assayBytes_wf (img : Bytes) (a n : Nat) : mwf (fun _ => 0#8) (assayBytes img a n) = true := by
  suffices h : ∀ l : List Nat, l.Pairwise (· < ·) → mwf (fun _ => 0#8) (l.filterMap fun k =>
      if Config.assayRam img (a + k) = 0#8 then none else some (a + k, Config.assayRam img (a + k))) = true from
    h _ List.pairwise_lt_range
  intro l
  induction l with
  | nil => intro _; rfl
  | cons k l ih =>
    intro hl
    rw [List.pairwise_cons] at hl
    rw [List.filterMap_cons]
    split
    · exact ih hl.2
    · rename_i b hb
      split at hb
      · cases hb
      · rename_i hz
        cases hb
        refine (mwf_cons _ _ _ _).2 ⟨hz, ?_, ih hl.2⟩
        intro kv hkv
        obtain ⟨j, hj, hjk⟩ := List.mem_filterMap.1 hkv
        have := hl.1 j hj
        split at hjk
        · cases hjk
        · cases hjk; show a + k < a + j; omega

/-- The memories at reset are in canonical form. -/
theorem reset_mem_wf : Memory.wf State.reset.mem = true := rfl

end Sys2Proof.Machine
end

