-- ==== Sys2Proof/WellFormed.lean ====
section
/-! DEFINITION. Which commands are well formed: the operands that are plain numbers lie in the ranges the spec gives them. The
meanings are total and do not rest on it. -/

namespace Sys2Proof

/-- An offset of a register in the register window: word-aligned, in one of the pages 0x000 to 0x1FF (R30, R35). -/
def regOffsetOk (addr : Nat) : Bool := addr % 4 == 0 && decide (addr < 0x200000)

/-- A page number of the register window (R30). -/
def pageOk (page : Nat) : Bool := decide (page < 0x200)

/-- A request of the host: word-aligned, 1 to 1,024 double words (R30). -/
def requestOk (off n : Nat) : Bool := off % 4 == 0 && decide (1 ≤ n) && decide (n ≤ 1024)

/-- A page of the flash (R458). -/
def flashFindOk : FlashFind → Bool
  | .weak p => decide (p < 65536)
  | .lost p => decide (p < 65536)

/-- A command is well formed. -/
def wellFormed (i : Instr) : Bool :=
  match i with
  | .registerWrite _ addr _ => regOffsetOk addr
  | .evtRawClear _ addr _ _ => regOffsetOk addr
  | .evtSet _ addr _ => regOffsetOk addr
  | .shadowMismatch addr _ _ => regOffsetOk addr
  | .autoincDataAccess _ addr _ => regOffsetOk addr
  | .ctrlEnClear _ page => pageOk page
  | .quiesce _ page _ => pageOk page
  | .quiescedReached page => pageOk page
  | .selftest _ page => pageOk page
  | .selftestDone page _ => pageOk page
  | .lockWrite _ page => pageOk page
  | .ownerWrite _ page _ => pageOk page
  | .ownerReassignComplete page => pageOk page
  | .errinfoClear _ page _ => pageOk page
  | .hostMemoryWrite _ off dws => requestOk off dws.length
  | .hostMemoryRead _ off n _ => requestOk off n
  | .postingDue axis => decide (axis < 0x400)
  | .descFetch _ k => decide (1 ≤ k) && decide (k ≤ 8)
  | .dmaTimeout _ k _ => decide (k < 32)
  | .dmaReadError _ k _ _ => decide (k < 32)
  | .scrubPeriod finds => finds.all flashFindOk
  | .sectorReclaim r _ => decide (r < 32)
  | _ => true

end Sys2Proof
end

