-- ==== Sys2Proof/Tests/Slice0.lean ====
section
/-! SUPPORT. Tests of the model: each check of well-formedness refuses an ill-formed command, and for every statement with hypotheses a
concrete state and operands that meet them. Where a hypothesis says that an operation answers certain values, the test takes the values
that it answers. -/

namespace Sys2Proof.Tests

set_option Elab.async false

open Sys2Proof Sys2Proof.Machine

/-- A register file with these values listed. -/
def file (l : List (Nat × Word)) : Sparse Word := l.foldl (fun m kv => minsert m kv.1 kv.2) []

/-- The state after reset, with these registers set. -/
def at_ (l : List (Nat × Word)) : State := { State.reset with regs := file l }

/-- The state after reset, with MC running from the start of its instruction RAM and these general registers set. -/
def onMc (g : List (Nat × Word)) : State :=
  { State.reset with mc := { Core.zero with psw := 0x10000#32, run := .running, g := file g } }

/-- MC's bare instruction. -/
def bare : Head := ⟨.mc, false⟩

/-- A write that the page permits. -/
def may (s : State) (i : Initiator) (a : Nat) : Bool := !inert s i && decide (writeVerdict s i a = .ok)

/-- A read that the page permits. -/
def mayRd (s : State) (i : Initiator) (a : Nat) : Bool := !inert s i && decide (readVerdict s i a = .ok)

/-- A core that runs an instruction of `len` bytes. -/
def runs (s : State) (h : Head) (len : Nat) : Bool :=
  decide ((getCore s h.core).run = .running) && (fetchBad s h.core (getCore s h.core).pc.toNat len).isNone

theorem may_store {s : State} {i : Initiator} {a : Nat} (h : may s i a = true) : MayStore s i a := by
  simpa [may, MayStore] using h

theorem may_load {s : State} {i : Initiator} {a : Nat} (h : mayRd s i a = true) : MayLoad s i a := by
  simpa [mayRd, MayLoad] using h

theorem runs_core {s : State} {h : Head} {len : Nat} (r : runs s h len = true) : Runs s h len := by
  simpa [runs, Runs] using r

theorem open_dram {s : State} {h : Head} {a n : Nat} {kd : AccKind} (h0 : a % n = 0) (h1 : corePlace s h.core a = .dram) :
    AccessOpen s h a n kd := by
  simp [AccessOpen, h0, h1]

theorem open_sram {s : State} {h : Head} {a n : Nat} {kd : AccKind} (h0 : a % n = 0) (h1 : corePlace s h.core a = .sram)
    (h2 : (filterOk s h.core a n kd && !bankClearing s (bankOf a) && bankUp s (bankOf a)) = true) : AccessOpen s h a n kd := by
  simp_all [AccessOpen]

/-! ### Well-formedness -/

theorem test_offset_aligned : wellFormed (.registerWrite .mc 2 0#32) = false := by decide
theorem test_offset_in_window : wellFormed (.autoincDataAccess .mc 0x200000 none) = false := by decide
theorem test_page_in_window : wellFormed (.quiesce .mc 0x200 true) = false := by decide
theorem test_request_aligned : wellFormed (.hostMemoryRead .bar0 2 1 true) = false := by decide
theorem test_request_not_empty : wellFormed (.hostMemoryWrite .bar0 0 []) = false := by decide
theorem test_request_not_long : wellFormed (.hostMemoryRead .bar0 0 1025 true) = false := by decide
theorem test_axis : wellFormed (.postingDue 0x400) = false := by decide
theorem test_fetch_none : wellFormed (.descFetch 0 0) = false := by decide
theorem test_fetch_many : wellFormed (.descFetch 0 9) = false := by decide
theorem test_timeout_place : wellFormed (.dmaTimeout 0 32 []) = false := by decide
theorem test_read_error_place : wellFormed (.dmaReadError 0 32 .ur []) = false := by decide
theorem test_scrub_page : wellFormed (.scrubPeriod [.weak 0, .lost 65536]) = false := by decide
theorem test_reclaim_region : wellFormed (.sectorReclaim 32 false) = false := by decide

/-! ### The front of the queue -/

theorem meets_StepRunsFront : ({ State.reset with pending := [.por, .vbatLoss] }).pending = .por :: [.vbatLoss] := rfl

/-! ### Instructions -/

/-- MC at an address. -/
def mcAt (pc : Word) (g : List (Nat × Word)) : State := { onMc g with mc := { (onMc g).mc with pc := pc } }

theorem meets_ArithmeticResults : Runs (mcAt 0x3FFFD#32 []) bare (1 + srcLen (.reg 2) + preLen bare true) ∧ oddPair true 4 = false ∧
    srcOdd true (.reg 2) = false := by
  refine ⟨runs_core ?_, ?_, ?_⟩ <;> decide +kernel

theorem meets_ArithmeticResults_shifts : Runs (onMc []) bare (1 + countLen (.imm 63#8) + preLen bare true) ∧ oddPair true 4 = false ∧
    countBad true (.imm 63#8) = false := by
  refine ⟨runs_core ?_, ?_, ?_⟩ <;> decide +kernel

theorem meets_ProductAndMoveResults : Runs (onMc [(2, 0x80000000#32), (3, 0xFFFFFFFF#32)]) bare 2 ∧
    Runs (onMc [(2, 0x80000000#32), (3, 0xFFFFFFFF#32)]) bare 3 ∧
    ((gget (onMc [(2, 0x80000000#32), (3, 0xFFFFFFFF#32)]).mc 2).toNat = 0x80000000 ∧
      (gget (onMc [(2, 0x80000000#32), (3, 0xFFFFFFFF#32)]).mc 3).toNat = 0xFFFFFFFF) ∧ (gget (onMc []).mc 3).toNat = 0 := by
  refine ⟨runs_core ?_, runs_core ?_, ?_⟩ <;> decide +kernel

theorem meets_ProductAndMoveResults_moves : Runs (onMc []) bare 3 ∧ Runs (onMc []) bare (3 + preLen bare true) ∧ Runs (onMc []) bare 6 ∧
    (14 : Fin 16).val ≠ 15 ∧ oddPair true 14 = false := by
  refine ⟨runs_core ?_, runs_core ?_, runs_core ?_, ?_⟩ <;> decide +kernel

theorem meets_BranchTargets : Runs (onMc []) bare 1 ∧ Runs (onMc []) bare 2 ∧ Runs (onMc []) bare (1 + fieldLen (.b2 8#16)) ∧
    fieldLen (.b2 8#16) ≠ 1 ∧ fieldLen (.b2 8#16) ≠ 4 ∧ Runs (onMc []) bare (4 + preLen bare true) ∧ Runs (onMc []) bare (9 + preLen bare true) ∧
    (14 : Fin 16).val ≠ 15 ∧ oddPair true 2 = false := by
  refine ⟨runs_core ?_, runs_core ?_, runs_core ?_, ?_, ?_, runs_core ?_, runs_core ?_, ?_⟩ <;> decide +kernel

/-- AC0 in domain 0, with gate 63 open from domain 0 to domain 5, an entry of domain 0 on the gate stack and EXC clear. -/
def gates : State :=
  { State.reset with
    ac0 := { State.reset.ac0 with gdepth := 1 }
    mpu := { State.reset.mpu with gate := file [(4 * 63, 0x10000000#32), (4 * 63 + 1, 0x80050000#32), (4 * 63 + 2, 1#32)] } }

theorem meets_GateAndReturn_call : Runs gates ⟨.ac0, false⟩ 4 ∧ (63#16).toNat ≤ 63 ∧ gateOpen gates gates.ac0 (63#16).toNat = true := by
  refine ⟨runs_core ?_, ?_, ?_⟩ <;> decide +kernel

theorem meets_GateAndReturn_return : Runs gates ⟨.ac0, false⟩ 2 ∧ bit gates.ac0.psw 1 = false ∧ gates.ac0.gdepth ≠ 0 ∧
    fld (mget 0#32 gates.ac0.gst (4 * (gates.ac0.gdepth - 1) + 3)) 21 16 = domOf gates.ac0 := by
  refine ⟨runs_core ?_, ?_, ?_⟩ <;> decide +kernel

/-- MC in an exception that it took in its own domain. -/
def excepted : State := { State.reset with mc := { Core.zero with psw := 0x10002#32, epsw := 0x10001#32, run := .running } }

theorem meets_GateAndReturn_eret : Runs excepted bare 2 ∧ bit excepted.mc.psw 1 = true ∧ inApp .mc excepted.mc = false ∧
    fld excepted.mc.epsw 21 16 = 1 := by
  refine ⟨runs_core ?_, ?_, ?_⟩ <;> decide +kernel

/-- Event 0 asserted, enabled and routed to MC at level 3. -/
def called : State :=
  { onMc [] with
    regs := file [(hdr 0 Off.EVT_RAW, 1#32), (hdr 0 Off.EVT_EN, 1#32)]
    mcc := { State.reset.mcc with evt := file [(0, 0x83#32)] }
    mc := { (onMc []).mc with psw := 0x10001#32 } }

theorem meets_SystemInstructions_wfeRelease :
    ({ called with mc := { called.mc with run := .waiting } }).mc.run = .waiting ∧
      (irqLevel { called with mc := { called.mc with run := .waiting } } .mc).isSome = true := by
  decide +kernel

theorem meets_SystemInstructions : Runs (onMc []) bare 1 ∧ Runs (onMc []) bare 4 ∧
    (sysPriv (4#8).toNat = true → inApp .mc (onMc []).mc = false) ∧ (4#8).toNat ∈ [0, 1, 2, 3, 4, 5, 10, 11] ∧ (4#8).toNat ≠ 5 := by
  refine ⟨runs_core ?_, runs_core ?_, ?_, ?_⟩ <;> decide +kernel

theorem meets_ExceptionEntries : Runs (onMc []) bare 2 ∧ (onMc []).mc.run = .running := by
  refine ⟨runs_core ?_, ?_⟩ <;> decide +kernel

theorem meets_ExceptionEntries_irq : (irqLevel called .mc).isSome = true ∧ called.mc.run = .running ∧ bit called.mc.psw 0 = true := by
  decide +kernel

theorem meets_ExceptionSaves : bit excepted.mc.psw 1 = true ∧ bit (onMc []).mc.psw 1 = false := by decide +kernel

/-- MC with a base register at the last double word of its data RAM. -/
def atRam : State := onMc [(3, 0x3FFF8#32), (15, 0x3FFF8#32)]

theorem meets_LoadResults : Runs atRam bare (2 + fieldLen (.b1 0#8) + b2n bare.check) ∧
    effAddr atRam.mc 3 (.b1 0#8) = 0x3FFF8 ∧ AccessOpen atRam bare 0x3FFF8 1 .load ∧ AccessOpen atRam bare 0x3FFF8 2 .load ∧
    AccessOpen atRam bare 0x3FFF8 8 .load ∧ poisoned atRam 0x3FFF8 8 = false ∧ Runs atRam bare (6 + preLen bare true) ∧
    (nextPc atRam bare (6 + preLen bare true) + 0x3FFF1#32).toNat = 0x3FFF8 ∧ (gget atRam.mc 15).toNat = 0x3FFF8 ∧ (4 : Gpr).val ≠ 15 := by
  refine ⟨runs_core ?_, ?_, open_dram ?_ ?_, open_dram ?_ ?_, open_dram ?_ ?_, ?_, runs_core ?_, ?_⟩ <;> decide +kernel

theorem meets_StoreResults : Runs atRam bare (2 + fieldLen (.b1 0#8) + b2n bare.check) ∧ AccessOpen atRam bare 0x3FFF8 1 .store ∧
    AccessOpen atRam bare 0x3FFF8 2 .store ∧ AccessOpen atRam bare 0x3FFF8 8 .store ∧ Runs atRam bare (9 + preLen bare true) ∧
    (gget atRam.mc 3 + 0#32).toNat = 0x3FFF8 ∧ AccessOpen atRam bare (gget atRam.mc 15 - word 8).toNat 8 .store := by
  refine ⟨runs_core ?_, open_dram ?_ ?_, open_dram ?_ ?_, open_dram ?_ ?_, runs_core ?_, ?_, open_dram ?_ ?_⟩ <;> decide +kernel

theorem meets_StoreFrame : atRam.mem.poison = [] ∧ Runs atRam bare (2 + fieldLen (.b1 0#8) + b2n bare.check) ∧
    AccessOpen atRam bare 0x3FFF8 8 .store ∧ oddPair true 4 = false ∧ (match exec (.stw bare true 4 3 (.b1 0#8)) atRam with
      | .next _ => true
      | _ => false) = true := by
  refine ⟨rfl, runs_core ?_, open_dram ?_ ?_, ?_, ?_⟩ <;> decide +kernel

/-- AC0 with every access to the banks open to it, a base register at a bank address, and bank windows open to MC. -/
def inBanks : State :=
  { State.reset with
    ac0 := { State.reset.ac0 with g := file [(2, 0x107FFF00#32), (3, 0x10000000#32)] }
    mpu := { State.reset.mpu with rgn := file [(0, 0x10000000#32), (1, 0x107FFF00#32), (2, 0x80000007#32)] }
    regs := file [(Reg.MEM_SERVICE, 0xFFFFFFFF#32), (Reg.MEM_CLEARING, 0#32)] }

/-- A job that a unit takes. -/
def taken : Admit → Bool
  | .taken _ => true
  | _ => false

theorem meets_AtomicResults : isSram (effAddr inBanks.ac0 2 (.b1 0xF8#8)) = true ∧
    AccessOpen inBanks ⟨.ac0, false⟩ (effAddr inBanks.ac0 2 (.b1 0xF8#8)) 8 .both ∧
    badWord inBanks (effAddr inBanks.ac0 2 (.b1 0xF8#8)) 8 = none ∧ Runs inBanks ⟨.ac0, false⟩ (10 + preLen ⟨.ac0, false⟩ true) := by
  refine ⟨?_, open_sram ?_ ?_ ?_, ?_, runs_core ?_⟩ <;> decide +kernel

/-- What a submission by AC0 of the block at the start of the banks meets, for a block of `size` bytes and a unit. -/
def submits (s : State) (size off : Nat) (unit : State → JobSrc → Nat → Bytes → Admit) : Bool :=
  let s0 := drain s .ac0
  let k := getCore s0 .ac0
  let a := (gget k 3).toNat
  let dom := domOf k
  match freeTicket k with
  | none => false
  | some t =>
    let s1 := setCore { s0 with fresh := s0.fresh + 1 } .ac0
      { k with tickets := mset none k.tickets t (some { dom := dom, id := s0.fresh, status := none }) }
    match (cpBlock s1 dom a size).2 with
    | .inl _ => false
    | .inr blk => runs s ⟨.ac0, false⟩ 3 && a % 16 == 0 && rangeSram a (off + 16) && taken (unit s1 (.cp .ac0 s0.fresh a) dom blk)

/-- AC0 as before, with the LMS page, lane 0 of each kind and no job waiting. -/
def units : State :=
  { inBanks with regs := file [(hdr 0x08 Off.CTRL, 1#32), (hdr 0x0D Off.CTRL, 1#32), (hdr 0x0F Off.CTRL, 1#32), (hdr 0x10 Off.CTRL, 1#32),
      (Reg.MEM_SERVICE, 0xFFFFFFFF#32), (Reg.MEM_CLEARING, 0#32)] }

theorem meets_CoprocessorJobs_blocks : submits units 32 32 vaultAdmit = true ∧ submits units 32 32 lmsAdmit = true := by decide +kernel

theorem meets_CoprocessorJobs_lanes :
    submits units 48 jobOff (fun s src dom blk => laneAdmit s false (bfld blk 1 1 / 64) src dom blk) = true ∧
    submits units 48 jobOff (fun s src dom blk => laneAdmit s true (bfld blk 1 1 / 64 % 2) src dom blk) = true ∧
    submits units 48 jobOff (fun s src dom blk => bneAdmit s (bfld blk 4 1 / 64) src dom blk) = true := by
  decide +kernel

/-- MC holding ticket 0 done with status 5 and ticket 15 pending, named by its registers 3 and 4. -/
def ticketed : State :=
  { onMc [] with mc := { (onMc []).mc with
      g := file [(4, 15#32)], tickets := [(0, some ⟨1, 0, some 5#8⟩), (15, some ⟨1, 1, none⟩)] } }

theorem meets_CoprocessorJobs_tickets : Runs ticketed bare 3 ∧
    mget none ticketed.mc.tickets (fld (gget ticketed.mc 3) 3 0) = some ⟨domOf ticketed.mc, 0, some 5#8⟩ ∧
    mget none ticketed.mc.tickets (fld (gget ticketed.mc 4) 3 0) = some ⟨domOf ticketed.mc, 1, none⟩ ∧
    (sealRequest ticketed 15).isSome = true := by
  refine ⟨runs_core ?_, ?_⟩ <;> decide +kernel

theorem meets_CoprocessorJobs_done : ({ State.reset with tickq := [⟨.mc, 0, 0, 0, 1, 5, []⟩] }).tickq = ⟨.mc, 0, 0, 0, 1, 5, []⟩ :: [] := rfl

/-- MC with tally 255 named by register 3, snapped and held, and the words of a preset in registers 4 to 6. -/
def tallied : State :=
  { onMc [(3, 255#32), (4, 1#32)] with regs := file [(Reg.TAL_SNAPSTAT + 3 * 4096, 0x8000003F#32), (Reg.TAL_PRESTAT + 3 * 4096, 0#32)] }

theorem meets_TallyAndTillInstructions_tallies : Runs tallied bare 3 ∧ Runs tallied bare 4 ∧
    bit (rd tallied (Reg.TAL_SNAPSTAT + 4096 * (255 / 64))) 30 = false ∧ bit (rd tallied (Reg.TAL_SNAPSTAT + 4096 * (255 / 64))) 31 = true ∧
    fld (rd tallied (Reg.TAL_SNAPSTAT + 4096 * (255 / 64))) 5 0 = 255 % 64 ∧ bit (rd tallied (Reg.TAL_PRESTAT + 4096 * (255 / 64))) 31 = false ∧
    (2#8).toNat ≤ 2 ∧ (13 : Gpr).val ≤ 13 := by
  refine ⟨runs_core ?_, runs_core ?_, ?_⟩ <;> decide +kernel

/-- AC0 with till 127 named by register 3: enabled, pushed by cores and taken by cores, with one packet of two words. -/
def tilled (x : Till) : State :=
  { State.reset with
    ac0 := { State.reset.ac0 with g := file [(3, 127#32)] }
    tills := [(127, x)]
    regs := file [(tillCfgReg 127, 0xD0000000#32), (tillCfgReg 127 + 4, 1#32)] }

theorem meets_TallyAndTillInstructions_push : Runs (tilled Till.idle) ⟨.ac0, false⟩ 3 ∧ pushMay .ac0 (tilled Till.idle) 127 = true ∧
    tillPushWaits (tilled Till.idle) 127 (openerOf .ac0) = false := by
  refine ⟨runs_core ?_, ?_⟩ <;> decide +kernel

/-- A till with one packet. -/
def onePacket : Till := { Till.idle with packets := [{ seq := 0, words := [7#64, 8#64] }] }

theorem meets_TallyAndTillInstructions_pop : popMay .ac0 (tilled onePacket) 127 = true ∧ (tillTake onePacket).isSome = true ∧
    popMay .ac0 (tilled Till.idle) 127 = true ∧ tillTake Till.idle = none ∧ tillMay (tilled Till.idle) .ac0 127 false = true ∧
    bit (tillCfg (tilled Till.idle) 127) 31 = true ∧ tillProd (tilled Till.idle) 127 ≠ 3 := by
  decide +kernel

/-! ### Registers, ownership and events -/

theorem meets_RegisterCodes_rw : MayStore (at_ []) .ac0 0x38084 ∧ codeOf 0x38 0x84 = some (.rw, 1#32) ∧ StoresOnly 0x38084 :=
  ⟨may_store (by decide +kernel), by decide +kernel, fun _ _ _ => rfl⟩

theorem meets_RegisterCodes_rwm : MayStore (at_ []) .mc 0x26100 ∧ codeOf 0x26 0x100 = some (.rwm, 0xF8000000#32) ∧ StoresOnly 0x26100 :=
  ⟨may_store (by decide +kernel), by decide +kernel, fun _ _ _ => rfl⟩

theorem meets_RegisterCodes_ro : MayStore (at_ []) .ac0 0x3808C ∧ codeOf 0x38 0x8C = some (.ro, 0xFFFFFFFF#32) ∧ StoresOnly 0x3808C :=
  ⟨may_store (by decide +kernel), by decide +kernel, fun _ _ _ => rfl⟩

theorem meets_RegisterCodes_w1c : MayStore (at_ []) .ac0 0x31084 ∧ codeOf 0x31 0x84 = some (.w1c, 0xC0000000#32) ∧ StoresOnly 0x31084 :=
  ⟨may_store (by decide +kernel), by decide +kernel, fun _ _ _ => rfl⟩

theorem meets_RegisterCodes_w1s : MayStore (at_ []) .mc 0x20900 ∧ codeOf 0x20 0x900 = some (.w1s, 0x3F#32) ∧ StoresOnly 0x20900 :=
  ⟨may_store (by decide +kernel), by decide +kernel, fun _ _ _ => rfl⟩

theorem meets_RegisterCodes_rwl : MayStore (at_ []) .ac0 0x38088 ∧ codeOf 0x38 0x88 = some (.rwl, 0xFFFFFFFF#32) ∧ StoresOnly 0x38088 ∧
    locked (at_ []) 0x38 = false ∧ locked (at_ [(hdr 0x38 Off.LOCK, 1#32)]) 0x38 = true :=
  ⟨may_store (by decide +kernel), by decide +kernel, fun _ _ _ => rfl, by decide +kernel⟩

theorem meets_RegisterCodes_rws : MayStore (at_ []) .ac0 0x50080 ∧ codeOf 0x50 0x80 = some (.rws, 0xFFFFFFFF#32) ∧ StoresOnly 0x50080 ∧
    locked (at_ []) 0x50 = false :=
  ⟨may_store (by decide +kernel), by decide +kernel, fun _ _ _ => rfl, by decide +kernel⟩

theorem meets_RegisterCodes_reserved : MayStore (at_ []) .ac0 0x38FFC ∧ codeOf 0x38 0xFFC = none :=
  ⟨may_store (by decide +kernel), by decide +kernel⟩

theorem meets_ReservedOffsets : Runs (onMc [(3, 0x40038FFC#32)]) bare (2 + fieldLen (.b1 0#8) + preLen bare false) ∧
    effAddr (onMc [(3, 0x40038FFC#32)]).mc 3 (.b1 0#8) = 0x40038FFC ∧ corePlace (onMc [(3, 0x40038FFC#32)]) .mc 0x40038FFC = .page 0x38FFC ∧
    codeOf 0x38 0xFFC = none ∧ readVerdict (drain (onMc [(3, 0x40038FFC#32)]) .mc) .mc 0x38FFC = .ok ∧
    writeVerdict (drain (onMc [(3, 0x40026FFC#32)]) .mc) .mc 0x26FFC = .ok := by
  refine ⟨runs_core ?_, ?_⟩ <;> decide +kernel

theorem meets_RefusedWrites : inert (at_ []) .mc = false ∧ writeVerdict (at_ []) .mc 0x38084 = .domain ∧
    writeVerdict (at_ []) .tally 0x38084 = .domain := by
  decide +kernel

/-- The self-tested and the plain page of an engine, enabled. -/
def engines : State := at_ [(hdr 0x08 Off.CTRL, 1#32), (hdr 0x40 Off.CTRL, 1#32)]

theorem meets_HeaderRegisters_engine : isEngine 0x08 = true ∧ MayStore engines .ac0 (hdr 0x08 Off.CTRL) ∧ enabled engines 0x08 = true ∧
    isEngine 0x18 = true ∧ resting (at_ []) 0x18 = true ∧ pageBusy (at_ []) 0x18 = false ∧ lmem 0x18 (at_ []).enOff = false := by
  refine ⟨?_, may_store ?_, ?_⟩ <;> decide +kernel

theorem meets_HeaderRegisters_tests : bit (rd (at_ [(hdr 0x08 Off.CTRL, 4#32)]) (hdr 0x08 Off.CTRL)) 2 = true ∧
    pageBusy (at_ [(hdr 0x08 Off.CTRL, 4#32)]) 0x08 = false ∧ hasTest 0x08 = true ∧
    bit (rd (at_ [(hdr 0x18 Off.CTRL, 4#32)]) (hdr 0x18 Off.CTRL)) 2 = true ∧ pageBusy (at_ [(hdr 0x18 Off.CTRL, 4#32)]) 0x18 = false ∧
    hasTest 0x18 = false ∧ isEngine 0x18 = true ∧ lmem 0x18 ({ at_ [] with enOff := [0x18] }).enOff = true := by
  decide +kernel

theorem meets_HeaderRegisters_events : hasHeader 0x50 = true ∧ MayStore (at_ []) .ac0 (hdr 0x50 Off.EVT_RAW) ∧
    MayStore (at_ []) .ac0 (hdr 0x50 Off.EVT_SET) ∧ MayStore (at_ []) .ac0 (hdr 0x50 Off.LOCK) ∧
    MayStore (at_ []) .ac0 (hdr 0x50 Off.ERRINFO) ∧ codeOf (0x50080 / 4096) (0x50080 % 4096) = some (.rws, 0xFFFFFFFF#32) ∧
    (5#32 : Word) ≠ ~~~(1#32) ∧ awake (at_ []) = true := by
  refine ⟨?_, may_store ?_, may_store ?_, may_store ?_, may_store ?_, ?_⟩ <;> decide +kernel

theorem meets_OwnerChange : hasHeader 0x18 = true ∧ (pageRow? 0x18).map (·.owner) = some .assigned ∧
    MayStore (at_ [(hdr 0x18 Off.OWNER, 2#32)]) .ac0 (hdr 0x18 Off.OWNER) ∧ bit (rd (at_ [(hdr 0x18 Off.OWNER, 2#32)]) (hdr 0x18 Off.OWNER)) 31 = false ∧
    fld (1#32) 5 0 = 1 ∧ fld (2#32) 5 0 = fld (rd (at_ [(hdr 0x18 Off.OWNER, 2#32)]) (hdr 0x18 Off.OWNER)) 5 0 ∧
    fld (63#32) 5 0 ≠ fld (rd (at_ [(hdr 0x18 Off.OWNER, 2#32)]) (hdr 0x18 Off.OWNER)) 5 0 ∧
    bit (rd (at_ [(hdr 0x18 Off.OWNER, 0x803F0002#32)]) (hdr 0x18 Off.OWNER)) 31 = true := by
  refine ⟨?_, ?_, may_store ?_, ?_⟩ <;> decide +kernel

/-- Event 0 routed to AC0 at level 3 and in service for nobody. -/
def routed : State :=
  at_ [(hdr 0 Off.EVT_RAW, 1#32), (hdr 0 Off.EVT_EN, 1#32), (Reg.EVR_ROUTE, 0x23#32)]

theorem meets_EventRouter_claim : MayLoad routed .ac0 Reg.EVR_CLAIM0 ∧ bestClaim (claimableOf routed .ac0) = some (0, 3) ∧
    MayLoad (at_ []) .ac0 Reg.EVR_CLAIM0 ∧ bestClaim (claimableOf (at_ []) .ac0) = none ∧ MayLoad called .mc Reg.MCC_CLAIM ∧
    bestClaim (claimableOf called .mc) = some (0, 3) := by
  refine ⟨may_load ?_, ?_, may_load ?_, ?_, may_load ?_, ?_⟩ <;> decide +kernel

theorem meets_EventRouter_done : MayStore (at_ []) .ac0 Reg.EVR_DONE0 ∧ MayStore (at_ []) .ac0 (Reg.EVR_DONE0 + 4) ∧ MayStore (at_ []) .mc Reg.MCC_DONE ∧
    lmem (fld (1023#32) 9 0) (svcOf { at_ [] with router := { (at_ []).router with svc0 := [1023] } } .ac0) = true ∧
    lmem (fld (1023#32) 9 0) (svcOf (at_ []) .mc) = false := by
  refine ⟨may_store ?_, may_store ?_, may_store ?_, ?_⟩ <;> decide +kernel

theorem meets_EventRouter_writes : MayStore (at_ []) .ac0 (Reg.EVR_ROUTE + 4 * 511) ∧ codeOf 3 (0x800 + 4 * 511) = some (.rwl, 0xFFFFFFFF#32) ∧
    MayStore (at_ []) .ac0 Reg.EVR_SWDB_SET ∧ MayStore (at_ []) .ac0 Reg.EVR_SWDB ∧ MayStore (at_ []) .mc Reg.MCC_SWDB_SET ∧
    MayStore (at_ []) .mc Reg.MCC_EDATA := by
  refine ⟨may_store ?_, ?_, may_store ?_, may_store ?_, may_store ?_, may_store ?_⟩ <;> decide +kernel

/-- A host with the link up. -/
def linked : State :=
  { State.reset with pcie := { State.reset.pcie with perst := false, linkUp := true, bme := true, width := 1, speed := 1 } }

theorem meets_HostAccesses : hostOn linked = true ∧ hostPlace .bar0 0x40FFC = .reg 0x140FFC ∧ hostPlace .bar2 0x3FC = .msix 255 ∧
    hostPlace .bar2 0x8004 = .pba 1 ∧ hostPlace .bar2 0x8008 = .reserved ∧ hostPlace .bar0 0x41000 = .reserved ∧
    readVerdict linked .pcie 0x140000 = .ok ∧ hostPlace .bar0 0x40000 = .reg 0x140000 := by
  decide +kernel

/-! ### Accounts, frames and tallies -/

/-- The banks in service, none being cleared, and these registers besides. -/
def up (l : List (Nat × Word)) : State := at_ (l ++ [(Reg.MEM_SERVICE, 0xFFFFFFFF#32), (Reg.MEM_CLEARING, 0#32)])

/-- Account 0 with these flags, at meter address 1 and with EPCH 0; hash lane 0 works for the accounts. -/
def account (flags : Byte) : State :=
  { up [(hdr 0x0D Off.CTRL, 1#32), (laneReg true 0 0x80, 0xFFFFFFFF#32), (Reg.PMU_HUSTAT, 0x80000000#32)] with
    mem := { State.reset.mem with sram := mset 0#8 (mset 0#8 [] 0x10780000 1#8) 0x10780009 flags } }

theorem meets_AccountCommands_empty : MayStore (account 0#8) .ac0 Reg.ACC_CMD ∧ bit (rd (account 0#8) Reg.ACC_CMDSTAT) 31 = false ∧
    acctHeld (account 0#8) 0 = false ∧ acctLeased (account 0#8) 0 = false ∧ acctFlag (account 0#8) 0 0 = false ∧
    (chainOf (account 0#8) (localBucket (argAddr (account 0#8)))).length < 8 ∧ (unitLane (account 0#8) 31).isSome = true := by
  refine ⟨may_store ?_, ?_⟩ <;> decide +kernel

theorem meets_AccountCommands_free : addrHeld (account 0#8) (argAddr (account 0#8)) = false := by decide +kernel

theorem meets_AccountCommands_valid : MayStore (account 1#8) .ac0 Reg.ACC_CMD ∧ bit (rd (account 1#8) Reg.ACC_CMDSTAT) 31 = false ∧
    acctHeld (account 1#8) 0 = false ∧ acctLeased (account 1#8) 0 = false ∧ acctFlag (account 1#8) 0 0 = true ∧
    acctFlag (account 1#8) 0 7 = false ∧ acctFlag (account 1#8) 0 1 = false ∧ isDirty (account 1#8) 0 = false ∧
    (unitLane (account 1#8) 31).isSome = true := by
  refine ⟨may_store ?_, ?_⟩ <;> decide +kernel

/-- The last page dirty, that of accounts 1022 and 1023. -/
def dirtied : State := setIntake (account 1#8) { (account 1#8).intake with dirty := [(511, 0)] }

theorem meets_AccountCommands_ckpt : isDirty dirtied (1022 / 2) = true ∧ lmem (1022 / 2) dirtied.intake.first = false ∧
    MayStore dirtied .ac0 (hdr 0x18 Off.CTRL) ∧ dirtied.intake.ckpt = none ∧ nextDirty dirtied = some (511, 0) ∧
    acctHeld dirtied 1022 = false ∧ acctHeld dirtied 1023 = false ∧ writeReady dirtied = true ∧ ckptMay dirtied = true := by
  refine ⟨?_, ?_, may_store ?_, ?_⟩ <;> decide +kernel

theorem meets_AccountCommands_program : (setIntake dirtied { dirtied.intake with ckpt := some ⟨511, 0, []⟩ }).intake.ckpt = some ⟨511, 0, []⟩ ∧
    (setIntake dirtied { dirtied.intake with ckpt := some ⟨511, 0, []⟩ }).pmu.window = false := by decide +kernel

/-- A descriptor with this OP and these bytes from byte 16 on. -/
def desc (op : Byte) (bs : Bytes) : Bytes := ([op] ++ zeros 15 ++ bs ++ zeros 64).take 64

/-- An operation of channel 0 with this descriptor. -/
def opOf (d : Bytes) : ActOp := { d := ⟨0, 0, d⟩, at_ := 0, begun := false }

/-- The last channel with an operation active, the intake enabled. -/
def presenting : State :=
  setChan (up [(hdr 0x18 Off.CTRL, 1#32)]) 63 { Chan.idle with active := [opOf (desc 0x21#8 [])] }

theorem meets_FrameIntake_present :
    ((getChan presenting 63).active.find? fun o => descOp o.d == 0x21 && !o.begun) = some (opOf (desc 0x21#8 [])) ∧
    enabled presenting 0x18 = true ∧ lmem 0x18 presenting.enOff = false := by
  decide +kernel

/-- A frame of 320 bytes from channel 63, its record kept in the host's memory. -/
def request : FrameReq :=
  { src := .chan 63 0, dom := 0, profile := 0, len := 320, recEn := true, noFwd := false, frameAddr := 0, recAddr := 0,
    recLen := 512, data := some (zeros 320) }

/-- The request waiting. -/
def waitingFrame : State :=
  { presenting with
    intake := { presenting.intake with reqs := [request] }
    regs := file [(hdr 0x18 Off.CTRL, 1#32), (Reg.DMA_WATTR, 0x80000003#32), (Reg.DMA_WDOM0, 1#32)] }

theorem meets_FrameIntake_admit : nextReq waitingFrame = some (request, []) ∧ accepting waitingFrame 0x18 = true ∧
    waitingFrame.intake.closed = false ∧ waitingFrame.intake.frames.length < 256 ∧ 12 ≤ request.len ∧ request.len ≤ 320 ∧
    (match (frameData waitingFrame request (.data [])).2 with
      | .inr bs => (match (reserveRec waitingFrame request bs.length).2 with
        | .inl _ => true
        | .inr _ => false)
      | .inl _ => false) = true := by
  decide +kernel

theorem meets_FrameIntake_swap : MayStore (at_ []) .ac0 Reg.DIR_SWAP ∧ bit (rd (at_ []) (hdr 0x1A Off.STAT)) 8 = false ∧
    bit (rd (at_ [(hdr 0x1A Off.STAT, 0x100#32)]) (hdr 0x1A Off.STAT)) 8 = true := by
  refine ⟨may_store ?_, ?_⟩ <;> decide +kernel

/-- A profile of plain mode 2 frames: the address in bytes 0 to 7, the sequence in bytes 8 to 11, 16 bytes of header, the rest up to the
code at the end ciphertext. -/
def profile2 : List Word :=
  [0xC0000000#32, 0x00088000#32, 0x00101000#32, 0x00800000#32] ++ List.replicate 12 0#32

/-- A frame under that profile, at a stage. -/
def frameAt (stage : FrameStage) : Frame :=
  { newFrame request (1#8 :: zeros 63) profile2 none with stage := stage }

/-- One frame of account 0, enabled and with this state. -/
def framed (f : Frame) : State := setIntake (account 3#8) { (account 3#8).intake with frames := [f] }

theorem meets_FrameIntake_gate : (locate profile2 (1#8 :: zeros 63)).isSome = true ∧
    (framed (frameAt .waitGate)).intake.frames[0]? = some (frameAt .waitGate) ∧ (framed (frameAt .waitGate)).intake.cmd = none ∧
    acctHeld (framed (frameAt .waitGate)) 0 = false ∧ bankUp (framed (frameAt .waitGate)) 30 = true ∧
    ckptHolds (framed (frameAt .waitGate)) 0 = false ∧ poisoned (framed (frameAt .waitGate)) (acctAddr 0) 256 = false ∧
    acctFlag (framed (frameAt .waitGate)) 0 1 = true := by
  decide +kernel

/-- Account 0 with its current key entry in use. -/
def keyed : State :=
  { framed (frameAt .waitGate) with mem := { (framed (frameAt .waitGate)).mem with
      sram := mset 0#8 (mset 0#8 (framed (frameAt .waitGate)).mem.sram 0x107C0000 1#8) 0x107C0001 16#8 } }

theorem meets_FrameIntake_candidates : (match locate profile2 (1#8 :: zeros 63) with
    | some x => (match classify keyed 0 x (extendSeq (acctFlag keyed 0 6) x.ext x.bits (acctFld keyed 0 0x10 8) x.v) with
      | .inr check => !(candidates keyed 0 check).isEmpty
      | .inl _ => false)
    | none => false) = true := by
  decide +kernel

theorem meets_FrameIntake_stages : (frameAt .loaded).toUnwrap = [] ∧ (frameAt .loaded).check = false ∧ unitLane (framed (frameAt .ledger)) 31 = some 0 ∧
    (frameAt .commit).promoted = false ∧ (frameAt .commit).suspect = false ∧ (frameAt .commit).gap = false ∧
    acctFlag (framed (frameAt .commit)) 0 5 = false ∧ (frameAt .commit).status = stOK := by
  decide +kernel

theorem meets_TallyUpdates_pulse :
    (let s1 := wrBit (at_ [(Reg.PLS_CFG + 4 * 31, 0x80000000#32)]) Reg.PLS_LEVEL 31 true
     bit (rd s1 (Reg.PLS_CFG + 4 * 31)) 31 = true ∧ fld (rd s1 (Reg.PLS_CFG + 4 * 31)) 30 29 = 0 ∧
       rd s1 (Reg.PLS_COUNT + 4 * 31) - rd s1 (Reg.PLS_TAKEN + 4 * 31) ≠ 0xFFFFFFFF#32) ∧
    bit (rd (wrBit (at_ []) Reg.PLS_LEVEL 31 true) (Reg.PLS_CFG + 4 * 31)) 31 = false := by
  decide +kernel

/-- Tally 0 on pulse input 31, which has counted 1. -/
def counting : State :=
  at_ [(hdr 0x20 Off.CTRL, 1#32), (Reg.TAL_CFG, 0x801F0000#32), (talStsReg 0, 0x2000000#32), (Reg.PLS_COUNT + 4 * 31, 1#32)]

theorem meets_TallyUpdates_source : usersOf counting (.pulse 31) = [0] ∧ aluOos counting = false ∧ pageQuiesced counting (talPage 0) = false ∧
    0 < srcDelta counting (.pulse 31) ∧ (getTally counting 0).share + inAlu counting 0 + srcDelta counting (.pulse 31) < 2 ^ 32 := by
  decide +kernel

theorem meets_TallyUpdates_dispatch : counting.tal.alu = none ∧ aluOos counting = false ∧ bit (rd counting (hdr 0x20 Off.CTRL)) 2 = false ∧
    schedHeld counting = false ∧ nextTally counting = some 0 := by
  decide +kernel

theorem meets_TallyCommands_snapshot : MayStore (at_ []) .mc (Reg.TAL_SNAPCMD + 3 * 4096) ∧
    bit (rd (at_ []) (Reg.TAL_SNAPSTAT + 3 * 4096)) 30 = false ∧ bit (0x8000003F#32) 31 = true ∧
    bit (rd (at_ [(Reg.TAL_SNAPSTAT + 3 * 4096, 0x4000003F#32)]) (Reg.TAL_SNAPSTAT + 3 * 4096)) 30 = true ∧
    aluHolds (at_ [(Reg.TAL_SNAPSTAT + 3 * 4096, 0x4000003F#32)]) 255 = false ∧ MayStore (at_ []) .mc (Reg.TAL_PRECMD + 3 * 4096) ∧
    bit (rd (at_ []) (Reg.TAL_PRESTAT + 3 * 4096)) 31 = false ∧ fld (0x8000023F#32) 9 8 ≠ 3 := by
  refine ⟨may_store ?_, ?_, ?_, ?_, ?_, may_store ?_, ?_⟩ <;> decide +kernel

/-- A preset of the error accumulator of tally 255 to the largest value it holds. -/
def presetting : State :=
  at_ [(Reg.TAL_PRESTAT + 3 * 4096, 0x8000023F#32), (Reg.TAL_PREVAL + 3 * 4096, 0xFFFFFFFF#32), (Reg.TAL_PREVAL + 3 * 4096 + 4, 0xFFFFFFFF#32),
    (Reg.TAL_PREVAL + 3 * 4096 + 8, 0xFFFFFFFF#32)]

theorem meets_TallyCommands_preset : presetOf presetting 3 = some (255, .err) ∧ aluHolds presetting 255 = false ∧
    bit (rd presetting (Reg.TAL_SNAPSTAT + 3 * 4096)) 30 = false ∧ presetting.cal.closing = false ∧
    ((rd presetting (Reg.TAL_PREVAL + 3 * 4096)).toNat + 2 ^ 32 * (rd presetting (Reg.TAL_PREVAL + 3 * 4096 + 4)).toNat +
      2 ^ 64 * (rd presetting (Reg.TAL_PREVAL + 3 * 4096 + 8)).toNat) * 2 ^ Acc.frac .err + mget 0 presetting.tal.carry 3 < 2 ^ (96 + Acc.frac .err) := by
  decide +kernel

theorem meets_TallyCommands_tables : MayStore (at_ []) .mc Reg.TCO_CRCSEL ∧ MayStore (at_ []) .mc Reg.TCO_CDATA ∧
    bit (rd (at_ [(Reg.TCO_CIDX, 0x1FFF#32)]) (Reg.TCO_THDR + 8 * (fld (rd (at_ [(Reg.TCO_CIDX, 0x1FFF#32)]) Reg.TCO_CIDX) 12 0 / 128))) 31 = false ∧
    bit (rd (at_ [(Reg.TCO_THDR, 0x80000000#32)]) (Reg.TCO_THDR + 8 * (fld (rd (at_ []) Reg.TCO_CIDX) 12 0 / 128))) 31 = true ∧
    ({ at_ [] with tal := { (at_ []).tal with crcBusy := true } }).tal.crcBusy = true := by
  refine ⟨may_store ?_, may_store ?_, ?_⟩ <;> decide +kernel

/-- A run of the sequencer at its last step, which holds this word. -/
def sensing (w : Word) : State :=
  setSns (at_ [(hdr 0x27 Off.CTRL, 1#32), (Reg.SNS_PERIOD, 1#32), (Reg.SNS_STEP + 4 * 255, w)])
    { (at_ []).sns with running := true, step := 255 }

theorem meets_SensorRuns_start : accepting (sensing 0#32) 0x27 = true ∧ fld (rd (sensing 0#32) Reg.SNS_PERIOD) 19 0 ≠ 0 ∧
    bit (rd (at_ [(hdr 0x27 Off.CTRL, 0x101#32)]) (hdr 0x27 Off.CTRL)) 8 = true ∧ accepting (at_ [(hdr 0x27 Off.CTRL, 0x101#32)]) 0x27 = true ∧
    MayStore (sensing 0#32) .mc (hdr 0x27 Off.CTRL) ∧ MayStore (sensing 0#32) .mc Reg.SNS_WCMD ∧ bit (0x800000FF#32) 31 = true ∧
    MayStore (sensing 0#32) .mc Reg.SNS_SIDX := by
  refine ⟨?_, ?_, ?_, ?_, may_store ?_, may_store ?_, ?_, may_store ?_⟩ <;> decide +kernel

theorem meets_SensorRuns_steps : (sensing 0x107F0080#32).sns.running = true ∧ (sensing 0x107F0080#32).sns.step < 256 ∧
    fld (snsStepWord (sensing 0x107F0080#32) 255) 31 28 = 1 ∧ fld (0x107F0080#32 : Word) 15 8 + fld (0x107F0080#32 : Word) 22 16 + 1 ≤ 256 ∧
    fld (0x107F0080#32 : Word) 7 0 + fld (0x107F0080#32 : Word) 22 16 + 1 ≤ 256 ∧ fld (snsStepWord (sensing 0x20000000#32) 255) 31 28 = 2 ∧
    fld (snsStepWord (sensing 0x30000000#32) 255) 31 28 = 3 ∧ fld (snsStepWord (sensing 0x40FF0000#32) 255) 31 28 = 4 ∧
    fld (snsStepWord (sensing 0x70000000#32) 255) 31 28 = 7 ∧ fld (snsStepWord (sensing 0#32) 255) 31 28 = 0 := by
  decide +kernel

theorem meets_SensorRuns_store : fld (snsStepWord (sensing 0x6FFFCA7F#32) 255) 31 28 = 6 ∧ storeWidth (fld (0x6FFFCA7F#32 : Word) 11 9) = some 32 ∧
    fld (0x6FFFCA7F#32 : Word) 6 0 = 0x7F ∧ fld (0x6FFFCA7F#32 : Word) 19 12 + (32 + 7) / 8 ≤ 256 ∧ (sensing 0x6FFFCA7F#32).sns.staged.length < 16 := by
  decide +kernel

theorem meets_AxisCommands_set : MayStore (at_ []) .mc Reg.AXS_RTCCMD ∧ MayStore (at_ []) .mc Reg.AXS_NCMD ∧ MayStore (at_ []) .mc Reg.AXS_MCMD ∧
    MayStore (at_ []) .mc Reg.AXS_RTCSLEW ∧ MayStore (at_ []) .mc Reg.AXS_NSLEW ∧ MayLoad (at_ []) .mc (axs64Reg .net) ∧
    bit (0x80000000#32) 31 = true ∧ rd64 (at_ []) Reg.AXS_RTC ≤ rd64 (at_ []) Reg.AXS_RTCSET ∧
    fld (rd (at_ [(Reg.AXS_NSLEW, 0x10000#32)]) Reg.AXS_NSLEW) 31 16 ≠ 0 := by
  refine ⟨may_store ?_, may_store ?_, may_store ?_, may_store ?_, may_store ?_, may_load ?_, ?_⟩ <;> decide +kernel

theorem meets_AxisCommands_back :
    (let s1 := wr (at_ [(Reg.AXS_RTC, 5#32)]) Reg.AXS_RTCCMD ((rd (at_ [(Reg.AXS_RTC, 5#32)]) Reg.AXS_RTCCMD &&& 1#32) ||| (0xC0000000#32 &&& 0x40000000#32))
     rd64 s1 Reg.AXS_RTCSET < rd64 s1 Reg.AXS_RTC ∧ bit (0xC0000000#32) 30 = true ∧ axisArmed s1 0 = false) := by
  decide +kernel

theorem meets_AxisCommands_mains : bit (rd (at_ [(Reg.AXS_MCFG, 0x80000000#32)]) Reg.AXS_MCFG) 31 = true ∧
    awake (at_ [(Reg.AXS_MCFG, 0x80000000#32)]) = true ∧ (at_ [(Reg.AXS_MCFG, 0x80000000#32)]).axs.lastEdge = none ∧
    ({ at_ [] with tick := 22500, axs := { (at_ []).axs with lastEdge := some 0 } }).axs.lastEdge = some 0 ∧ 15000 ≤ 22500 - 0 := by
  decide +kernel

/-- The last posting armed on the RTC axis and due. -/
def posted : State := setCal (at_ [(Reg.AXS_RTC, 5#32)]) { (at_ []).cal with post := file [(8 * 4095, 0x80000000#32), (8 * 4095 + 1, 5#32)] }

theorem meets_CalendarCommands_commands : MayStore posted .mc Reg.CAL_CMD ∧ bit (rd posted Reg.CAL_CMDSTAT) 31 = false ∧
    MayStore posted .mc Reg.CAL_PEEKAX ∧ MayStore posted .mc Reg.CAL_LATMAX ∧
    heapRoot (wr posted Reg.CAL_PEEKAX (0#32 &&& 0x3FF#32)) 0 = some 4095 ∧ heapRoot (wr posted Reg.CAL_PEEKAX (0x3FF#32 &&& 0x3FF#32)) 0x3FF = none := by
  refine ⟨may_store ?_, ?_, may_store ?_, may_store ?_, ?_⟩ <;> decide +kernel

theorem meets_CalendarCommands_due : awake posted = true ∧ rootWhere posted 0 (fun p => !inBurst posted p) = some 4095 ∧
    postCmp posted 4095 ≤ axisValue posted 0 ∧ nextDue (setCal posted { posted.cal with burst := [⟨4095, 0⟩] }) = some ⟨4095, 0⟩ := by
  decide +kernel

/-- A closing of one double word in the store, and till 0 enabled for it. -/
def stored_ : State :=
  setCal (at_ [(tillCfgReg 0, 0x80000000#32), (tillCfgReg 0 + 4, 1#32)]) { (at_ []).cal with store := [⟨0, 0, zeros 8⟩], caps := [⟨0, 0, 0, 0, 0, false, 0, 0⟩] }

theorem meets_CalendarCommands_closings : stored_.tal.alu = none ∧ stored_.cal.caps ≠ [] ∧ movable stored_ stored_.cal.store [] = some ⟨0, 0, zeros 8⟩ := by
  decide +kernel

/-! ### The vault and the engines -/

/-- A key of this type and these attributes. -/
def keyOf (ktype attr : Nat) (mat : Bytes) : KeyRec :=
  { ktype := ktype, origin := 1, auth := 0, attr := attr, keyId := 0, nvctr := 0, param := 0, mat := mat }

/-- A slot that holds a key. -/
def slotOf (k : KeyRec) : VSlot := { VSlot.empty with key := some k }

/-- The vault with its roots up and its lanes working, a public key in slots 0 and 1, a key that derives in slot 8 and one that agrees in
slot 255, with these registers besides; the data at the start of the banks, the output at 0x10001000. -/
def vault (l : List (Nat × Word)) : State :=
  { up (l ++ [(hdr 6 Off.CTRL, 1#32), (hdr 6 Off.STAT, 0x300#32), (hdr 0x10 Off.CTRL, 1#32), (hdr 0x10 0x80, 0x80000000#32),
      (Reg.VLT_BUF, 0x10000000#32), (Reg.VLT_OBUF, 0x10001000#32), (Reg.VLT_OLEN, 0xFFFF#32), (Reg.PMU_HUSTAT, 0x80000000#32)]) with
    vlt := { State.reset.vlt with
      puf := .done
      rngStart := false
      slots := [(0, slotOf (keyOf 0x19 0 (zeros 96))), (1, slotOf (keyOf 0x2F 0 (zeros 1952))), (8, slotOf (keyOf 8 0x40 (zeros 32))),
        (255, slotOf (keyOf 0x29 0x20 (zeros 64)))]
      sess := [(63, { gen := 1, key := some (keyOf 1 0 (zeros 16)) })] } }

theorem meets_VaultStart_array : (setVlt (at_ []) { (at_ []).vlt with puf := .power }).vlt.puf = .power ∧
    (setVlt (at_ []) { (at_ []).vlt with puf := .decode, attempt := 2 }).vlt.attempt < 3 ∧ MayStore (at_ []) .ac0 Reg.VLT_SIDX ∧
    MayStore (at_ []) .ac0 (hdr 6 Off.CTRL) ∧ (at_ []).vlt.rngStart = true ∧ (vault []).vlt.rngStart = false ∧
    bit (rd (vault []) (hdr 6 Off.STAT)) 8 = true ∧ bit (rd (vault []) (hdr 6 Off.STAT)) 9 = true ∧ MayLoad (vault []) .ac0 Reg.RNG_DATA ∧
    MayLoad (vault []) .ac0 Reg.RNG_HSTAT := by
  refine ⟨?_, ?_, may_store ?_, may_store ?_, ?_, ?_, ?_, ?_, may_load ?_, may_load ?_⟩ <;> decide +kernel

theorem meets_VaultCommands_idle : MayStore (vault []) .ac0 Reg.VLT_CMD ∧ bit (rd (vault []) Reg.VLT_CMDSTAT) 31 = false ∧
    (vault []).vlt.queue = [] ∧ (vault []).vlt.job = none ∧ kuwWaits (wr (vault []) Reg.VLT_CMDSTAT 0x80000000#32) = false ∧
    bneInternal (wr (vault []) Reg.VLT_CMDSTAT 0x80000000#32) = true := by
  refine ⟨may_store ?_, ?_⟩ <;> decide +kernel

/-- The vault taking a command with these arguments. -/
def busy_ (a0 a1 a2 a3 : Word) : State :=
  wr (vault [(Reg.VLT_ARG, a0), (Reg.VLT_ARG + 4, a1), (Reg.VLT_ARG + 8, a2), (Reg.VLT_ARG + 12, a3)]) Reg.VLT_CMDSTAT 0x80000000#32

/-- A request that is answered. -/
def given {α : Type} (x : State × (Nat ⊕ α)) (p : State → α → Bool) : Bool :=
  match x with
  | (s, .inr a) => p s a
  | _ => false

theorem meets_VaultCommands_open :
    given (keyFor (busy_ 255#32 0#32 0#32 0#32) (handleOf 1 (vslot (busy_ 255#32 0#32 0#32 0#32) 255).gen 255) 0 (fun _ => true))
      (fun _ _ => true) = true := by
  decide +kernel

theorem meets_VaultCommands_public :
    given (keyFor (busy_ 0x40000000#32 0#32 0#32 0#32) 0x40000000 0 (fun k => !ktypeSym k.ktype)) (fun s k =>
      (vOut s (pageReq (busy_ 0x40000000#32 0#32 0#32 0#32) 4) ((pubOf k).getD []).length).isNone) = true ∧
    (slotKey (busy_ 0#32 0#32 0#32 0#32) 0).isSome = true ∧ (slotKey (busy_ 0#32 0#32 0#32 0#32) 1).isSome = true ∧
    (vOut (busy_ 0#32 0#32 0#32 0#32) (pageReq (busy_ 0#32 0#32 0#32 0#32) 10) (97 + 1952)).isNone = true := by
  decide +kernel

theorem meets_VaultCommands_mint : nbit 0x09000100 8 = true ∧ ktypeSym (0x09000100 / 2 ^ 24 % 256) = true ∧
    (ktypeLen (0x09000100 / 2 ^ 24 % 256)).isSome = true ∧ attrOk (0x09000100 / 2 ^ 24 % 256) 0 true = true ∧
    freeSess (busy_ 0x09000100#32 0#32 0#32 0#32) ≠ none ∧
    (drbg (busy_ 0x09000100#32 0#32 0#32 0#32) (mintLen 9 0)).isSome = true := by
  decide +kernel

theorem meets_VaultCommands_derive : outKeyOk (pageReq (busy_ 0x40000008#32 0x03000000#32 0#32 64#32) 8) = true ∧
    given (vIn (busy_ 0x40000008#32 0x03000000#32 0#32 64#32) (pageReq (busy_ 0x40000008#32 0x03000000#32 0#32 64#32) 8) 64) (fun s label =>
      given (keyFor s 0x40000008 0 (fun k => nbit k.attr aDERIVE)) (fun s k =>
        (newSess s (sessRec 3 (outAttr 0 0) 0 ((kdf k.mat label serial).take 32))).isSome)) = true ∧ (ktypeLen 3).getD 0 ≤ 32 := by
  decide +kernel

theorem meets_VaultCommands_agree : outKeyOk (pageReq (busy_ 0x400000FF#32 0x03000000#32 0#32 0#32) 9) = true ∧
    given (keyFor (busy_ 0x400000FF#32 0x03000000#32 0#32 0#32) 0x400000FF 0 (fun k => nbit k.attr aKEYAGREE)) (fun s k =>
      given (vIn s (pageReq (busy_ 0x400000FF#32 0x03000000#32 0#32 0#32) 9) (peerLen k.ktype)) (fun s label =>
        (sharedSecret k label).isSome && (newSess s (sessRec 3 (outAttr 0 0) 0 [])).isSome)) = true := by
  decide +kernel

theorem meets_VaultCommands_destroy : entryOf (busy_ 0x8001003F#32 0#32 0#32 0#32) 0x8001003F = some (keyOf 1 0 (zeros 16)) ∧
    hKind 0x8001003F = 2 ∧ attrDom 0 = 0 := by
  decide +kernel

theorem meets_VaultCommands_enroll :
    lcode { busy_ 0#32 0#32 0#32 0#32 with regs := file [(Reg.VLT_CMDSTAT, 0x80000000#32), (Reg.PMU_HUSTAT, 0x80000000#32)] } = 1 ∧
    (nvGate (busy_ 0#32 0#32 0#32 0#32) true).2 = stOK := by
  decide +kernel

/-- The vault at work on a command. -/
def working (w : VWork) (done : List (NvSrc × Nat)) : State :=
  { vault [] with
    vlt := { (vault []).vlt with job := some ⟨pageReq (vault []) 1, w⟩, refs := 1 }
    nv := { (vault []).nv with done := done } }

theorem meets_VaultCommands_signatures : (working (.sigs []) []).vlt.job = some ⟨pageReq (vault []) 1, .sigs []⟩ ∧ (working (.sigs []) []).vlt.queue = [] ∧
    bneInternal (working (.sigs []) []) = true ∧ kuwWaits (working (.sigs []) []) = false := by
  decide +kernel

theorem meets_VaultCommands_stages :
    (takeDone (working (.slots [] 28 0 []) [(.txn 1 0, stOK)]) (.txn 1 0)).map (·.1) = some stOK ∧ acctHeld (working (.gate (zeros 64) []) []) 0 = false ∧
    (takeDone (working (.acct (zeros 64) []) [(.txn 1 0, stOK)]) (.txn 1 0)).map (·.1) = some stOK := by
  decide +kernel

theorem meets_PageJobs : (let s := up [(hdr 0x0B Off.CTRL, 1#32), (hdr 0x0E Off.CTRL, 1#32), (hdr 0x13 Off.CTRL, 1#32), (hdr 0x0F Off.CTRL, 1#32),
      (hdr 0x0B 0x84, 0x10000000#32)]
    may s .ac0 (hdr 0x0B 0x88) && may s .ac0 (hdr 0x0E 0x88) && may s .ac0 (hdr 0x13 0x88) && may s .ac0 (hdr 0x0F 0x88) &&
      !bit (rd s (hdr 0x0B 0x8C)) 31 && (rd s (hdr 0x0B 0x84)).toNat % 16 == 0 && rangeSram (rd s (hdr 0x0B 0x84)).toNat 48 &&
      banksUp s (rd s (hdr 0x0B 0x84)).toNat 48 && given (unitRead s 0 0x10000000 48) (fun s blk =>
        taken (laneAdmit s false 3 .page 0 blk) && taken (laneAdmit s true 1 .page 0 blk) && taken (bneAdmit s 3 .page 0 blk) &&
          taken (lmsAdmit s .page 0 blk))) = true := by
  decide +kernel

/-- A job block: its first four bytes, then KEY, SRC, DST, LEN, AADLEN or 0, PARAM, TOKEN and MSGLEN. -/
def block (b0 b1 b2 b3 : Byte) (key src dst len param token : Nat) : Bytes :=
  [b0, b1, b2, b3] ++ leBytes 4 key ++ leBytes 8 src ++ leBytes 8 dst ++ leBytes 4 len ++ zeros 4 ++ leBytes 8 param ++ leBytes 4 token ++ zeros 4

/-- A job of a page, in domain 0 and of this class. -/
def job (cls : Nat) (blk : Bytes) : Job := { src := .page, dom := 0, cls := cls, blk := blk }

/-- The lanes at work on the banks, class 2 before class 0, with a key in session 63. -/
def lanes : State :=
  { vault [(hdr 0x0B Off.CTRL, 1#32), (hdr 0x0E Off.CTRL, 1#32), (hdr 0x0B 0x80, 0x300#32), (hdr 0x0E 0x80, 0xE0000030#32), (hdr 0x0F Off.CTRL, 1#32)] with
    mpu := inBanks.mpu }

/-- AES in ECB mode over 32 bytes, new and last. -/
def aesJob (cls : Nat) : Job := job cls (block 0x60#8 0#8 0#8 0#8 0x8001003F (2 ^ 63 + 0x10000000) (2 ^ 63 + 0x10000100) 32 (2 ^ 63 + 0x10000200) 0)

theorem meets_AesRuns_start : (let s := setLane lanes false 3 { Lane.idle with queue := [aesJob 2] }
    laneFree s false 3 && (match laneNext s false 3 with
      | .job j q => aesBlkOk (aesBlk j.blk) && (aesBlk j.blk).init && given (aesFirst (setLane s false 3 { Lane.idle with queue := q }) j.src j.dom
          (aesBlk j.blk) []) (fun _ _ => true)
      | _ => false)) = true := by
  decide +kernel

/-- The running job, its record as a new message gives it. -/
def running (cls : Nat) : RunJob :=
  { job := aesJob cls, pos := 0, began := 0, token := 1, ready := true
    ctx := match (aesFirst lanes .page 0 (aesBlk (aesJob cls).blk) []).2 with
      | .inr r => r.bytes
      | .inl _ => [] }

/-- A lane with that job running and another waiting. -/
def runningLane : State :=
  setLane lanes false 3 { Lane.idle with cur := some (running 0), queue := [aesJob 2], key := some ⟨0x8001003F, 1, 0, false, zeros 16⟩ }

theorem meets_AesRuns_done : (match runReady runningLane false 3 with
    | some x => decide ((aesGo runningLane 3 x (aesFuel (aesBlk x.job.blk)) []).2.2 = stOK)
    | none => false) = true := by
  decide +kernel

theorem meets_AesRuns_preempt : (match runReady runningLane false 3, nextClaim runningLane false 3 with
    | some x, some (p, dm) => decide (lanePri runningLane false 3 x.job.cls < p) &&
        decide (1 < ((aesBlk x.job.blk).aadlen - (aesRec x.ctx).aadlen) / 16 + ((aesBlk x.job.blk).len - x.pos + 15) / 16) &&
        (match aesPart runningLane 3 x 1 [] with
          | (s1, some y) => decide ((aesSave (bumpSat s1 (laneReg false 3 0xB0) 15 0) y (decide (dm ≠ some y.job.dom)) (aesRec y.ctx)).2 = stOK)
          | _ => false)
    | _, _ => false) = true := by
  decide +kernel

theorem meets_AesRuns_resume : (let r := running 2
    let s := (jobWrite (setLane lanes false 3 { Lane.idle with susp := [r] }) .page 0 (2 ^ 63 + 0x10000220) (saveArea lanes false r.ctx)).1
    laneFree s false 3 && (match laneNext s false 3 with
      | .susp x susp => given (aesRead (setLane s false 3 { Lane.idle with susp := susp }) .page 0 (aesBlk x.job.blk) x.token []) (fun _ _ => true)
      | _ => false)) = true := by
  decide +kernel

theorem meets_AesRuns_rest : may lanes .ac0 (hdr 0x0B Off.CTRL) = true ∧ frameRuns lanes 3 = false ∧ (getLane lanes false 3).cur = none ∧
    kuwWaits lanes = false ∧ given (keyFor lanes 0x8001003F 0 (fun _ => true)) (fun _ _ => true) = true ∧
    (lanes.intake.frames.findIdx? fun f => decide (f.lane = some 3) && decide (f.stage = .loaded)) = none := by
  decide +kernel

/-- SHA-256 over 128 bytes, new and not last. -/
def hshJob (cls : Nat) : Job := job cls (block 0x20#8 0#8 32#8 0#8 0 (2 ^ 63 + 0x10000000) (2 ^ 63 + 0x10000100) 128 (2 ^ 63 + 0x10000200) 0)

theorem meets_HashRuns_start : (let s := setLane lanes true 1 { Lane.idle with queue := [hshJob 2] }
    laneFree s true 1 && (match laneNext s true 1 with
      | .job j _ => hshBlkOk j.blk && (hshBlk j.blk).init
      | _ => false)) = true := by
  decide +kernel

/-- The running hash job. -/
def hashing (cls : Nat) : RunJob :=
  { job := hshJob cls, pos := 0, began := 0, token := 1, ready := true
    ctx := (({ dom := 0, mode := 0, key := 0, token := 1, jobpos := 0, datalen := 0, st := hshIv 0 } : HshRec)).bytes }

/-- A lane with that job running and another waiting. -/
def hashingLane : State := setLane lanes true 1 { Lane.idle with cur := some (hashing 0), queue := [hshJob 2] }

theorem meets_HashRuns_preempt : (match runReady hashingLane true 1, nextClaim hashingLane true 1 with
    | some x, some (p, dm) => decide (lanePri hashingLane true 1 x.job.cls < p) && decide (x.pos + 1 * hshBlock (hshBlk x.job.blk).mode < (hshBlk x.job.blk).len) &&
        (match hshPart hashingLane 1 x 1 [] with
          | (s1, some y) => decide ((hshSave (bumpSat s1 (laneReg true 1 0xB0) 15 0) y (decide (dm ≠ some y.job.dom)) (hshRec y.ctx)).2 = stOK)
          | _ => false)
    | _, _ => false) = true := by
  decide +kernel

theorem meets_HashRuns_done : (match runReady hashingLane true 1 with
    | some x => decide ((hshGo hashingLane 1 x ((hshBlk x.job.blk).len / 64 + 1) []).2.2 = stOK)
    | none => false) = true := by
  decide +kernel

theorem meets_HashRuns_resume : (let r := hashing 2
    let s := (jobWrite (setLane lanes true 1 { Lane.idle with susp := [r] }) .page 0 (2 ^ 63 + 0x10000200) (saveArea lanes false r.ctx)).1
    laneFree s true 1 && (match laneNext s true 1 with
      | .susp x susp => given (hshRead (setLane s true 1 { Lane.idle with susp := susp }) .page 0 (hshBlk x.job.blk) x.token []) (fun _ _ => true)
      | _ => false)) = true := by
  decide +kernel

theorem meets_HashRuns_clear : may lanes .ac0 (hdr 0x0E Off.CTRL) = true ∧ (getLane lanes true 1).cur = none := by decide +kernel

/-- An HSS key of one tree of height 5, SIGN, with counter 16. -/
def hssKey : KeyRec := { keyOf 0x30 8 (zeros 48) with nvctr := 16 }

/-- The vault and the LMS page working, the key in slot 8, its counter bound to it. -/
def signer : State :=
  let s := vault [(hdr 0x0F Off.CTRL, 1#32), (hdr 0x0D Off.CTRL, 1#32), (hdr 0x0D 0x80, 0xFFFFFFFF#32)]
  { s with vlt := { s.vlt with slots := [(8, slotOf hssKey)] }, nv := { s.nv with bound := [(16, 9)] }, mpu := inBanks.mpu }

/-- A request to sign one byte. -/
def signRequest : LReq :=
  { src := .page, dom := 0
    blk := [1#8] ++ zeros 3 ++ leBytes 4 0x40000008 ++ leBytes 8 (2 ^ 63 + 0x10000000) ++ leBytes 8 (2 ^ 63 + 0x10001000) ++ leBytes 2 1 ++ leBytes 2 0xFFFF ++
      zeros 4 }

theorem meets_LmsRuns_start : (let s := setLanes signer { signer.lanes with lmsQ := [signRequest] }
    s.lanes.lmsRun.isNone && lmsUp s && !s.pmu.window && bfld signRequest.blk 0 1 == 1 && decide (0 < bfld signRequest.blk 24 2) &&
      decide (bfld signRequest.blk 24 2 ≤ 4096) &&
      given (keyFor (setLanes s { s.lanes with lmsQ := [] }) (bfld signRequest.blk 4 4) 0
        (fun k => k.ktype == 0x30 && nbit k.attr aSIGN && hKind (bfld signRequest.blk 4 4) == 1)) (fun s1 r => (match hssParam r.param with
          | some p => decide (p.sigLen ≤ bfld signRequest.blk 26 2) && drbgReady s1 &&
              given (jobRead s1 .page 0 (bfld signRequest.blk 8 8) (bfld signRequest.blk 24 2) []) (fun _ _ => true)
          | none => false))) = true := by
  decide +kernel

theorem meets_LmsRuns_advance : (let s := setLmsKey signer 16 { c := 0, next := 0, limit := 0, adv := true }
    (lmsKey s 16).adv && writeReady s && (match lmsOfCtr s 16 with
      | some r => (lmsAdvanced s 16 (lmsTotal r)).isSome
      | none => false) && mget 0 s.nv.bound 16 == 8 + 1 && s.lanes.lmsRun.isNone) = true := by
  decide +kernel

theorem meets_LmsRuns_done : (match (vslot signer 8).key with
    | some r => lmsUp signer && given (lmsRelease (setLanes signer { signer.lanes with lmsRun := none }) r 0 [0#8]) (fun _ _ => true)
    | none => false) = true := by
  decide +kernel

theorem meets_LmsRuns_select : MayStore signer .ac0 Reg.LMS_KSEL ∧ (vslot signer (fld (255#32) 7 0)).key = none ∧
    (vslot signer (fld (8#32) 7 0)).key = some hssKey ∧
    mget LmsKey.none_ (setLmsKey signer 16 { c := 0, next := 0, limit := 64, adv := false }).lanes.lmsKeys hssKey.nvctr ≠ LmsKey.none_ := by
  refine ⟨may_store ?_, ?_⟩ <;> decide +kernel

/-- A profile of seals over the last account under an ECDSA key in slot 8, delivered to till 0. -/
def sealer (alg : Nat) : State :=
  let s := vault [(hdr 0x0F Off.CTRL, 1#32), (hdr 0x0D Off.CTRL, 1#32), (hdr 0x0D 0x80, 0xFFFFFFFF#32),
    (Reg.LMS_SPCFG + 16 * 15, word (0x80000000 + alg * 0x1000000)), (Reg.LMS_SPCFG + 16 * 15 + 4, 0x000103FF#32),
    (Reg.LMS_SPCFG + 16 * 15 + 8, 0x40000008#32), (tillCfgReg 0, 0x80000000#32), (tillCfgReg 0 + 4, 1#32)]
  { s with vlt := { s.vlt with slots := [(8, slotOf (keyOf 0x10 8 (zeros 32)))] }, seals := [⟨15, 0xFFFF, false, 0, none⟩] }

theorem meets_SealRuns_request : MayStore (sealer 1) .ac0 Reg.LMS_SEALCMD ∧ bit (0x8000000F#32) 31 = true ∧ enabled (sealer 1) 0x0F = true ∧
    lmem 0x0F (sealer 1).enOff = false ∧ (sealRequest (sealer 1) 15).isSome = true := by
  refine ⟨may_store ?_, ?_⟩ <;> decide +kernel

theorem meets_SealRuns_start : (let s := sealer 1
    s.lanes.sealing.isNone && decide (s.seals = [⟨15, 0xFFFF, false, 0, none⟩]) && accepting s 0x0F && !s.pmu.window && !kuwWaits s &&
      given (sealCheck s (rd s (Reg.LMS_SPCFG + 16 * 15)) (rd s (Reg.LMS_SPCFG + 16 * 15 + 4)) (rd s (Reg.LMS_SPCFG + 16 * 15 + 8)))
        (fun _ n => hwMayReserve s 0 ((128 + n + 7) / 8))) = true := by
  decide +kernel

/-- A seal under way. -/
def sealRun : SealRun :=
  ⟨⟨15, 0xFFFF, false, 0, none⟩, 0x81000000#32, 0x000103FF#32, 0x40000008#32, 24, stOK, [], 0, 0, none, 0, [], none⟩

theorem meets_SealRuns_tree : (let s := setSealing (sealer 1) sealRun
    s.lanes.sealing == some sealRun && unitLane s 30 == some 0 && (sealCaptures s sealRun).caps.length == (sealRange sealRun.acct).2 &&
      !(sealCaptures s sealRun).caps.isEmpty) = true := by
  decide +kernel

theorem meets_SealRuns_signed : (let r : SealRun := { sealRun with root := some (zeros 32) }
    let s := setSealing (sealer 1) r
    r.sig.isNone && writeReady s && !kuwWaits s && (match sealNumber s r with
      | (s1, r') => r'.status == stOK && decide (r'.cfg = r.cfg) && decide (r'.key = r.key) &&
          given (sealKey (setSealing s1 r') r'.key.toNat (fld r'.cfg 27 24)) (fun s2 k => (match sealSign s2 1 k (zeros 128) with
            | some (_, .inr _) => true
            | _ => false)))) = true := by
  decide +kernel

theorem meets_SealRuns_delivered : (let r : SealRun := { sealRun with root := some (zeros 32), sig := some (zeros 64) }
    (setSealing (sealer 1) r).lanes.sealing == some r && !bit r.cfg 30 && r.status == stOK) = true := by
  decide +kernel

/-! ### Big numbers -/

/-- A user job of a big-number lane, at the last slot of the user region. -/
def bneBlock : Bytes := leBytes 2 32768 ++ leBytes 2 0x1FFF ++ zeros 28 ++ leBytes 2 16384 ++ zeros 2 ++ leBytes 4 16384 ++ zeros 24

theorem meets_BigNumberJobs_start : (let s := setBne (vault [(hdr 0x13 Off.CTRL, 1#32)]) 3 { BLane.idle with queue := [job 2 bneBlock] }
    laneUp s 0x13 && !s.pmu.window && (getBne s 3).cur.isNone && (match bneNext s 3 with
      | some (j, _) => bneBlkOk j.blk && decide (32768 ≤ bfld j.blk 0 2)
      | none => false)) = true := by
  decide +kernel

/-- A user sequence whose block has 16,384 bytes of input and output, 32 bytes of message. -/
def seqBlock : Bytes :=
  leBytes 2 32768 ++ leBytes 2 0x1000 ++ zeros 12 ++ leBytes 8 (2 ^ 63 + 0x10000000) ++ leBytes 8 (2 ^ 63 + 0x10008000) ++ leBytes 2 16384 ++ leBytes 2 32 ++
    leBytes 4 16384 ++ leBytes 8 (2 ^ 63 + 0x10000000) ++ zeros 16

/-- The run at the last slot, with modulus 2^64 − 59 and a hash unit. -/
def seqRun : BRun :=
  { job := job 2 seqBlock, ready := true, pc := 0x1FFF, stack := [0x1000], ctr := [0, 0, 0, 0], z := false, c := false, n := 1, m := some (2 ^ 64 - 59),
    ring := 0, fmt := 24, hash := some { mode := 5, msg := [], out := 0, secret := false }, out := 0, cyc := 0, status := none }

/-- Lane 3 at that run, its next word `w`, odd numbers in registers 1 and 2. -/
def sequence_ (w : Word) (r : BRun) : State :=
  let s := vault [(hdr 0x13 Off.CTRL, 1#32)]
  let s := setBne s 3 { BLane.idle with
    cur := some r
    regs := [(1, { val := 2 ^ 64 - 61, written := true, secret := true, dom := 0 }), (2, { val := 5, written := true, secret := false, dom := 0 }),
      (3, { val := 2 ^ 32 - 1, written := true, secret := false, dom := 0 })] }
  { s with lanes := { s.lanes with seq := [(0x1FFF, w)] }, mpu := inBanks.mpu }

/-- The lane runs its word as operation `op`. -/
def runsOp (op : Nat) (fields : Nat) : Bool :=
  let w := word (op * 2 ^ 26 + fields)
  let s := sequence_ w seqRun
  bnRunning s 3 == some seqRun && inUser seqRun.pc && seqSlot s seqRun.pc == w && fld w 31 26 == op && bnFieldsOk w

theorem meets_SequenceOperations_ops : ([(0x00, 0), (0x01, 0xFF), (0x02, 0x1FFF), (0x03, 0xC01FFF), (0x04, 0x1000), (0x05, 0), (0x06, 0xC03FFF),
    (0x07, 0xC01000), (0x08, 0x7F), (0x09, 0x40000), (0x0A, 0x3C40000), (0x0B, 0x1001), (0x0C, 0x3C04000), (0x0D, 0x44000), (0x0E, 0), (0x0F, 0x3C00000),
    (0x10, 0x3C48000), (0x11, 0x48000), (0x12, 0x48000), (0x13, 0x40000), (0x14, 0x48000), (0x15, 0x48000), (0x16, 0x48000), (0x17, 0x4003F),
    (0x18, 0x40001), (0x19, 0x41FFF), (0x1A, 0x48000), (0x1B, 1), (0x20, 1), (0x2A, 0x7F8), (0x30, 6)].all fun x => runsOp x.1 x.2) = true := by
  decide +kernel

theorem meets_SequenceOperations_operands :
    wval (sequence_ 0#32 seqRun) 3 1 % 2 ^ 64 < 2 ^ 64 - 59 ∧ wval (sequence_ 0#32 seqRun) 3 2 % 2 ^ 64 < 2 ^ 64 - 59 ∧
    wval (sequence_ 0#32 seqRun) 3 1 % 2 ^ 64 % 2 = 1 ∧ wval (sequence_ 0#32 seqRun) 3 4 % 2 ^ 64 % 2 = 0 ∧
    (wreg (sequence_ 0#32 seqRun) 3 1).dom = seqRun.job.dom ∧ seqRun.stack.length < 8 ∧ 8 ≤ (List.replicate 8 0x1000).length ∧
    0 + 8 * 1 ≤ seqRun.fld 36 4 ∧ 0 + 8 * 1 ≤ seqRun.fld 32 2 := by
  decide +kernel

theorem meets_SequenceOperations_data :
    decide ((jobWrite (countedOp (sequence_ 0#32 seqRun) 3) .page 0 (seqRun.fld 24 8 + 0) (bnBytes false 8 5)).2 = stOK) = true ∧
    (bnBytes false 8 5).length = 8 ∧ given (jobRead (countedOp (sequence_ 0#32 seqRun) 3) .page 0 (seqRun.fld 16 8 + 0) 8 []) (fun _ _ => true) = true ∧
    (drbg (countedOp (sequence_ 0#32 seqRun) 3) 8).isSome = true := by
  decide +kernel

theorem meets_SequenceRings_ops : ([(0x21, 0), (0x22, 0), (0x23, 0), (0x24, 0), (0x25, 0), (0x26, 0x100), (0x27, 0x21), (0x28, 0), (0x29, 0), (0x31, 1024),
    (0x32, 8), (0x33, 0), (0x34, 1024)].all fun x => runsOp x.1 x.2) = true := by
  decide +kernel

theorem meets_SequenceRings_operands : ((coefs (wval (sequence_ 0#32 seqRun) 3 0)).all fun x => decide (x < (bnRing seqRun).q)) = true ∧
    ((coefs (wval (sequence_ 0#32 seqRun) 3 3)).all fun x => decide (x < (bnRing seqRun).q)) = false ∧
    pmapOk (word (0x26 * 2 ^ 26 + 0x100)) = true ∧ pmapDef seqRun (word (0x26 * 2 ^ 26 + 0x100)) (coefs 0) = true ∧ pfmtW seqRun.fmt ≠ 0 ∧
    0 + 32 * pfmtW seqRun.fmt ≤ seqRun.fld 36 4 ∧ 0 + 32 * pfmtW seqRun.fmt ≤ seqRun.fld 32 2 ∧ (5 : Nat) ≤ 5 := by
  decide +kernel

theorem meets_SequenceRings_data :
    decide ((jobWrite (countedOp (sequence_ 0#32 seqRun) 3) .page 0 (seqRun.fld 24 8)
      (packPoly (bnRing seqRun).q (pfmtW 24) (pfmtB 24) (pfmtNeg 24) (coefs 0))).2 = stOK) = true ∧
    (packPoly (bnRing seqRun).q (pfmtW 24) (pfmtB 24) (pfmtNeg 24) (coefs 0)).length = 32 * pfmtW 24 ∧
    given (jobRead (countedOp (sequence_ 0#32 seqRun) 3) .page 0 (seqRun.fld 16 8) (32 * pfmtW 24) []) (fun _ _ => true) = true ∧
    given (jobRead (countedOp (sequence_ 0#32 seqRun) 3) .page 0 (seqRun.fld 40 8) (seqRun.fld 34 2) []) (fun _ _ => true) = true := by
  decide +kernel

theorem meets_SequenceRings_sample : (psamp 0 (0x21 % 16) (0x21 / 16) (hunitBytes { mode := 6, msg := [], out := 0, secret := false } 3200)).isSome = true := by
  decide +kernel

theorem meets_BigNumberJobs_run : (getBne (sequence_ 0#32 seqRun) 3).cur = some seqRun ∧ seqRun.ready = true ∧ seqRun.user = true ∧ seqRun.status = none ∧
    inUser 0x2000 = false ∧ ({ seqRun with job := job 2 (leBytes 2 0x010 ++ zeros 62) }).user = false ∧ (vfn (0x010 % 4096)).isSome = true ∧
    bnLimit (wr (sequence_ 0#32 seqRun) (hdr 0x13 0xA8) 1#32) 3 { seqRun with cyc := 1 } = true := by
  decide +kernel

theorem meets_BigNumberJobs_pages : MayStore (vault []) .ac0 (hdr 0x13 Off.CTRL) ∧ MayLoad (vault []) .ac0 (hdr 0x13 0xC4) ∧ MayStore (vault []) .ac0 Reg.BNC_SDATA ∧
    MayStore (vault []) .ac0 Reg.BNC_CRCCMD ∧ fld (rd (vault []) Reg.BNC_SIDX) 12 0 < 0x1000 ∧
    0x1000 ≤ fld (rd (vault [(Reg.BNC_SIDX, 0x1FFF#32)]) Reg.BNC_SIDX) 12 0 ∧ (∀ n, n < 4 → userRuns (vault [(Reg.BNC_SIDX, 0x1FFF#32)]) n = false) ∧
    userRuns (sequence_ 0#32 seqRun) 3 = true ∧ bit (0x80000001#32) 31 = true := by
  refine ⟨may_store ?_, may_load ?_, may_store ?_, may_store ?_, ?_⟩ <;> decide +kernel

/-! ### Cores, banks and channels -/

theorem meets_CorePages : MayStore (at_ []) .ac0 (hdr 0x61 Off.CTRL) ∧ bit (rd (at_ []) (hdr 0x61 Off.CTRL)) 0 = false ∧
    bit (rd (at_ [(hdr 0x61 Off.CTRL, 1#32)]) (hdr 0x61 Off.CTRL)) 0 = true ∧ MayStore (at_ []) .ac0 (hdr 0x61 0xA0) ∧ gstMay (at_ []) .ac0 1 = true ∧
    MayStore (at_ []) .ac0 (hdr 0x61 0xA4) ∧ fld (8#32) 3 0 ≤ 8 ∧ MayLoad (at_ []) .ac0 (cycReg .ac1) ∧ MayStore (at_ []) .mc Reg.MCC_WDKICK := by
  refine ⟨may_store ?_, ?_, ?_, may_store ?_, ?_, may_store ?_, ?_, may_load ?_, may_store ?_⟩ <;> decide +kernel

theorem meets_CorePages_watchdog : bit (rd (at_ [(Reg.MCC_WDCFG, 0x80000000#32)]) Reg.MCC_WDCFG) 31 = true ∧ (onMc []).mc.run ≠ .held ∧
    lmem 6 (setPmu (at_ []) { (at_ []).pmu with due := [6] }).pmu.due = true ∧
    (setBoot (at_ []) { (at_ []).boot with loading := true }).boot.loading = true := by
  decide +kernel

/-- The bank test on, with nothing being cleared, at a phase and a place. -/
def testing (stat : Word) : State :=
  { at_ [(Reg.MEM_BTCFG, 0x80000000#32), (Reg.MEM_SERVICE, 0xFFFFFFFF#32), (Reg.MEM_CLEARING, 0#32), (Reg.MEM_BTSTAT, stat)] with
    bt := { next := 32767, sparesDue := true } }

theorem meets_BankTests_visit : bit (rd (testing 0#32) Reg.MEM_BTCFG) 31 = true ∧ anyClearing (testing 0#32) = false ∧
    (testing 0#32).pmu.mode ≠ .sleep ∧ (testing 0#32).pmu.mode ≠ .off ∧ bit (rd (testing 0#32) Reg.MEM_BTSTAT) 31 = false ∧
    btFind (testing 0#32) 34 (testing 0#32).bt.next = some 32767 ∧ bit (rd (testing 0x80000000#32) Reg.MEM_BTSTAT) 31 = true := by
  decide +kernel

theorem meets_BankTests_phases : fld (rd (testing 0xA0000000#32) Reg.MEM_BTSTAT) 30 29 = 1 ∧
    ((testing 0xA0000000#32).mem.poison.filter fun w => regionAddr 32767 ≤ w && w < regionAddr 32767 + 256) = [] ∧
    fld (rd (testing 0xC0000000#32) Reg.MEM_BTSTAT) 30 29 = 2 ∧ fld (rd (testing 0xE0000000#32) Reg.MEM_BTSTAT) 30 29 = 3 ∧
    (testing 0#32).bt.sparesDue = true := by
  decide +kernel

theorem meets_BankTests_orders : MayStore (testing 0#32) .ac0 Reg.MEM_BCMD ∧ 30 ≤ (31 : Fin 32).val ∧ bankUp (testing 0#32) 29 = true ∧
    bankUp (at_ [(Reg.MEM_SERVICE, 0xDFFFFFFF#32)]) 29 = false ∧ ([0, 1023] : List (Fin 1024)).length + 0 ≤ 2 := by
  refine ⟨may_store ?_, ?_⟩ <;> decide +kernel

/-- The registers of the last channel: host rings of 8 entries, enabled, its memory windows open to domain 0. -/
def ring (tbkt coal : Word) : List (Nat × Word) :=
  [(Reg.CHN_CFG + 32 * 63, 0xA0004400#32), (Reg.CHN_TBKT + 32 * 63, tbkt), (Reg.CHN_COAL + 32 * 63, coal), (Reg.DMA_WATTR, 0x80000003#32),
    (Reg.DMA_WDOM0, 1#32), (dbReg 63 0, 3#32)]

/-- The last channel over those registers, with the host linked. -/
def channel (l : List (Nat × Word)) (c : Chan) : State :=
  setChan { up l with pcie := linked.pcie } 63 c

theorem meets_ChannelRings_enable : MayStore (at_ []) .ac0 (Reg.CHN_CFG + 32 * 63) ∧ bit (rd (at_ []) (Reg.CHN_CFG + 32 * 63)) 31 = false ∧
    bit (rd (at_ (ring 0#32 0#32)) (Reg.CHN_CFG + 32 * 63)) 31 = true ∧ MayStore (at_ []) .ac0 Reg.CHN_CMD := by
  refine ⟨may_store ?_, ?_, ?_, may_store ?_⟩ <;> decide +kernel

theorem meets_ChannelRings_doorbells : MayStore (at_ (ring 0#32 0#32)) .pcie (dbReg 63 0) ∧ chanOn (at_ (ring 0#32 0#32)) 63 = true ∧
    fld (15#32) 11 0 < sqSize (at_ (ring 0#32 0#32)) 63 ∧ MayStore (at_ (ring 0#32 0#32)) .pcie (dbReg 63 4) ∧
    (fld (0#32) 11 0 + cqSize (at_ (ring 0#32 0#32)) 63 - cqHead (at_ (ring 0#32 0#32)) 63) % cqSize (at_ (ring 0#32 0#32)) 63 ≤
      (cqTail (at_ (ring 0#32 0#32)) 63 + cqSize (at_ (ring 0#32 0#32)) 63 - cqHead (at_ (ring 0#32 0#32)) 63) % cqSize (at_ (ring 0#32 0#32)) 63 ∧
    fld (rd (at_ (ring 1#32 0#32)) (Reg.CHN_TBKT + 32 * 63)) 15 0 ≠ 0 := by
  refine ⟨may_store ?_, ?_, ?_, may_store ?_, ?_⟩ <;> decide +kernel

theorem meets_ChannelRings_fetch : (let c : Chan := { Chan.idle with release := 3 }
    let s := channel (ring 0#32 0#32) c
    chanOn s 63 && !(getChan s 63).halted && !(getChan s 63).disabling && (getChan s 63).toRead == 0 && portOpen s 63 && !s.pmu.window &&
      (fetchLimits s 63).2.1 != 0) = true := by
  decide +kernel

theorem meets_ChannelRings_arrive : (getChan (channel (ring 0#32 0#32) { Chan.idle with toRead := 3 }) 63).toRead ≠ 0 ∧
    given (dmaRead (channel (ring 0#32 0#32) { Chan.idle with toRead := 3 }) 63
      (rd64 (channel (ring 0#32 0#32) { Chan.idle with toRead := 3 }) (Reg.CHN_SQBASE0 + 32 * 63) +
        64 * sqHead (channel (ring 0#32 0#32) { Chan.idle with toRead := 3 }) 63) (64 * 3) (.data [])) (fun _ _ => true) = true := by
  decide +kernel

theorem meets_ChannelRings_coalesce : fld (rd (channel (ring 0#32 0x10000#32) { Chan.idle with counted := 1 }) (Reg.CHN_COAL + 32 * 63)) 31 16 ≠ 0 ∧
    (getChan (channel (ring 0#32 0x10000#32) { Chan.idle with counted := 1 }) 63).counted ≠ 0 ∧ (getChan (channel (ring 0#32 0#32) Chan.idle) 63).halted = false ∧
    (getChan (channel (ring 0#32 0#32) Chan.idle) 63).discard = false := by
  decide +kernel

/-- The last channel with an operation of this descriptor. -/
def operating (l : List (Nat × Word)) (d : Bytes) (b : Bool) : State :=
  channel (ring 0#32 0#32 ++ l) { Chan.idle with active := [{ opOf d with begun := b }] }

theorem meets_ChannelOperations_copy : (let s := operating [] (desc 1#8 (leBytes 8 0 ++ leBytes 8 2048 ++ leBytes 4 2048)) false
    match firstOp s 63 0x01 with
    | some o => !overlap (descFld o.d 16 8) (descFld o.d 24 8) (descFld o.d 32 4) && busOk (descFld o.d 16 8) 2048 && busOk (descFld o.d 24 8) 2048 && s.pcie.bme
    | none => false) = true := by
  decide +kernel

theorem meets_ChannelOperations_read : (let s := { operating [(tillCfgReg 127, 0x803F0000#32)] (desc 0x11#8 ([127#8, 1#8] ++ zeros 6 ++ leBytes 8 0 ++ leBytes 4 64)) true with
      tills := [(127, onePacket)] }
    match firstOp s 63 0x11 with
    | some o => o.begun && !bit (tillCfg s 127) 28 && fld (tillCfg s 127) 21 16 == 63 && descFld o.d 16 1 == 127 && decide ((dmaCheck s 63 0 64 true).2 = 0) &&
        decide (max 1 (descFld o.d 17 1) ≤ (getTill s 127).packets.length)
    | none => false) = true := by
  decide +kernel

theorem meets_ChannelOperations_write : (
    let s := operating [(tillCfgReg 127, 0xAFC00000#32), (tillCfgReg 127 + 4, 1#32)] (desc 0x12#8 ([127#8] ++ zeros 3 ++ leBytes 4 512 ++ leBytes 8 0)) false
    match firstOp s 63 0x12 with
    | some o => tillProd s 127 == 1 && fld (tillCfg s 127) 27 22 == 63 && decide ((descFld o.d 20 4 + 7) / 8 ≤ tillSize s 127) && tillOpenFor s 127 &&
        decide ((descFld o.d 20 4 + 7) / 8 ≤ tillRoom s 127) && given (dmaRead s 63 (descFld o.d 24 8) 512 (.data [])) (fun _ _ => true)
    | none => false) = true := by
  decide +kernel

theorem meets_ChannelOperations_tills : MayStore (at_ []) .ac0 (tillCfgReg 127) ∧ bit (tillCfg (at_ []) 127) 31 = false ∧
    tillRangeBad (at_ []) 127 = true ∧ tillRangeBad (wr (at_ [(tillCfgReg 127 + 4, 1#32)]) (tillCfgReg 127) 0#32) 127 = false ∧
    bit (tillCfg (tilled onePacket) 127) 31 = true ∧ MayStore (at_ []) .ac0 (hdr (tillPage 127) 0x80) ∧ bit (rd (at_ []) (hdr (tillPage 127) 0x84)) 31 = false ∧
    (getTill (tilled onePacket) 127).packets ≠ [] ∧ (getTill (tilled onePacket) 127).stale = false ∧ (getTill (tilled onePacket) 127).opener = none ∧
    fld (tillCfg (at_ [(tillCfgReg 127, 1#32)]) 127) 15 0 ≠ 0 := by
  refine ⟨may_store ?_, ?_, ?_, ?_, ?_, may_store ?_, ?_⟩ <;> decide +kernel

/-! ### The outside -/

/-- The contact port supplied and out of reset, its status and configuration so, write-ready. -/
def port (stat cfg : Word) (hash : Option Bytes) : State :=
  { up [(Reg.CPT_STAT, stat), (Reg.CPT_CFG, cfg), (Reg.CPT_READY, 1#32), (Reg.CPT_WIN, 0x10000000#32), (Reg.PMU_HUSTAT, 0x80000000#32),
      (Reg.CHN_CFG + 32 * 63, 0xC0004400#32), (Reg.CHN_SQBASE0 + 32 * 63, 0x10001000#32), (Reg.CHN_CQBASE0 + 32 * 63, 0x10002000#32),
      (dbReg 63 0, 14#32), (dbReg 63 12, 15#32)] with
    cpt := { State.reset.cpt with power := true, crst := true, choosing := true, lockRec := { State.reset.cpt.lockRec with hash := hash } }
    otp := { State.reset.otp with sealed_ := true } }

/-- ISO mode, active and not locked. -/
def iso : State := port 0x60000000#32 7#32 none

theorem arrives_iso {p : Nat} {d card : Bytes} {le : Option Nat} {hash : Option Bytes} {p1 p2 : Byte} (h : p1.toNat * 256 + p2.toNat = p) :
    Arrives (port 0x60000000#32 7#32 hash) (.apdu 0x80#8 p1 p2 d le) p d le card := by
  refine ⟨?_, .inl ⟨p1, p2, rfl, h, ?_, ?_⟩⟩
  · exact (show awake (port 0x60000000#32 7#32 none) = true by decide +kernel)
  · exact (show cptLive (port 0x60000000#32 7#32 none) 1 = true by decide +kernel)
  · exact (show cptBit (port 0x60000000#32 7#32 none) 29 = true by decide +kernel)

theorem meets_ContactPort_mode : iso.cpt.choosing = true ∧ iso.cpt.power = true ∧ iso.cpt.crst = true ∧ awake iso = true ∧ iso.pmu.vmain = true ∧
    bit (rd iso Reg.CPT_CFG) 0 = true ∧ bit (rd iso Reg.CPT_CFG) 1 = true ∧ cptLive (port 0x40000000#32 7#32 none) 1 = true ∧
    cptBit (port 0x40000000#32 7#32 none) 29 = false ∧ (ppsReply [0xFF#8, 0x10#8, 0x96#8, 0x79#8]).isSome = true := by
  decide +kernel

theorem meets_ContactPort_pps : ((ppsReply [0xFF#8, 0x10#8, 0x96#8, 0x79#8]).bind (·.2)).isSome = true := by decide +kernel

theorem meets_ContactPort_window : Arrives iso (.apdu 0x80#8 0#8 1#8 (zeros 255) none) 1 (zeros 255) none [] ∧ cptGate iso false false = stOK ∧
    (zeros 255).length ≤ 255 ∧ (inWindow iso 1 255).isSome = true ∧ Arrives iso (.apdu 0x80#8 0#8 0#8 [] (some 256)) 0 [] (some 256) [] ∧
    (inWindow iso 0 256).isSome = true ∧ poisoned iso 0x10000000 256 = false := by
  refine ⟨arrives_iso rfl, ?_, ?_, ?_, arrives_iso rfl, ?_⟩ <;> decide +kernel

theorem meets_ContactPort_channel : Arrives iso (.apdu 0x80#8 63#8 0#8 (zeros 64) none) (256 * 63) (zeros 64) none [] ∧ (zeros 64).length = 64 ∧
    cportChan iso 63 = true ∧ (sqTail iso 63 + sqSize iso 63 - sqHead iso 63) % sqSize iso 63 + 1 < sqSize iso 63 ∧
    Arrives iso (.apdu 0x80#8 63#8 0#8 [] (some (16 * 15 + 1))) (256 * 63) [] (some (16 * 15 + 1)) [] ∧
    (∀ x, x < 15 → poisoned iso (sramOf (rd64 iso (Reg.CHN_CQBASE0 + 32 * 63)) + 16 * ((cqHead iso 63 + x) % cqSize iso 63)) 16 = false) := by
  refine ⟨arrives_iso rfl, ?_, ?_, ?_, arrives_iso rfl, ?_⟩ <;> decide +kernel

/-- A persistent command that begins. -/
def begins : PortEnd → Bool
  | .runs _ => true
  | _ => false

/-- ISO mode with a password held. -/
def held : State := port 0x60000000#32 7#32 (some (zeros 32))

theorem meets_ContactPort_password : Arrives iso (.apdu 0x80#8 0#8 0#8 (List.replicate 16 1#8) none) 0 (List.replicate 16 1#8) none [] ∧
    (List.replicate 16 1#8 : Bytes) ≠ zeros 16 ∧ begins (persist iso false 0xE1 [] stOK iso.cpt.lockRec) = true ∧ cptGate held false false = stOK ∧
    held.cpt.lockRec.hash ≠ none ∧ begins (persist held false 0xE2 [] stAUTH held.cpt.lockRec) = true ∧ cptGate held false true = stOK ∧ cptDelay held = 0 ∧
    iso.cpt.lockRec.hash = none ∧ Arrives held (.apdu 0x80#8 0#8 0#8 (zeros 16) none) 0 (zeros 16) none [] := by
  refine ⟨arrives_iso rfl, ?_, ?_, ?_, ?_, ?_, ?_, ?_, ?_, arrives_iso rfl⟩ <;> decide +kernel

theorem meets_ContactPort_erase : Arrives iso (.apdu 0x80#8 0#8 0#8 (serial ++ [0x45#8, 0x52#8, 0x41#8, 0x53#8]) none) 0
      (serial ++ [0x45#8, 0x52#8, 0x41#8, 0x53#8]) none [] ∧ bit (rd iso Reg.CPT_CFG) 2 = true ∧ lcode iso ≠ 1 ∧ lcode iso ≠ 5 ∧ iso.lcs = none ∧
    begins (persist iso (lcode iso == 3) 0xEE [] stOK iso.cpt.lockRec) = true := by
  refine ⟨arrives_iso rfl, ?_⟩; decide +kernel

/-- A persistent command at work whose transaction has ended. -/
def persisting (code : Nat) : State :=
  { iso with
    cpt := { iso.cpt with refs := 1, job := some { code := code, data := [], status := stAUTH, next := iso.cpt.lockRec, second := false, asked := true } }
    nv := { iso.nv with done := [(.txn 2 0, stOK)] } }

theorem meets_ContactPort_persist : (takeDone (persisting 0xE3) (.txn 2 ((persisting 0xE3).cpt.refs - 1))).map (·.1) = some stOK ∧
    (persisting 0xE3).cpt.job.isSome = true ∧ iso.cpt.lockRec.hash ≠ some [] ∧ cptLive (persisting 0xE1) 1 = true ∧ (at_ []).cpt.power = false := by
  decide +kernel

theorem meets_CardBus : busUp (port 0xA0000000#32 7#32 none) = true ∧ cptAddr (port 0xA0000000#32 7#32 none) = 0 ∧
    busUp (port 0xA20F0000#32 7#32 none) = true ∧ (15#8).toNat = cptAddr (port 0xA20F0000#32 7#32 none) ∧ cptBit (port 0xA20F0000#32 7#32 none) 25 = true ∧
    cptLive (port 0xA1000000#32 7#32 none) 2 = true ∧ cptBit (port 0xA1000000#32 7#32 none) 24 = true ∧
    ({ (at_ []).cpt with swAt := some 0 }).swAt = some 0 ∧ ({ (at_ []).cpt with armed := true }).armed = true := by
  decide +kernel

theorem meets_PcieLink : linked.pcie.perst = false ∧ linked.pcie.linkUp = true ∧
    (setPcie linked { linked.pcie with linkUp := false }).pcie.linkUp = false ∧ awake linked = true ∧
    (setBoot linked { linked.boot with steps := [9] }).boot.steps.head? ≠ some 1 ∧ (at_ []).pcie.perst = true ∧ linked.pcie.l1 ≠ true ∧
    inert linked .pcie = false ∧ linked.boot.rom = false := by
  decide +kernel

/-- Port 3 in a state, as an extension port of a fabric that is on. -/
def ported (x : FPort) : State :=
  setPort (at_ [(hdr 0x43 Off.CTRL, 1#32), (fabReg 3 0x80, 0xE0000000#32), (Reg.FRT_CFG, 0xE0FF0000#32), (Reg.DIR_SELF, 0x80000000#32)]) 3 x

/-- A handshake. -/
def handshake : Hsk :=
  { own := [], peer := none, scalar := 1, seed := [], eph := [], init := [], reply := [], t2 := [], todo := false, sent := [], tries := 2 }

theorem meets_FabricLinks_commands : MayStore (ported FPort.idle) .ac0 (fabReg 3 0x88) ∧ (getPort (ported FPort.idle) 3).st = .disabled ∧
    fabOn (ported FPort.idle) 3 = true ∧ bit (rd (ported FPort.idle) (fabReg 3 0x80)) 31 = true ∧
    (getPort (ported { FPort.idle with st := .active }) 3).st = .active ∧ (getPort (ported { FPort.idle with st := .detect }) 3).st = .detect ∧
    (getPort (ported { FPort.idle with st := .holdoff }) 3).st = .holdoff ∧ halted (ported FPort.idle) = false := by
  refine ⟨may_store ?_, ?_⟩ <;> decide +kernel

theorem meets_FabricLinks_offer : (getPort (ported { FPort.idle with st := .hsk, hsk := some handshake }) 3).hsk = some handshake ∧
    (serial ++ zeros 44).length = 60 ∧ (serial ++ zeros 44).take 16 = serial ∧
    part (serial ++ zeros 44) 16 8 = fabId (ported FPort.idle) ∧ part (zeros 16 ++ [1#8] ++ zeros 43) 16 8 ≠ fabId (ported FPort.idle) := by
  refine ⟨?_, rfl, rfl, ?_, ?_⟩ <;> decide +kernel

theorem meets_FabricLinks_messages : ({ handshake with peer := some [] }).peer ≠ none ∧ (zeros 6799).length = 6799 ∧ (zeros 10108).length = 10108 ∧
    (zeros 3405).length = 3405 ∧ handshake.todo = false ∧ 2 ≤ handshake.tries ∧ FPort.idle.initiator = false := by
  decide +kernel

theorem meets_FabricLinks_confirm : partnerSigs (zeros 2049) [] (zeros 3405) = false := by decide +kernel

/-- An active port with an acknowledgement due, a frame in replay and another that waits for credits. -/
def waitingPort : FPort :=
  { FPort.idle with
    st := .active, ackDue := true, rounds := 8, replay := [(0, ⟨2, 0, false, 0, 0, 0, []⟩)], queue := [⟨⟨3, 0, false, 0, 0, 0, zeros 64⟩, none⟩] }

theorem meets_FabricLinks_frames : isCtrl [0x10#8] = true ∧ isCtrl [0x01#8] = false ∧ waitingPort.replay ≠ [] ∧ 8 ≤ waitingPort.rounds ∧
    (waitingPort.queue.map fun q => !q.m.best && decide (waitingPort.rel < q.m.units) && !waitingPort.stalled) = [true] := by
  decide +kernel

/-- Port 3 with one received frame. -/
def received (r : FRx) : State := ported { FPort.idle with st := .active, rx := [r] }

theorem meets_FabricLinks_rest : (rxFind (received ⟨⟨2, 0, false, 0, 0, 0, zeros 8⟩, 1, false⟩) 3 2 (fun m => m.msg == 0)).isSome = true ∧
    MayStore (ported FPort.idle) .ac0 Reg.FRT_ADDR ∧ bit (0x80000F0F#32) 31 = true ∧ fld (0x80000F0F#32 : Word) 15 8 ≤ 15 ∧
    MayStore (ported FPort.idle) .ac0 (fabReg 3 0x84) := by
  refine ⟨?_, may_store ?_, ?_, ?_, may_store ?_⟩ <;> decide +kernel

/-- A routed frame for this device with a transaction header. -/
def routedFrame (msg : Nat) (body : Bytes) : FRx := ⟨⟨3, msg, false, 0x101, 0x202, 3, body ++ zeros 64⟩, 2, true⟩

/-- A transaction that waits. -/
def txn : FTxn := ⟨0, 0x202, 1, [], .query 63 0, 0⟩

/-- Port 3 with a received frame and that transaction. -/
def answered (r : FRx) : State := { received r with fab := { (received r).fab with txns := [txn] } }

theorem meets_FabricTransactions_timeout : (answered (routedFrame 2 [])).fab.txns[0]? = some txn ∧ isSelf (answered (routedFrame 2 [])) txn.dst = false ∧
    txn.tries < fld (rd (answered (routedFrame 2 [])) Reg.FRT_TXCFG) 3 0 := by
  decide +kernel

theorem meets_FabricTransactions_answers : ((answered (routedFrame 2 [])).fab.txns.find? fun t => t.txid == mHdr (routedFrame 2 []).m 0 4) = some txn ∧
    rxFind (answered (routedFrame 2 [])) 3 3 (fun m => m.msg == 2 && ((answered (routedFrame 2 [])).fab.txns.find?
      fun t => t.txid == mHdr m 0 4).elim true fun t => !t.isIntake) = some (routedFrame 2 [], []) ∧
    rxFind (answered (routedFrame 4 [])) 3 3 (fun m => m.msg == 4) = some (routedFrame 4 [], []) := by
  decide +kernel

theorem meets_FabricTransactions_requests :
    rxFind (received (routedFrame 1 (zeros 4 ++ [0x15#8]))) 3 3 (fun m => m.msg == 1) = some (routedFrame 1 (zeros 4 ++ [0x15#8]), []) ∧
    0x10 ≤ mHdr (routedFrame 1 (zeros 4 ++ [0x15#8])).m 4 1 ∧ mHdr (routedFrame 1 (zeros 4 ++ [0x15#8])).m 4 1 ≤ 0x15 ∧
    rxFind (received (routedFrame 0 [])) 3 3 (fun m => m.msg == 0) = some (routedFrame 0 [], []) ∧
    mHdr (routedFrame 0 []).m 8 4 = (rd (rxTake (received (routedFrame 0 [])) 3 (routedFrame 0 []) []) Reg.DIR_EPOCH).toNat ∧
    rxFind (received (routedFrame 3 [])) 3 3 (fun m => m.msg == 3) = some (routedFrame 3 [], []) := by
  decide +kernel

theorem meets_FabricTransactions_agent :
    (takeFirst (fun r : FRx => (r.m.kind == 2 && r.m.msg == 1) || (r.m.kind == 3 && r.m.msg == 5 && r.here))
      (getPort (received (routedFrame 5 [])) 3).rx).isSome = true ∧ (agentPacket (received (routedFrame 5 [])) 0x202 0 3 false []).isSome = true := by
  decide +kernel

/-- A frame that is still to be routed. -/
def passing (msg dst : Nat) : FRx := { routedFrame msg [] with m := { (routedFrame msg []).m with dst := dst }, here := false }

theorem meets_FabricTransactions_routing :
    takeFirst (fun r : FRx => r.m.kind == 3 && !r.here) (getPort (received (passing 5 0xFFFF)) 3).rx = some (passing 5 0xFFFF, []) ∧
    route (wr (received (passing 1 0x101)) Reg.FRT_ADDR 0x80000101#32) 0x101 = .here ∧ route (received (passing 1 0x101)) 0x101 = .none ∧
    (passing 1 0x101).m.ttl ≠ 0 := by
  decide +kernel

/-- Segment 1 beyond port 3, a trunk. -/
def trunk : State :=
  setPort (at_ [(fabReg 3 0x80, 0xE0000000#32), (Reg.FRT_ADDR, 0x80000000#32), (Reg.FRT_ROUTE + 4, 0x93000000#32)]) 3 { FPort.idle with st := .active }

theorem meets_FabricTransactions_trunk : route trunk 0x101 = .port 3 := by decide +kernel

/-- An operation at the last account, of the domain 0. -/
def fop (op hi : Nat) (body : Bytes) : FOp := ⟨true, 0x202, 0, 0, 0, op, hi * 65536 + 1023, body⟩

/-- It waits, the account being valid or not; a lease of the last account stands, number 7. -/
def asked (o : FOp) (flags : Byte) (leases : List Lease) : State :=
  { up [(hdr 0x0D Off.CTRL, 1#32), (laneReg true 0 0x80, 0xFFFFFFFF#32)] with
    mem := { State.reset.mem with sram := mset 0#8 [] (acctAddr 1023 + 9) flags }
    fab := { State.reset.fab with ops := [o], leases := leases } }

/-- A lease of the last account. -/
def lease (staged : Option Bytes) : Lease := ⟨7, zeros 8, 1023, staged, 1⟩

theorem meets_FabricTransactions_read : opNext (asked (fop 0x10 10000 []) 1#8 []) 0x10 = some (fop 0x10 10000 []) ∧ (fop 0x10 10000 []).hi = 10000 ∧
    acctLeased (asked (fop 0x10 10000 []) 1#8 []) 1023 = false ∧ acctFlag (asked (fop 0x10 10000 []) 1#8 []) 1023 0 = true ∧
    opDom (fop 0x10 10000 []) (acctFld (asked (fop 0x10 10000 []) 1#8 []) 1023 0x0A 1) = true := by
  decide +kernel

theorem meets_FabricTransactions_stage : opNext (asked (fop 0x11 1 (zeros 128)) 0#8 []) 0x11 = some (fop 0x11 1 (zeros 128)) ∧
    opDom (fop 0x11 1 (zeros 128)) (leNat (part (zeros 128) 0x0A 1)) = true ∧ acctFlag (asked (fop 0x11 1 (zeros 128)) 0#8 []) 1023 0 = false ∧
    addrHeld (asked (fop 0x11 1 (zeros 128)) 0#8 []) ((zeros 128).take 8) = false ∧
    (chainOf (asked (fop 0x11 1 (zeros 128)) 0#8 []) (localBucket ((zeros 128).take 8))).length < 8 := by
  decide +kernel

theorem meets_FabricTransactions_commit : opNext (asked (fop 0x12 7 []) 0#8 [lease (some (zeros 128))]) 0x12 = some (fop 0x12 7 []) ∧
    opLease (asked (fop 0x12 7 []) 0#8 [lease (some (zeros 128))]) (fop 0x12 7 []) true = some (lease (some (zeros 128))) ∧
    unitLane (asked (fop 0x12 7 []) 0#8 [lease (some (zeros 128))]) 31 ≠ none := by
  decide +kernel

theorem meets_FabricTransactions_dispose : opNext (asked (fop 0x13 7 []) 1#8 [lease none]) 0x13 = some (fop 0x13 7 []) ∧
    opLease (asked (fop 0x13 7 []) 1#8 [lease none]) (fop 0x13 7 []) false = some (lease none) ∧
    opNext (asked (fop 0x14 7 []) 0#8 []) 0x14 = some (fop 0x14 7 []) ∧ acctFlag (asked (fop 0x14 7 []) 0#8 []) 1023 0 = false ∧
    opNext (asked (fop 0x15 0 []) 0#8 []) 0x15 = some (fop 0x15 0 []) := by
  decide +kernel

theorem meets_FabricTransactions_send : (let s := operating [] (desc 0x40#8 ([1#8, 0#8, 1#8, 3#8] ++ leBytes 2 64 ++ zeros 2 ++ leBytes 8 0)) false
    match (getChan s 63).active.find? fun o => descOp o.d == 0x40 && !o.begun with
    | some a => given (dmaRead s 63 (descFld a.d 24 8) (descFld a.d 20 2) (.data [])) (fun s2 _ =>
        descFld a.d 18 1 == 1 && descFld a.d 19 1 == 3 && !isSelf s2 (descFld a.d 16 2) && descFld a.d 16 2 != 0xFFFF)
    | none => false) = true ∧ portUp trunk 3 = true := by
  decide +kernel

theorem meets_FabricTransactions_ask : (let s := operating [] (desc 0x42#8 [1#8, 1#8]) false
    match (getChan s 63).active.find? fun o => descOp o.d == 0x42 && !o.begun with
    | some a => (fabOpen s (descFld a.d 16 2) 1 0x15 (descFld a.d 18 2) (chanDom s 63) [] (.query 63 (descTag a.d))).isSome
    | none => false) = true := by
  decide +kernel

/-! ### The NV store -/

/-- The NV pages ready for a command with these arguments, its buffer at the start of the banks. -/
def nvAt (a0 a1 : Word) (f : NvSt → NvSt) : State :=
  setNv (up [(Reg.NVC_ARG, a0), (Reg.NVC_ARG + 4, a1), (Reg.NVC_BUF, 0x10000000#32), (Reg.PMU_HUSTAT, 0x80000000#32)]) (f State.reset.nv)

theorem meets_NvStore_commands : MayStore (nvAt 0#32 0#32 id) .ac0 Reg.NVC_CMD ∧ bit (rd (nvAt 0#32 0#32 id) Reg.NVC_CMDSTAT) 31 = false ∧
    MayStore (nvAt 0#32 0#32 id) .ac0 Reg.NVK_CMD ∧ bit (rd (nvAt 0#32 0#32 id) Reg.NVK_CMDSTAT) 31 = false ∧ readForbidden 0 65536 = false ∧
    rangeSram (nvcBuf (nvAt 0#32 0#32 id)) 65536 = true ∧ (nvGate (nvAt 3#32 0#32 id) true).2 = 0 ∧ poisoned (nvAt 0#32 0#32 id) 0x10000000 4096 = false := by
  refine ⟨may_store ?_, ?_, may_store ?_, ?_⟩ <;> decide +kernel

theorem meets_NvStore_images : (imgPages (nvAt 0#32 4096#32 id) 0 0 (sramRead (nvAt 0#32 4096#32 id) 0x10000000 4096)).isSome = true ∧
    (imgClose (nvAt 3#32 4096#32 id) 3 4096).isSome = true := by
  decide +kernel

theorem meets_NvStore_counters : ctrValue (nvAt 0#32 0#32 id) 15 < ctrMax 15 ∧
    ctrMax 15 ≤ ctrValue (setCtr (nvAt 0#32 0#32 id) 15 { Ctr.zero with base := 2 ^ 56 - 1 }) 15 ∧
    bit (rd (at_ [(Reg.NVC_SCRUB, 0x80000000#32)]) Reg.NVC_SCRUB) 31 = true := by
  decide +kernel

theorem meets_NvStore_erases : erasing (nvAt 0#32 0#32 fun x => { x with erases := [⟨0, 3, true⟩] }) false = some ⟨0, 3, true⟩ ∧
    erasing (nvAt 0#32 0#32 fun x => { x with erases := [⟨0, 2, true⟩] }) false = some ⟨0, 2, true⟩ ∧
    readTouches (nvAt 0#32 1#32 id) false = true := by
  decide +kernel

/-- A task that writes a page of the supervisor's data. -/
def pageTask (ws : List NvWrite) : NvTask := plainTask .nvc ws

theorem meets_NvStore_programs : (let w : NvWrite := .image 5 FPage.blank
    let s := nvAt 0#32 0#32 fun x => { x with tasks := [pageTask [w, w]] }
    (erasing s false).isNone && decide (bankTask s false = some (pageTask [w, w])) && decide (takeWrite s false [w, w] = some (w, [w])) &&
      decide (takeWrite s false [w] = some (w, [])) && !s.pmu.window && (pageTask [w]).source == 0) = true := by
  decide +kernel

/-- A transaction of the vault that waits, or is open under number 1. -/
def txnTask (n : Nat) : NvTask := { src := .txn 1 0, source := 1, info := 0, txn := n, todo := [], sets := [], failed := false }

theorem meets_NvStore_transactions : openTxn (nvAt 0#32 0#32 fun x => { x with tasks := [txnTask 0] }) = none ∧
    writeReady (nvAt 0#32 0#32 id) = true ∧
    ((nvAt 0#32 0#32 fun x => { x with tasks := [txnTask 0] }).nv.tasks.find? fun t => t.source != 0) = some (txnTask 0) ∧
    openTxn (nvAt 0#32 0#32 fun x => { x with tasks := [txnTask 1] }) = some (txnTask 1) ∧ (txnTask 1).todo = [] := by
  decide +kernel

theorem meets_NvStore_halves : groupWaits (setCtr (nvAt 0#32 0#32 fun x => { x with tasks := [plainTask (.nvk 255) [.unary 255]] }) 255
    { Ctr.zero with u := 2048 }) 31 = true := by
  decide +kernel

theorem meets_NvStore_reclaim : (let p := (copyPages 11 true).1
    let f := mkPage 11 3 0 1 0 []
    let s := nvAt 0#32 0#32 fun x => { x with pages := (List.range 512).map fun k => (p + k, f) }
    let mine := (regionPages s 11 true).filter fun kv => tagRtype kv.2 == 11
    decide ((11 : Nat) ∈ [6, 7, 9, 10, 11, 14]) && decide ((copyPages 11 true).2 < (regionPages s 11 true).length + 32) &&
      decide ((oldestPage mine).map (·.1 / 32) = some (p / 32)) && !reclaimWaits s (p / 32) mine) = true := by
  decide +kernel

/-- The assay port with a command word. -/
def assay (b3 b2 b1 b0 : Byte) : State := { up [] with mem := { State.reset.mem with dram := [(0x3F000, b0), (0x3F001, b1), (0x3F002, b2), (0x3F003, b3)] } }

theorem meets_NvStore_assay : assayGo (assay 0x80#8 1#8 0x0F#8 1#8) false = true ∧ assayCtl (assay 0x80#8 1#8 0x0E#8 1#8) % 4096 = 3585 ∧
    assayGo (assay 0xC0#8 1#8 0x0F#8 1#8) true = true ∧
    (nvRecord (setNv (assayTake (assay 0xC0#8 1#8 0x0F#8 1#8))
      { (assay 0xC0#8 1#8 0x0F#8 1#8).nv with pages := [((copyPages 9 false).1, mkPage 9 3 1 1 0 [5#8])] }) 9 1).isSome = true := by
  decide +kernel

/-! ### Tamper, starts and power -/

theorem meets_TamperSensors : (at_ []).pmu.mode ≠ .off ∧ (at_ []).pmu.window = false ∧ disabled (at_ []) 0 = false ∧ awake (at_ []) = true ∧
    disabled (at_ []) 1 = false ∧ disabled { at_ [(Reg.TMP_LEVEL0, 0x38#32)] with shadow := [(Reg.TMP_LEVEL0, 0xFFFFFFC7#32)] } 1 = true ∧
    (setBoot (at_ []) { (at_ []).boot with steps := [] }).boot.steps.head? ≠ some 1 ∧ ¬ xtalTol (at_ []) * 64 < ((64 - 64) + (64 - 64)) * 1000 ∧
    xtalTol (at_ []) * 64 < ((128 - 64) + (64 - 128)) * 1000 ∧ bit (eff (at_ []) (Reg.SHD_LOOPCFG + 4 * 3)) 31 = false ∧
    bit (eff { at_ [(Reg.SHD_LOOPCFG + 12, 0x80000000#32)] with shadow := [(Reg.SHD_LOOPCFG + 12, 0x7FFFFFFF#32)] } (Reg.SHD_LOOPCFG + 12)) 31 = true := by
  decide +kernel

/-- A halt under level 2 by source 1, its condition gone. -/
def halt2 (raw : Word) : State :=
  { at_ [(hdr 0x50 Off.STAT, 0x100#32), (Reg.TMP_RAWSTAT, raw)] with
    tick := 100000000, tmp := { State.reset.tmp with l2src := [1], burns := [⟨1, 2⟩], zero := .burn } }

theorem meets_TamperResponses_halt : MayStore (halt2 0#32) .ac0 Reg.TMP_CMD ∧ halted (halt2 2#32) = true ∧ condsAbsent (halt2 2#32) = false ∧
    condsAbsent (wr (halt2 0#32) Reg.TMP_CMDSTAT (word stOK)) = true ∧ condsAbsent (halt2 0#32) = true ∧
    0 < fld (eff { at_ [(Reg.TMP_L2HOLD, 1#32)] with shadow := [(Reg.TMP_L2HOLD, 0xFFFFFFFE#32)] } Reg.TMP_L2HOLD) 15 0 := by
  refine ⟨may_store ?_, ?_⟩ <;> decide +kernel

theorem meets_TamperResponses_hold : (let s := { at_ [(hdr 0x50 Off.STAT, 0x100#32), (Reg.TMP_L2HOLD, 1#32)] with
      shadow := [(Reg.TMP_L2HOLD, 0xFFFFFFFE#32)], tick := 1000, tmp := { State.reset.tmp with l2src := [1] } }
    halted s && decide (0 < fld (eff s Reg.TMP_L2HOLD) 15 0) && decide (s.tmp.since + fld (eff s Reg.TMP_L2HOLD) 15 0 * 1000 ≤ s.tick) && condsAbsent s) =
      true := by
  decide +kernel

theorem meets_TamperResponses_work : (halt2 0#32).tmp.burns = ⟨1, 2⟩ :: [] ∧ (halt2 0#32).tmp.zero = .burn ∧
    (setTmp (at_ []) { (at_ []).tmp with zero := .tail }).tmp.zero = .tail ∧ lmem 3 (setPmu (at_ []) { (at_ []).pmu with due := [3] }).pmu.due = true := by
  decide +kernel

theorem meets_TamperResponses_transition : MayStore (up []) .ac0 Reg.LCS_CMD ∧ bit (rd (up []) Reg.LCS_CMDSTAT) 31 = false ∧ (up []).lcs = none ∧
    fld (rd (up []) Reg.LCS_LEN) 15 0 = 0 ∧ given (unitRead (up []) 0 0 0) (fun _ _ => true) = true := by
  refine ⟨may_store ?_, ?_⟩ <;> decide +kernel

/-- The boot ROM at its steps from one on. -/
def atBoot (l : List Nat) (warm : Bool) : State := setBoot (at_ []) { (at_ []).boot with steps := l, warm := warm }

theorem meets_BootSteps : atStep (atBoot [1, 2, 3] false) 1 = true ∧ atStep (atBoot [3] false) 3 = true ∧
    atStep (setVlt (atBoot [4, 5] false) { (at_ []).vlt with puf := .done }) 4 = true ∧
    pufEnded (setVlt (atBoot [4, 5] false) { (at_ []).vlt with puf := .done }) = true ∧ (at_ []).tmp.zero = .idle ∧ atStep (atBoot [6] false) 6 = true ∧
    atStep (atBoot [7] false) 7 = true ∧ (selectImage (atBoot [7] false) 0).isNone = true ∧ atStep (atBoot [8] false) 8 = true ∧
    atStep (atBoot [9] true) 9 = true := by
  decide +kernel

theorem meets_BootSteps_warm : imageOf (atBoot [9] true) 0 (bit (rd (atBoot [9] true) Reg.SYS_IMGSEL) 0) = none ∧
    leNat (sha256 []) ≠ (List.range 8).foldl (fun n k => n + (rd (atBoot [9] true) (Reg.SYS_SUPHASH + 4 * k)).toNat * 2 ^ (32 * k)) 0 ∧
    leNat (sha256 []) = (List.range 8).foldl (fun n k => n + (rd (wrWords (atBoot [9] true) Reg.SYS_SUPHASH 8 (leNat (sha256 [])))
      (Reg.SYS_SUPHASH + 4 * k)).toNat * 2 ^ (32 * k)) 0 := by
  decide +kernel

/-- ROM service with a command in the mailbox. -/
def service (c : Word) : State :=
  { linked with
    boot := { State.reset.boot with rom := true, mail := [0#32, 0#32, c] }
    vlt := { State.reset.vlt with puf := .done }
    regs := file [(Reg.PMU_HUSTAT, 0x80000000#32)] }

theorem meets_BootSteps_service : (service 0x01000001#32).boot.rom = true ∧ (service 0x01000001#32).pcie.linkUp = true ∧
    (service 0x01000001#32).pcie.bme = true ∧ fld (0x01000001#32) 31 24 = 1 ∧ (([3#8] : Bytes) ++ zeros 1).take 1 = [3#8] ∧ mfld [3#8] 0 1 < 4 ∧
    (imgPages (service 0x02000104#32) 3 0 (zeros 256)).isSome = true ∧ (imgClose (service 0x03000008#32) 3 256).isSome = true ∧
    vaultUp (service 0x04000000#32) = true ∧ (service 0x05000000#32).lcs = none := by
  decide +kernel

theorem meets_Resets : (at_ []).pmu.window = false ∧ (at_ []).pmu.vmain = true ∧
    (setPmu (at_ []) { (at_ []).pmu with window := true, vmain := false }).pmu.window = true ∧
    bit (rd (at_ [(Reg.SYS_WDCFG, 0x80000000#32)]) Reg.SYS_WDCFG) 31 = true ∧ MayStore (at_ []) .ac0 Reg.SYS_WDKICK ∧ MayStore (at_ []) .ac0 Reg.SYS_SWR := by
  refine ⟨?_, ?_, ?_, ?_, may_store ?_, may_store ?_⟩ <;> decide +kernel

theorem meets_PowerStates_commands : MayStore (at_ []) .ac0 Reg.PMU_CMD ∧ bit (rd (at_ []) Reg.PMU_CMDSTAT) 31 = false ∧ (at_ []).pmu.window = false ∧
    lifeBusy (at_ []) = false ∧ (at_ []).pmu.entering = false ∧ awake (at_ []) = true ∧ (setMode (at_ []) .idle).pmu.mode = .idle ∧ (at_ []).pmu.mode = .run ∧
    (at_ []).ac1.run = .held := by
  refine ⟨may_store ?_, ?_⟩ <;> decide +kernel

/-- SLEEP being entered, with every block quiesced and every core at rest. -/
def entering : State :=
  { at_ (sleepPages.map fun p => (hdr p Off.STAT, 4#32)) with
    pmu := { State.reset.pmu with entering := true }, ac0 := { Core.zero with run := .waiting } }

theorem meets_PowerStates_sleep : entering.pmu.entering = true ∧ (sleepPages.all fun p => bit (rd entering (hdr p Off.STAT)) 2 && !pageBusy entering p) = true ∧
    entering.nv.tasks = [] ∧ entering.nv.erases = [] ∧ entering.nv.bufs = [] ∧ coreRests entering.ac0 = true ∧ coreRests entering.ac1 = true ∧
    coreRests entering.mc = true ∧ (setNv entering { entering.nv with bufs := [(0, zeros 256)] }).nv.bufs ≠ [] := by
  decide +kernel

theorem meets_PowerStates_wake : bit (rd (at_ [(Reg.PMU_WAKECFG, 1#32)]) Reg.PMU_WAKECFG) 0 = true ∧
    rd64 (at_ [(Reg.PMU_WAKECFG, 1#32)]) Reg.PMU_WAKETIME ≤ rd64 (at_ [(Reg.PMU_WAKECFG, 1#32)]) Reg.AXS_RTC ∧ (at_ []).pmu.wakeAt = none ∧
    (setPmu (at_ []) { (at_ []).pmu with mode := .off }).pmu.mode = .off ∧ (setPmu (at_ []) { (at_ []).pmu with wakeAt := some 0 }).pmu.wakeAt = some 0 ∧
    (setPmu (at_ []) { (at_ []).pmu with waking := true }).pmu.waking = true := by
  decide +kernel

theorem meets_PowerStates_window : windowDone (setPmu (at_ []) { (at_ []).pmu with window := true, winOk := true, whole := true }) = true ∧
    (at_ []).intake.dirty = [] ∧ windowDone (setPmu (at_ []) { (at_ []).pmu with window := true }) = true ∧ (at_ []).pmu.winOk = false := by
  decide +kernel

theorem meets_SuppliesAndSwitches : (at_ []).pmu.vmain = true ∧ fld (rd (at_ []) Reg.PMU_HUTHR) 15 0 ≤ (65535#16).toNat ∧
    (0#16).toNat < fld (rd (at_ [(Reg.PMU_HUTHR, 1#32)]) Reg.PMU_HUTHR) 15 0 ∧ bit (rd (at_ [(Reg.PMU_HUSTAT, 0x20000000#32)]) Reg.PMU_HUSTAT) 29 = true ∧
    huVolt (at_ [(Reg.PMU_HUSTAT, 5000#32)]) = 5000 ∧ bit (rd (at_ [(Reg.PMU_HUSTAT, 5000#32)]) Reg.PMU_HUSTAT) 28 = false ∧
    bit (rd (at_ [(Reg.PMU_HUCFG, 0x80000000#32)]) Reg.PMU_HUCFG) 31 = true ∧ pageBusy (at_ []) 0x48 = false ∧
    bit (rd (at_ [(Reg.PMU_HUSTAT, 0x10000000#32)]) Reg.PMU_HUSTAT) 28 = true ∧ MayStore (at_ []) .mc Reg.LSW_ORDER ∧ MayStore (at_ []) .ac0 Reg.PMU_LSWREQ ∧
    MayStore (at_ []) .mc (Reg.LSW_POL + 4 * 3) := by
  refine ⟨?_, ?_, ?_, ?_, ?_, ?_, ?_, ?_, ?_, may_store ?_, may_store ?_, may_store ?_⟩ <;> decide +kernel

theorem meets_SuppliesAndSwitches_vetoes : (lswAll.filter fun n => lswVeto (at_ []) n (lswAsk 0#32 n)) = [] ∧
    (lswAll.filter fun n => lswVeto (at_ []) n (lswAsk 2#32 n)) ≠ [] ∧
    bit (rd (at_ [(Reg.LSW_STAT, 0x80008#32), (Reg.LSW_POL + 12, 1#32)]) Reg.LSW_STAT) (16 + 3) = true ∧
    fld (lswPol (at_ [(Reg.LSW_STAT, 0x80008#32), (Reg.LSW_POL + 12, 1#32)]) 3) 15 0 ≠ 0 ∧
    lswClosed (at_ [(Reg.LSW_STAT, 0x80008#32), (Reg.LSW_POL + 12, 1#32)]) 3 = true := by
  decide +kernel

/-! ### Every command and every step -/

theorem meets_OutputsFollow : (match step { State.reset with pending := [.vbatLoss] } with
    | .next t => t.pending.isEmpty && t.pins.clkreqN
    | _ => false) = true := by
  decide +kernel

theorem meets_EventsSent : (let s := State.reset
    let t := wr { s with pcie := { linked.pcie with msixEn := true, msixTab := [(3, 0#32)] } } Reg.EVR_ROUTE 0x2000#32
    let u := landed s (wr (wr t (hdr 0 Off.EVT_EN) 1#32) (hdr 0 Off.EVT_RAW) 1#32)
    asserted u 0 && bit (routeOf (rd u Reg.EVR_ROUTE) 0) 13 && !asserted s 0 && msixOpen u.pcie && !vecMasked u.pcie 0) = true := by
  decide +kernel

theorem meets_StoresAndReads : State.reset.mem.poison = [] ∧ mwf (fun _ => 0#32) (mset 0#32 [] 5 7#32) = true ∧ mwf (fun _ => 0#8) (mset 0#8 [] 5 7#8) = true := by
  decide +kernel

theorem meets_MeterBuckets : (zeros 8).length = 8 := rfl

theorem meets_QueueDrains : 1 ≤ ({ State.reset with pending := [.vbatLoss] }).pending.length ∧ State.reset.pending = [] := by decide

end Sys2Proof.Tests
end

/-! PROOFS. The register pages: the outputs follow the events and the modes (R57, R417), and accesses of reserved offsets (R38). -/

section
/-! ### What every step answers -/

namespace Sys2Proof.Machine

open Sys2Proof

/-- Every arm of the dispatch lands the block, whatever its command does. -/
theorem exec_lands (c : Instr) (s : State) : ∃ t, exec c s = .next (landed s t) := by
  cases c <;> exact ⟨_, rfl⟩

/-- A step ends in a landed state: after the front command, or after the idle microsecond. -/
theorem step_lands {s t : State} (h : step s = .next t) : ∃ s₀ u, t = landed s₀ u := by
  unfold step at h
  split at h
  · exact ⟨s, idleTick s, Host.Outcome.next.inj h.symm⟩
  · rename_i c rest _
    obtain ⟨u, hu⟩ := exec_lands c { s with pending := rest }
    exact ⟨_, u, Host.Outcome.next.inj (h.symm.trans hu)⟩

/-! ### The words of EVR_ROUTE that route anything -/

/-- A key that does not read as unlisted is listed. -/
theorem mem_of_mget_ne {α : Type} {d : α} {m : Sparse α} {a : Nat} (h : mget d m a ≠ d) : ∃ v, (a, v) ∈ m := by
  induction m with
  | nil => exact absurd rfl h
  | cons kv m ih =>
    obtain ⟨k, v⟩ := kv
    by_cases hk : k = a
    · exact ⟨v, by simp [hk]⟩
    · obtain ⟨w, hw⟩ := ih (by simpa [mget, hk] using h)
      exact ⟨w, List.mem_cons_of_mem _ hw⟩

/-- The registers of the router's page reset to 0, but for EVR_FABDST. -/
theorem regRows_evr_reset : ∀ r ∈ regRows, r.page ≤ 3 → 3 < r.page + r.pages →
    r.reset = 0#32 ∨ (r.off = 0x94 ∧ r.stride = 4 ∧ r.count = 1) := by
  decide +kernel

/-- A register of the router's page above EVR_FABDST resets to 0. -/
theorem resetVal_evr {a : Nat} (hp : a / 4096 = 3) (ho : 0x98 ≤ a % 4096) : resetVal a = 0#32 := by
  unfold resetVal
  rw [if_neg (by simp only [Bool.and_eq_true, decide_eq_true_eq]; omega), hp]
  cases hr : regRow? 3 (a % 4096) with
  | none => rfl
  | some r =>
    have hrow := List.find?_some hr
    simp only [Bool.and_eq_true, decide_eq_true_eq] at hrow
    obtain ⟨⟨⟨⟨hlo, hhi⟩, -⟩, -⟩, hcount⟩ := hrow
    rcases regRows_evr_reset r (List.mem_of_find?_eq_some hr) hlo hhi with h0 | ⟨hoff, hstride, hone⟩
    · exact h0
    · rw [hoff, hstride, hone] at hcount
      omega

/-- The offset of EVR_ROUTE, as a numeral for `omega`. -/
theorem evrRoute_eq : Reg.EVR_ROUTE = 0x3800 := rfl

/-- The listed words of EVR_ROUTE. -/
theorem mem_routedWords {m : Sparse Word} {a : Nat} :
    a ∈ routedWords m ↔ (∃ v, (a, v) ∈ m) ∧ a % 4 = 0 ∧ Reg.EVR_ROUTE ≤ a ∧ a < Reg.EVR_ROUTE + 0x800 := by
  simp [routedWords, and_assoc]

/-- A route entry of a word of zeros has no bit set. -/
theorem bit_routeOf_zero (ev k : Nat) : bit (routeOf 0#32 ev) k = false := by
  simp [bit, routeOf]

/-- The word of EVR_ROUTE that routes an event is listed. -/
theorem routed_mem {s : State} {ev k : Nat} (hev : ev < 1024) (h : bit (routeOf (rd s (Reg.EVR_ROUTE + ev / 2 * 4)) ev) k = true) :
    Reg.EVR_ROUTE + ev / 2 * 4 ∈ routedWords s.regs := by
  have hroute := evrRoute_eq
  have hr : resetVal (Reg.EVR_ROUTE + ev / 2 * 4) = 0#32 := resetVal_evr (by omega) (by omega)
  have hne : rd s (Reg.EVR_ROUTE + ev / 2 * 4) ≠ resetVal (Reg.EVR_ROUTE + ev / 2 * 4) := by
    intro h0
    rw [h0, hr, bit_routeOf_zero] at h
    cases h
  exact mem_routedWords.2 ⟨mem_of_mget_ne hne, by omega, by omega, by omega⟩

/-- Whether an event of the word of EVR_ROUTE at `a` is asserted with bit `k` of its route entry set. -/
def wordAsserts (s : State) (k a : Nat) : Bool :=
  let ev := (a - Reg.EVR_ROUTE) / 2
  (asserted s ev && bit (routeOf (rd s a) ev) k) || (asserted s (ev + 1) && bit (routeOf (rd s a) (ev + 1)) k)

/-- Looking at the listed words alone misses no event that is asserted and routed. -/
theorem any_wordAsserts (s : State) (k : Nat) :
    (routedWords s.regs).any (wordAsserts s k) = true ↔
      ∃ ev, ev < 1024 ∧ asserted s ev = true ∧ bit (routeOf (rd s (Reg.EVR_ROUTE + ev / 2 * 4)) ev) k = true := by
  have hroute := evrRoute_eq
  simp only [List.any_eq_true, wordAsserts, Bool.or_eq_true, Bool.and_eq_true]
  constructor
  · rintro ⟨a, ha, hw⟩
    obtain ⟨-, h4, hlo, hhi⟩ := mem_routedWords.1 ha
    rcases hw with ⟨hev, hb⟩ | ⟨hev, hb⟩
    · refine ⟨_, ?_, hev, ?_⟩
      · omega
      · rwa [show Reg.EVR_ROUTE + (a - Reg.EVR_ROUTE) / 2 / 2 * 4 = a by omega]
    · refine ⟨_, ?_, hev, ?_⟩
      · omega
      · rwa [show Reg.EVR_ROUTE + ((a - Reg.EVR_ROUTE) / 2 + 1) / 2 * 4 = a by omega]
  · rintro ⟨ev, hlt, hev, hb⟩
    refine ⟨_, routed_mem hlt hb, ?_⟩
    rcases Nat.mod_two_eq_zero_or_one ev with h2 | h2
    · left
      rw [show (Reg.EVR_ROUTE + ev / 2 * 4 - Reg.EVR_ROUTE) / 2 = ev by omega]
      exact ⟨hev, hb⟩
    · right
      rw [show (Reg.EVR_ROUTE + ev / 2 * 4 - Reg.EVR_ROUTE) / 2 + 1 = ev by omega]
      exact ⟨hev, hb⟩

/-! ### The outputs (R57, R417) -/

/-- EVT_N is driven low while it is enabled and an asserted event is routed to it. -/
theorem evtN_iff (s : State) : evtN s = true ↔ bit (rd s Reg.EVR_EVTN) 0 = true ∧
    ∃ ev, ev < 1024 ∧ asserted s ev = true ∧ bit (routeOf (rd s (Reg.EVR_ROUTE + ev / 2 * 4)) ev) 14 = true := by
  rw [← any_wordAsserts, ← Bool.and_eq_true]
  rfl

/-- CLKREQ_N is driven low while VMAIN is present, but in L1 with clock power management. -/
theorem clkreqLow_iff (s : State) : clkreqLow s = true ↔ s.pmu.vmain = true ∧ ¬ (s.pcie.clkPm = true ∧ s.pcie.l1 = true) := by
  rw [clkreqLow, Bool.and_eq_true, Bool.not_eq_true', ← Bool.not_eq_true, Bool.and_eq_true]

/-- Registers read as they were where a command lands. -/
@[simp] theorem rd_landed (s t : State) (a : Nat) : rd (landed s t) a = rd t a := rfl

/-- The events are those of the registers. -/
theorem asserted_of_regs {s t : State} (h : s.regs = t.regs) (ev : Nat) : asserted s ev = asserted t ev := by
  simp only [asserted, evtPend, rd, h]

/-- A command that lands drives the outputs of the state it leaves. -/
theorem outputsRight_landed (s t : State) : OutputsRight (landed s t) := by
  simp only [OutputsRight, landed_pins, rd_landed, asserted_of_regs (landed_regs s t)]
  exact ⟨evtN_iff t, clkreqLow_iff t⟩

/-- Settles O53: every step ends in a landed state, whose outputs are right. -/
theorem outputsFollow : Obligations.OutputsFollow := by
  intro s t h
  obtain ⟨s₀, u, rfl⟩ := step_lands h
  exact outputsRight_landed s₀ u

end Sys2Proof.Machine
end

section
/-! ### Reserved offsets (R38) -/

namespace Sys2Proof.Machine

open Sys2Proof

/-- A permitted read of a reserved offset gives 0 and is recorded with KIND 3. -/
theorem readReg_reserved {p : Nat} (h : codeOf (p / 4096) (p % 4096) = none) (s : State) (i : Initiator) :
    readReg s i p = (noteErr s i (p / 4096) (p % 4096) 3 false, 0#32) := by
  simp [readReg, h]

/-- A permitted write to a reserved offset is recorded with KIND 3 and does nothing else. -/
theorem writeReg_reserved {p : Nat} (h : codeOf (p / 4096) (p % 4096) = none) (s : State) (i : Initiator) (v : Word) :
    writeReg s i p v = noteErr s i (p / 4096) (p % 4096) 3 true := by
  simp [writeReg, h]

/-- A core's aligned word load of a page that permits it: the buffer drains, and the register is read. -/
theorem coreLoad_page {s : State} {h : Head} {a p : Nat} (ha : a % 4 = 0) (hp : corePlace s h.core a = .page p)
    (hv : readVerdict (drain s h.core) (initOf h.core) p = .ok) (b : BankEvent) (f : State → Nat → State) :
    coreLoad s h a 4 b f =
      f (readReg (drain s h.core) (initOf h.core) p).1 (readReg (drain s h.core) (initOf h.core) p).2.toNat := by
  simp [coreLoad, ha, hp, hv]

/-- A core's aligned word store to a page that permits it: the buffer drains, the instruction retires, and the register is written. -/
theorem coreStore_page {s : State} {h : Head} {a p : Nat} {bs : Bytes} (hl : bs.length = 4) (ha : a % 4 = 0)
    (hp : corePlace s h.core a = .page p) (hv : writeVerdict (drain s h.core) (initOf h.core) p = .ok) (b : BankEvent) (next : Word)
    (after : Core → Core) :
    coreStore s h a bs b next after =
      writeReg (retire (drain s h.core) h.core (after (getCore (drain s h.core) h.core)) next) (initOf h.core) p (word (leNat bs)) := by
  simp [coreStore, hl, ha, hp, hv]

/-- LDW of a reserved offset. -/
theorem doLdw_reserved {s : State} {h : Head} {r : Gpr} {disp : Field} {p : Nat} (d : Gpr) (b : BankEvent)
    (hr : Runs s h (2 + fieldLen disp + preLen h false)) (ha : effAddr (getCore s h.core) r disp % 4 = 0)
    (hp : corePlace s h.core (effAddr (getCore s h.core) r disp) = .page p) (hc : codeOf (p / 4096) (p % 4096) = none)
    (hv : readVerdict (drain s h.core) (initOf h.core) p = .ok) :
    let t := noteErr (drain s h.core) (initOf h.core) (p / 4096) (p % 4096) 3 false
    doLdw h false d r disp b s =
      retire t h.core (dset (getCore t h.core) false d.val 0) (nextPc s h (2 + fieldLen disp + preLen h false)) := by
  simp [doLdw, insn_runs hr, oddPair, loadTo, wordLen, coreLoad_page ha hp hv, readReg_reserved hc]

/-- STW to a reserved offset. -/
theorem doStw_reserved {s : State} {h : Head} {r : Gpr} {disp : Field} {p : Nat} (d : Gpr)
    (hr : Runs s h (2 + fieldLen disp + preLen h false)) (ha : effAddr (getCore s h.core) r disp % 4 = 0)
    (hp : corePlace s h.core (effAddr (getCore s h.core) r disp) = .page p) (hc : codeOf (p / 4096) (p % 4096) = none)
    (hv : writeVerdict (drain s h.core) (initOf h.core) p = .ok) :
    let s1 := drain s h.core
    doStw h false d r disp s = noteErr (retire s1 h.core (getCore s1 h.core) (nextPc s h (2 + fieldLen disp + preLen h false)))
      (initOf h.core) (p / 4096) (p % 4096) 3 true := by
  simp [doStw, insn_runs hr, oddPair, wordLen, coreStore_page (leBytes_length 4 _) ha hp hv, writeReg_reserved hc]

/-- Settles O59: the load and the store each come down to one access of the reserved offset. -/
theorem reservedOffsets : Obligations.ReservedOffsets := by
  intro h d r disp b p s ea len s1 hr ha hp hc
  constructor
  · intro hv
    rw [exec_ldw, doLdw_reserved d b hr ha hp hc hv]
  · intro hv
    rw [exec_stw, doStw_reserved d hr ha hp hc hv]

end Sys2Proof.Machine
end

/-! PROOFS. The account intake: the buckets of a meter address (R76). -/

section
namespace Sys2Proof.Machine

open Sys2Proof

/-- A number read from `n` bytes at most fits in `n` bytes. -/
theorem leNat_take_lt (bs : Bytes) (n : Nat) : leNat (bs.take n) < 256 ^ n := by
  induction n generalizing bs with
  | zero => simp [leNat]
  | succ n ih =>
    cases bs with
    | nil => simp [leNat]
    | cons b bs =>
      have hb := b.isLt
      have hbs := ih bs
      simp only [List.take_succ_cons, leNat, Nat.pow_succ]
      omega

/-- Word k of a meter address as a bit vector. -/
def addrBits (m : Bytes) (k : Nat) : BitVec 16 := BitVec.ofNat 16 (addrWord m k)

/-- No bit of a word is lost: a word of the address is two bytes. -/
theorem toNat_addrBits (m : Bytes) (k : Nat) : (addrBits m k).toNat = addrWord m k :=
  Nat.mod_eq_of_lt (leNat_take_lt _ 2)

/-- The model's rotation is the bit vector's: the bits shifted out at the top fill the `n` zeros at the bottom, so the sum
of the two parts is their union. -/
theorem rotl16_toNat (x : BitVec 16) {n : Nat} (hn : n < 16) : rotl16 x.toNat n = (x.rotateLeft n).toNat := by
  have hw : 2 ^ n * 2 ^ (16 - n) = 65536 := by
    rw [← Nat.pow_add, Nat.add_sub_cancel' hn.le]
  have hlow : x.toNat / 2 ^ (16 - n) < 2 ^ n :=
    Nat.div_lt_of_lt_mul (by rw [Nat.mul_comm, hw]; exact x.isLt)
  have hhigh : x.toNat * 2 ^ n % 65536 = 2 ^ n * (x.toNat % 2 ^ (16 - n)) := by
    rw [← hw, Nat.mul_comm, Nat.mul_mod_mul_left]
  have hfit : 2 ^ n * (x.toNat % 2 ^ (16 - n)) + x.toNat / 2 ^ (16 - n) < 65536 := by
    rw [Nat.two_pow_add_eq_or_of_lt hlow, ← hhigh]
    exact Nat.or_lt_two_pow (n := 16) (Nat.mod_lt _ (by decide)) (hlow.trans (Nat.pow_lt_pow_right (by decide) hn))
  calc rotl16 x.toNat n
      = (x.toNat * 2 ^ n % 65536 + x.toNat / 2 ^ (16 - n)) % 65536 := (Nat.mod_add_mod _ _ _).symm
    _ = 2 ^ n * (x.toNat % 2 ^ (16 - n)) + x.toNat / 2 ^ (16 - n) := by rw [hhigh, Nat.mod_eq_of_lt hfit]
    _ = x.toNat * 2 ^ n % 65536 ||| x.toNat / 2 ^ (16 - n) := by rw [Nat.two_pow_add_eq_or_of_lt hlow, hhigh]
    _ = (x.rotateLeft n).toNat := by
      simp [BitVec.toNat_rotateLeft, Nat.mod_eq_of_lt hn, Nat.shiftLeft_eq, Nat.shiftRight_eq_div_pow]

/-- The rotation of an address's word. -/
theorem rotl16_addrWord (m : Bytes) (k : Nat) {n : Nat} (hn : n < 16) :
    rotl16 (addrWord m k) n = ((addrBits m k).rotateLeft n).toNat := by
  rw [← toNat_addrBits, rotl16_toNat _ hn]

/-- The model pairs the four words of a hash; the order of R76 gives the same number. -/
theorem xor_pairs_toNat (a b c d : BitVec 16) :
    Nat.xor (Nat.xor a.toNat b.toNat) (Nat.xor c.toNat d.toNat) = (a ^^^ b ^^^ c ^^^ d).toNat := by
  rw [BitVec.toNat_xor, BitVec.toNat_xor, BitVec.toNat_xor, Nat.xor_assoc]
  rfl

/-- The owner bucket as one word. -/
theorem ownerBucket_eq (m : Bytes) :
    ownerBucket m = (addrBits m 0 ^^^ addrBits m 1 ^^^ addrBits m 2 ^^^ addrBits m 3).toNat := by
  simp only [ownerBucket, ← toNat_addrBits, xor_pairs_toNat]

/-- The local bucket as the low eleven bits of one word. -/
theorem localBucket_eq (m : Bytes) :
    localBucket m = (addrBits m 0 ^^^ (addrBits m 1).rotateLeft 5 ^^^ (addrBits m 2).rotateLeft 10 ^^^
      (addrBits m 3).rotateLeft 15).toNat % 2048 := by
  rw [localBucket, rotl16_addrWord m 1 (by decide), rotl16_addrWord m 2 (by decide), rotl16_addrWord m 3 (by decide),
    ← toNat_addrBits, xor_pairs_toNat]

/-- Settles O60: both buckets are the hash of the four words, and the ranges are those of a word and of its low eleven bits. -/
theorem meterBuckets : Obligations.MeterBuckets := by
  intro m _ w
  refine ⟨ownerBucket_eq m, ?_, localBucket_eq m, ?_⟩
  · rw [ownerBucket_eq]
    exact Nat.le_of_lt_succ (BitVec.isLt _)
  · exact Nat.le_of_lt_succ (Nat.mod_lt _ (by decide))

end Sys2Proof.Machine
end

/-! PROOFS. The front of the queue, the state after reset, and the messages of the router (R56, R58). -/

section
/-! ### The messages of the router (R56, R58) -/

namespace Sys2Proof.Machine

open Sys2Proof

/-- A router goes on from another: it has sent what that one sent, and holds every pending bit that it held. -/
structure Router.Extends (r r' : Router) : Prop where
  sent : r.sent <+: r'.sent
  pba : ∀ v, r.pba.getLsbD v = true → r'.pba.getLsbD v = true

/-- Vector `v` has been told since router `r`: its message is sent, or its pending bit is set where it cannot be sent. -/
structure Router.Told (p : Pcie) (v : Nat) (r r' : Router) : Prop where
  sent : msixOpen p = true → vecMasked p v = false → ∃ l, r'.sent = r.sent ++ l ∧ Msg.msix v ∈ l
  held : msixOpen p = false ∨ vecMasked p v = true → r'.pba.getLsbD v = true

theorem Router.Extends.refl (r : Router) : r.Extends r := ⟨List.prefix_rfl, fun _ h => h⟩

theorem Router.Extends.trans {r r' r'' : Router} (h : r.Extends r') (h' : r'.Extends r'') : r.Extends r'' :=
  ⟨h.sent.trans h'.sent, fun v hv => h'.pba v (h.pba v hv)⟩

/-- What has been told stays told. -/
theorem Router.Told.extends {p : Pcie} {v : Nat} {r r' r'' : Router} (h : Told p v r r') (h' : r'.Extends r'') : Told p v r r'' where
  sent ho hm := by
    obtain ⟨l, hl, hv⟩ := h.sent ho hm
    obtain ⟨l', hl'⟩ := h'.sent
    exact ⟨l ++ l', by rw [← hl', hl, List.append_assoc], List.mem_append_left _ hv⟩
  held hc := h'.pba v (h.held hc)

/-- What has been told since a later router has been told since an earlier one. -/
theorem Router.Told.of_extends {p : Pcie} {v : Nat} {r r' r'' : Router} (h : r.Extends r') (h' : Told p v r' r'') : Told p v r r'' where
  sent ho hm := by
    obtain ⟨l, hl⟩ := h.sent
    obtain ⟨l', hl', hv⟩ := h'.sent ho hm
    exact ⟨l ++ l', by rw [hl', ← hl, List.append_assoc], List.mem_append_right _ hv⟩
  held := h'.held

/-- Sending a vector takes nothing back. -/
theorem sendVec_extends (p : Pcie) (r : Router) (v : Nat) : r.Extends (sendVec p r v) := by
  unfold sendVec
  split
  · exact ⟨List.prefix_append _ _, fun _ h => h⟩
  · exact ⟨List.prefix_rfl, fun w h => by simp [h]⟩

/-- Sending a vector tells it. -/
theorem sendVec_told (p : Pcie) (r : Router) {v : Nat} (hv : v < 64) : Router.Told p v r (sendVec p r v) := by
  unfold sendVec
  split
  · next h =>
    obtain ⟨ho, hm⟩ : msixOpen p = true ∧ vecMasked p v = false := by simpa using h
    exact ⟨fun _ _ => ⟨_, rfl, List.mem_singleton_self _⟩, fun hc => by simp [ho, hm] at hc⟩
  · next h =>
    refine ⟨fun ho hm => absurd (by simp [ho, hm]) h, fun _ => ?_⟩
    rw [BitVec.getLsbD_or, BitVec.getLsbD_ofNat, Nat.testBit_two_pow_self]
    simp [hv]

/-- A note for the fabric leaves the messages and the pending bits. -/
theorem deliver_extends_note (r : Router) (c : Bool) (ns : List (Nat × Nat)) :
    r.Extends (if c then { r with notes := ns } else r) := by
  cases c <;> exact ⟨List.prefix_rfl, fun _ h => h⟩

/-- Delivering an event takes nothing back. -/
theorem deliver_extends (p : Pcie) (dst : Word) (r : Router) (ev : Nat) (was now : Bool) (e0 e1 : Word) :
    r.Extends (deliver p dst r ev was now e0 e1) := by
  unfold deliver
  refine Router.Extends.trans ?_ (deliver_extends_note _ _ _)
  split
  · exact sendVec_extends p r _
  · exact Router.Extends.refl r

/-- A vector is one of 64. -/
theorem fld_vector_lt (w : Word) : fld w 12 7 < 64 := Nat.mod_lt _ (by decide)

/-- An event that is asserted and routed to a vector, and was not so before, tells the vector. -/
theorem deliver_told (p : Pcie) (dst : Word) (r : Router) (ev : Nat) {was : Bool} {e0 e1 : Word} (hr : bit e1 13 = true)
    (hnew : was = false ∨ bit e0 13 = false ∨ fld e0 12 7 ≠ fld e1 12 7) :
    Router.Told p (fld e1 12 7) r (deliver p dst r ev was true e0 e1) := by
  have hc : (true && bit e1 13 && !(was && bit e0 13 && fld e0 12 7 == fld e1 12 7)) = true := by
    rcases hnew with h | h | h <;> simp [hr, h]
  unfold deliver
  simp only [hc, if_true]
  exact (sendVec_told p r (fld_vector_lt e1)).extends (deliver_extends_note _ _ _)

/-- Delivering a word of EVR_ROUTE takes nothing back. -/
theorem deliverWord_extends (s t : State) (r : Router) (a : Nat) : r.Extends (deliverWord s t r a) :=
  (deliver_extends _ _ _ _ _ _ _ _).trans (deliver_extends _ _ _ _ _ _ _ _)

/-- An event is newly asserted, or newly routed to the vector that its route entry names now. -/
def NewlyRouted (s t : State) (ev : Nat) : Prop :=
  asserted t ev = true ∧ bit (routeOf (rd t (Reg.EVR_ROUTE + ev / 2 * 4)) ev) 13 = true ∧
    (asserted s ev = false ∨ bit (routeOf (rd s (Reg.EVR_ROUTE + ev / 2 * 4)) ev) 13 = false ∨
      fld (routeOf (rd s (Reg.EVR_ROUTE + ev / 2 * 4)) ev) 12 7 ≠ fld (routeOf (rd t (Reg.EVR_ROUTE + ev / 2 * 4)) ev) 12 7)

/-- Delivering the word that routes a new event tells its vector. -/
theorem deliverWord_told {s t : State} {ev : Nat} (h : NewlyRouted s t ev) (r : Router) :
    Router.Told t.pcie (fld (routeOf (rd t (Reg.EVR_ROUTE + ev / 2 * 4)) ev) 12 7) r
      (deliverWord s t r (Reg.EVR_ROUTE + ev / 2 * 4)) := by
  obtain ⟨hnow, hroute, hnew⟩ := h
  have hword : (Reg.EVR_ROUTE + ev / 2 * 4 - Reg.EVR_ROUTE) / 2 = ev / 2 * 2 := by omega
  unfold deliverWord
  simp only [hword]
  rcases Nat.mod_two_eq_zero_or_one ev with h2 | h2
  · rw [show ev / 2 * 2 = ev by omega, hnow]
    exact (deliver_told _ _ _ _ hroute hnew).extends (deliver_extends _ _ _ _ _ _ _ _)
  · rw [show ev / 2 * 2 + 1 = ev by omega, hnow]
    exact (deliver_told _ _ _ _ hroute hnew).of_extends (deliver_extends _ _ _ _ _ _ _ _)

/-- Delivering a list of words takes nothing back. -/
theorem foldl_deliverWord_extends (s t : State) (l : List Nat) (r : Router) : r.Extends (l.foldl (deliverWord s t) r) := by
  induction l generalizing r with
  | nil => exact Router.Extends.refl r
  | cons a l ih => exact (deliverWord_extends s t r a).trans (ih _)

/-- Delivering a list of words, one of which tells a vector, tells it. -/
theorem foldl_deliverWord_told {s t : State} {p : Pcie} {v a : Nat} (h : ∀ r, Router.Told p v r (deliverWord s t r a))
    {l : List Nat} (ha : a ∈ l) (r : Router) : Router.Told p v r (l.foldl (deliverWord s t) r) := by
  induction l generalizing r with
  | nil => cases ha
  | cons b l ih =>
    rcases List.mem_cons.1 ha with rfl | ha
    · exact (h r).extends (foldl_deliverWord_extends s t l _)
    · exact (ih ha _).of_extends (deliverWord_extends s t r b)

/-- A command that lands tells the vector of every event that it newly asserts or routes. -/
theorem landed_told {s t : State} {ev : Nat} (hev : ev < 1024) (h : NewlyRouted s t ev) :
    Router.Told t.pcie (fld (routeOf (rd t (Reg.EVR_ROUTE + ev / 2 * 4)) ev) 12 7) t.router (landed s t).router :=
  foldl_deliverWord_told (deliverWord_told h) (routed_mem hev h.2.1) t.router

/-- Settles O55: every command lands, and landing delivers the word of EVR_ROUTE that routes the event. -/
theorem eventsSent : Obligations.EventsSent := by
  constructor
  · intro c s u hu
    obtain ⟨t, ht⟩ := exec_lands c s
    exact ⟨t, Host.Outcome.next.inj (hu.symm.trans ht)⟩
  · intro s t ev u before now v hev ha hroute hnew
    have hnow : asserted t ev = true := (asserted_of_regs (landed_regs s t) ev).symm.trans ha
    have told := landed_told hev (s := s) (t := t) ⟨hnow, hroute, hnew⟩
    exact ⟨told.sent, told.held⟩

end Sys2Proof.Machine
end

section
/-! ### The front of the queue -/

namespace Sys2Proof.Machine

open Sys2Proof

/-- Settles O1: a step looks at the front of the queue alone. -/
theorem stepRunsFront : Obligations.StepRunsFront := by
  intro i s rest h
  simp [step, h]

/-- A step with a command at the front of the queue takes it off. -/
theorem step_front {s : State} {i : Instr} {rest : List Instr} (h : s.pending = i :: rest) :
    ∃ t, step s = .next t ∧ t.pending = rest := by
  obtain ⟨u, hu⟩ := exec_lands i { s with pending := rest }
  exact ⟨_, (stepRunsFront i s rest h).trans hu, rfl⟩

/-- As many steps as are asked for, up to the queue's length, take that many commands off the queue. -/
theorem stepsTo_drop (n : Nat) (s : State) (h : n ≤ s.pending.length) : ∃ t, StepsTo n s t ∧ t.pending = s.pending.drop n := by
  induction n generalizing s with
  | zero => exact ⟨s, rfl, rfl⟩
  | succ n ih =>
    cases hq : s.pending with
    | nil => simp [hq] at h
    | cons i rest =>
      obtain ⟨u, hstep, hu⟩ := step_front hq
      obtain ⟨t, hsteps, ht⟩ := ih u (by simpa [hq, hu] using h)
      exact ⟨t, ⟨u, hstep, hsteps⟩, by rw [ht, hu, List.drop_succ_cons]⟩

/-- Settles O56: each step takes the front command off the queue, and the idle one lands with the empty queue it was given. -/
theorem queueDrains : Obligations.QueueDrains := by
  refine ⟨stepsTo_drop, fun s h => ⟨landed s (idleTick s), ?_, h⟩⟩
  simp [step, h, execIdle, finish]

/-- The outputs at reset are those of its events and modes: no register is listed, so no event is routed. -/
theorem reset_pins : State.reset.pins = pinsOf State.reset := by
  simp [pinsOf, evtN, wakeLow, clkreqLow, State.reset, routedWords]

/-- Settles O54: the outputs at reset are those that its events and modes call for. -/
theorem outputsAtReset : Obligations.OutputsAtReset := by
  unfold Obligations.OutputsAtReset OutputsRight
  rw [reset_pins]
  exact ⟨evtN_iff State.reset, clkreqLow_iff State.reset⟩

end Sys2Proof.Machine
end

/-! PROOFS. The instructions of the cores: results and flags (R311, R317, R318), control transfer (R316), gates (R286, R287), system
registers (R282, R295, R322), and exceptions (R288 to R293). -/

section
/-! ### Bits and fields of words -/

namespace Sys2Proof.Machine

open Sys2Proof

/-- A command lands what its effect comes to. -/
theorem lands {i : Instr} {s t t' : State} (h : exec i s = .next (landed s t)) (ht : t = t') : exec i s = .next (landed s t') :=
  ht ▸ h

/-- A bit of a word is that of the bit vector. -/
theorem bit_eq_getLsbD (w : Word) (k : Nat) : bit w k = w.getLsbD k := by
  rw [bit, BitVec.getLsbD, Nat.testBit_eq_decide_div_mod_eq]
  rfl

/-- A bit of a field is a bit of the word. -/
theorem testBit_fld (w : Word) (hi lo j : Nat) : (fld w hi lo).testBit j = (decide (j < hi + 1 - lo) && w.getLsbD (lo + j)) := by
  rw [fld, Nat.testBit_mod_two_pow, Nat.testBit_div_two_pow, BitVec.getLsbD, Nat.add_comm lo j]

/-- The bits of a power of two. -/
theorem getLsbD_ofNat_two_pow (k j : Nat) : (BitVec.ofNat 32 (2 ^ k)).getLsbD j = decide (j < 32 ∧ k = j) := by
  rw [BitVec.getLsbD_ofNat, Nat.testBit_two_pow, Bool.decide_and]

/-- The bits of a word with one bit written. -/
theorem getLsbD_setBit (w : Word) (k j : Nat) (b : Bool) :
    (setBit w k b).getLsbD j = if j = k ∧ j < 32 then b else w.getLsbD j := by
  by_cases hj : j < 32
  · cases b
    · rw [setBit, if_neg (by decide), BitVec.getLsbD_and, BitVec.getLsbD_not, getLsbD_ofNat_two_pow]
      rcases eq_or_ne k j with rfl | hk
      · simp [hj]
      · simp [hj, hk, hk.symm]
    · rw [setBit, if_pos rfl, BitVec.getLsbD_or, getLsbD_ofNat_two_pow]
      rcases eq_or_ne k j with rfl | hk
      · simp [hj]
      · simp [hj, hk, hk.symm]
  · rw [if_neg (by tauto), BitVec.getLsbD_of_ge _ j (by omega), BitVec.getLsbD_of_ge _ j (by omega)]

/-- The bits of a mask. -/
theorem getLsbD_maskOf (hi lo j : Nat) : (maskOf hi lo).getLsbD j = decide (j < 32 ∧ lo ≤ j ∧ j ≤ hi) := by
  have hmask : 2 ^ (hi + 1) - 2 ^ lo = (2 ^ (hi + 1 - lo) - 1) * 2 ^ lo := by
    by_cases h : lo ≤ hi + 1
    · rw [Nat.sub_mul, ← Nat.pow_add, Nat.sub_add_cancel h, Nat.one_mul]
    · have := Nat.pow_le_pow_right (n := 2) (by decide) (by omega : hi + 1 ≤ lo)
      rw [show hi + 1 - lo = 0 by omega]
      omega
  rw [maskOf, hmask, BitVec.getLsbD_ofNat, Nat.testBit_mul_two_pow, Nat.testBit_two_pow_sub_one]
  grind

/-- The bits of a word with one field written. -/
theorem getLsbD_setFld (w : Word) (hi lo v j : Nat) :
    (setFld w hi lo v).getLsbD j = if j < 32 ∧ lo ≤ j ∧ j ≤ hi then v.testBit (j - lo) else w.getLsbD j := by
  by_cases hj : j < 32
  · simp only [setFld, BitVec.getLsbD_or, BitVec.getLsbD_and, BitVec.getLsbD_not, getLsbD_maskOf, BitVec.getLsbD_ofNat,
      Nat.testBit_mul_two_pow]
    grind
  · rw [if_neg (by tauto), BitVec.getLsbD_of_ge _ j (by omega), BitVec.getLsbD_of_ge _ j (by omega)]

/-- A bit of a word with one bit written. -/
theorem bit_setBit (w : Word) (k j : Nat) (b : Bool) : bit (setBit w k b) j = if j = k ∧ j < 32 then b else bit w j := by
  simp only [bit_eq_getLsbD, getLsbD_setBit]

/-- A bit outside the field that was written. -/
theorem bit_setFld_ne (w : Word) {hi lo j : Nat} (v : Nat) (h : j < lo ∨ hi < j) : bit (setFld w hi lo v) j = bit w j := by
  rw [bit_eq_getLsbD, getLsbD_setFld, if_neg (by omega), bit_eq_getLsbD]

/-- A field that was written, within the word. -/
theorem fld_setFld_self (w : Word) {hi lo : Nat} (v : Nat) (h : hi < 32) : fld (setFld w hi lo v) hi lo = v % 2 ^ (hi + 1 - lo) := by
  refine Nat.eq_of_testBit_eq fun j => ?_
  rw [testBit_fld, getLsbD_setFld, Nat.testBit_mod_two_pow]
  by_cases hj : j < hi + 1 - lo
  · rw [if_pos (by omega), Nat.add_sub_cancel_left]
  · simp [hj]

/-- A field apart from the one that was written. -/
theorem fld_setFld_ne (w : Word) {hi lo hi' lo' : Nat} (v : Nat) (h : hi' < lo ∨ hi < lo') :
    fld (setFld w hi lo v) hi' lo' = fld w hi' lo' := by
  refine Nat.eq_of_testBit_eq fun j => ?_
  rw [testBit_fld, testBit_fld, getLsbD_setFld]
  by_cases hj : j < hi' + 1 - lo'
  · rw [if_neg (by omega)]
  · simp [hj]

end Sys2Proof.Machine
end

section
/-! ### Arithmetic, logic and shifts (R311, R317) -/

namespace Sys2Proof.Machine

open Sys2Proof

/-- An instruction of the arithmetic frame with a legal form computes its result and flags and retires. -/
theorem alu_runs {s : State} {h : Head} {wide : Bool} {d : Gpr} {src : Src} (hr : Runs s h (1 + srcLen src + preLen h wide))
    (hd : oddPair wide d = false) (hs : srcOdd wide src = false) (keep : Bool) (f : Nat → Nat → Nat → Bool → AluOut) :
    alu s h wide d src keep f =
      let k := getCore s h.core
      let o := f (widthOf wide) (dget k wide d.val) (srcVal k wide src) (flagC k.psw)
      let k' := { k with psw := setNZCV k.psw (widthOf wide) o }
      retire s h.core (if keep then k' else dset k' wide d.val o.res) (nextPc s h (1 + srcLen src + preLen h wide)) := by
  simp [alu, insn_runs hr, hd, hs]

/-- MOV with a legal form. -/
theorem doMovOp_runs {s : State} {h : Head} {wide : Bool} {d : Gpr} {src : Src} (hr : Runs s h (1 + srcLen src + preLen h wide))
    (hd : oddPair wide d = false) (hs : srcOdd wide src = false) :
    doMovOp h wide d src s = retire s h.core (dset (getCore s h.core) wide d.val (srcVal (getCore s h.core) wide src))
      (nextPc s h (1 + srcLen src + preLen h wide)) := by
  simp [doMovOp, insn_runs hr, hd, hs]

/-- A shift with a legal form computes its result and flags and retires. -/
theorem shift_runs {s : State} {h : Head} {wide : Bool} {d : Gpr} {n : Count} (hr : Runs s h (1 + countLen n + preLen h wide))
    (hd : oddPair wide d = false) (hn : countBad wide n = false) (f : Nat → Nat → Nat → AluOut) :
    shift s h wide d n f =
      let k := getCore s h.core
      let o := f (widthOf wide) (dget k wide d.val) (countVal k wide n)
      retire s h.core (dset { k with psw := setNZCV k.psw (widthOf wide) o } wide d.val o.res)
        (nextPc s h (1 + countLen n + preLen h wide)) := by
  simp [shift, insn_runs hr, hd, hn]

/-- Settles O2: each instruction is the arithmetic frame or the shift frame with its own result. -/
theorem arithmeticResults : Obligations.ArithmeticResults := by
  constructor
  · intro h wide d src s hr hd hs
    exact ⟨lands (exec_addOp ..) (alu_runs hr hd hs ..), lands (exec_adcOp ..) (alu_runs hr hd hs ..),
      lands (exec_subOp ..) (alu_runs hr hd hs ..), lands (exec_sbcOp ..) (alu_runs hr hd hs ..),
      lands (exec_andOp ..) (alu_runs hr hd hs ..), lands (exec_orOp ..) (alu_runs hr hd hs ..),
      lands (exec_xorOp ..) (alu_runs hr hd hs ..), lands (exec_cmpOp ..) (alu_runs hr hd hs ..),
      lands (exec_tstOp ..) (alu_runs hr hd hs ..), lands (exec_movOp ..) (doMovOp_runs hr hd hs)⟩
  · intro h wide d n s hr hd hn
    exact ⟨lands (exec_shlOp ..) (shift_runs hr hd hn ..), lands (exec_shrOp ..) (shift_runs hr hd hn ..),
      lands (exec_sarOp ..) (shift_runs hr hd hn ..), lands (exec_rorOp ..) (shift_runs hr hd hn ..)⟩

end Sys2Proof.Machine
end

section
/-! ### Products, quotients and moves (R317, R318, R319) -/

namespace Sys2Proof.Machine

open Sys2Proof

/-- A 32-bit operation that sets flags retires with its result `o`. -/
theorem alu32_runs {s : State} {h : Head} {len : Nat} {d r : Gpr} {f : Nat → Nat → AluOut} {o : AluOut}
    (hr : Runs s h (len + b2n h.check)) (ho : f (gget (getCore s h.core) d.val).toNat (gget (getCore s h.core) r.val).toNat = o) :
    alu32 s h len d r f = retire s h.core
      (gset { getCore s h.core with psw := setNZCV (getCore s h.core).psw 32 o } d.val (word o.res))
      (nextPc s h (len + b2n h.check)) := by
  simp [alu32, insn_runs hr, ho]

/-- An instruction that writes one register and leaves the flags. -/
theorem simple_runs {s : State} {h : Head} {len : Nat} (hr : Runs s h len) (d : Gpr) (f : Core → Word → Word) :
    simple s h len d f =
      retire s h.core (gset (getCore s h.core) d.val (f (getCore s h.core) (nextPc s h len))) (nextPc s h len) := by
  simp [simple, insn_runs hr]

/-- DIVU by a number other than 0. -/
theorem aluDivu_pos {a b : Nat} (hb : b ≠ 0) : aluDivu a b = ⟨a / b, none, some false⟩ := if_neg hb

/-- REMU by a number other than 0. -/
theorem aluRemu_pos {a b : Nat} (hb : b ≠ 0) : aluRemu a b = ⟨a % b, none, some false⟩ := if_neg hb

/-- DIVS of a quotient that fits. -/
theorem aluDivs_fits {a b : Nat} (hb : b ≠ 0) (hw : ¬ (a = 0x80000000 ∧ b = 0xFFFFFFFF)) :
    aluDivs a b = ⟨unsigned 32 (Int.tdiv (signed 32 a) (signed 32 b)), none, some false⟩ := by
  simp [aluDivs, hb, hw]

/-- REMS of a quotient that fits. -/
theorem aluRems_fits {a b : Nat} (hb : b ≠ 0) (hw : ¬ (a = 0x80000000 ∧ b = 0xFFFFFFFF)) :
    aluRems a b = ⟨unsigned 32 (Int.tmod (signed 32 a) (signed 32 b)), none, some false⟩ := by
  simp [aluRems, hb, hw]

/-- DIVS of the one quotient that does not fit. -/
theorem aluDivs_worst {a b : Nat} (hw : a = 0x80000000 ∧ b = 0xFFFFFFFF) : aluDivs a b = ⟨0x80000000, none, some true⟩ := by
  obtain ⟨rfl, rfl⟩ := hw
  rfl

/-- REMS of the one quotient that does not fit. -/
theorem aluRems_worst {a b : Nat} (hw : a = 0x80000000 ∧ b = 0xFFFFFFFF) : aluRems a b = ⟨0, none, some true⟩ := by
  obtain ⟨rfl, rfl⟩ := hw
  rfl

/-- BSWAP with a legal form. -/
theorem doBswap_runs {s : State} {h : Head} {wide : Bool} {d r : Gpr} (hr : Runs s h (3 + preLen h wide))
    (hd : oddPair wide d = false) (hs : oddPair wide r = false) :
    doBswap h wide d r s = retire s h.core
      (dset (getCore s h.core) wide d.val (bswapNat (widthOf wide / 8) (dget (getCore s h.core) wide r.val)))
      (nextPc s h (3 + preLen h wide)) := by
  simp [doBswap, insn_runs hr, hd, hs]

/-- SETcc of a condition. -/
theorem doSetcc_runs {s : State} {h : Head} {cc : Fin 16} (hr : Runs s h (3 + b2n h.check)) (hcc : cc.val ≠ 15) (d : Gpr) :
    doSetcc h cc d s = retire s h.core
      (gset (getCore s h.core) d.val (word (b2n (condHolds (getCore s h.core).psw cc.val)))) (nextPc s h (3 + b2n h.check)) := by
  simp [doSetcc, insn_runs hr, hcc]

/-- CSELcc with a legal form. -/
theorem doCselcc_runs {s : State} {h : Head} {wide : Bool} {cc : Fin 16} {d r : Gpr} (hr : Runs s h (3 + preLen h wide))
    (hcc : cc.val ≠ 15) (hd : oddPair wide d = false) (hs : oddPair wide r = false) :
    doCselcc h wide cc d r s = retire s h.core
      (if condHolds (getCore s h.core).psw cc.val then dset (getCore s h.core) wide d.val (dget (getCore s h.core) wide r.val)
        else getCore s h.core) (nextPc s h (3 + preLen h wide)) := by
  simp [doCselcc, insn_runs hr, hcc, hd, hs]

/-- Settles O3: the flag-setting operations by the value of R318 that applies, the moves by their one register. -/
theorem productAndMoveResults : Obligations.ProductAndMoveResults := by
  constructor
  · intro h d r s hr2 hr3
    refine ⟨lands (exec_mulOp ..) (alu32_runs hr2 rfl), lands (exec_mulhuOp ..) (alu32_runs hr2 rfl), fun hb => ?_, fun hb hw => ?_,
      fun hb => ?_, fun hw => ?_⟩
    · exact ⟨lands (exec_divu ..) (alu32_runs hr3 (aluDivu_pos hb)), lands (exec_remu ..) (alu32_runs hr3 (aluRemu_pos hb))⟩
    · exact ⟨lands (exec_divs ..) (alu32_runs hr3 (aluDivs_fits hb hw)), lands (exec_rems ..) (alu32_runs hr3 (aluRems_fits hb hw))⟩
    · exact ⟨lands (exec_divu ..) (alu32_runs hr3 (if_pos hb)), lands (exec_divs ..) (alu32_runs hr3 (if_pos hb)),
        lands (exec_remu ..) (alu32_runs hr3 (if_pos hb)), lands (exec_rems ..) (alu32_runs hr3 (if_pos hb))⟩
    · exact ⟨lands (exec_divs ..) (alu32_runs hr3 (aluDivs_worst hw)), lands (exec_rems ..) (alu32_runs hr3 (aluRems_worst hw))⟩
  · intro h wide cc d r disp s hr3 hrw hr6
    exact ⟨lands (exec_sextb ..) (simple_runs hr3 ..), lands (exec_sexth ..) (simple_runs hr3 ..),
      lands (exec_zextb ..) (simple_runs hr3 ..), lands (exec_zexth ..) (simple_runs hr3 ..),
      lands (exec_clz ..) (simple_runs hr3 ..), fun hcc => lands (exec_setcc ..) (doSetcc_runs hr3 hcc d),
      fun hd hs => lands (exec_bswap ..) (doBswap_runs hrw hd hs),
      fun hcc hd hs => lands (exec_cselcc ..) (doCselcc_runs hrw hcc hd hs),
      lands (exec_lea ..) (simple_runs hr6 ..), lands (exec_leapc ..) (simple_runs hr6 ..)⟩

end Sys2Proof.Machine
end

section
/-! ### Control transfer (R316) -/

namespace Sys2Proof.Machine

open Sys2Proof

/-- An offset of 2 or 4 bytes makes a relative call. -/
theorem doCallOp_runs {s : State} {h : Head} {rel : Field} (hr : Runs s h (1 + fieldLen rel + b2n h.check)) (hl : fieldLen rel ≠ 1) :
    doCallOp h rel s = retire s h.core (gset (getCore s h.core) 14 (nextPc s h (1 + fieldLen rel + b2n h.check)))
      (nextPc s h (1 + fieldLen rel + b2n h.check) + fieldOff rel) := by
  rw [doCallOp, insn_runs hr]
  cases rel with
  | b1 v => exact absurd rfl hl
  | b2 v => rfl
  | b4 v => rfl

/-- Bcc of a condition with an offset of 1 or 2 bytes. -/
theorem doBcc_runs {s : State} {h : Head} {cc : Fin 16} {rel : Field} (hr : Runs s h (1 + fieldLen rel + b2n h.check))
    (hcc : cc.val ≠ 15) (hl : fieldLen rel ≠ 4) :
    doBcc h cc rel s = retire s h.core (getCore s h.core)
      (if condHolds (getCore s h.core).psw cc.val then nextPc s h (1 + fieldLen rel + b2n h.check) + fieldOff rel
        else nextPc s h (1 + fieldLen rel + b2n h.check)) := by
  simp [doBcc, insn_runs hr, hcc, hl]

/-- CBcc with a legal form. -/
theorem doCbcc_runs {s : State} {h : Head} {wide : Bool} {cc : Fin 16} {d r : Gpr} (hr : Runs s h (4 + preLen h wide))
    (hcc : cc.val ≠ 15) (hd : oddPair wide d = false) (hs : oddPair wide r = false) (off : BitVec 16) :
    doCbcc h wide cc d r off s = cmpBranch s h wide cc.val (dget (getCore s h.core) wide d.val) (dget (getCore s h.core) wide r.val) off
      (getCore s h.core) (nextPc s h (4 + preLen h wide)) := by
  simp [doCbcc, insn_runs hr, hcc, hd, hs]

/-- CBIcc with a legal form. -/
theorem doCbicc_runs {s : State} {h : Head} {wide : Bool} {cc : Fin 16} {d : Gpr} (hr : Runs s h (9 + preLen h wide))
    (hcc : cc.val ≠ 15) (hd : oddPair wide d = false) (imm : Word) (off : BitVec 16) :
    doCbicc h wide cc d imm off s = cmpBranch s h wide cc.val (dget (getCore s h.core) wide d.val) (fieldVal (widthOf wide) (.b4 imm)) off
      (getCore s h.core) (nextPc s h (9 + preLen h wide)) := by
  simp [doCbicc, insn_runs hr, hcc, hd]

/-- Settles O4: each transfer retires at its target; the compare-and-branch forms take the flags of CMP first. -/
theorem branchTargets : Obligations.BranchTargets := by
  intro h wide cc d r rel imm off s
  refine ⟨fun hr => ?_, fun hr => ?_, fun hr => ?_, fun hr hcc hd hs => ?_, fun hr hcc hd => ?_⟩
  · exact ⟨lands (exec_nopOp ..) (insn_runs hr _), lands (exec_retOp ..) (insn_runs hr _)⟩
  · exact ⟨lands (exec_jmpr ..) (insn_runs hr _), lands (exec_callr ..) (insn_runs hr _)⟩
  · exact ⟨lands (exec_jmp ..) (insn_runs hr _), fun hl => lands (exec_callOp ..) (doCallOp_runs hr hl),
      fun hcc hl => lands (exec_bcc ..) (doBcc_runs hr hcc hl)⟩
  · exact lands (exec_cbcc ..) (doCbcc_runs hr hcc hd hs off)
  · exact lands (exec_cbicc ..) (doCbicc_runs hr hcc hd imm off)

end Sys2Proof.Machine
end

section
/-! ### Gates and exception returns (R286, R287, R291) -/

namespace Sys2Proof.Machine

open Sys2Proof

/-- Draining a core's store buffer empties it and changes nothing else of the core. -/
theorem getCore_drain (s : State) (c : CoreId) : getCore (drain s c) c = { getCore s c with sbuf := [] } :=
  getCore_setCore _ c _

/-- A gate call that the checks of R286 let through. -/
theorem doGateCall_open {s : State} {h : Head} {g : BitVec 16} (hr : Runs s h (4 + b2n h.check)) (hc : h.core ≠ .mc) (hg : g.toNat ≤ 63)
    (ho : gateOpen s (getCore s h.core) g.toNat = true) :
    let s1 := drain s h.core
    let k1 := getCore s1 h.core
    let tgt := fld (mget 0#32 s1.mpu.gate (4 * g.toNat + 1)) 21 16
    let e := 4 * k1.gdepth
    let st := mset 0#32 (mset 0#32 (mset 0#32 (mset 0#32 k1.gst e (nextPc s h (4 + b2n h.check))) (e + 1) (gget k1 15)) (e + 2) k1.psw)
      (e + 3) (word (tgt * 0x10000 + g.toNat))
    doGateCall h g s = retire s1 h.core
      { gset k1 15 (mget 0#32 s1.mpu.stk (stkIndex h.core tgt)) with
        gst := st, gdepth := k1.gdepth + 1, psw := setFld (setFld k1.psw 21 16 tgt) 31 28 0 }
      (mget 0#32 s1.mpu.gate (4 * g.toNat)) := by
  simp [doGateCall, insn_runs hr, hc, ho, Nat.not_lt.2 hg]

/-- A gate return whose entry names the core's domain. -/
theorem gateReturn_open {s : State} {h : Head} (hd : (getCore s h.core).gdepth ≠ 0)
    (hf : fld (mget 0#32 (getCore s h.core).gst (4 * ((getCore s h.core).gdepth - 1) + 3)) 21 16 = domOf (getCore s h.core)) :
    let k := getCore s h.core
    let s1 := drain s h.core
    let k1 := getCore s1 h.core
    let e := 4 * (k.gdepth - 1)
    let old := mget 0#32 k1.gst (e + 2)
    gateReturn s h k = retire s1 h.core
      { gset k1 15 (mget 0#32 k1.gst (e + 1)) with
        gdepth := k.gdepth - 1,
        psw := setFld (setFld (setBit k1.psw 0 (bit old 0)) 12 8 (fld old 12 8)) 21 16 (fld old 21 16) }
      (mget 0#32 k1.gst e) := by
  simp [gateReturn, hd, hf, getCore_drain]

/-- CROSS RET outside an exception is a gate return. -/
theorem doGateReturn_runs {s : State} {h : Head} (hr : Runs s h (2 + b2n h.check)) (hc : h.core ≠ .mc)
    (he : bit (getCore s h.core).psw 1 = false) : doGateReturn h s = gateReturn s h (getCore s h.core) := by
  simp [doGateReturn, insn_runs hr, hc, he]

/-- An exception return to a domain that the core may enter: MC to domain 1, the others to any other domain. -/
theorem excReturn_open {s : State} {h : Head} (hb : h.core = .mc ↔ fld (getCore s h.core).epsw 21 16 = 1) :
    excReturn s h = setCore (drain s h.core) h.core
      { getCore (drain s h.core) h.core with pc := (getCore s h.core).epc, psw := setBit (getCore s h.core).epsw 1 false } := by
  unfold excReturn
  cases hc : h.core <;> simp_all

/-- ERET during an exception, outside the application domains. -/
theorem doEret_open {s : State} {h : Head} {cross : Bool} (hr : Runs s h (2 + b2n h.check)) (he : bit (getCore s h.core).psw 1 = true)
    (ha : inApp h.core (getCore s h.core) = false) (hx : cross = true → h.core ≠ .mc) : doEret h cross s = excReturn s h := by
  rw [doEret, insn_runs hr]
  simp [he, ha]
  exact fun h1 h2 => absurd h2 (hx h1)

/-- Settles O5: the three crossings, each after its checks. -/
theorem gateAndReturn : Obligations.GateAndReturn := by
  intro h g cross s
  refine ⟨fun hr hc hg ho => ?_, fun hr hc he hd hf => ?_, fun hr he ha hx hb => ?_⟩
  · exact lands (exec_gateCall ..) (doGateCall_open hr hc hg ho)
  · exact lands (exec_gateReturn ..) ((doGateReturn_runs hr hc he).trans (gateReturn_open hd hf))
  · exact lands (exec_eret ..) ((doEret_open hr he ha hx).trans (excReturn_open hb))

end Sys2Proof.Machine
end

section
/-! ### System instructions (R282, R295, R322) -/

namespace Sys2Proof.Machine

open Sys2Proof

/-- A waiting core that could take an interrupt resumes. -/
theorem doWfeRelease_irq {s : State} {c : CoreId} (hw : (getCore s c).run = .waiting) (hi : (irqLevel s c).isSome = true) :
    doWfeRelease c s = setCore s c { getCore s c with run := .running } := by
  simp [doWfeRelease, hw, hi]

/-- MFS of a register that the core may read. -/
theorem doMfs_open {s : State} {h : Head} {n : BitVec 8} (hr : Runs s h (4 + b2n h.check))
    (hp : sysPriv n.toNat = true → inApp h.core (getCore s h.core) = false) (d : Gpr) :
    let k := getCore s h.core
    doMfs h d n s = retire s h.core
      (gset (if n.toNat = 8 then { k with tickH := word (s.tick / 2 ^ 32) } else k) d.val (sysRead s h.core k n.toNat))
      (nextPc s h (4 + b2n h.check)) := by
  simp [doMfs, insn_runs hr]
  exact fun h1 h2 => absurd h2 (by simp [hp h1])

/-- A register that MTS can write is none of those that it cannot. -/
theorem writable_not_refused {m : Nat} {c : CoreId} (hm : m ∈ [0, 1, 2, 3, 4, 5, 10, 11]) (hc : m = 5 → c ≠ .mc) :
    ((6 ≤ m && m ≤ 9) || 11 < m || (m = 5 && decide (c = .mc))) = false := by
  simp only [List.mem_cons, List.not_mem_nil, or_false] at hm
  rcases hm with rfl | rfl | rfl | rfl | rfl | rfl | rfl | rfl <;> simp_all

/-- MTS to a register that the core may write. -/
theorem doMts_open {s : State} {h : Head} {n : BitVec 8} (hr : Runs s h (4 + b2n h.check))
    (hp : sysPriv n.toNat = true → inApp h.core (getCore s h.core) = false) (hm : n.toNat ∈ [0, 1, 2, 3, 4, 5, 10, 11])
    (hc : n.toNat = 5 → h.core ≠ .mc) (r : Gpr) :
    doMts h n r s = retire s h.core (sysWrite h.core (getCore s h.core) n.toNat (gget (getCore s h.core) r.val))
      (nextPc s h (4 + b2n h.check)) := by
  rw [doMts, insn_runs hr]
  have hpriv : (sysPriv n.toNat && inApp h.core (getCore s h.core)) = false := by
    cases hs : sysPriv n.toNat <;> simp [hs, hp]
  simp only [writable_not_refused hm hc, hpriv] <;> rfl

/-- Settles O6: FENCE and WFE after the drain, MFS and MTS past their checks. -/
theorem systemInstructions : Obligations.SystemInstructions := by
  intro h c d r n s
  refine ⟨fun hr => ?_, fun hw hi => ?_, fun hr hp => ⟨?_, fun hm hc => ?_⟩⟩
  · exact ⟨lands (exec_fence ..) (insn_runs hr _), lands (exec_wfe ..) (insn_runs hr _)⟩
  · exact lands (exec_wfeRelease ..) (doWfeRelease_irq hw hi)
  · exact lands (exec_mfs ..) (doMfs_open hr hp d)
  · exact lands (exec_mts ..) (doMts_open hr hp hm hc r)

end Sys2Proof.Machine
end

section
/-! ### Exceptions (R288 to R293) -/

namespace Sys2Proof.Machine

open Sys2Proof

/-- The exception of a fetch on a running core. -/
theorem doExceptionEntry_runs {s : State} {c : CoreId} (hr : (getCore s c).run = .running) :
    (∀ a, doExceptionEntry c (.fetch a) s = takeExc s ⟨c, false⟩ 1 (getCore s c).pc a 0 false) ∧
    doExceptionEntry c .undef s = takeExc s ⟨c, false⟩ 2 (getCore s c).pc 0#32 0 false ∧
    (c = .mc → doExceptionEntry c .checkMismatch s = takeExc s ⟨c, true⟩ 0 (getCore s c).pc 0#32 0 false) := by
  simp only [doExceptionEntry, hr, ne_eq, not_true_eq_false, if_false]
  refine ⟨fun _ => rfl, rfl, ?_⟩
  rintro rfl
  rfl

/-- An interrupt that the core may take. -/
theorem doInterruptEntry_taken {s : State} {c : CoreId} {l : Nat} (hl : irqLevel s c = some l) (hr : (getCore s c).run = .running)
    (hi : bit (getCore s c).psw 0 = true) :
    let cause := ecauseOf true 15 0 false false (domOf (getCore s c))
    let s1 := drain (noteExc s c cause 0#32) c
    let k1 := enterExc c (getCore s1 c) 15 (getCore s1 c).pc 0#32 cause
    doInterruptEntry c s = setCore s1 c { k1 with psw := setFld k1.psw 12 8 l } := by
  simp [doInterruptEntry, hl, hr, hi]

/-- Settles O7: each event comes down to one exception taken, the interrupt to one entered. -/
theorem exceptionEntries : Obligations.ExceptionEntries := by
  intro h c n a l s
  refine ⟨fun hr => ?_, fun hr => ?_, fun hl hr hi => ?_⟩
  · exact lands (exec_trap ..) (insn_runs hr _)
  · obtain ⟨hfetch, hundef, hcheck⟩ := doExceptionEntry_runs hr
    exact ⟨lands (exec_exceptionEntry ..) (hfetch a), lands (exec_exceptionEntry ..) hundef,
      fun hc => lands (exec_exceptionEntry ..) (hcheck hc)⟩
  · exact lands (exec_interruptEntry ..) (doInterruptEntry_taken hl hr hi)

/-- A core that halts. -/
theorem getCore_haltCore (s : State) (c : CoreId) : getCore (haltCore s c) c = { getCore s c with run := .halted } := by
  cases c <;> rfl

/-- A synchronous exception on a core that handles one halts the core. -/
theorem getCore_takeExc_halts {s : State} {h : Head} (he : bit (getCore s h.core).psw 1 = true) (vec kind : Nat) (epc eaddr : Word)
    (write : Bool) : getCore (takeExc s h vec epc eaddr kind write) h.core = { getCore s h.core with run := .halted } := by
  simp [takeExc, he, getCore_haltCore]

/-- A synchronous exception on a core that handles none is entered with an empty store buffer. -/
theorem getCore_takeExc_enters {s : State} {h : Head} (he : bit (getCore s h.core).psw 1 = false) (vec kind : Nat) (epc eaddr : Word)
    (write : Bool) : getCore (takeExc s h vec epc eaddr kind write) h.core =
      enterExc h.core { getCore s h.core with sbuf := [] } vec epc eaddr
        (ecauseOf false vec kind write h.check (domOf (getCore s h.core))) := by
  simp [takeExc, he, getCore_drain]

/-- The PSW of a core that enters an exception: EXC set and IE clear, and on an AC core D0 with clear flags. -/
theorem enterExc_psw (c : CoreId) (k : Core) (vec : Nat) (epc eaddr cause : Word) :
    let p := (enterExc c k vec epc eaddr cause).psw
    bit p 1 = true ∧ bit p 0 = false ∧ (c ≠ .mc → fld p 21 16 = 0 ∧ fld p 31 28 = 0) := by
  cases c <;> simp [enterExc, bit_setBit, bit_setFld_ne, fld_setFld_self, fld_setFld_ne]

/-- Settles O8: the core halts or enters, and the entry saves and sets what R289 says. -/
theorem exceptionSaves : Obligations.ExceptionSaves := by
  intro s h vec kind epc eaddr write k k'
  refine ⟨fun he => getCore_takeExc_halts he .., fun he => ?_⟩
  have hk : k' = enterExc h.core { k with sbuf := [] } vec epc eaddr (ecauseOf false vec kind write h.check (domOf k)) :=
    getCore_takeExc_enters he ..
  rw [hk]
  obtain ⟨hexc, hie, hdom⟩ := enterExc_psw h.core { k with sbuf := [] } vec epc eaddr (ecauseOf false vec kind write h.check (domOf k))
  exact ⟨rfl, rfl, rfl, rfl, rfl, hexc, hie, hdom, rfl, rfl, rfl, rfl, rfl, rfl, rfl⟩

end Sys2Proof.Machine
end

/-! PROOFS. The memory instructions of the cores: loads, stores and atomics (R319, R320), what is written reads back (R336, R338, R339),
and what a store leaves unchanged (R28, R296). -/

section
/-! ### Loads, stores and atomics (R319, R320, R342) -/

namespace Sys2Proof.Machine

open Sys2Proof

/-- A load that nothing refuses puts what the core sees into its register or pair. -/
theorem loadTo_open {s : State} {h : Head} {a n : Nat} (ha : AccessOpen s h a n .load ∧ poisoned s a n = false) (wide : Bool) (d : Gpr)
    (next : Word) (f : Nat → Nat) :
    loadTo s h wide d a n quietBank next f =
      retire s h.core (dset (getCore s h.core) wide d.val (f (loadSees s h.core a n))) next :=
  coreLoad_open ha.1 ha.2 _

/-- LDW that nothing refuses. -/
theorem doLdw_open {s : State} {h : Head} {wide : Bool} {d r : Gpr} {disp : Field} (hr : Runs s h (2 + fieldLen disp + preLen h wide))
    (ha : AccessOpen s h (effAddr (getCore s h.core) r disp) (wordLen wide) .load ∧
      poisoned s (effAddr (getCore s h.core) r disp) (wordLen wide) = false) (hd : oddPair wide d = false) :
    doLdw h wide d r disp quietBank s = retire s h.core
      (dset (getCore s h.core) wide d.val (loadSees s h.core (effAddr (getCore s h.core) r disp) (wordLen wide)))
      (nextPc s h (2 + fieldLen disp + preLen h wide)) := by
  simp [doLdw, insn_runs hr, hd, loadTo_open ha]

/-- LDPC that nothing refuses. -/
theorem doLdpc_open {s : State} {h : Head} {wide : Bool} {d : Gpr} {rel : Word} (hr : Runs s h (6 + preLen h wide))
    (ha : AccessOpen s h (nextPc s h (6 + preLen h wide) + rel).toNat (wordLen wide) .load ∧
      poisoned s (nextPc s h (6 + preLen h wide) + rel).toNat (wordLen wide) = false) (hd : oddPair wide d = false) :
    doLdpc h wide d rel quietBank s = retire s h.core
      (dset (getCore s h.core) wide d.val (loadSees s h.core (nextPc s h (6 + preLen h wide) + rel).toNat (wordLen wide)))
      (nextPc s h (6 + preLen h wide)) := by
  simp only [doLdpc, insn_runs hr, hd, Bool.false_eq_true, if_false, loadTo_open ha, id]

/-- POP that nothing refuses. -/
theorem doPop_open {s : State} {h : Head} {wide : Bool} {d : Gpr} (hr : Runs s h (2 + preLen h wide))
    (ha : AccessOpen s h (gget (getCore s h.core) 15).toNat (wordLen wide) .load ∧
      poisoned s (gget (getCore s h.core) 15).toNat (wordLen wide) = false)
    (hd : oddPair wide d = false) (h15 : d.val ≠ 15) :
    let k := getCore s h.core
    doPop h wide d quietBank s = retire s h.core
      (dset (gset k 15 (gget k 15 + word (wordLen wide))) wide d.val (loadSees s h.core (gget k 15).toNat (wordLen wide)))
      (nextPc s h (2 + preLen h wide)) := by
  simp [doPop, insn_runs hr, hd, h15, coreLoad_open ha.1 ha.2]

/-- Settles O9: each load gives its register what the core sees. -/
theorem loadResults : Obligations.LoadResults := by
  intro h wide d r disp rel s
  refine ⟨fun hr ha => ?_, fun hr ha => ?_, fun hr ha hd => ?_, fun hr ha hd => ?_, fun hr ha hd h15 => ?_⟩
  · exact ⟨lands (exec_ldb ..) ((insn_runs hr _).trans (loadTo_open ha ..)),
      lands (exec_ldbs ..) ((insn_runs hr _).trans (loadTo_open ha ..))⟩
  · exact ⟨lands (exec_ldh ..) ((insn_runs hr _).trans (loadTo_open ha ..)),
      lands (exec_ldhs ..) ((insn_runs hr _).trans (loadTo_open ha ..))⟩
  · exact lands (exec_ldw ..) (doLdw_open hr ha hd)
  · exact lands (exec_ldpc ..) (doLdpc_open hr ha hd)
  · exact lands (exec_pop ..) (doPop_open hr ha hd h15)

/-- A store of the low `n` bytes of a number that nothing refuses is made, and its instruction retires. -/
theorem coreStore_leBytes {s : State} {h : Head} {a n : Nat} (ha : AccessOpen s h a n .store) (v : Nat) (next : Word) (f : Core → Core) :
    coreStore s h a (leBytes n v) quietBank next f =
      retire (stored s h.core a (leBytes n v)) h.core (f (getCore (stored s h.core a (leBytes n v)) h.core)) next :=
  coreStore_open (by rwa [leBytes_length]) f next

/-- STW that nothing refuses. -/
theorem doStw_open {s : State} {h : Head} {wide : Bool} {d r : Gpr} {disp : Field} (hr : Runs s h (2 + fieldLen disp + preLen h wide))
    (ha : AccessOpen s h (effAddr (getCore s h.core) r disp) (wordLen wide) .store) (hd : oddPair wide d = false) :
    let t := stored s h.core (effAddr (getCore s h.core) r disp) (leBytes (wordLen wide) (dget (getCore s h.core) wide d.val))
    doStw h wide d r disp s = retire t h.core (getCore t h.core) (nextPc s h (2 + fieldLen disp + preLen h wide)) := by
  simp [doStw, insn_runs hr, hd, coreStore_leBytes ha]

/-- PUSH that nothing refuses. -/
theorem doPush_open {s : State} {h : Head} {wide : Bool} {r : Gpr} (hr : Runs s h (2 + preLen h wide))
    (ha : AccessOpen s h (gget (getCore s h.core) 15 - word (wordLen wide)).toNat (wordLen wide) .store) (hd : oddPair wide r = false) :
    let sp := gget (getCore s h.core) 15 - word (wordLen wide)
    let t := stored s h.core sp.toNat (leBytes (wordLen wide) (dget (getCore s h.core) wide r.val))
    doPush h wide r s = retire t h.core (gset (getCore t h.core) 15 sp) (nextPc s h (2 + preLen h wide)) := by
  simp only [doPush, insn_runs hr, hd, Bool.false_eq_true, if_false, coreStore_leBytes ha]

/-- Settles O10: each store puts its bytes where they go and retires. -/
theorem storeResults : Obligations.StoreResults := by
  intro h wide d r disp dw imm s
  refine ⟨fun hr ha => ?_, fun hr ha => ?_, fun hr ha hd => ?_, fun hr ha => ?_, fun hr ha hd => ?_⟩
  · exact lands (exec_stb ..) ((insn_runs hr _).trans (coreStore_leBytes ha ..))
  · exact lands (exec_sth ..) ((insn_runs hr _).trans (coreStore_leBytes ha ..))
  · exact lands (exec_stw ..) (doStw_open hr ha hd)
  · exact lands (exec_stwi ..) ((insn_runs hr _).trans (coreStore_leBytes ha ..))
  · exact lands (exec_push ..) (doPush_open hr ha hd)

/-- An address of the banks goes to the banks. -/
theorem corePlace_sram {a : Nat} (ha : isSram a = true) (s : State) (c : CoreId) : corePlace s c a = .sram := by
  simp [corePlace, ha]

/-- An atomic that nothing refuses: the word at the bank is replaced after the buffer has drained. -/
theorem coreAtomic_open {s : State} {h : Head} {wide : Bool} {a : Nat} (hs : isSram a = true) (ha : AccessOpen s h a (wordLen wide) .both)
    (hb : badWord (drain s h.core) a (wordLen wide) = none) (write : Bool) (next : Word) (f : Core → Nat → Nat) (ret : Core → Nat → Core) :
    let s1 := drain s h.core
    let k1 := getCore s1 h.core
    let old := leNat (sramRead s1 a (wordLen wide))
    coreAtomic s h wide a quietBank write next f ret =
      retire (bankWrite s1 (initOf h.core) a (leBytes (wordLen wide) (f k1 old))) h.core (ret k1 old) next := by
  obtain ⟨hal, hp⟩ := ha
  rw [corePlace_sram hs] at hp
  obtain ⟨hfilter, hclear, hup⟩ := hp
  simp [coreAtomic, hal, hs, bankAccess, hfilter, hclear, hup, quietBank, hb]

/-- Draining the buffer leaves the data registers. -/
theorem dget_drain (s : State) (c : CoreId) (wide : Bool) (r : Nat) : dget (getCore (drain s c) c) wide r = dget (getCore s c) wide r := by
  rw [getCore_drain]
  rfl

/-- A swap that nothing refuses. -/
theorem doAtomicSwap_open {s : State} {h : Head} {wide : Bool} {d r : Gpr} {disp : Field}
    (hs : isSram (effAddr (getCore s h.core) r disp) = true)
    (ha : AccessOpen s h (effAddr (getCore s h.core) r disp) (wordLen wide) .both)
    (hb : badWord (drain s h.core) (effAddr (getCore s h.core) r disp) (wordLen wide) = none)
    (hr : Runs s h (3 + fieldLen disp + preLen h wide)) (hd : oddPair wide d = false) :
    let s1 := drain s h.core
    let ea := effAddr (getCore s h.core) r disp
    let old := leNat (sramRead s1 ea (wordLen wide))
    doAtomicSwap h wide d r disp quietBank s =
      retire (bankWrite s1 (initOf h.core) ea (leBytes (wordLen wide) (dget (getCore s h.core) wide d.val))) h.core
        (dset (getCore s1 h.core) wide d.val old) (nextPc s h (3 + fieldLen disp + preLen h wide)) := by
  simp [doAtomicSwap, insn_runs hr, hd, coreAtomic_open hs ha hb, dget_drain]

/-- An addition of a register that nothing refuses. -/
theorem doAtomicAdd_reg {s : State} {h : Head} {wide : Bool} {d r : Gpr} {disp : Field}
    (hs : isSram (effAddr (getCore s h.core) r disp) = true)
    (ha : AccessOpen s h (effAddr (getCore s h.core) r disp) (wordLen wide) .both)
    (hb : badWord (drain s h.core) (effAddr (getCore s h.core) r disp) (wordLen wide) = none)
    (hr : Runs s h (3 + fieldLen disp + preLen h wide)) (hd : oddPair wide d = false) :
    let s1 := drain s h.core
    let ea := effAddr (getCore s h.core) r disp
    let old := leNat (sramRead s1 ea (wordLen wide))
    doAtomicAdd h wide d none r disp quietBank s =
      retire (bankWrite s1 (initOf h.core) ea (leBytes (wordLen wide) (old + dget (getCore s1 h.core) wide d.val))) h.core
        (dset (getCore s1 h.core) wide d.val old) (nextPc s h (3 + fieldLen disp + preLen h wide)) := by
  simp [doAtomicAdd, insn_runs hr, hd, coreAtomic_open hs ha hb]

/-- An addition of an immediate that nothing refuses. -/
theorem doAtomicAdd_imm {s : State} {h : Head} {wide : Bool} {r : Gpr} {disp : Field}
    (hs : isSram (effAddr (getCore s h.core) r disp) = true)
    (ha : AccessOpen s h (effAddr (getCore s h.core) r disp) (wordLen wide) .both)
    (hb : badWord (drain s h.core) (effAddr (getCore s h.core) r disp) (wordLen wide) = none)
    (hr : Runs s h (10 + preLen h wide)) (d : Gpr) (imm : BitVec 16) :
    let s1 := drain s h.core
    let ea := effAddr (getCore s h.core) r disp
    let old := leNat (sramRead s1 ea (wordLen wide))
    doAtomicAdd h wide d (some imm) r disp quietBank s =
      retire (bankWrite s1 (initOf h.core) ea (leBytes (wordLen wide) (old + immVal wide imm))) h.core
        (getCore s1 h.core) (nextPc s h (10 + preLen h wide)) := by
  simp [doAtomicAdd, insn_runs hr, coreAtomic_open hs ha hb]

/-- Settles O11: the swap and both additions are one read and one write of the bank. -/
theorem atomicResults : Obligations.AtomicResults := by
  intro h wide d r disp imm s k ea n s1 k1 old gives hs ha hb
  refine ⟨fun hr hd => ⟨?_, ?_⟩, fun hr => ?_⟩
  · exact lands (exec_atomicSwap ..) (doAtomicSwap_open hs ha hb hr hd)
  · exact lands (exec_atomicAdd ..) (doAtomicAdd_reg hs ha hb hr hd)
  · exact lands (exec_atomicAdd ..) (doAtomicAdd_imm hs ha hb hr d imm)

end Sys2Proof.Machine
end

section
/-! ### What is written reads back (R336, R338, R339) -/

namespace Sys2Proof.Machine

open Sys2Proof

/-- A register reads as it was written, and every other as before. -/
theorem rd_wr (s : State) (a b : Nat) (v : Word) : rd (wr s a v) b = if b = a then v else rd s b := by
  unfold rd wr
  split
  · next h => rw [h, mget_mset_self]
  · next h => exact mget_mset_ne _ _ _ _ h

/-- Bytes put into a map: the range reads as the bytes, and every other key as before. -/
theorem mget_putBytes {keep : Nat → Bool} (hk : ∀ x, keep x = true) (bs : Bytes) (m : Sparse Byte) (a x : Nat) :
    mget 0#8 (putBytes keep m a bs) x = if a ≤ x ∧ x < a + bs.length then bs.getD (x - a) 0#8 else mget 0#8 m x := by
  induction bs generalizing m a with
  | nil => rw [if_neg (by simp only [List.length_nil]; omega)]; rfl
  | cons b bs ih =>
    rw [putBytes, if_pos (hk a), ih, List.length_cons]
    rcases Nat.lt_trichotomy x a with hx | rfl | hx
    · rw [if_neg (by omega), if_neg (by omega), mget_mset_ne _ _ _ _ (by omega)]
    · rw [if_neg (by omega), if_pos (by omega), mget_mset_self, Nat.sub_self]
      rfl
    · rw [mget_mset_ne _ _ _ _ (by omega), show x - a = (x - (a + 1)) + 1 by omega]
      by_cases h : x < a + (bs.length + 1)
      · rw [if_pos (by omega), if_pos (by omega), List.getD_cons_succ]
      · rw [if_neg (by omega), if_neg (by omega)]

/-- A write to banks without errors changes the bytes of the banks alone. -/
theorem bankWrite_clean {s : State} (hp : s.mem.poison = []) (i : Initiator) (a : Nat) (bs : Bytes) :
    bankWrite s i a bs = { s with mem := { s.mem with sram := putBytes (fun _ => true) s.mem.sram a bs, poison := [] } } := by
  simp [bankWrite, bankWriteBy, hp, lmem]

/-- Every key of a map lies above a bound, so a key at the bound or below it is not listed. -/
theorem mget_of_above {α : Type} {m : Sparse α} {k a : Nat} (h : ∀ kv ∈ m, k < kv.1) (ha : a ≤ k) (d : α) : mget d m a = d := by
  by_contra hne
  obtain ⟨v, hv⟩ := mem_of_mget_ne hne
  exact absurd (h _ hv) (Nat.not_lt.2 ha)

/-- A map in canonical form is determined by what it reads as. -/
theorem mwf_ext {α : Type} [DecidableEq α] {d : Nat → α} {m m' : Sparse α} (h : mwf d m = true) (h' : mwf d m' = true)
    (he : ∀ a, mget (d a) m a = mget (d a) m' a) : m = m' := by
  induction m generalizing m' with
  | nil =>
    cases m' with
    | nil => rfl
    | cons kv m' =>
      obtain ⟨k, v⟩ := kv
      have hk : d k = v := by simpa [mget] using he k
      exact absurd hk.symm ((mwf_cons d k v m').1 h').1
  | cons kv m ih =>
    obtain ⟨k, v⟩ := kv
    obtain ⟨hv, hkm, hm⟩ := (mwf_cons d k v m).1 h
    cases m' with
    | nil => exact absurd (by simpa [mget] using he k) hv
    | cons kv' m' =>
      obtain ⟨k', v'⟩ := kv'
      obtain ⟨hv', hkm', hm'⟩ := (mwf_cons d k' v' m').1 h'
      have hkk : k = k' := by
        rcases Nat.lt_trichotomy k k' with hlt | heq | hlt
        · have hread := he k
          rw [mget, if_pos rfl, mget, if_neg hlt.ne', mget_of_above hkm' hlt.le] at hread
          exact absurd hread hv
        · exact heq
        · have hread := he k'
          rw [mget, if_neg hlt.ne', mget_of_above hkm hlt.le, mget, if_pos rfl] at hread
          exact absurd hread.symm hv'
      subst hkk
      have hvv : v = v' := by simpa [mget] using he k
      have htail : m = m' := ih hm hm' fun a => by
        by_cases ha : a = k
        · rw [ha, mget_of_above hkm le_rfl, mget_of_above hkm' le_rfl]
        · simpa [mget, Ne.symm ha] using he a
      rw [hvv, htail]

/-- A write to banks without errors reads back, and every other byte as before. -/
theorem sramByte_bankWrite {s : State} (hp : s.mem.poison = []) (i : Initiator) (a x : Nat) (bs : Bytes) :
    sramByte (bankWrite s i a bs) x = if a ≤ x ∧ x < a + bs.length then bs.getD (x - a) 0#8 else sramByte s x := by
  rw [bankWrite_clean hp]
  exact mget_putBytes (fun _ => rfl) bs s.mem.sram a x

/-- Settles O57: the law of each kind of memory. -/
theorem storesAndReads : Obligations.StoresAndReads :=
  ⟨rd_wr, fun _ i a x bs hp => sramByte_bankWrite hp i a x bs, fun _ _ _ h h' he => mwf_ext h h' he, fun _ _ _ h h' he => mwf_ext h h' he⟩

end Sys2Proof.Machine
end

section
/-! ### What a store leaves unchanged (R28, R296) -/

namespace Sys2Proof.Machine

open Sys2Proof

/-- A write to the banks leaves the cores. -/
theorem getCore_bankWrite {s : State} (hp : s.mem.poison = []) (i : Initiator) (a : Nat) (bs : Bytes) (c : CoreId) :
    getCore (bankWrite s i a bs) c = getCore s c := by
  rw [bankWrite_clean hp]
  cases c <;> rfl

/-- The oldest buffered store reaches its bank: the core sees every byte as before. -/
theorem seenByte_drainOne {s : State} (hp : s.mem.poison = []) (c : CoreId) (x : Nat) :
    seenByte (drainOne s c) (getCore (drainOne s c) c).sbuf x = seenByte s (getCore s c).sbuf x := by
  unfold drainOne
  cases hb : (getCore s c).sbuf with
  | nil => simp [hb]
  | cons e rest =>
    have hx : sramByte (bankWrite s (initOf c) e.addr e.bytes) x =
        if e.addr ≤ x && x < e.addr + e.bytes.length then e.bytes.getD (x - e.addr) 0#8 else sramByte s x := by
      simp only [sramByte_bankWrite hp, Bool.and_eq_true, decide_eq_true_eq]
    simp only [getCore_setCore, seenByte, List.foldl_cons, ← hx]
    rw [sramByte, setCore_mem]
    rfl

/-- Draining the oldest store leaves every memory but the banks. -/
theorem drainOne_mem {s : State} (hp : s.mem.poison = []) (c : CoreId) :
    ∃ sram, (drainOne s c).mem = { s.mem with sram := sram, poison := [] } := by
  unfold drainOne
  split
  · exact ⟨s.mem.sram, by rw [← hp]⟩
  · rw [setCore_mem, drainEntry, bankWrite_clean hp]
    exact ⟨_, rfl⟩

/-- Draining the oldest store changes nothing of the cores but the buffer of its core. -/
theorem getCore_drainOne {s : State} (hp : s.mem.poison = []) (c d : CoreId) :
    getCore (drainOne s c) d = if d = c then { getCore s c with sbuf := (getCore s c).sbuf.tail } else getCore s d := by
  unfold drainOne
  split
  · next hb =>
    split
    · next hd => rw [hd, hb, List.tail_nil, ← hb]
    · rfl
  · next e rest hb =>
    split
    · next hd => rw [hd, getCore_setCore, hb]; rfl
    · next hd => rw [getCore_setCore_ne _ _ hd, drainEntry, getCore_bankWrite hp]

/-- The state that a store enters the buffer of: a full buffer has drained its oldest entry. -/
def roomFor (s : State) (c : CoreId) : State := if (getCore s c).sbuf.length < sbDepth c then s else drainOne s c

/-- A store enters the buffer where there is room. -/
theorem enterStore_eq (s : State) (c : CoreId) (e : SbEntry) :
    enterStore s c e =
      setCore (roomFor s c) c { getCore (roomFor s c) c with sbuf := (getCore (roomFor s c) c).sbuf ++ [e] } := rfl

/-- Making room changes nothing of the cores but the buffer of its core. -/
theorem getCore_roomFor {s : State} (hp : s.mem.poison = []) (c : CoreId) :
    ∃ b, ∀ d, getCore (roomFor s c) d = if d = c then { getCore s c with sbuf := b } else getCore s d := by
  unfold roomFor
  split
  · refine ⟨(getCore s c).sbuf, fun d => ?_⟩
    split
    · next hd => rw [hd]
    · rfl
  · exact ⟨_, getCore_drainOne hp c⟩

/-- A store that enters the buffer: the core sees its bytes there, and every other byte as before. -/
theorem seenByte_enterStore {s : State} (hp : s.mem.poison = []) (c : CoreId) (e : SbEntry) (x : Nat) :
    seenByte (enterStore s c e) (getCore (enterStore s c e) c).sbuf x =
      if e.addr ≤ x ∧ x < e.addr + e.bytes.length then e.bytes.getD (x - e.addr) 0#8 else seenByte s (getCore s c).sbuf x := by
  have hroom : seenByte (roomFor s c) (getCore (roomFor s c) c).sbuf x = seenByte s (getCore s c).sbuf x := by
    unfold roomFor
    split
    · rfl
    · exact seenByte_drainOne hp c x
  have hbank : ∀ k, sramByte (setCore (roomFor s c) c k) x = sramByte (roomFor s c) x := fun k => by
    rw [sramByte, setCore_mem, sramByte]
  rw [← hroom, enterStore_eq, getCore_setCore]
  simp only [seenByte, hbank, List.foldl_append, List.foldl_cons, List.foldl_nil, Bool.and_eq_true, decide_eq_true_eq]

/-- A store that enters the buffer leaves every memory but the banks. -/
theorem enterStore_mem {s : State} (hp : s.mem.poison = []) (c : CoreId) (e : SbEntry) :
    ∃ sram, (enterStore s c e).mem = { s.mem with sram := sram, poison := [] } := by
  rw [enterStore_eq, setCore_mem]
  unfold roomFor
  split
  · exact ⟨s.mem.sram, by rw [← hp]⟩
  · exact drainOne_mem hp c

/-- What a core sees of one byte. -/
theorem loadSees_one (s : State) (c : CoreId) (x : Nat) :
    loadSees s c x 1 = match corePlace s c x with
      | .iram => (mget 0#8 s.mem.iram x).toNat
      | .dram => (mget 0#8 s.mem.dram x).toNat
      | .rom => (Config.bootRom x).toNat
      | _ => (seenByte s (getCore s c).sbuf x).toNat := by
  unfold loadSees
  cases corePlace s c x <;> simp [leNat, seenBytes]

/-- Where an access goes depends on the state by the boot ROM alone. -/
theorem corePlace_congr {s t : State} (h : t.mem.rom = s.mem.rom) (c : CoreId) (x : Nat) : corePlace t c x = corePlace s c x := by
  unfold corePlace
  rw [h]

/-- What a core sees is of the memories and its store buffer. -/
theorem loadSees_congr {s t : State} {c : CoreId} (hm : t.mem = s.mem) (hb : (getCore t c).sbuf = (getCore s c).sbuf) (x : Nat) :
    loadSees t c x 1 = loadSees s c x 1 := by
  simp only [loadSees_one, corePlace_congr (congrArg Mem.rom hm), hm, hb, seenByte, sramByte]

/-- The sizes of an access. -/
def AccessLen (n : Nat) : Prop := n = 1 ∨ n = 2 ∨ n = 4 ∨ n = 8

/-- An aligned access to the banks lies in the banks. -/
theorem place_sram_range {s : State} {c : CoreId} {a n x : Nat} (hn : AccessLen n) (ha : a % n = 0) (hp : corePlace s c a = .sram)
    (hlo : a ≤ x) (hhi : x < a + n) : corePlace s c x = .sram := by
  have hsram : isSram a = true := by
    unfold corePlace at hp
    split at hp
    · assumption
    · split_ifs at hp
  simp only [isSram, Bool.and_eq_true, decide_eq_true_eq] at hsram
  refine corePlace_sram ?_ s c
  simp only [isSram, Bool.and_eq_true, decide_eq_true_eq]
  rcases hn with rfl | rfl | rfl | rfl <;> omega

/-- The instruction RAM of MC. -/
theorem corePlace_iram_iff (s : State) (c : CoreId) (a : Nat) : corePlace s c a = .iram ↔ c = .mc ∧ a < 0x20000 := by
  unfold corePlace isSram
  constructor
  · intro h
    split_ifs at h
    simp_all
  · rintro ⟨rfl, ha⟩
    rw [if_neg (by simp only [Bool.and_eq_true, decide_eq_true_eq]; omega), if_neg (by simp only [Bool.and_eq_true, decide_eq_true_eq]; omega),
      if_pos (by simpa using ha)]

/-- The data RAM of MC. -/
theorem corePlace_dram_iff (s : State) (c : CoreId) (a : Nat) : corePlace s c a = .dram ↔ c = .mc ∧ 0x20000 ≤ a ∧ a < 0x40000 := by
  unfold corePlace isSram
  constructor
  · intro h
    split_ifs at h
    simp_all
  · rintro ⟨rfl, hlo, hhi⟩
    rw [if_neg (by simp only [Bool.and_eq_true, decide_eq_true_eq]; omega), if_neg (by simp only [Bool.and_eq_true, decide_eq_true_eq]; omega),
      if_neg (by simpa using hlo), if_pos (by simpa using hhi)]

/-- A store into MC's instruction RAM: MC sees its bytes there, and every other byte as before. -/
theorem loadSees_stored_iram {s : State} {c : CoreId} {a : Nat} {bs : Bytes} (hn : AccessLen bs.length) (ha : a % bs.length = 0)
    (hp : corePlace s c a = .iram) (x : Nat) :
    loadSees (stored s c a bs) c x 1 = if a ≤ x ∧ x < a + bs.length then (bs.getD (x - a) 0#8).toNat else loadSees s c x 1 := by
  obtain ⟨rfl, ha'⟩ := (corePlace_iram_iff s c a).1 hp
  have hmem : (stored s .mc a bs).mem = { s.mem with iram := putBytes (fun _ => true) s.mem.iram a bs } := by
    simp only [stored, hp]
  have hcore : getCore (stored s .mc a bs) .mc = getCore s .mc := by
    simp only [stored, hp] <;> rfl
  rw [loadSees_one, loadSees_one, corePlace_congr (s := s) (by rw [hmem]), hcore, hmem]
  cases hx : corePlace s .mc x with
  | iram =>
    simp only [mget_putBytes fun _ => rfl]
    split <;> rfl
  | _ =>
    have hout : ¬ (a ≤ x ∧ x < a + bs.length) := by
      rintro ⟨hlo, hhi⟩
      have hin : corePlace s .mc x = .iram :=
        (corePlace_iram_iff s _ x).2 ⟨rfl, by rcases hn with h | h | h | h <;> rw [h] at ha hhi <;> omega⟩
      rw [hx] at hin
      cases hin
    simp only [if_neg hout, seenByte, sramByte, hmem]

/-- A store into MC's data RAM: MC sees its bytes there, and every other byte as before. -/
theorem loadSees_stored_dram {s : State} {c : CoreId} {a : Nat} {bs : Bytes} (hn : AccessLen bs.length) (ha : a % bs.length = 0)
    (hp : corePlace s c a = .dram) (x : Nat) :
    loadSees (stored s c a bs) c x 1 = if a ≤ x ∧ x < a + bs.length then (bs.getD (x - a) 0#8).toNat else loadSees s c x 1 := by
  obtain ⟨rfl, ha'⟩ := (corePlace_dram_iff s c a).1 hp
  have hmem : (stored s .mc a bs).mem = { s.mem with dram := putBytes (fun _ => true) s.mem.dram a bs } := by
    simp only [stored, hp]
  have hcore : getCore (stored s .mc a bs) .mc = getCore s .mc := by
    simp only [stored, hp] <;> rfl
  rw [loadSees_one, loadSees_one, corePlace_congr (s := s) (by rw [hmem]), hcore, hmem]
  cases hx : corePlace s .mc x with
  | dram =>
    simp only [mget_putBytes fun _ => rfl]
    split <;> rfl
  | _ =>
    have hout : ¬ (a ≤ x ∧ x < a + bs.length) := by
      rintro ⟨hlo, hhi⟩
      have hin : corePlace s .mc x = .dram :=
        (corePlace_dram_iff s _ x).2 ⟨rfl, by rcases hn with h | h | h | h <;> rw [h] at ha hhi <;> omega⟩
      rw [hx] at hin
      cases hin
    simp only [if_neg hout, seenByte, sramByte, hmem]

/-- A store towards the banks: the core sees its bytes there, and every other byte as before. -/
theorem loadSees_stored_sram {s : State} {c : CoreId} {a : Nat} {bs : Bytes} (hm : s.mem.poison = []) (hn : AccessLen bs.length)
    (ha : a % bs.length = 0) (hp : corePlace s c a = .sram) (x : Nat) :
    loadSees (stored s c a bs) c x 1 = if a ≤ x ∧ x < a + bs.length then (bs.getD (x - a) 0#8).toNat else loadSees s c x 1 := by
  have hstored : stored s c a bs = enterStore s c { addr := a, bytes := bs, dom := domOf (getCore s c) } := by
    simp only [stored, hp]
  obtain ⟨sram, hmem⟩ := enterStore_mem hm c { addr := a, bytes := bs, dom := domOf (getCore s c) }
  rw [hstored, loadSees_one, loadSees_one, corePlace_congr (s := s) (by rw [hmem]), hmem, seenByte_enterStore hm]
  by_cases hx : a ≤ x ∧ x < a + bs.length
  · rw [place_sram_range hn ha hp hx.1 hx.2, if_pos hx, if_pos hx]
  · rw [if_neg hx, if_neg hx]

/-- A store that nothing refuses: the core sees its bytes there, and every other byte as before. -/
theorem loadSees_stored {s : State} {h : Head} {a : Nat} {bs : Bytes} (hm : s.mem.poison = []) (hn : AccessLen bs.length)
    (ho : AccessOpen s h a bs.length .store) (x : Nat) :
    loadSees (stored s h.core a bs) h.core x 1 =
      if a ≤ x ∧ x < a + bs.length then (bs.getD (x - a) 0#8).toNat else loadSees s h.core x 1 := by
  obtain ⟨ha, hopen⟩ := ho
  cases hp : corePlace s h.core a with
  | sram => exact loadSees_stored_sram hm hn ha hp x
  | iram => exact loadSees_stored_iram hn ha hp x
  | dram => exact loadSees_stored_dram hn ha hp x
  | rom => rw [hp] at hopen; cases hopen
  | page p => rw [hp] at hopen; cases hopen
  | outside => rw [hp] at hopen; cases hopen

/-- A store changes nothing of the cores but the buffer of its core. -/
theorem getCore_stored {s : State} (hm : s.mem.poison = []) (c : CoreId) (a : Nat) (bs : Bytes) :
    ∃ b, ∀ d, getCore (stored s c a bs) d = if d = c then { getCore s c with sbuf := b } else getCore s d := by
  have hsame : ∀ t : State, (∀ d, getCore t d = getCore s d) →
      ∃ b, ∀ d, getCore t d = if d = c then { getCore s c with sbuf := b } else getCore s d := fun t ht =>
    ⟨(getCore s c).sbuf, fun d => by rw [ht]; split <;> simp_all⟩
  have henter : ∀ e, ∃ b, ∀ d, getCore (enterStore s c e) d = if d = c then { getCore s c with sbuf := b } else getCore s d := fun e => by
    obtain ⟨b, hb⟩ := getCore_roomFor hm c
    refine ⟨b ++ [e], fun d => ?_⟩
    rw [enterStore_eq]
    split
    · next hd => rw [hd, getCore_setCore, hb c, if_pos rfl]
    · next hd => rw [getCore_setCore_ne _ _ hd, hb d, if_neg hd]
  unfold stored
  split
  · exact hsame _ fun d => by cases d <;> rfl
  · exact hsame _ fun d => by cases d <;> rfl
  · exact henter _

/-- A retired instruction leaves the other cores. -/
theorem getCore_retire_ne (s : State) {c d : CoreId} (hd : d ≠ c) (k : Core) (pc : Word) : getCore (retire s c k pc) d = getCore s d := by
  unfold retire noteRetired
  split
  · exact getCore_setCore_ne _ _ hd
  · rw [getCore_wr, getCore_wr, getCore_setCore_ne _ _ hd]

/-- A retired instruction leaves the memories. -/
theorem retire_mem (s : State) (c : CoreId) (k : Core) (pc : Word) : (retire s c k pc).mem = s.mem := by
  cases c <;> rfl

/-- The cores land as they are. -/
theorem getCore_landed (s t : State) (c : CoreId) : getCore (landed s t) c = getCore t c := by
  cases c <;> rfl

/-- What a store leaves: the core sees its bytes and all others as before, its registers below G15 and its PSW are as before, and so are
the other cores. -/
def StoreLeaves (s t : State) (c : CoreId) (a : Nat) (bs : Bytes) : Prop :=
  (∀ x, loadSees t c x 1 = if a ≤ x ∧ x < a + bs.length then (bs.getD (x - a) 0#8).toNat else loadSees s c x 1) ∧
  (∀ g, g < 15 → gget (getCore t c) g = gget (getCore s c) g) ∧ (getCore t c).psw = (getCore s c).psw ∧
  (∀ d, d ≠ c → getCore t d = getCore s d)

/-- A store instruction that nothing refuses and that changes of its core's registers G15 at most. -/
theorem store_leaves {s : State} {h : Head} {a : Nat} {bs : Bytes} (hm : s.mem.poison = []) (hn : AccessLen bs.length)
    (ho : AccessOpen s h a bs.length .store) {f : Core → Core}
    (hf : ∀ k, (f k).sbuf = k.sbuf ∧ (f k).psw = k.psw ∧ ∀ g, g < 15 → gget (f k) g = gget k g) (pc : Word) :
    StoreLeaves s (landed s (retire (stored s h.core a bs) h.core (f (getCore (stored s h.core a bs) h.core)) pc)) h.core a bs := by
  obtain ⟨b, hb⟩ := getCore_stored hm h.core a bs
  have hown : getCore (stored s h.core a bs) h.core = { getCore s h.core with sbuf := b } := by rw [hb, if_pos rfl]
  refine ⟨fun x => ?_, fun g hg => ?_, ?_, fun d hd => ?_⟩
  · rw [← loadSees_stored hm hn ho x]
    refine loadSees_congr ?_ ?_ x
    · rw [landed_mem, retire_mem]
    · rw [getCore_landed, getCore_retire]
      exact (hf _).1
  · rw [getCore_landed, getCore_retire]
    exact ((hf _).2.2 g hg).trans (by rw [hown]; rfl)
  · rw [getCore_landed, getCore_retire]
    exact (hf _).2.1.trans (by rw [hown])
  · rw [getCore_landed, getCore_retire_ne _ hd, hb, if_neg hd]

/-- The bytes of a number have the length of an access. -/
theorem accessLen_leBytes {n : Nat} (hn : AccessLen n) (v : Nat) : AccessLen (leBytes n v).length := by
  rwa [leBytes_length]

/-- The size of a word access is the length of an access. -/
theorem accessLen_wordLen (wide : Bool) : AccessLen (wordLen wide) := by
  cases wide <;> simp [AccessLen, wordLen]

/-- A store instruction that leaves its core's registers as they are. -/
theorem store_keeps {s t : State} {h : Head} {i : Instr} {a n v : Nat} {pc : Word} (hm : s.mem.poison = []) (hn : AccessLen n)
    (ho : AccessOpen s h a n .store)
    (hx : exec i s = .next (landed s (retire (stored s h.core a (leBytes n v)) h.core
      (getCore (stored s h.core a (leBytes n v)) h.core) pc))) (ht : exec i s = .next t) :
    StoreLeaves s t h.core a (leBytes n v) ∧ gget (getCore t h.core) 15 = gget (getCore s h.core) 15 := by
  obtain rfl := Host.Outcome.next.inj (ht.symm.trans hx)
  refine ⟨store_leaves hm (accessLen_leBytes hn v) (by rwa [leBytes_length]) (f := id) (fun _ => ⟨rfl, rfl, fun _ _ => rfl⟩) pc, ?_⟩
  obtain ⟨b, hb⟩ := getCore_stored hm h.core a (leBytes n v)
  rw [getCore_landed, getCore_retire, hb, if_pos rfl]
  rfl

/-- PUSH leaves its core's registers but G15, which it lowers. -/
theorem push_leaves {s t : State} {h : Head} {i : Instr} {a n v : Nat} {sp pc : Word} (hm : s.mem.poison = []) (hn : AccessLen n)
    (ho : AccessOpen s h a n .store)
    (hx : exec i s = .next (landed s (retire (stored s h.core a (leBytes n v)) h.core
      (gset (getCore (stored s h.core a (leBytes n v)) h.core) 15 sp) pc))) (ht : exec i s = .next t) :
    StoreLeaves s t h.core a (leBytes n v) ∧ gget (getCore t h.core) 15 = sp := by
  obtain rfl := Host.Outcome.next.inj (ht.symm.trans hx)
  refine ⟨store_leaves hm (accessLen_leBytes hn v) (by rwa [leBytes_length]) (f := fun k => gset k 15 sp)
    (fun k => ⟨rfl, rfl, fun g hg => mget_mset_ne _ _ _ _ (by omega)⟩) pc, ?_⟩
  rw [getCore_landed, getCore_retire]
  exact mget_mset_self ..

/-- Settles O58: each store is the one that O10 gives, whose frame is that of a store. -/
theorem storeFrame : Obligations.StoreFrame := by
  intro h wide d r disp dw imm s t k ea len n sp frame hm
  obtain ⟨hb, hh, hw, hi, hp⟩ := storeResults h wide d r disp dw imm s
  refine ⟨fun hr ho ht => ?_, fun hr ho ht => ?_, fun hr ho hd ht => ?_, fun hr ho ht => ?_, fun hr ho hd ht => ?_⟩
  · exact store_keeps hm (.inl rfl) ho (hb hr ho) ht
  · exact store_keeps hm (.inr (.inl rfl)) ho (hh hr ho) ht
  · exact store_keeps hm (accessLen_wordLen wide) ho (hw hr ho hd) ht
  · exact store_keeps hm (accessLen_wordLen wide) ho (hi hr ho) ht
  · exact push_leaves hm (accessLen_wordLen wide) ho (hp hr ho hd) ht

end Sys2Proof.Machine
end

/-! PROOFS. The coprocessor instructions: submissions and tickets (R325 to R329), tallies (R330) and tills (R331, R379, R380). -/

section
/-! ### Submissions and tickets (R325 to R329) -/

namespace Sys2Proof.Machine

open Sys2Proof

/-- A coprocessor instruction whose bytes may be fetched runs its body once the buffer has drained. -/
theorem cpInsn_runs {s : State} {h : Head} {len : Nat} (hr : Runs s h (len + b2n h.check)) (body : State → Core → Word → State) :
    cpInsn s h len body = body (drain s h.core) (getCore (drain s h.core) h.core) (nextPc s h (len + b2n h.check)) :=
  insn_runs hr _

/-- The state with a core's ticket `t` pending for the job numbered by the counter of free values. -/
def ticketed (s : State) (c : CoreId) (t : Nat) : State :=
  setCore { s with fresh := s.fresh + 1 } c
    { getCore s c with
      tickets := mset none (getCore s c).tickets t (some { dom := domOf (getCore s c), id := s.fresh, status := none }) }

/-- A submission that every check lets through: the unit holds the job, and the register reads ACCEPTED with the ticket. -/
theorem cpSubmitJob_taken {s s2 : State} {h : Head} {d r : Gpr} {size off t : Nat} {blk : Bytes}
    {unit : State → JobSrc → Nat → Bytes → Admit}
    (hr : Runs s h (3 + b2n h.check)) (ha : (gget (getCore (drain s h.core) h.core) r.val).toNat % 16 = 0)
    (hs : rangeSram (gget (getCore (drain s h.core) h.core) r.val).toNat (off + 16) = true)
    (ht : freeTicket (getCore (drain s h.core) h.core) = some t)
    (hb : cpBlock (ticketed (drain s h.core) h.core t) (domOf (getCore (drain s h.core) h.core))
      (gget (getCore (drain s h.core) h.core) r.val).toNat size = (ticketed (drain s h.core) h.core t, .inr blk))
    (hu : unit (ticketed (drain s h.core) h.core t)
      (.cp h.core (drain s h.core).fresh (gget (getCore (drain s h.core) h.core) r.val).toNat)
      (domOf (getCore (drain s h.core) h.core)) blk = .taken s2) :
    cpSubmitJob s h d r size off unit = cpRet s2 h d.val (resultWord t 0) (nextPc s h (3 + b2n h.check)) := by
  -- `cpBlock` is named by a variable, so that no reduction runs it on a state that is not known
  obtain ⟨block, hblock⟩ : ∃ block, block = cpBlock := ⟨_, rfl⟩
  unfold ticketed at hb hu
  rw [cpSubmitJob, cpInsn_runs hr]
  rw [← hblock] at hb ⊢
  simp [ha, hs, ht, fresh, hb, hu]

/-- WAIT and POLL of a done ticket of the core's own domain give its status and free it. -/
theorem cpCollect_done {s : State} {h : Head} {r : Gpr} {tk : Ticket} {st : Byte} (hr : Runs s h (3 + b2n h.check))
    (ht : mget none (getCore (drain s h.core) h.core).tickets (fld (gget (getCore (drain s h.core) h.core) r.val) 3 0) = some tk)
    (hd : tk.dom = domOf (getCore (drain s h.core) h.core)) (hst : tk.status = some st) (d : Gpr) (waits : Bool) :
    let s0 := drain s h.core
    let k := getCore s0 h.core
    let t := fld (gget k r.val) 3 0
    let s' := setCore s0 h.core { k with tickets := mset none k.tickets t none }
    cpCollect s h d r waits = retire s' h.core
      (gset (getCore s' h.core) d.val (word (0x80000000 + t * 0x100 + st.toNat))) (nextPc s h (3 + b2n h.check)) := by
  simp [cpCollect, cpInsn_runs hr, ht, hd, hst, cpRet, resultWord]

/-- POLL of a pending ticket of the core's own domain reads 0. -/
theorem cpCollect_pending {s : State} {h : Head} {r : Gpr} {tk : Ticket} (hr : Runs s h (3 + b2n h.check))
    (ht : mget none (getCore (drain s h.core) h.core).tickets (fld (gget (getCore (drain s h.core) h.core) r.val) 3 0) = some tk)
    (hd : tk.dom = domOf (getCore (drain s h.core) h.core)) (hst : tk.status = none) (d : Gpr) :
    cpCollect s h d r false = cpRet (drain s h.core) h d.val 0 (nextPc s h (3 + b2n h.check)) := by
  simp [cpCollect, cpInsn_runs hr, ht, hd, hst]

/-- A seal request of MC that is accepted. -/
theorem doCp2Seal_accepted {s s2 : State} {h : Head} {r : Gpr} (hr : Runs s h (3 + b2n h.check)) (hc : h.core = .mc)
    (hq : sealRequest (drain s h.core) (fld (gget (getCore (drain s h.core) h.core) r.val) 3 0) = some s2) (d : Gpr) :
    doCp2Seal h d r s = cpRet s2 h d.val stOK (nextPc s h (3 + b2n h.check)) := by
  rw [doCp2Seal, cpInsn_runs hr, if_neg (not_not_intro hc), hq]

/-- The oldest ended job makes its ticket done. -/
theorem doTicketDone_cons {s : State} {e : TickEnd} {rest : List TickEnd} (hq : s.tickq = e :: rest) :
    doTicketDone s = tickEnd { s with tickq := rest } e := by
  simp [doTicketDone, hq]

/-- Settles O12: a submission is one job handed to its unit; WAIT, POLL and SEAL come down to one result. -/
theorem coprocessorJobs : Obligations.CoprocessorJobs := by
  constructor
  · intro h d r s t size off blk s0 k a dom s1 accepts hr ha hs ht hb
    refine ⟨?_, ?_⟩
    · rintro rfl rfl
      exact ⟨fun s2 hu => lands (exec_vcmd ..) (cpSubmitJob_taken hr ha hs ht hb hu),
        fun s2 hu => lands (exec_lsign ..) (cpSubmitJob_taken hr ha hs ht hb hu)⟩
    · rintro rfl rfl
      exact ⟨fun s2 hu => lands (exec_ajob ..) (cpSubmitJob_taken hr ha hs ht hb hu),
        fun s2 hu => lands (exec_hjob ..) (cpSubmitJob_taken hr ha hs ht hb hu),
        fun s2 hu => lands (exec_bjob ..) (cpSubmitJob_taken hr ha hs ht hb hu)⟩
  · intro h d r cp s s2 tk st e rest s0 k t reads
    refine ⟨fun hr ht hd => ⟨fun hst => ⟨?_, ?_⟩, fun hst => ?_⟩, fun hr hc hq => ?_, fun hq => ?_⟩
    · exact lands (exec_tickWait ..) (cpCollect_done hr ht hd hst d true)
    · exact lands (exec_tickPoll ..) (cpCollect_done hr ht hd hst d false)
    · exact lands (exec_tickPoll ..) (cpCollect_pending hr ht hd hst d)
    · exact lands (exec_cp2Seal ..) (doCp2Seal_accepted hr hc hq d)
    · exact lands (exec_ticketDone ..) (doTicketDone_cons hq)

end Sys2Proof.Machine
end

section
/-! ### Tallies and tills (R330, R331, R379, R380) -/

namespace Sys2Proof.Machine

open Sys2Proof

/-- A tally instruction of MC runs its body with the tally that the register names. -/
theorem cp4_runs {s : State} {h : Head} {len : Nat} (hr : Runs s h (len + b2n h.check)) (hc : h.core = .mc) (r : Gpr)
    (body : State → Core → Word → Nat → State) :
    cp4 s h len r body = body (drain s h.core) (getCore (drain s h.core) h.core) (nextPc s h (len + b2n h.check))
      (fld (gget (getCore (drain s h.core) h.core) r.val) 7 0) := by
  rw [cp4, cpInsn_runs hr, if_neg (not_not_intro hc)]

/-- SNAP of a page whose snapshot is not pending. -/
theorem doCpSnap_free {s : State} {h : Head} {r : Gpr} (hr : Runs s h (3 + b2n h.check)) (hc : h.core = .mc)
    (hp : bit (rd (drain s h.core) (Reg.TAL_SNAPSTAT + 4096 * (fld (gget (getCore (drain s h.core) h.core) r.val) 7 0 / 64))) 30 = false)
    (d : Gpr) :
    let n := fld (gget (getCore (drain s h.core) h.core) r.val) 7 0
    doCpSnap h d r s = cpRet (snapStart (drain s h.core) (n / 64) (n % 64)) h d.val stOK (nextPc s h (3 + b2n h.check)) := by
  simp [doCpSnap, cp4_runs hr hc, hp]

/-- SNAPW of a snapshot that is held. -/
theorem doSnapw_held {s : State} {h : Head} {r : Gpr} (hr : Runs s h (3 + b2n h.check)) (hc : h.core = .mc)
    (hp : bit (rd (drain s h.core) (Reg.TAL_SNAPSTAT + 4096 * (fld (gget (getCore (drain s h.core) h.core) r.val) 7 0 / 64))) 30 = false)
    (hv : bit (rd (drain s h.core) (Reg.TAL_SNAPSTAT + 4096 * (fld (gget (getCore (drain s h.core) h.core) r.val) 7 0 / 64))) 31 = true)
    (hn : fld (rd (drain s h.core) (Reg.TAL_SNAPSTAT + 4096 * (fld (gget (getCore (drain s h.core) h.core) r.val) 7 0 / 64))) 5 0 =
      fld (gget (getCore (drain s h.core) h.core) r.val) 7 0 % 64) (d : Gpr) :
    doSnapw h d r s = cpRet (drain s h.core) h d.val stOK (nextPc s h (3 + b2n h.check)) := by
  simp [doSnapw, cp4_runs hr hc, hp, hv, hn]

/-- PRESETW of a preset that has ended. -/
theorem doPresetw_ended {s : State} {h : Head} {r : Gpr} (hr : Runs s h (3 + b2n h.check)) (hc : h.core = .mc)
    (hp : bit (rd (drain s h.core) (Reg.TAL_PRESTAT + 4096 * (fld (gget (getCore (drain s h.core) h.core) r.val) 7 0 / 64))) 31 = false)
    (d : Gpr) :
    doPresetw h d r s = cpRet (drain s h.core) h d.val
      (rd (drain s h.core) (Reg.TAL_CARRY + 4096 * (fld (gget (getCore (drain s h.core) h.core) r.val) 7 0 / 64))).toNat
      (nextPc s h (3 + b2n h.check)) := by
  simp [doPresetw, cp4_runs hr hc, hp]

/-- PRESET of a page whose preset is not pending. -/
theorem doCpPreset_free {s : State} {h : Head} {d r : Gpr} {target : BitVec 8} (hr : Runs s h (4 + b2n h.check)) (hc : h.core = .mc)
    (hp : bit (rd (drain s h.core) (Reg.TAL_PRESTAT + 4096 * (fld (gget (getCore (drain s h.core) h.core) d.val) 7 0 / 64))) 31 = false)
    (ht : target.toNat ≤ 2) (hs : r.val ≤ 13) :
    let s0 := drain s h.core
    let k := getCore s0 h.core
    let m := fld (gget k d.val) 7 0
    doCpPreset h d r target s = cpRet (presetStart ((List.range 3).foldl (fun s j =>
      storeReg s .mc (Reg.TAL_PREVAL + 4096 * (m / 64) + 4 * j) (gget k (r.val + j))) s0) (m / 64) (m % 64) target.toNat)
      h d.val stOK (nextPc s h (4 + b2n h.check)) := by
  have hlegal : (2 < target.toNat || 13 < r.val) = false := by simp [ht, hs]
  simp [doCpPreset, cp4_runs hr hc, hlegal, hp]

/-- A till instruction that the till permits, with an even pair if it has one, runs its body. -/
theorem cp5_runs {s : State} {h : Head} {pair : Option Gpr} {r : Gpr} {may : State → Nat → Bool} (hr : Runs s h (3 + b2n h.check))
    (hp : ∀ d ∈ pair, d.val % 2 = 0)
    (hm : may (drain s h.core) (fld (gget (getCore (drain s h.core) h.core) r.val) 6 0) = true) (write : Bool)
    (body : State → Core → Word → Nat → State) :
    cp5 s h pair r write may body = body (drain s h.core) (getCore (drain s h.core) h.core) (nextPc s h (3 + b2n h.check))
      (fld (gget (getCore (drain s h.core) h.core) r.val) 6 0) := by
  have heven : (pair.map fun d => d.val % 2) ≠ some 1 := by
    cases pair with
    | none => simp
    | some d => simp [hp d rfl]
  rw [cp5, cpInsn_runs hr]
  simp [heven, hm]

/-- PUSH and PUSHL that need not wait. -/
theorem cpPush_now {s : State} {h : Head} {d r : Gpr} (hr : Runs s h (3 + b2n h.check))
    (hm : pushMay h.core (drain s h.core) (fld (gget (getCore (drain s h.core) h.core) r.val) 6 0) = true) (hd : d.val % 2 = 0)
    (hw : tillPushWaits (drain s h.core) (fld (gget (getCore (drain s h.core) h.core) r.val) 6 0) (openerOf h.core) = false)
    (last : Bool) :
    let s0 := drain s h.core
    let k := getCore s0 h.core
    let put := tillPush s0 (fld (gget k r.val) 6 0) (openerOf h.core) (BitVec.ofNat 64 (dget k true d.val)) last
    cpPush s h d r last = retire put h.core (getCore put h.core) (nextPc s h (3 + b2n h.check)) := by
  rw [cpPush, cp5_runs hr (by simp [hd]) hm]
  simp [hw]

/-- POP and POPW of a till that holds a word. -/
theorem cpPop_word {s : State} {h : Head} {d r : Gpr} {w : DWord} {last : Bool} {x : Till} (hr : Runs s h (3 + b2n h.check))
    (hm : popMay h.core (drain s h.core) (fld (gget (getCore (drain s h.core) h.core) r.val) 6 0) = true) (hd : d.val % 2 = 0)
    (ht : tillTake (getTill (drain s h.core) (fld (gget (getCore (drain s h.core) h.core) r.val) 6 0)) = some (w, last, x))
    (waits : Bool) :
    cpPop s h d r waits = cpTook (tillTaken (drain s h.core) (fld (gget (getCore (drain s h.core) h.core) r.val) 6 0) x) h d w false last
      (nextPc s h (3 + b2n h.check)) := by
  rw [cpPop, cp5_runs hr (by simp [hd]) hm]
  simp [ht]

/-- POP of an empty till. -/
theorem cpPop_empty {s : State} {h : Head} {d r : Gpr} (hr : Runs s h (3 + b2n h.check))
    (hm : popMay h.core (drain s h.core) (fld (gget (getCore (drain s h.core) h.core) r.val) 6 0) = true) (hd : d.val % 2 = 0)
    (ht : tillTake (getTill (drain s h.core) (fld (gget (getCore (drain s h.core) h.core) r.val) 6 0)) = none) :
    let t := fld (gget (getCore (drain s h.core) h.core) r.val) 6 0
    cpPop s h d r false = cpTook (tillRaise (drain s h.core) t 1) h d (getTill (drain s h.core) t).last true false
      (nextPc s h (3 + b2n h.check)) := by
  rw [cpPop, cp5_runs hr (by simp [hd]) hm]
  simp [ht]

/-- LEVEL of an enabled till that its producer field does not reserve. -/
theorem doTillLevel_open {s : State} {h : Head} {r : Gpr} (hr : Runs s h (3 + b2n h.check))
    (hm : tillMay (drain s h.core) h.core (fld (gget (getCore (drain s h.core) h.core) r.val) 6 0) false = true)
    (he : bit (tillCfg (drain s h.core) (fld (gget (getCore (drain s h.core) h.core) r.val) 6 0)) 31 = true)
    (hp : tillProd (drain s h.core) (fld (gget (getCore (drain s h.core) h.core) r.val) 6 0) ≠ 3) (d : Gpr) :
    doTillLevel h d r s = cpRet (drain s h.core) h d.val
      (tillWords (getTill (drain s h.core) (fld (gget (getCore (drain s h.core) h.core) r.val) 6 0))) (nextPc s h (3 + b2n h.check)) := by
  rw [doTillLevel, cp5_runs hr (by simp) hm]
  simp [he, hp]

/-- Settles O13: the tally instructions past their busy bits, the till instructions past the till's checks. -/
theorem tallyAndTillInstructions : Obligations.TallyAndTillInstructions := by
  constructor
  · intro h d r target s s0 k n m reads hc
    refine ⟨fun hr hp => ⟨?_, fun hv hn => ?_⟩, fun hr hp => ?_, fun hr hp ht hs => ?_⟩
    · exact lands (exec_cpSnap ..) (doCpSnap_free hr hc hp d)
    · exact lands (exec_snapw ..) (doSnapw_held hr hc hp hv hn d)
    · exact lands (exec_presetw ..) (doPresetw_ended hr hc hp d)
    · exact lands (exec_cpPreset ..) (doCpPreset_free hr hc hp ht hs)
  · intro h d r s w last x s0 k t o ends takes hr
    refine ⟨fun hm hd hw => ⟨?_, ?_⟩, fun hm => ?_, fun hm hd => ⟨fun ht => ⟨?_, ?_⟩, fun ht => ?_⟩, fun hm he hp => ?_⟩
    · exact lands (exec_cp5Push ..) (cpPush_now hr hm hd hw false)
    · exact lands (exec_pushl ..) (cpPush_now hr hm hd hw true)
    · exact lands (exec_rewind ..) (cp5_runs hr (by simp) hm ..)
    · exact lands (exec_cp5Pop ..) (cpPop_word hr hm hd ht false)
    · exact lands (exec_popw ..) (cpPop_word hr hm hd ht true)
    · exact lands (exec_cp5Pop ..) (cpPop_empty hr hm hd ht)
    · exact lands (exec_tillLevel ..) (doTillLevel_open hr hm he hp d)

end Sys2Proof.Machine
end

/-! PROOFS. Register pages: the access codes (R36 to R39), the common header (R40 to R51), ownership (R48, R49), the event router
(R54 to R58) and the host's accesses (R30 to R33). -/

section
/-! ### Access codes (R36 to R39) -/

namespace Sys2Proof.Machine

open Sys2Proof

/-- The value that a write leaves in the writable bits of a register. -/
def storedValue (s : State) (a : Nat) (v mask : Word) : Word := (rd s a &&& ~~~ mask) ||| (v &&& mask)

/-- A store into a register by its access code. -/
theorem storeReg_coded {a page off : Nat} {code : Code} {mask : Word} (hp : a / 4096 = page) (ho : a % 4096 = off)
    (hc : codeOf page off = some (code, mask)) (s : State) (i : Initiator) (v : Word) :
    storeReg s i a v = match (generalizing := false) code with
      | .rw | .rwm => wr s a (storedValue s a v mask)
      | .wo => wr s a (v &&& mask)
      | .ro => noteErr s i page off (if off = Off.OWNER && hasHeader page then 5 else 6) true
      | .w1c => wr s a (rd s a &&& ~~~ (v &&& mask))
      | .w1s => wr s (setTarget a) (rd s (setTarget a) ||| (v &&& mask))
      | .rwl => if locked s page then noteErr s i page off 4 true else wr s a (storedValue s a v mask)
      | .rws =>
        if locked s page then noteErr s i page off 4 true
        else wrBit { wr s a (storedValue s a v mask) with shadow := mset (~~~ (resetVal a)) s.shadow a (~~~ (storedValue s a v mask)) }
          (hdr page Off.SHADOW_STAT) (rwsIndex a) false := by
  subst hp ho
  unfold storeReg
  simp only [hc]
  cases code <;> rfl

/-- A permitted write of a register that only stores. -/
theorem doRegisterWrite_stores {s : State} {i : Initiator} {a : Nat} (h : MayStore s i a) (hs : StoresOnly a) (v : Word) :
    doRegisterWrite i a v s = storeReg s i a v :=
  (busWrite_open h v).trans (hs s i v)

/-- Settles O14: a register that only stores takes the write by its access code. -/
theorem registerCodes : Obligations.RegisterCodes := by
  intro i a v code mask s page off old new makes hm
  refine ⟨fun hc => lands (exec_registerWrite ..) ((busWrite_open hm v).trans (writeReg_reserved hc ..)), fun hc hs => ?_⟩
  have stores := (doRegisterWrite_stores hm hs v).trans (storeReg_coded rfl rfl hc s i v)
  refine ⟨?_, ?_, ?_, ?_, ?_, ?_, ?_⟩
  · rintro (rfl | rfl) <;> exact lands (exec_registerWrite ..) stores
  · rintro rfl ho
    have : ¬ (decide (a % 4096 = Off.OWNER) && hasHeader (a / 4096)) = true := by simpa using ho
    exact lands (exec_registerWrite ..) (stores.trans (by simp only [this] <;> rfl))
  · rintro rfl
    exact lands (exec_registerWrite ..) stores
  · rintro rfl
    exact lands (exec_registerWrite ..) stores
  · rintro (rfl | rfl) hl <;> exact lands (exec_registerWrite ..) (stores.trans (if_pos hl))
  · rintro rfl hl
    exact lands (exec_registerWrite ..) (stores.trans (if_neg (by simp [page] at hl; simp [hl])))
  · rintro rfl hl
    exact lands (exec_registerWrite ..) (stores.trans (if_neg (by simp [page] at hl; simp [hl])))

end Sys2Proof.Machine
end

section
/-! ### The common header (R40 to R51) -/

namespace Sys2Proof.Machine

open Sys2Proof

/-- The codes of the header registers that every page has. -/
theorem codeOf_header {page : Nat} {p : PageRow} (hh : hasHeader page = true) (hp : pageRow? page = some p) :
    codeOf page Off.EVT_RAW = some (.w1c, 0xFFFFFFFF#32) ∧ codeOf page Off.EVT_SET = some (.w1s, 0x1FFFFFFF#32) ∧
      codeOf page Off.LOCK = some (.w1s, 1#32) ∧ codeOf page Off.ERRINFO = some (.w1c, 0xC0000000#32) ∧
      codeOf page Off.OWNER = some ((if p.owner = .assigned then .rw else .ro), 0x3F#32) := by
  simp [codeOf, hh, hp, Off.EVT_RAW, Off.EVT_SET, Off.LOCK, Off.ERRINFO, Off.OWNER]

/-- A permitted write of a header register goes by `writeHeader`. -/
theorem busWrite_header {s : State} {i : Initiator} {page off : Nat} {cm : Code × Word} (hm : MayStore s i (hdr page off))
    (hh : hasHeader page = true) (ho : off < 0x80) (hc : codeOf page off = some cm) (v : Word) :
    busWrite s i (hdr page off) v = writeHeader s i page off v := by
  have hoff : off < 4096 := by omega
  rw [busWrite_open hm]
  simp [writeReg, hdr_div hoff, hdr_mod hoff, hc, hh, ho]

/-- A store into a header register by its access code. -/
theorem storeReg_header {page off : Nat} {code : Code} {mask : Word} (ho : off < 0x80) (hc : codeOf page off = some (code, mask))
    (s : State) (i : Initiator) (v : Word) :
    (code = .w1c → storeReg s i (hdr page off) v = wr s (hdr page off) (rd s (hdr page off) &&& ~~~ (v &&& mask))) ∧
      (code = .w1s → storeReg s i (hdr page off) v =
        wr s (setTarget (hdr page off)) (rd s (setTarget (hdr page off)) ||| (v &&& mask))) := by
  have hoff : off < 4096 := by omega
  exact ⟨fun h => by subst h; exact storeReg_coded (hdr_div hoff) (hdr_mod hoff) hc s i v, fun h => by subst h; exact storeReg_coded (hdr_div hoff) (hdr_mod hoff) hc s i v⟩

/-- A clear of EN on a page that is no port. -/
theorem doCtrlEnClear_enabled {s : State} {i : Initiator} {page : Nat} (he : isEngine page = true) (hm : MayStore s i (hdr page Off.CTRL))
    (hen : enabled s page = true) (hp : ¬ (0x40 ≤ page ∧ page < 0x44)) :
    doCtrlEnClear i page s = quiesced { s with enOff := linsert page s.enOff } page := by
  rw [doCtrlEnClear, guardW_open hm, if_pos he]
  simp [setEn, hen, hp]

/-- A page at rest with nothing in flight is QUIESCED; a pending clear of EN takes effect. -/
theorem quiesced_idle {s : State} {page : Nat} (hr : resting s page = true) (hb : pageBusy s page = false) :
    quiesced s page = if lmem page s.enOff then
      wrBit { wrBit s (hdr page Off.STAT) 2 true with enOff := lerase page s.enOff } (hdr page Off.CTRL) 0 false
      else wrBit s (hdr page Off.STAT) 2 true :=
  if_neg (by simp [hr, hb])

/-- The end of a self-test. -/
theorem doSelftestDone_idle {s : State} {page : Nat} (he : isEngine page = true) (ht : bit (rd s (hdr page Off.CTRL)) 2 = true)
    (hb : pageBusy s page = false) (pass : Bool) : doSelftestDone page pass s = endTest s page pass := by
  simp [doSelftestDone, he, ht, hb]

/-- All bits of a word. -/
theorem and_ones (v : Word) : v &&& 0xFFFFFFFF#32 = v := BitVec.and_allOnes

/-- Causes of the header are cleared by 1s, HOLD of the intake kept while it holds. -/
theorem clearEvt_header {page : Nat} (hc : codeOf page Off.EVT_RAW = some (.w1c, 0xFFFFFFFF#32)) (s : State) (i : Initiator) (v : Word) :
    let t := wr s (hdr page Off.EVT_RAW) (rd s (hdr page Off.EVT_RAW) &&& ~~~ v)
    clearEvt s i (hdr page Off.EVT_RAW) v =
      if page = 0x18 ∧ intakeHold t = true then wrBit t (hdr page Off.EVT_RAW) 0 true else t := by
  intro t
  have hs : storeReg s i (hdr page Off.EVT_RAW) v = t := by
    rw [(storeReg_header (by decide) hc s i v).1 rfl, and_ones]
  have ht : hdr page Off.EVT_RAW ≠ Reg.TMP_EVRAW := by simp only [hdr, Off.EVT_RAW, Reg.TMP_EVRAW]; omega
  have hp : hdr page Off.EVT_RAW = hdr 0x18 Off.EVT_RAW ↔ page = 0x18 := by simp only [hdr, Off.EVT_RAW]; omega
  simp only [clearEvt, hs, ht, hp, decide_false, Bool.false_and, Bool.false_eq_true, if_false, Bool.and_eq_true, decide_eq_true_eq]
  split
  · next h => obtain ⟨rfl, -⟩ := h; rfl
  · rfl

/-- A header register is its own home. -/
theorem canon_header {page off : Nat} (hh : hasHeader page = true) (ho : off < 4096) : canon (hdr page off) = hdr page off := by
  have hp : ¬ (0x100 ≤ page ∧ page < 0x140) := by
    simp only [hasHeader, Bool.or_eq_true, decide_eq_true_eq, beq_iff_eq] at hh
    omega
  simp [canon, hdr_div ho, hp]

/-- A clear of header causes, with those that hardware sets in the same cycle. -/
theorem doEvtRawClear_header {s : State} {i : Initiator} {page : Nat} (hh : hasHeader page = true)
    (hm : MayStore s i (hdr page Off.EVT_RAW)) (clr hw : Word) :
    let t := wr s (hdr page Off.EVT_RAW) (rd s (hdr page Off.EVT_RAW) &&& ~~~ clr)
    let t' := if page = 0x18 ∧ intakeHold t = true then wrBit t (hdr page Off.EVT_RAW) 0 true else t
    doEvtRawClear i (hdr page Off.EVT_RAW) clr hw s = wr t' (hdr page Off.EVT_RAW) (rd t' (hdr page Off.EVT_RAW) ||| hw) := by
  intro t t'
  obtain ⟨p, hp⟩ := mayStore_row hm
  rw [hdr_div (by decide)] at hp
  have hc := (codeOf_header hh hp).1
  have hw' : busWrite s i (hdr page Off.EVT_RAW) clr = t' := by
    rw [busWrite_header hm hh (by decide) hc]
    exact clearEvt_header hc s i clr
  have he : isEvtRaw (hdr page Off.EVT_RAW) = true := by
    simp [isEvtRaw, hdr_div (page := page) (off := Off.EVT_RAW) (by decide), hdr_mod (page := page) (off := Off.EVT_RAW) (by decide), hh]
  have hmask : maskedFor (hdr page Off.EVT_RAW) hw = hw := by
    simp [maskedFor, hdr_div (page := page) (off := Off.EVT_RAW) (by decide), hdr_mod (page := page) (off := Off.EVT_RAW) (by decide), hc, and_ones]
  simp [doEvtRawClear, he, canon_header hh (show Off.EVT_RAW < 4096 by decide), hw', hmask, upd]

/-- A header register that starts nothing takes a permitted write by its code. -/
theorem busWrite_header_stores {s : State} {i : Initiator} {page off : Nat} {cm : Code × Word} (hh : hasHeader page = true)
    (hm : MayStore s i (hdr page off)) (ho : off < 0x80) (hc : codeOf page off = some cm) (h1 : off ≠ Off.CTRL) (h2 : off ≠ Off.EVT_RAW)
    (h3 : off ≠ Off.OWNER) (v : Word) : busWrite s i (hdr page off) v = storeReg s i (hdr page off) v := by
  rw [busWrite_header hm hh ho hc, writeHeader, if_neg h1, if_neg h2, if_neg h3]

/-- The register that a write of a header register with code W1S sets bits in. -/
theorem setTarget_header {page : Nat} (hh : hasHeader page = true) :
    setTarget (hdr page Off.EVT_SET) = hdr page Off.EVT_RAW ∧ setTarget (hdr page Off.LOCK) = hdr page Off.LOCK := by
  have h1 : hdr page 0x20 ≠ Reg.EVR_SWDB_SET := by simp only [hdr, Reg.EVR_SWDB_SET]; omega
  constructor
  · simp [setTarget, hdr_div (page := page) (off := Off.EVT_SET) (by decide), hdr_mod (page := page) (off := Off.EVT_SET) (by decide), hh]
  · simp [setTarget, hdr_div (page := page) (off := Off.LOCK) (by decide), hdr_mod (page := page) (off := Off.LOCK) (by decide), h1, show Off.LOCK = 0x20 from rfl]

/-- A test write sets header causes. -/
theorem doEvtSet_header {s : State} {i : Initiator} {page : Nat} (hh : hasHeader page = true) (hm : MayStore s i (hdr page Off.EVT_SET))
    (v : Word) : doEvtSet i (hdr page Off.EVT_SET) v s =
      wr s (hdr page Off.EVT_RAW) (rd s (hdr page Off.EVT_RAW) ||| (v &&& 0x1FFFFFFF#32)) := by
  obtain ⟨p, hp⟩ := mayStore_row hm
  rw [hdr_div (by decide)] at hp
  have hc := (codeOf_header hh hp).2.1
  have hne : setTarget (hdr page Off.EVT_SET) ≠ hdr page Off.EVT_SET ∧ hdr page Off.EVT_SET ≠ Reg.EVR_SWDB_SET := by
    rw [(setTarget_header hh).1]
    simp only [hdr, Off.EVT_SET, Off.EVT_RAW, Reg.EVR_SWDB_SET]
    omega
  rw [doEvtSet, if_pos (by simpa using hne), busWrite_header_stores hh hm (by decide) hc (by decide) (by decide) (by decide),
    (storeReg_header (by decide) hc s i v).2 rfl, (setTarget_header hh).1]

/-- A write of LOCK sets it. -/
theorem doLockWrite_header {s : State} {i : Initiator} {page : Nat} (hh : hasHeader page = true) (hm : MayStore s i (hdr page Off.LOCK)) :
    doLockWrite i page s = wr s (hdr page Off.LOCK) (rd s (hdr page Off.LOCK) ||| 1#32) := by
  obtain ⟨p, hp⟩ := mayStore_row hm
  rw [hdr_div (by decide)] at hp
  have hc := (codeOf_header hh hp).2.2.1
  rw [doLockWrite, if_pos hh, busWrite_header_stores hh hm (by decide) hc (by decide) (by decide) (by decide),
    (storeReg_header (by decide) hc s i _).2 rfl, (setTarget_header hh).2]
  rfl

/-- A write of ERRINFO clears the bits written as 1. -/
theorem doErrinfoClear_header {s : State} {i : Initiator} {page : Nat} (hh : hasHeader page = true)
    (hm : MayStore s i (hdr page Off.ERRINFO)) (v : Word) :
    doErrinfoClear i page v s = wr s (hdr page Off.ERRINFO) (rd s (hdr page Off.ERRINFO) &&& ~~~ (v &&& 0xC0000000#32)) := by
  obtain ⟨p, hp⟩ := mayStore_row hm
  rw [hdr_div (by decide)] at hp
  have hc := (codeOf_header hh hp).2.2.2.1
  rw [doErrinfoClear, errReg, if_pos hh, busWrite_header_stores hh hm (by decide) hc (by decide) (by decide) (by decide),
    (storeReg_header (by decide) hc s i v).1 rfl]

/-- A mismatch of the two copies of an RWS register. -/
theorem doShadowMismatch_seen {s : State} {addr : Nat} {prim shad m : Word} (hc : codeOf (addr / 4096) (addr % 4096) = some (.rws, m))
    (hne : shad ≠ ~~~ prim) (ha : awake s = true) :
    let page := addr / 4096
    let s1 := { wr s addr prim with shadow := mset (~~~ (resetVal addr)) s.shadow addr shad }
    let s2 := wrBit (wrBit s1 (hdr page Off.SHADOW_STAT) (rwsIndex addr) true) (hdr page Off.EVT_RAW) 30 true
    doShadowMismatch addr prim shad s = if bit (rd s (hdr page Off.SHADOW_STAT)) (rwsIndex addr) = true then s2 else detect s2 29 := by
  simp only [doShadowMismatch, hc, hne, ha, decide_false, Bool.not_true, Bool.or_false, Bool.false_eq_true, if_false] <;> rfl

/-- Settles O16: the header's controls come down to rest, its registers to their access codes. -/
theorem headerRegisters : Obligations.HeaderRegisters := by
  constructor
  · intro i page on pass s ctrl stat makes he
    refine ⟨fun hm => ⟨fun hen hp => ?_, ?_, ?_⟩, fun hr hb hl => ?_, fun hr hb hl => ?_, fun ht hb hn => ?_, fun ht hb hn => ?_⟩
    · exact lands (exec_ctrlEnClear ..) (doCtrlEnClear_enabled he hm hen hp)
    · exact lands (exec_quiesce ..) ((guardW_open hm _).trans (if_pos he))
    · exact lands (exec_selftest ..) ((guardW_open hm _).trans (if_pos he))
    · exact lands (exec_quiescedReached ..) ((if_pos he).trans ((quiesced_idle hr hb).trans (if_neg (by simp [hl]))))
    · exact lands (exec_quiescedReached ..) ((if_pos he).trans ((quiesced_idle hr hb).trans (if_pos hl)))
    · exact lands (exec_selftestDone ..) ((doSelftestDone_idle he ht hb pass).trans (by simp [endTest, hn, ctrl, stat, setQuiesced]))
    · exact lands (exec_selftestDone ..) ((doSelftestDone_idle he ht hb pass).trans (by simp [endTest, hn, ctrl, stat, setQuiesced]))
  · intro i page v clr hw s raw makes hh
    refine ⟨fun hm => ?_, fun hm => ?_, fun hm => ?_, fun hm => ?_, ?_⟩
    · exact lands (exec_evtRawClear ..) (doEvtRawClear_header hh hm clr hw)
    · exact lands (exec_evtSet ..) (doEvtSet_header hh hm v)
    · exact lands (exec_lockWrite ..) (doLockWrite_header hh hm)
    · exact lands (exec_errinfoClear ..) (doErrinfoClear_header hh hm v)
    · rintro addr prim shad m rfl hc hne ha
      exact lands (exec_shadowMismatch ..) (doShadowMismatch_seen hc hne ha)

end Sys2Proof.Machine
end

section
/-! ### Ownership (R48, R49) -/

namespace Sys2Proof.Machine

open Sys2Proof

/-- A permitted write of OWNER. -/
theorem doOwnerWrite_open {s : State} {i : Initiator} {page : Nat} {p : PageRow} (hh : hasHeader page = true)
    (hp : pageRow? page = some p) (hm : MayStore s i (hdr page Off.OWNER)) (v : Word) : doOwnerWrite i page v s = writeOwner s i page v := by
  have hc := (codeOf_header hh hp).2.2.2.2
  rw [doOwnerWrite, if_pos hh, busWrite_header hm hh (by decide) hc]
  rfl

/-- A write of OWNER of a page that may be assigned and is under no reassignment. -/
theorem writeOwner_assigned {s : State} {page : Nat} {p : PageRow} (hp : pageRow? page = some p) (hpo : p.owner = .assigned)
    (hb : bit (rd s (hdr page Off.OWNER)) 31 = false) (i : Initiator) (v : Word) :
    (fld v 5 0 = 1 → writeOwner s i page v = noteErr s i page Off.OWNER 5 true) ∧
      (fld v 5 0 ≠ 1 → fld v 5 0 = fld (rd s (hdr page Off.OWNER)) 5 0 → writeOwner s i page v = s) ∧
      (fld v 5 0 ≠ 1 → fld v 5 0 ≠ fld (rd s (hdr page Off.OWNER)) 5 0 → page ≠ 0x32 → page ≠ 0x33 →
        writeOwner s i page v =
          wr s (hdr page Off.OWNER) (setBit (setFld (rd s (hdr page Off.OWNER)) 21 16 (fld v 5 0)) 31 true)) := by
  refine ⟨fun h1 => ?_, fun h1 h2 => ?_, fun h1 h2 h3 h4 => ?_⟩
  · simp [writeOwner, hp, hpo, h1]
  · simp [writeOwner, hp, hpo, hb, ← h2, h1]
  · simp [writeOwner, hp, hpo, hb, h1, h2, h3, h4, upd]

/-- The completion of a reassignment that nothing holds back, on a page that carries no address of its own. -/
theorem doOwnerReassignComplete_free {s : State} {page : Nat} (hh : hasHeader page = true)
    (hb : bit (rd s (hdr page Off.OWNER)) 31 = true) (hl : ¬ (0x08 ≤ page ∧ page < 0x0C)) (h1 : page ≠ 0x32) (h2 : page ≠ 0x33)
    (h3 : page ≠ 0x1A) (h4 : page ≠ 0x44) :
    doOwnerReassignComplete page s =
      wr (resetRegs (endOwned s page) fun x => !ownedReg page x) (hdr page Off.OWNER)
        (word (fld (rd s (hdr page Off.OWNER)) 21 16)) := by
  have hl' : (decide (0x08 ≤ page) && decide (page < 0x0C)) = false := by simpa using hl
  simp [doOwnerReassignComplete, hh, hb, hl', h1, h2, h3, h4]

/-- Settles O17: the write notes the new owner, the completion hands the page over. -/
theorem ownerChange : Obligations.OwnerChange := by
  intro i page v p s a makes hh hp hpo
  refine ⟨fun hm hb => ?_, fun hb hl h1 h2 h3 h4 => ?_⟩
  · obtain ⟨hself, hsame, hnew⟩ := writeOwner_assigned hp hpo hb i v
    have hw := doOwnerWrite_open hh hp hm v
    exact ⟨fun h => lands (exec_ownerWrite ..) (hw.trans (hself h)), fun h h' => lands (exec_ownerWrite ..) (hw.trans (hsame h h')),
      fun h h' h1 h2 => lands (exec_ownerWrite ..) (hw.trans (hnew h h' h1 h2))⟩
  · exact lands (exec_ownerReassignComplete ..) (doOwnerReassignComplete_free hh hb hl h1 h2 h3 h4)

end Sys2Proof.Machine
end

section
/-! ### The event router (R54, R55, R58, R304, R577, R582) -/

namespace Sys2Proof.Machine

open Sys2Proof

/-- A claim with no candidate gives 0. -/
theorem claim_none {s : State} {c : CoreId} (h : bestClaim (claimableOf s c) = none) : claim s c = (s, 0#32) := by
  simp [claim, h]

/-- A claim takes the best candidate into service. -/
theorem claim_some {s : State} {c : CoreId} {ev l : Nat} (h : bestClaim (claimableOf s c) = some (ev, l)) :
    claim s c = (setSvc s c (linsert ev (svcOf s c)), word (0x80000000 + l * 0x10000 + ev)) := by
  simp [claim, h]

/-- A read of a claim register that the page permits. -/
theorem claimRead_open {s s' : State} {i : Initiator} {a : Nat} {c : CoreId} {v : Word} (hm : MayLoad s i a) (h : claim s c = (s', v)) :
    guardR s i a (fun s => let (s, v) := claim s c; answer s v) = { s' with out := s'.out ++ [.value v] } := by
  rw [guardR_open hm, h]
  rfl

/-- The routes are registers under LOCK. -/
theorem codeOf_route {k : Nat} (hk : k < 512) : codeOf 3 (0x800 + 4 * k) = some (.rwl, 0xFFFFFFFF#32) := by
  have hhdr : ¬ (0x800 + 4 * k < 0x80) := by omega
  have hrow : regRow? 3 (0x800 + 4 * k) = some ⟨0x3, 1, 0x800, 512, 4, .rwl, 0x0#32, 0xFFFFFFFF#32⟩ := by
    unfold regRow? regRows regRows0
    simp only [List.append_assoc, List.cons_append]
    repeat rw [List.find?_cons_of_neg (by simp; omega)]
    rw [List.find?_cons_of_pos (by simp; omega)]
  simp [codeOf, hhdr, hrow]

/-- A permitted write of a route. -/
theorem busWrite_route {s : State} {i : Initiator} {m : Fin 512} (hm : MayStore s i (Reg.EVR_ROUTE + 4 * m.val)) (v : Word) :
    busWrite s i (Reg.EVR_ROUTE + 4 * m.val) v =
      if locked s 3 then noteErr s i 3 (0x800 + 4 * m.val) 4 true else wr s (Reg.EVR_ROUTE + 4 * m.val) v := by
  have hp : (Reg.EVR_ROUTE + 4 * m.val) / 4096 = 3 := by simp only [Reg.EVR_ROUTE]; omega
  have ho : (Reg.EVR_ROUTE + 4 * m.val) % 4096 = 0x800 + 4 * m.val := by simp only [Reg.EVR_ROUTE]; omega
  have hv : storedValue s (Reg.EVR_ROUTE + 4 * m.val) v 0xFFFFFFFF#32 = v := by
    simp [storedValue, and_ones, show ~~~ (0xFFFFFFFF#32) = 0#32 from rfl]
  have h0 : Reg.EVR_ROUTE + 4 * m.val ≠ Reg.EVR_DONE0 ∧ Reg.EVR_ROUTE + 4 * m.val ≠ Reg.EVR_DONE1 := by
    simp only [Reg.EVR_ROUTE, Reg.EVR_DONE0, Reg.EVR_DONE1]
    omega
  have hst := storeReg_coded hp ho (codeOf_route m.isLt) s i v
  rw [hv] at hst
  refine (busWrite_open hm v).trans (Eq.trans ?_ hst)
  have hoff : ¬ (0x800 + 4 * m.val < 0x80) := by omega
  simp [writeReg, hp, ho, hoff, codeOf_route, writeEvr, h0]

/-- A write of the doorbells of the router, and of the event table of MC. -/
theorem writeReg_swdb (s : State) (i : Initiator) (v : Word) :
    writeReg s i Reg.EVR_SWDB_SET v = wr s Reg.EVR_SWDB (rd s Reg.EVR_SWDB ||| (v &&& 0xFFFF#32)) ∧
      writeReg s i Reg.EVR_SWDB v = wr s Reg.EVR_SWDB (rd s Reg.EVR_SWDB &&& ~~~ (v &&& 0xFFFF#32)) ∧
      writeReg s i Reg.MCC_EDATA v =
        autoinc { s with mcc := { s.mcc with evt := mset 0#32 s.mcc.evt (fld (rd s Reg.MCC_EIDX) 9 0) (maskedFor Reg.MCC_EDATA v) } }
          Reg.MCC_EIDX 10 := by
  refine ⟨?_, ?_, ?_⟩ <;> rfl

/-- Settles O18: claims, DONEs, routes, doorbells and the event table of MC. -/
theorem eventRouter : Obligations.EventRouter := by
  intro i n m v s makes claims dones ac
  refine ⟨fun hm => ⟨fun h => ?_, fun ev l h => ?_⟩, fun hm => ⟨fun h => ?_, fun ev l h => ?_⟩, fun hm => ⟨fun h => ?_, fun h => ?_⟩,
    fun hm => ⟨fun h => ?_, fun h => ?_⟩, fun hm => ⟨fun h => ?_, fun h => ?_⟩, fun hm => ?_, fun hm => ?_, fun hm => ?_, fun hm => ?_⟩
  · exact lands (exec_evrClaim ..) (claimRead_open hm (claim_none h))
  · exact lands (exec_evrClaim ..) (claimRead_open hm (claim_some h))
  · exact lands (exec_mccClaim ..) (claimRead_open hm (claim_none h))
  · exact lands (exec_mccClaim ..) (claimRead_open hm (claim_some h))
  · exact lands (exec_evrDone ..) ((guardW_open hm _).trans (if_pos h))
  · exact lands (exec_evrDone ..) ((guardW_open hm _).trans (if_neg (ne_true_of_eq_false h)))
  · exact lands (exec_mccDone ..) ((guardW_open hm _).trans (if_pos h))
  · exact lands (exec_mccDone ..) ((guardW_open hm _).trans (if_neg (ne_true_of_eq_false h)))
  · exact lands (exec_evrRouteWrite ..) ((busWrite_route hm v).trans (if_neg (ne_true_of_eq_false h)))
  · exact lands (exec_evrRouteWrite ..) ((busWrite_route hm v).trans (if_pos h))
  · exact lands (exec_evrSwdbSet ..) ((busWrite_open hm v).trans (writeReg_swdb s i v).1)
  · exact lands (exec_evrSwdbClear ..) ((busWrite_open hm v).trans (writeReg_swdb s i v).2.1)
  · exact lands (exec_mccSwdbSet ..) (guardW_open hm _)
  · exact lands (exec_autoincDataAccess ..) ((busWrite_open hm v).trans (writeReg_swdb s i v).2.2)

end Sys2Proof.Machine
end

section
/-! ### The host's accesses (R30 to R33, R56, R416) -/

namespace Sys2Proof.Machine

open Sys2Proof

/-- The DWORDs of a host write, each at its place. -/
theorem hostWriteDws_eq_foldl (bar : Bar) (o : Nat) (dws : List (Word × Bool)) (k : Nat) (s : State) :
    hostWriteDws bar (o + 4 * k) dws s =
      (dws.zipIdx k).foldl (fun s x => hostWriteDw s bar (o + 4 * x.2) x.1.1 x.1.2) s := by
  induction dws generalizing k s with
  | nil => rfl
  | cons x rest ih => exact ih (k + 1) _

/-- A DWORD of a host write is recorded and dropped, or written where its offset points. -/
theorem hostWriteDw_eq (s : State) (bar : Bar) (off : Nat) (v : Word) (full : Bool) :
    hostWriteDw s bar off v full = if full = false then noteErr s .pcie 0x140 (off % 4096) 7 true
      else match hostPlace bar off with
        | .reg a => busWrite s .pcie a v
        | .msix k => msixWrite s k v
        | .pba _ => s
        | .reserved => noteErr s .pcie 0x140 (off % 4096) 7 true := by
  cases full <;> rfl

/-- A read of one DWORD with full byte enables, at a place that is not reserved. -/
theorem doHostMemoryRead_one {s s' : State} {bar : Bar} {off : Nat} {v : Word} (hon : hostOn s = true)
    (hp : hostPlace bar (off / 4 * 4) ≠ .reserved) (hd : hostReadDw s bar (off / 4 * 4) = (s', v)) :
    doHostMemoryRead bar off 1 true s = emit s' (.hostData [v]) := by
  simp [doHostMemoryRead, hon, hostReadDws, hd, hp, List.range_succ]

/-- A read of one DWORD at a reserved place is recorded and reads 0. -/
theorem doHostMemoryRead_reserved {s : State} {bar : Bar} {off : Nat} (hon : hostOn s = true)
    (hp : hostPlace bar (off / 4 * 4) = .reserved) :
    doHostMemoryRead bar off 1 true s = emit (hostErr s (off / 4 * 4) false) (.hostData [0#32]) := by
  simp [doHostMemoryRead, hon, hostReadDws, hostReadDw, hp, List.range_succ]

/-- A DWORD of a register of a channel's page that the host may read. -/
theorem hostReadDw_reg {s : State} {bar : Bar} {o a : Nat} (hp : hostPlace bar o = .reg a) (hv : readVerdict s .pcie a = .ok) :
    hostReadDw s bar o = ((readReg s .pcie a).1, (readReg s .pcie a).2) := by
  simp [hostReadDw, hp, hv]

/-- A write of the mask of an MSI-X vector. -/
theorem msixWrite_mask (s : State) (v : Fin 64) (w : Word) :
    msixWrite s (4 * v.val + 3) w =
      msixFlush { s with pcie := { s.pcie with msixTab := mset 1#32 s.pcie.msixTab (4 * v.val + 3) (w &&& 1#32) } } := by
  have h : (4 * v.val + 3) % 4 = 3 := by omega
  simp only [msixWrite, h, if_true, setPcie]

/-- Settles O19: a write is its DWORDs in turn, a read is one register, table entry or reserved offset. -/
theorem hostAccesses : Obligations.HostAccesses := by
  intro bar off dws v masked en fm s o makes tells hon
  refine ⟨?_, fun a hp hv => ?_, fun k hp => ?_, fun k hp => ?_, fun hp => ?_, fun n => ?_, ?_, ?_⟩
  · refine lands (exec_hostMemoryWrite ..) ((if_pos hon).trans ((hostWriteDws_eq_foldl bar o dws 0 s).trans ?_))
    simp only [hostWriteDw_eq] <;> rfl
  · refine lands (exec_hostMemoryRead ..) (doHostMemoryRead_one hon (fun h => HostPlace.noConfusion (hp.symm.trans h)) ?_)
    exact hostReadDw_reg hp hv
  · refine lands (exec_hostMemoryRead ..) (doHostMemoryRead_one hon (fun h => HostPlace.noConfusion (hp.symm.trans h)) ?_)
    simp only [hostReadDw, o] at hp ⊢
    simp only [hp]
  · refine lands (exec_hostMemoryRead ..) (doHostMemoryRead_one hon (fun h => HostPlace.noConfusion (hp.symm.trans h)) ?_)
    simp only [hostReadDw, o] at hp ⊢
    simp only [hp]
  · exact lands (exec_hostMemoryRead ..) (doHostMemoryRead_reserved hon hp)
  · exact lands (exec_hostMemoryRead ..) ((if_neg (by simp [hon])).trans (if_pos rfl))
  · exact lands (exec_msixUnmask ..) (msixWrite_mask s v _)
  · exact lands (exec_msixUnmask ..) rfl

end Sys2Proof.Machine
end

/-! PROOFS. The intake: account commands and checkpoints (R101, R102, R107), frames (R63 to R99). -/

section
/-! ### Account commands and checkpoints (R101, R102, R107) -/

namespace Sys2Proof.Machine

open Sys2Proof

/-- A write of ACC_CMD while no command runs, for an account that no order holds. -/
theorem accCmd_runs {s : State} {i : Initiator} {op a : Nat} (hm : MayStore s i Reg.ACC_CMD) (hb : bit (rd s Reg.ACC_CMDSTAT) 31 = false)
    (ho : op ≠ 0xA ∧ op ≠ 0 ∧ op ≤ 0xC) (hh : acctHeld (wr s Reg.ACC_CMDSTAT 0x80000000#32) a = false) :
    accCmd s i op a = accRun (wr s Reg.ACC_CMDSTAT 0x80000000#32) op a := by
  obtain ⟨h1, h2, h3⟩ := ho
  simp [accCmd, guardW_open hm, hb, h1, h2, hh, Nat.not_lt.mpr h3]

/-- CLRCNT. -/
theorem doClrcnt_runs {s : State} {i : Initiator} (hm : MayStore s i Reg.ACC_CMD) (hb : bit (rd s Reg.ACC_CMDSTAT) 31 = false)
    (a : Fin 1024) :
    doClrcnt i a s = accDone ((List.range 10).foldl (fun s k => wr s (Reg.ACC_CNT + 4 * k) 0#32) (wr s Reg.ACC_CMDSTAT 0x80000000#32))
      stOK := by
  simp [doClrcnt, accCmd, guardW_open hm, hb]

/-- CREATE of a free account under a new address whose chain has room. -/
theorem accCreateRun_new {s : State} {a : Nat} (hv : acctFlag s a 0 = false) (ha : addrHeld s (argAddr s) = false)
    (hc : (chainOf s (localBucket (argAddr s))).length < 8) (hl : (unitLane s 31).isSome = true) :
    let x := accArg s 2
    let r := argAddr s ++ [byte (fld x 4 0), 1#8, byte (fld x 13 8), byte (fld x 19 16)] ++ [0xFF#8, 0xFF#8] ++ zeros 0x1A ++
      genesis (argAddr s) a ++ zeros 32 ++ leBytes 4 (accArg s 3).toNat ++ zeros 0x94
    accCreateRun s a = accDone (markDirty (linkAcct (acctPut s a 0 r) a) a) stOK := by
  have hl' : (unitLane s 31).isNone = false := by simpa using hl
  simp only [accCreateRun, hv, ha, Nat.not_le.mpr hc, hl', Bool.false_eq_true, if_false]

/-- A command but CREATE and READ on a valid account without a lease. -/
theorem accRun_valid {s : State} {a op : Nat} (hl : acctLeased s a = false) (hv : acctFlag s a 0 = true) (ho : op ≠ 1 ∧ op ≠ 8) :
    accRun s op a = match (generalizing := false) op with
      | 2 => accDone (deleteAcct s a) stOK
      | 3 => if acctFlag s a 7 then accDone s stLOCKED else accDone (markDirty (acctSetFlags s a [(1, true)]) a) stOK
      | 4 => accDone (markDirty (acctSetFlags s a [(1, false)]) a) stOK
      | 5 =>
        let f := acctFld s a 0x0B 1 / 16 * 16 + fld (accArg s 2) 19 16
        accDone (markDirty (acctPut (acctPut s a 0x0B [byte f]) a 0x68 (leBytes 4 (accArg s 3).toNat)) a) stOK
      | 6 => accDone (markDirty (acctPut s a 8 [byte (fld (accArg s 2) 4 0)]) a) stOK
      | 7 => accReseatRun s a
      | 9 => accDone (acctPut s a 0x0E (zeros 2)) stOK
      | 0xB =>
        let k := a / 2
        let s := if isDirty s k && !lmem k s.intake.first then setIntake s { s.intake with first := s.intake.first ++ [k] } else s
        accDone s stOK
      | _ => accRetotalRun s a := by
  obtain ⟨h1, h8⟩ := ho
  simp only [accRun, hl, hv, h1, h8, Bool.not_true, Bool.false_eq_true, if_false] <;> rfl

/-- RESEAT of a disabled account. -/
theorem accReseatRun_disabled {s : State} {a : Nat} (he : acctFlag s a 1 = false) (hl : (unitLane s 31).isSome = true) :
    let s2 := acctPut (acctPut s a 0x10 (argAddr s ++ leBytes 8 1)) a 0x80 (zeros 128)
    accReseatRun s a = accDone (markDirty (adminRecord (acctSetFlags s2 a [(6, true), (5, false), (7, false)]) a 0x10) a) stOK := by
  have hl' : (unitLane s 31).isNone = false := by simpa using hl
  simp only [accReseatRun, he, hl', Bool.false_eq_true, if_false]

/-- RETOTAL of a disabled account. -/
theorem accRetotalRun_disabled {s : State} {a : Nat} (he : acctFlag s a 1 = false) (hl : (unitLane s 31).isSome = true) :
    let f := acctFld s a 0x0B 1
    accRetotalRun s a = accDone (markDirty (adminRecord (acctPut s a 0x0B
      [byte (Nat.land (f / 16) (15 - fld (accArg s 2) 23 20) * 16 + f % 16)]) a 0x10) a) stOK := by
  have hl' : (unitLane s 31).isNone = false := by simpa using hl
  simp only [accRetotalRun, he, hl', Bool.false_eq_true, if_false]

/-- A capture of the next dirty page. -/
theorem doCheckpointCapture_free {s : State} {k t : Nat} (hj : s.intake.ckpt = none) (hn : nextDirty s = some (k, t))
    (h0 : acctHeld s (2 * k) = false) (h1 : acctHeld s (2 * k + 1) = false) (hw : writeReady s = true) (hm : ckptMay s = true) :
    let s0 := { s with pmu := { s.pmu with ckpts := s.pmu.ckpts - 1 } }
    let b0 := ckptBytes s0 (2 * k)
    let b1 := ckptBytes s0 (2 * k + 1)
    let s1 := acctPut (acctPut s0 (2 * k) 0x78 (b0.drop 0x78)) (2 * k + 1) 0x78 (b1.drop 0x78)
    doCheckpointCapture s = setIntake s1 { s1.intake with
      dirty := s1.intake.dirty.filter (fun d => d.1 != k), first := lerase k s1.intake.first, ckpt := some ⟨k, t, b0 ++ b1⟩ } := by
  simp only [doCheckpointCapture, hj, hn, h0, h1, hw, hm, Bool.not_true, Bool.or_false, Bool.false_eq_true, if_false]

/-- The end of a checkpoint's program outside the service window. -/
theorem doCheckpointProgramDone_some {s : State} {j : CkptJob} (hj : s.intake.ckpt = some j) (hw : s.pmu.window = false) (ok : Bool) :
    let s1 := programPage s 7 j.page 3 0 j.bytes ok
    doCheckpointProgramDone ok s = setIntake s1 { s1.intake with
      ckpt := none, dirty := if ok || isDirty s1 j.page then s1.intake.dirty else dirtyInsert j.page j.since s1.intake.dirty } := by
  simp only [doCheckpointProgramDone, hj, hw, Bool.false_and, Bool.false_eq_true, if_false]

/-- Settles O20: each account command that nothing refuses ends with its effect, and a checkpoint goes from queue to flash. -/
theorem accountCommands : Obligations.AccountCommands := by
  constructor
  · intro i a s s1 ok hm hb
    refine ⟨lands (exec_clrcnt ..) (doClrcnt_runs hm hb a), fun hh hl => ?_⟩
    have runs {op : Nat} (ho : op ≠ 0xA ∧ op ≠ 0 ∧ op ≤ 0xC) : accCmd s i op a.val = accRun s1 op a.val := accCmd_runs hm hb ho hh
    refine ⟨lands (exec_accRead ..) ((runs (by decide)).trans (by simp only [accRun, hl] <;> rfl)),
      fun hv ha hc hu => lands (exec_accCreate ..) ((runs (by decide)).trans ?_), fun hv => ?_⟩
    · exact (if_neg (by simp [hl])).trans (accCreateRun_new hv ha hc hu)
    have valid {op : Nat} (ho : (op ≠ 0xA ∧ op ≠ 0 ∧ op ≤ 0xC) ∧ op ≠ 1 ∧ op ≠ 8) := (runs ho.1).trans (accRun_valid hl hv ho.2)
    refine ⟨?_, fun h7 => ?_, ?_, ?_, ?_, ?_, fun hd => ?_, fun hd hf => ?_, fun he hu => ⟨?_, ?_⟩⟩
    · exact lands (exec_accDelete ..) (valid (by decide))
    · exact lands (exec_accEnable ..) ((valid (by decide)).trans (if_neg (ne_true_of_eq_false h7)))
    · exact lands (exec_accDisable ..) (valid (by decide))
    · exact lands (exec_setFeed ..) (valid (by decide))
    · exact lands (exec_setProfile ..) (valid (by decide))
    · exact lands (exec_clearFails ..) (valid (by decide))
    · exact lands (exec_ckpt ..) ((valid (by decide)).trans (by simp only [hd] <;> rfl))
    · exact lands (exec_ckpt ..) ((valid (by decide)).trans (by simp only [hd, hf] <;> rfl))
    · exact lands (exec_reseat ..) ((valid (by decide)).trans (accReseatRun_disabled he hu))
    · exact lands (exec_retotal ..) ((valid (by decide)).trans (accRetotalRun_disabled he hu))
  · intro i k t ok s makes
    refine ⟨fun hm => ?_, fun hj hn h0 h1 hw hm => ?_, fun j hj hw => ?_⟩
    · exact lands (exec_ckptNow ..) (guardW_open hm _)
    · exact lands (exec_checkpointCapture ..) (doCheckpointCapture_free hj hn h0 h1 hw hm)
    · exact lands (exec_checkpointProgramDone ..) (doCheckpointProgramDone_some hj hw ok)

end Sys2Proof.Machine
end

section
/-! ### Frames (R63 to R99) -/

namespace Sys2Proof.Machine

open Sys2Proof

/-- The request of a channel's INTAKE descriptor. -/
def chanReq (s : State) (n : Nat) (o : ActOp) : FrameReq :=
  { src := .chan n (descTag o.d), dom := chanDom s n, profile := descFld o.d 26 1, len := descFld o.d 24 2,
    recEn := descFld o.d 27 1 % 2 == 1, noFwd := descFld o.d 27 1 / 2 == 1, frameAddr := descFld o.d 16 8,
    recAddr := descFld o.d 32 8, recLen := descFld o.d 40 2, data := none }

/-- An INTAKE descriptor is presented where the intake is enabled. -/
theorem doIntake_enabled {s : State} {n : Fin 64} {o : ActOp}
    (ho : (getChan s n).active.find? (fun o => descOp o.d == 0x21 && !o.begun) = some o) :
    let c := getChan s n
    let s1 := setChan s n { c with active := c.active.map fun x => if x = o then { x with begun := true, at_ := s.tick } else x }
    enabled s1 0x18 = true → lmem 0x18 s1.enOff = false →
      doIntake n s = setIntake s1 { s1.intake with reqs := s1.intake.reqs ++ [chanReq s1 n o] } := by
  intro c s1 he hl
  simp only [doIntake, takeOp, ho]
  exact if_neg (by simp [s1, c] at he hl; simp [he, hl])

/-- A presented frame is admitted. -/
theorem doFrameAdmit_reserved {s s2 s3 : State} {r : FrameReq} {rest : List FrameReq} {d : DmaData} {bs : Bytes} {till : Option Nat}
    (hn : nextReq s = some (r, rest)) (ha : accepting s 0x18 = true) (hc : s.intake.closed = false) (hr : s.intake.frames.length < 256)
    (h1 : 12 ≤ r.len) (h2 : r.len ≤ 320)
    (hd : frameData (setIntake s { s.intake with reqs := rest, rr := srcPlace r }) r d = (s2, .inr bs))
    (hv : reserveRec s2 r bs.length = (s3, .inl till)) :
    doFrameAdmit d s = stage12 s3 (newFrame r bs (profWords s3 r.profile) till) := by
  have he : enabled s 0x18 = true ∧ lmem 0x18 s.enOff = false := by
    simp only [accepting, Bool.and_eq_true, Bool.not_eq_true'] at ha
    exact ⟨ha.1.1.1.1.1, ha.2⟩
  have hlen : ¬ (r.len < 12 ∨ 320 < r.len) := by omega
  simp only [doFrameAdmit, hn]
  rw [if_neg (by simp [he]), if_neg (by simp [hc]), if_neg (by simp [ha, hr]), if_neg (by simpa using hlen), hd]
  simp only [hv]

/-- A frame at the gate of an enabled account whose sequence number is new. -/
theorem doGateEnter_open {s : State} {k : Nat} {f : Frame} {x : Fields} {check : Bool} (hf : s.intake.frames[k]? = some f)
    (hx : locate f.prof f.bytes = some x) (hst : f.stage = .waitGate)
    (ha : ((s.intake.frames.take k).any fun g => g.acct == f.acct) = false) (hc : s.intake.cmd = none) (hh : acctHeld s f.acct = false)
    (hb : bankUp s 30 = true) (hk : ckptHolds s f.acct = false) (hp : poisoned s (acctAddr f.acct) 256 = false)
    (he : acctFlag s f.acct 1 = true) :
    let seq := extendSeq (acctFlag s f.acct 6) x.ext x.bits (acctFld s f.acct 0x10 8) x.v
    classify s f.acct x seq = .inr check → candidates s f.acct check ≠ [] →
      doGateEnter k s = setFrame s k
        { f with seq := seq, stage := .keys, check := check, toUnwrap := candidates s f.acct check, lane := chooseLane s } := by
  intro seq hcl hca
  simp [doGateEnter, hf, hx, hst, ha, hc, hh, hb, hk, hp, he, seq, hcl, hca] at hcl ⊢

/-- A frame whose lane is free gets its next candidate key. -/
theorem doIntakeUnwrap_key {s : State} {k e n : Nat} {f : Frame} {rest : List Nat} {key : Bytes} (hf : s.intake.frames[k]? = some f)
    (hu : f.toUnwrap = e :: rest) (hl : f.lane = some n) (hst : f.stage = .loaded) (hw : kuwWaits (setFrame s k f) = false)
    (hp : poisoned (setFrame s k f) (keyAddr f.acct + 48 * e) 48 = false)
    (hk : unwrapEntry (bumpMod (setFrame s k f) Reg.KUW_CNT) f.acct e = some key) :
    let s1 := bumpMod (setFrame s k f) Reg.KUW_CNT
    doIntakeUnwrap k false s = setFrame (setLane s1 false n { getLane s1 false n with
        key := some { handle := 0, ktype := 1, attr := 0, acct := true, mat := key } }) k
      { f with stage := .loaded, toUnwrap := rest, cands := f.cands ++ [⟨e, key⟩] } := by
  have hmay : frameMayRun (setFrame s k f) f = true := by simp [frameMayRun, hl, hst]
  have hkeys : ¬ ((decide (f.stage = .keys) && f.lane.isNone) = true) := by simp [hst]
  simp only [doIntakeUnwrap, hf]
  rw [if_neg hkeys, hu]
  simp [hmay, hw, hp, hk, hl]

/-- The candidate key of an entry that verifies a frame. -/
def keyOfEntry (f : Frame) (x : Fields) (e : Nat) : Option Bytes := (f.cands.find? fun c => c.entry == e && modeOk x c.key).map (·.key)

/-- A frame whose keys are there is verified under the current entry, then under the other. -/
theorem doDecryptVerify_new {s : State} {k : Nat} {f : Frame} {x : Fields} (hf : s.intake.frames[k]? = some f)
    (hx : locate f.prof f.bytes = some x) (hst : f.stage = .loaded) (hu : f.toUnwrap = []) (hc : f.check = false) :
    let cur := b2n (acctFlag s f.acct 2)
    doDecryptVerify k s = match keyOfEntry f x cur, keyOfEntry f x (1 - cur) with
      | some w, p => acceptFrame s k f x w false p.isSome
      | none, some w => acceptFrame s k f x w true false
      | none, none => endFrame (authFail s f.acct) k f stAUTH := by
  simp [doDecryptVerify, hf, hx, hst, hu, hc, keyOfEntry] <;> rfl

/-- The ledger takes a verified frame. -/
theorem doLedgerExtend_lane {s : State} {k n : Nat} {f : Frame} (hf : s.intake.frames[k]? = some f) (hst : f.stage = .ledger)
    (hn : unitLane s 31 = some n) :
    let count := (acctCount s f.acct + 1) % 2 ^ 64
    let fab := match f.req.src with | .fabric _ _ _ _ _ => 4 | _ => 0
    let h := recHeader f.status (frameFlags f + fab) f.req.profile f.acct f.plain.length (acctAddrOf s f.acct) f.seq count f.rtc
    doLedgerExtend k s = setFrame (hshCount s n ((64 + f.plain.length + 9 + 63) / 64)) k
      { f with stage := .commit, count := count, head := sha256 (sramRead s (acctAddr f.acct + 0x28) 32 ++ h ++ f.plain) } := by
  simp only [doLedgerExtend, hf, hn, hst] <;> rfl

/-- A frame that is neither promoted nor suspect and follows no gap is committed. -/
theorem doFrameCommit_plain {s : State} {k : Nat} {f : Frame} {x : Fields} (hf : s.intake.frames[k]? = some f)
    (hx : locate f.prof f.bytes = some x) (hst : f.stage = .commit) (hp : f.promoted = false) (hsu : f.suspect = false)
    (h5 : acctFlag s f.acct 5 = false) (hok : f.status = stOK) :
    let s1 := commitTotals (advanceWindow s f.acct f.seq (fingerprint x)) f.acct f.rtc f.totals
    let s2 := feedSlots (markDirty (acctPut s1 f.acct 0x20 (leBytes 8 f.count ++ f.head)) f.acct) f.acct f.totals
    doFrameCommit k s = takeFrame (deliverFrame s2 f stOK (frameFlags f) x.addr 0 f.seq f.count f.rtc f.plain) k := by
  have hb : (stOK == stTOTAL) = false := rfl
  simp only [doFrameCommit, hf, hx, hst, hp, hsu, h5, hok, hb, ne_eq, not_true_eq_false, Bool.false_and, Bool.false_eq_true, if_false]

/-- Settles O21: a frame from its descriptor through gate, keys, verification and ledger to its commit. -/
theorem frameIntake : Obligations.FrameIntake := by
  constructor
  · intro n o r rest d bs s2 till i s makes c s1
    refine ⟨fun ho he hl => ?_, fun hn ha hc hr h1 h2 s3 hd hv => ?_, fun hm hb => ?_, fun hb => ?_⟩
    · exact lands (exec_intake ..) (doIntake_enabled ho he hl)
    · exact lands (exec_frameAdmit ..) (doFrameAdmit_reserved hn ha hc hr h1 h2 hd hv)
    · exact lands (exec_dirSwap ..) ((guardW_open hm _).trans (if_neg (ne_true_of_eq_false hb)))
    · exact lands (exec_dirSwapApply ..) (if_pos hb)
  · intro k f x s makes hf hx
    refine ⟨?_, ?_, fun hst hu hc => ⟨fun w h => ?_, fun w h h' => ?_, fun h h' => ?_⟩, fun n hst hn => ?_, fun hst hp hsu _ h5 hok => ?_⟩
    · intro hst ha hc hh hb hk hp he seq check hcl hca
      exact lands (exec_gateEnter ..) (doGateEnter_open hf hx hst ha hc hh hb hk hp he hcl hca)
    · intro e rest n key hu hl hst _ s0 hw hp hk
      exact lands (exec_intakeUnwrap ..) (doIntakeUnwrap_key hf hu hl hst hw hp hk)
    · refine lands (exec_decryptVerify ..) ((doDecryptVerify_new hf hx hst hu hc).trans ?_)
      simp only [show keyOfEntry f x (b2n (acctFlag s f.acct 2)) = some w from h] <;> rfl
    · refine lands (exec_decryptVerify ..) ((doDecryptVerify_new hf hx hst hu hc).trans ?_)
      simp only [show keyOfEntry f x (b2n (acctFlag s f.acct 2)) = none from h,
        show keyOfEntry f x (1 - b2n (acctFlag s f.acct 2)) = some w from h']
    · refine lands (exec_decryptVerify ..) ((doDecryptVerify_new hf hx hst hu hc).trans ?_)
      simp only [show keyOfEntry f x (b2n (acctFlag s f.acct 2)) = none from h,
        show keyOfEntry f x (1 - b2n (acctFlag s f.acct 2)) = none from h']
    · exact lands (exec_ledgerExtend ..) (doLedgerExtend_lane hf hst hn)
    · exact lands (exec_frameCommit ..) (doFrameCommit_plain hf hx hst hp hsu h5 hok)

end Sys2Proof.Machine
end

/-! PROOFS. The tallies (R111 to R127), the sensor sequencer (R137 to R145), the axes (R148 to R152) and the calendar (R156 to R168). -/

section
/-! ### Updates and commands of the tallies (R111 to R127) -/

namespace Sys2Proof.Machine

open Sys2Proof

/-- Whether an edge of a pulse input counts under its configuration. -/
def edgeCounts (cfg : Word) (rising : Bool) : Bool :=
  bit cfg 31 && (match fld cfg 30 29 with | 0 => rising | 1 => !rising | 2 => true | _ => false)

/-- The edges that count: rising ones, falling ones or all. -/
theorem edgeCounts_iff (cfg : Word) (rising : Bool) :
    edgeCounts cfg rising = true ↔ bit cfg 31 = true ∧
      (fld cfg 30 29 = 0 ∧ rising = true ∨ fld cfg 30 29 = 1 ∧ rising = false ∨ fld cfg 30 29 = 2) := by
  unfold edgeCounts
  rw [Bool.and_eq_true]
  refine and_congr_right fun _ => ?_
  split <;> simp_all

/-- An edge that counts nothing leaves the level. -/
theorem doPulseEdge_skips {s : State} {k : Fin 32} {rising : Bool} :
    let s1 := wrBit s Reg.PLS_LEVEL k.val rising
    edgeCounts (rd s1 (Reg.PLS_CFG + 4 * k.val)) rising = false → doPulseEdge k rising s = s1 := by
  intro s1 hc
  exact if_pos ((Bool.not_eq_true' _).mpr hc)

/-- An edge that counts, with room in the counter. -/
theorem doPulseEdge_counts {s : State} {k : Fin 32} {rising : Bool} :
    let count := Reg.PLS_COUNT + 4 * k.val
    let s1 := wrBit s Reg.PLS_LEVEL k.val rising
    edgeCounts (rd s1 (Reg.PLS_CFG + 4 * k.val)) rising = true →
    rd s1 count - rd s1 (Reg.PLS_TAKEN + 4 * k.val) ≠ 0xFFFFFFFF#32 →
      let s2 := wr s1 count (rd s1 count + 1#32)
      doPulseEdge k rising s =
        if unpowered s2 = true then wr s2 (Reg.PLS_OFFCNT + 4 * k.val) (rd s2 (Reg.PLS_OFFCNT + 4 * k.val) + 1#32) else s2 := by
  intro count s1 hc hr s2
  exact (if_neg fun h => Bool.noConfusion (hc.symm.trans ((Bool.not_eq_true' _).mp h))).trans (if_neg hr)

/-- A source's increment goes to every tally that uses it, where each has room. -/
theorem doSourceConsume_room {s : State} {src : TallySrc} (hu : usersOf s src ≠ []) (ho : aluOos s = false)
    (hq : ((usersOf s src).any fun n => pageQuiesced s (talPage n)) = false) (h0 : 0 < srcDelta s src) (hd : srcDelta s src < 2 ^ 32)
    (hroom : ∀ n, n ∈ usersOf s src → (getTally s n).share + inAlu s n + srcDelta s src < 2 ^ 32) :
    doSourceConsume src s = (usersOf s src).foldl (addShare (srcDelta s src)) (takeSource s src) := by
  have hfull : ¬ ((usersOf s src).any fun n => decide (2 ^ 32 - 1 < (getTally s n).share + inAlu s n + srcDelta s src)) = true := by
    simp only [List.any_eq_true, decide_eq_true_eq, not_exists, not_and]
    intro n hn
    have := hroom n hn
    omega
  have hne : (usersOf s src).isEmpty = false := by simpa using hu
  have hskip : ¬ ((usersOf s src).isEmpty || aluOos s || (usersOf s src).any (fun n => pageQuiesced s (talPage n)) ||
      srcDelta s src == 0) = true := by
    simp only [hne, ho, hq, Bool.or_false, Bool.false_or, beq_iff_eq]
    omega
  refine (if_neg hskip).trans ?_
  cases src with
  | pulse k => exact if_neg hfull
  | slot k => exact (if_neg (by omega)).trans (if_neg hfull)
  | mains => exact if_neg hfull

/-- A dispatch takes the next pending tally. -/
theorem doTallyDispatch_next {s : State} {n : Nat} (ha : s.tal.alu = none) (ho : aluOos s = false)
    (hc : bit (rd s (hdr 0x20 Off.CTRL)) 2 = false) (hh : schedHeld s = false) (hn : nextTally s = some n) :
    let t := getTally s n
    let u : AluUpd :=
      { n := n, share := t.share, b := (getSlot s (fld (talSrc s n) 23 16)).value, c := (getSlot s (fld (talSrc s n) 15 8)).value,
        d := (getSlot s (fld (talSrc s n) 7 0)).value, stale := (readSlots s n).any fun k => !slotFresh s k, off := false }
    let s1 := setPend (setTally s n { t with share := 0 }) n false
    doTallyDispatch s = { s1 with tal := { s1.tal with alu := some u, last := n } } := by
  refine (if_neg (by simp [ha, ho, hc, hh])).trans ?_
  simp only [hn]

/-- The update counted, unless its quantity is 0. -/
def updCounted (n a : Nat) (t : State) : State :=
  if a = 0 then t else setTally t n { getTally t n with upd := ((getTally t n).upd + 1) % 2 ^ 32 }

/-- An update that ends without a mismatch. -/
theorem doTallyUpdateCommit_match {s : State} {u : AluUpd} (hu : s.tal.alu = some u) :
    let a := u.share * talScale s u.n
    doTallyUpdateCommit 0 s =
      aluDone (updCounted u.n a (if u.stale then divert (setFlags s u.n true false false) u.n a else formP s u a)) u := by
  simp [doTallyUpdateCommit, hu, updCounted]

/-- An update that mismatched twice. -/
theorem doTallyUpdateCommit_mismatch {s : State} {u : AluUpd} (hu : s.tal.alu = some u) :
    let s1 := talRaise (wrBit (bumpSat (bumpSat s Reg.TAL_ALU 15 0) Reg.TAL_ALU 15 0) Reg.TAL_ALU 31 true) u.n 4
    doTallyUpdateCommit 2 s =
      aluDone (setPend (setTally s1 u.n { getTally s1 u.n with share := (getTally s1 u.n).share + u.share }) u.n true) u := by
  simp [doTallyUpdateCommit, hu]

/-- Settles O22: pulses, sources, dispatch and commit. -/
theorem tallyUpdates : Obligations.TallyUpdates := by
  constructor
  · intro k rising src s makes count s1 cfg1 counts
    refine ⟨fun hc => ?_, fun hc hr => ?_, fun hu ho hq h0 hd hroom => ?_⟩
    · exact lands (exec_pulseEdge ..) (doPulseEdge_skips (Bool.eq_false_iff.mpr fun h => hc ((edgeCounts_iff ..).mp h)))
    · exact lands (exec_pulseEdge ..) (doPulseEdge_counts ((edgeCounts_iff ..).mpr hc) hr)
    · exact lands (exec_sourceConsume ..) (doSourceConsume_room hu ho hq h0 hd hroom)
  · intro n u s makes
    refine ⟨fun ha ho hc hh hn => ?_, fun hu => ⟨fun hs => ?_, fun hs => ?_, ?_⟩⟩
    · exact lands (exec_tallyDispatch ..) (doTallyDispatch_next ha ho hc hh hn)
    · exact lands (exec_tallyUpdateCommit ..) ((doTallyUpdateCommit_match hu).trans (by rw [if_neg (by simp [hs])] <;> rfl))
    · exact lands (exec_tallyUpdateCommit ..) ((doTallyUpdateCommit_match hu).trans (by rw [if_pos hs] <;> rfl))
    · exact lands (exec_tallyUpdateCommit ..) (doTallyUpdateCommit_mismatch hu)

/-- The capture of a pending snapshot at an update boundary. -/
theorem doSnapshotCapture_pending {s : State} {p : Fin 4} :
    let b := 4096 * p.val
    let st := rd s (Reg.TAL_SNAPSTAT + b)
    let m := 64 * p.val + fld st 5 0
    bit st 30 = true → aluHolds s m = false →
      let t := getTally s m
      let s1 := wrWords (wrWords s (Reg.TAL_SNAP_POS + b) 3 (t.pos / 2 ^ 48)) (Reg.TAL_SNAP_POSF + b) 2 (t.pos % 2 ^ 48)
      let s2 := wrWords (wrWords s1 (Reg.TAL_SNAP_NEG + b) 3 (t.neg / 2 ^ 48)) (Reg.TAL_SNAP_NEGF + b) 2 (t.neg % 2 ^ 48)
      let s3 := wrWords (wrWords s2 (Reg.TAL_SNAP_ERR + b) 3 (t.err / 2 ^ 16)) (Reg.TAL_SNAP_ERRF + b) 1 (t.err % 2 ^ 16)
      let s4 := wrWords (wr s3 (Reg.TAL_SNAP_STS + b) (talSts s m)) (Reg.TAL_SNAP_TICK + b) 2 s3.tick
      doSnapshotCapture p s =
        wr (wr s4 (Reg.TAL_SNAP_UPD + b) (word t.upd)) (Reg.TAL_SNAPSTAT + b) (word (0x80000000 + fld st 5 0)) := by
  intro b st m hp ha
  exact if_neg (by rw [hp, ha]; decide)

/-- A preset command that names an accumulator while none is pending. -/
theorem presetStart_named (s : State) (p m : Nat) {target : Nat} (ht : target ≠ 3) :
    let w := target * 256 + m
    let s1 := wr (wr s (Reg.TAL_PRECMD + 4096 * p) (word w)) (Reg.TAL_PRESTAT + 4096 * p) (word (0x80000000 + w))
    presetStart s p m target = { s1 with tal := { s1.tal with carry := mset 0 s1.tal.carry p 0 } } := by
  simp only [presetStart, ht, if_false, Nat.add_assoc]

/-- A pending preset that fits is applied at the update boundary. -/
theorem doPresetApply_fits {s : State} {p : Fin 4} {n : Nat} {k : Acc} :
    let b := 4096 * p.val
    presetOf s p.val = some (n, k) → aluHolds s n = false →
      ¬ (bit (rd s (Reg.TAL_SNAPSTAT + b)) 30 = true ∧ fld (rd s (Reg.TAL_SNAPSTAT + b)) 5 0 = n % 64) → s.cal.closing = false →
      let carry := mget 0 s.tal.carry p.val
      let val := ((rd s (Reg.TAL_PREVAL + b)).toNat + 2 ^ 32 * (rd s (Reg.TAL_PREVAL + b + 4)).toNat +
        2 ^ 64 * (rd s (Reg.TAL_PREVAL + b + 8)).toNat) * 2 ^ k.frac + carry
      val < 2 ^ (96 + k.frac) →
      let s1 := wrBit (setTally s n ((getTally s n).setAcc k val)) (talStsReg n) k.sat false
      let s2 := if k ≠ .err ∧ tallyAxis s1 n (decide (k = .neg)) < tallyAxis s n (decide (k = .neg)) then
        wrBit s1 (hdr 0x28 Off.EVT_RAW) 0 true else s1
      let s3 := wrBit (talRaise (wrWords s2 (Reg.TAL_CARRY + b) 3 (carry / 2 ^ k.frac)) n 3) (Reg.TAL_PRESTAT + b) 31 false
      doPresetApply p s = { s3 with tal := { s3.tal with carry := mset 0 s3.tal.carry p.val 0 } } := by
  intro b hp ha hs hc carry val hv s1 s2 s3
  simp only [doPresetApply, hp]
  rw [if_neg (by simpa [ha, hc] using hs)]
  rw [if_neg (Nat.not_le.mpr hv)]
  rfl

/-- A snapshot command while none is pending. -/
theorem doTalSnapcmd_free {s : State} {i : Initiator} {p : Fin 4} {v : Word} (hm : MayStore s i (Reg.TAL_SNAPCMD + 4096 * p.val))
    (hs : bit (rd s (Reg.TAL_SNAPSTAT + 4096 * p.val)) 30 = false) (hv : bit v 31 = true) :
    doTalSnapcmd i p v s = snapStart s p.val (fld v 5 0) := by
  simp only [doTalSnapcmd, guardW_open hm, hs, hv, Bool.false_eq_true, if_false, if_true]

/-- A preset command while none is pending. -/
theorem doTalPrecmd_free {s : State} {i : Initiator} {p : Fin 4} {v : Word} (hm : MayStore s i (Reg.TAL_PRECMD + 4096 * p.val))
    (hs : bit (rd s (Reg.TAL_PRESTAT + 4096 * p.val)) 31 = false) (hv : bit v 31 = true) :
    doTalPrecmd i p v s = presetStart s p.val (fld v 5 0) (fld v 9 8) := by
  simp only [doTalPrecmd, guardW_open hm, hs, hv, Bool.false_eq_true, if_false, if_true]

/-- A write of TCO_CDATA under the lock of the coefficient's table. -/
theorem doTcoCdataWrite_open {s : State} {i : Initiator} (hm : MayStore s i Reg.TCO_CDATA) (v : Word) :
    let idx := fld (rd s Reg.TCO_CIDX) 12 0
    doTcoCdataWrite i v s = autoinc
      (if bit (rd s (Reg.TCO_THDR + 8 * (idx / 128))) 31 then noteErr s i 0x24 (Reg.TCO_CDATA % 4096) 4 true
      else { s with tal := { s.tal with coef := mset 0#32 s.tal.coef idx v } }) Reg.TCO_CIDX 13 :=
  guardW_open hm _

/-- Settles O23: snapshots, presets and tables. -/
theorem tallyCommands : Obligations.TallyCommands := by
  constructor
  · intro i p v n k s b makes
    refine ⟨fun hm hs hv => ?_, ?_, fun hm hs hv ht => ?_, ?_⟩
    · exact lands (exec_talSnapcmd ..) (doTalSnapcmd_free hm hs hv)
    · intro st m hp ha
      exact lands (exec_snapshotCapture ..) (doSnapshotCapture_pending hp ha)
    · exact lands (exec_talPrecmd ..) ((doTalPrecmd_free hm hs hv).trans (presetStart_named s p.val _ ht))
    · intro hp ha hs hc carry val hv
      exact lands (exec_presetApply ..) (doPresetApply_fits hp ha hs hc hv)
  · intro i v s makes idx lock
    refine ⟨fun hm => ?_, fun hb => ?_, fun hm => ⟨fun hl => ?_, fun hl => ?_⟩⟩
    · exact lands (exec_tcoCrcsel ..) (guardW_open hm _)
    · exact lands (exec_tcoCrcDone ..) (if_neg (by simp [hb]))
    · exact lands (exec_tcoCdataWrite ..) ((doTcoCdataWrite_open hm v).trans (by rw [if_neg (ne_true_of_eq_false hl)]))
    · exact lands (exec_tcoCdataWrite ..) ((doTcoCdataWrite_open hm v).trans (by rw [if_pos hl]))

end Sys2Proof.Machine
end

section
/-! ### The sensor sequencer (R137 to R145) -/

namespace Sys2Proof.Machine

open Sys2Proof

/-- The command of the step's own operation runs the step. -/
theorem snsStep_runs {s : State} {op : Nat} (hr : s.sns.running = true) (hk : s.sns.step < 256)
    (ho : fld (snsStepWord s s.sns.step) 31 28 = op) (h7 : op ≠ 5 ∧ op ≤ 7) (body : Word → State) :
    snsStep s op body = body (snsStepWord s s.sns.step) := by
  obtain ⟨h5, h7⟩ := h7
  simp only [snsStep, hr, ho, beq_iff_eq, Bool.not_true, Bool.false_eq_true, if_false, if_true]
  exact if_neg (by simp [h5]; omega)

/-- A run of the sequencer is due. -/
theorem doSnsRunStart_due {s : State} (ha : accepting s 0x27 = true)
    (hd : fld (rd s Reg.SNS_PERIOD) 19 0 ≠ 0 ∨ bit (rd s (hdr 0x27 Off.CTRL)) 8 = true) :
    doSnsRunStart s = snsStart (wrBit s (hdr 0x27 Off.CTRL) 8 false) := by
  refine if_neg ?_
  rcases hd with hd | hd <;> simp [ha, hd]

/-- A transfer that stays inside both buffers. -/
theorem doSnsXfer_fits {s : State} (hr : s.sns.running = true) (hk : s.sns.step < 256) (rx : List Byte) :
    let w := snsStepWord s s.sns.step
    fld w 31 28 = 1 → fld w 15 8 + fld w 22 16 + 1 ≤ 256 → fld w 7 0 + fld w 22 16 + 1 ≤ 256 →
      let len := fld w 22 16 + 1
      let s1 := emit s (.spi (fld w 27 26) (fld w 25 24) (bufBytes s Reg.SNS_TXBUF (fld w 15 8) len))
      let s2 := putBuf s1 Reg.SNS_RXBUF (fld w 7 0) ((rx ++ List.replicate len 0xFF#8).take len)
      doSnsXfer rx s = snsNext (setSns s2 { s2.sns with
        cs := if bit w 23 then linsert (fld w 27 26) s2.sns.cs else lerase (fld w 27 26) s2.sns.cs }) := by
  intro w ho h1 h2
  refine (snsStep_runs hr hk ho (by decide) _).trans (if_neg ?_)
  simp only [Bool.or_eq_true, decide_eq_true_eq]
  simp only [w] at h1 h2
  omega

/-- A value without a table that fits the staging area. -/
theorem doSnsStore_raw {s : State} {n : Nat} (hr : s.sns.running = true) (hk : s.sns.step < 256) :
    let w := snsStepWord s s.sns.step
    fld w 31 28 = 6 → storeWidth (fld w 11 9) = some n → fld w 19 12 + (n + 7) / 8 ≤ 256 → fld w 6 0 = 0x7F → s.sns.staged.length < 16 →
      let bs := bufBytes s Reg.SNS_RXBUF (fld w 19 12) ((n + 7) / 8)
      let raw := (if bit w 7 then beNat bs else leNat bs) % 2 ^ n
      let x : Int := if bit w 8 && 2 ^ (n - 1) ≤ raw then (raw : Int) - 2 ^ n else raw
      doSnsStore s =
        snsNext (setSns s { s.sns with staged := s.sns.staged ++ [⟨fld w 27 20, s.sns.step, some (x % 2 ^ 64).toNat⟩] }) := by
  intro w ho hn h1 h2 h3
  refine (snsStep_runs hr hk ho (by decide) _).trans ?_
  have hskip : ¬ (256 < fld w 19 12 + (n + 7) / 8 ∨ 16 ≤ s.sns.staged.length) := by omega
  simp only [w] at hn h2 hskip
  simp only [hn, h2]
  rw [if_neg (by simpa using hskip)]
  rfl

/-- Settles O24: the runs and steps of the sequencer, and the slots of MC. -/
theorem sensorRuns : Obligations.SensorRuns := by
  intro i v rx s makes ctrl w steps ends starts
  have runs {op : Nat} (h7 : op ≠ 5 ∧ op ≤ 7) (h : steps op) (body : Word → State) : snsStep s op body = body w :=
    snsStep_runs h.1 h.2.1 h.2.2 h7 body
  refine ⟨fun ha hd => ?_, fun hm ha => ?_, fun h h1 h2 => ?_, fun h => ?_, fun h => ⟨?_, ?_⟩, fun h => ?_, fun n h hn h1 h2 h3 => ?_,
    fun h => ?_, fun h => ?_, fun hm hv => ?_, fun hm => ?_⟩
  · exact lands (exec_snsRunStart ..) (doSnsRunStart_due ha hd)
  · exact lands (exec_runNow ..) ((guardW_open hm _).trans (if_pos ha))
  · exact lands (exec_snsXfer ..) (doSnsXfer_fits h.1 h.2.1 rx h.2.2 h1 h2)
  · exact lands (exec_snsWait ..) (runs (by decide) h _)
  · exact lands (exec_snsWaitrdy ..) (runs (by decide) h _)
  · exact lands (exec_snsWaitrdy ..) (runs (by decide) h _)
  · exact lands (exec_snsCheck ..) (runs (by decide) h _)
  · exact lands (exec_snsStore ..) (doSnsStore_raw h.1 h.2.1 h.2.2 hn h1 h2 h3)
  · exact lands (exec_snsCommit ..) (runs (by decide) h _)
  · exact lands (exec_snsEnd ..) (runs (by decide) h _)
  · exact lands (exec_snsWcmd ..) ((guardW_open hm _).trans (if_pos hv))
  · exact lands (exec_snsSidx ..) (guardW_open hm _)

end Sys2Proof.Machine
end

section
/-! ### The axes (R148 to R152, R169) -/

namespace Sys2Proof.Machine

open Sys2Proof

/-- A set of an axis that is not refused. -/
theorem axisSet_taken {s : State} {code val set cmd ref : Nat} {v : Word} :
    let s1 := wr s cmd ((rd s cmd &&& 1#32) ||| (v &&& 0x40000000#32))
    bit v 31 = true → (rd64 s1 val ≤ rd64 s1 set ∨ bit v 30 = true ∧ axisArmed s1 code = false) →
      let s2 := wrWords (wrBit s1 cmd 0 false) val 2 (rd64 s1 set)
      let s3 := if code = 0 then wrBit s2 axsStat 8 true else s2
      let s4 := if code = 2 then wrBit s3 axsStat 9 true else s3
      let s5 := if code = 1 then { s4 with tal := { s4.tal with
        mainsTaken := (s4.tal.mainsTaken + rd64 s1 set + 2 ^ 64 - rd64 s1 val) % 2 ^ 64 } } else s4
      axisSet s code val set cmd ref v = if rd64 s1 set < rd64 s1 val then wrBit s5 (hdr 0x28 Off.EVT_RAW) 1 true else s5 := by
  intro s1 hv ho
  refine (if_neg (by simp [hv])).trans (if_neg ?_)
  rintro ⟨hlt, hr⟩
  rcases ho with ho | ⟨h30, ha⟩
  · exact absurd hlt (Nat.not_lt.mpr ho)
  · simp [h30, s1] at hr ha
    simp [hr] at ha

/-- A mains edge where the input is measured. -/
theorem doMainsEdge_measured {s : State} (hc : bit (rd s Reg.AXS_MCFG) 31 = true) (ha : awake s = true) :
    let mark := { s with axs := { s.axs with lastEdge := some s.tick } }
    (s.axs.lastEdge = none → doMainsEdge s = mark) ∧
      ∀ t, s.axs.lastEdge = some t → 15000 ≤ s.tick - t → s.tick - t ≤ 22500 →
        let s1 := wr mark Reg.AXS_MPER (word (0x80000000 + (s.tick - t)))
        doMainsEdge s = wrBit (wrWords s1 Reg.AXS_MAINS 2 (mainsCount s1 + 1)) axsStat 10 true := by
  have hskip : ¬ (!bit (rd s Reg.AXS_MCFG) 31 || !awake s) = true := by simp [hc, ha]
  refine ⟨fun hl => (if_neg hskip).trans (by simp only [hl]), fun t hl h1 h2 => (if_neg hskip).trans ?_⟩
  have hmin : min 65535 (s.tick - t) = s.tick - t := by omega
  simp only [hl]
  rw [if_neg (by omega), if_pos ⟨h1, h2⟩, hmin]

/-- Settles O25: sets, slews, captures and the mains edges. -/
theorem axisCommands : Obligations.AxisCommands := by
  intro i v net ax t s makes sets
  refine ⟨?_, ?_, ?_, fun hm => ?_, fun hm => ?_, fun hs => ?_, fun hm => ?_, fun hc ha => ⟨fun hl => ?_, fun hl h1 h2 => ?_, ?_⟩⟩
  · intro hm hv ho
    exact lands (exec_axsRtccmd ..) ((guardW_open hm _).trans (axisSet_taken hv ho))
  · intro hm hv ho
    exact lands (exec_axsNcmd ..) ((guardW_open hm _).trans (axisSet_taken hv ho))
  · intro s0 hm hv ho
    exact lands (exec_axsMcmd ..) ((guardW_open hm _).trans (axisSet_taken hv ho))
  · exact lands (exec_axsRtcslew ..) (guardW_open hm _)
  · exact lands (exec_axsNslew ..) (guardW_open hm _)
  · exact lands (exec_slewDone ..) (if_neg hs)
  · exact lands (exec_axsLowRead ..) (guardR_open hm _)
  · exact lands (exec_mainsEdge ..) ((doMainsEdge_measured hc ha).1 hl)
  · exact lands (exec_mainsEdge ..) ((doMainsEdge_measured hc ha).2 t hl h1 h2)
  · exact lands (exec_mainsTimeout ..) (if_neg (by simp [hc, ha]))

end Sys2Proof.Machine
end

section
/-! ### The posting calendar (R156 to R168) -/

namespace Sys2Proof.Machine

open Sys2Proof

/-- A calendar command while none is under way. -/
theorem calCmd_free {s : State} {i : Initiator} (hm : MayStore s i Reg.CAL_CMD) (hb : bit (rd s Reg.CAL_CMDSTAT) 31 = false) (op : Nat)
    (v : Word) (k : State → State × Nat) :
    let r := k (wr s Reg.CAL_CMD (setFld (v &&& 0xF8000FFF#32) 31 28 op))
    calCmd s i op v k = burstEnd (wr r.1 Reg.CAL_CMDSTAT (word r.2)) := by
  rw [calCmd, guardW_open hm]
  exact if_neg (ne_true_of_eq_false hb)

/-- A capture of the root of an axis's heap. -/
theorem doCalPeekax_open {s : State} {i : Initiator} (hm : MayStore s i Reg.CAL_PEEKAX) (v : Word) :
    let s1 := wr s Reg.CAL_PEEKAX (v &&& 0x3FF#32)
    (∀ p, heapRoot s1 (fld v 9 0) = some p →
      doCalPeekax i v s = wrWords (wr s1 Reg.CAL_PEEK (word (0x80000000 + p))) Reg.CAL_PEEKCMP 2 (postCmp s1 p)) ∧
      (heapRoot s1 (fld v 9 0) = none → doCalPeekax i v s = wrWords (wr s1 Reg.CAL_PEEK 0#32) Reg.CAL_PEEKCMP 2 0) := by
  intro s1
  refine ⟨fun p hp => (guardW_open hm _).trans ?_, fun hp => (guardW_open hm _).trans ?_⟩ <;> simp only [s1] at hp <;> simp only [hp] <;> rfl

/-- The root of an axis's heap falls due. -/
theorem doPostingDue_root {s : State} {axis p : Nat} (ha : awake s = true) (hp : rootWhere s axis (fun p => !inBurst s p) = some p)
    (hc : postCmp s p ≤ axisValue s axis) : doPostingDue axis s = setCal s { s.cal with burst := s.cal.burst ++ [⟨p, 0⟩] } := by
  simp [doPostingDue, ha, hp, hc]

/-- The next posting of the burst fires. -/
theorem doPostingFire_next {s : State} {d : Due} (ha : awake s = true) (hd : nextDue s = some d) (delay : Nat) :
    let late := decide (800 < delay)
    let missed := if recurs s d.p && decide (2 ^ 64 ≤ postCmp s d.p + fireSteps s d.p * postInc s d.p) then 0 else fireSteps s d.p - 1
    let r := runActs d.p (postCmp s d.p) missed late (postActs s d.p) (noteDelay s delay) { status := stOK, closing := none, later := [] }
    doPostingFire delay s = burstEnd (r.2.later.foldl lateAct (advance r.1 d.p late r.2.status)) := by
  intro late missed r
  refine (if_neg (by simp [ha])).trans ?_
  simp only [hd]
  obtain ⟨⟨s', f⟩, hr⟩ : ∃ q, q = r := ⟨r, rfl⟩
  rw [← hr]
  simp only [r, missed, late] at hr
  rw [← hr]

/-- Settles O26: commands, peeks, firings, captures and moves. -/
theorem calendarCommands : Obligations.CalendarCommands := by
  intro i v axis delay p d c s makes cmds
  refine ⟨fun hm hb => ⟨?_, ?_, ?_⟩, fun hm => ⟨?_, ?_⟩, fun hm => ?_, fun ha => ⟨fun hp hc => ?_, fun hd => ?_⟩, fun ha hc => ?_, fun hc => ?_⟩
  · exact lands (exec_arm ..) (calCmd_free hm hb ..)
  · exact lands (exec_disarm ..) (calCmd_free hm hb ..)
  · exact lands (exec_disarmAxis ..) (calCmd_free hm hb ..)
  · exact fun hp => lands (exec_calPeekax ..) ((doCalPeekax_open hm v).1 p hp)
  · exact fun hp => lands (exec_calPeekax ..) ((doCalPeekax_open hm v).2 hp)
  · exact lands (exec_calLatmaxWrite ..) (guardW_open hm _)
  · exact lands (exec_postingDue ..) (doPostingDue_root ha hp hc)
  · exact lands (exec_postingFire ..) (doPostingFire_next ha hd delay)
  · exact lands (exec_closingCapture ..) (if_neg (by simp [ha, hc]))
  · exact lands (exec_closingRecordMove ..) (by simp only [doClosingRecordMove, hc] <;> rfl)

end Sys2Proof.Machine
end

/-! PROOFS. The vault and the noise source (R170 to R206). -/

section
/-! ### The start of the vault and the noise source (R175, R200 to R206) -/

namespace Sys2Proof.Machine

open Sys2Proof

/-- The array has decoded to keys whose check values match. -/
theorem doPufDecodeDone_match {s : State} {errbits : BitVec 15} {bad : List (Fin 256)} (hd : s.vlt.puf = .decode) :
    let s1 := pufShow (setVlt s { s.vlt with puf := .done, rootS := lcode s != 5, rootI := lcode s != 1 }) 0 errbits.toNat
    doPufDecodeDone true errbits bad s =
      vaultRun (bad.foldl (fun s k => if (vslot s k.val).key.isSome then slotBad s k.val else s) s1) := by
  intro s1
  exact (if_neg (not_not_intro hd)).trans (if_pos rfl)

/-- A decoding that fails with an attempt left cools the array. -/
theorem doPufDecodeDone_again {s : State} {errbits : BitVec 15} {bad : List (Fin 256)} (hd : s.vlt.puf = .decode)
    (ha : s.vlt.attempt < 3) : doPufDecodeDone false errbits bad s = raise (setVlt s { s.vlt with puf := .cool }) 5 0 :=
  (if_neg (not_not_intro hd)).trans ((if_neg Bool.false_ne_true).trans (if_pos ha))

/-- The third decoding that fails is the last. -/
theorem doPufDecodeDone_last {s : State} {errbits : BitVec 15} {bad : List (Fin 256)} (hd : s.vlt.puf = .decode)
    (ha : 3 ≤ s.vlt.attempt) :
    doPufDecodeDone false errbits bad s = raise (pufShow (setVlt s { s.vlt with puf := .failed }) 2 0) 5 1 :=
  (if_neg (not_not_intro hd)).trans ((if_neg Bool.false_ne_true).trans (if_neg (Nat.not_lt.mpr ha)))

/-- A reseed that was due ends; nothing starts. -/
theorem doDrbgReseedDone_due {s : State} (h : s.vlt.rngStart = false) (h8 : bit (rd s (hdr 6 Off.STAT)) 8 = true)
    (h9 : bit (rd s (hdr 6 Off.STAT)) 9 = true) : doDrbgReseedDone s = reseeded s := by
  unfold doDrbgReseedDone
  rw [if_neg (ne_true_of_eq_false h), if_pos (by rw [h8, h9]; rfl)]

/-- With the DRBG ready a read takes 32 bits of it. -/
theorem rngData_ready {s : State} {i : Initiator} (h : bit (rd s (hdr 6 Off.STAT)) 9 = true) :
    let s1 := drbgCount s
    rngData s i = ({ s1 with fresh := s1.fresh + 1 }, Config.free 32 s1.fresh) := if_pos h

/-- Settles O27: each event of the array and of the noise source has one branch, which its hypotheses choose. -/
theorem vaultStart : Obligations.VaultStart := by
  unfold Obligations.VaultStart
  intro i v errbits bad apt s makes ctrl stat raw off
  refine ⟨fun h => lands (exec_pufPowerDone _) (if_pos h), fun h => lands (exec_pufReadDone _) (if_pos h),
    fun h => lands (exec_pufCoolDone _) (if_pos h), fun h => ⟨?_, fun ha => ?_, fun ha => ?_⟩, fun hm => ?_, ?_, fun hm => ⟨?_, ?_⟩,
    fun h => ?_, fun h h8 h9 => ?_, fun hm => ?_, fun hm => ?_⟩
  · exact lands (exec_pufDecodeDone ..) (doPufDecodeDone_match h)
  · exact lands (exec_pufDecodeDone ..) (doPufDecodeDone_again h ha)
  · exact lands (exec_pufDecodeDone ..) (doPufDecodeDone_last h ha)
  · exact lands (exec_vltSidx ..) (guardW_open hm _)
  · exact exec_rngHealthFail ..
  · exact lands (exec_reseedNow ..) (guardW_open hm _)
  · exact lands (exec_rngRestart ..) (guardW_open hm _)
  · exact lands (exec_drbgReseedDone _) (if_pos h)
  · exact lands (exec_drbgReseedDone _) (doDrbgReseedDone_due h h8 h9)
  · intro s1 h9
    exact lands (exec_rngDataRead ..) ((guardR_open hm _).trans (congrArg (fun p => answer p.1 p.2) (rngData_ready h9)))
  · exact lands (exec_rngHstatRead ..) (guardR_open hm _)

end Sys2Proof.Machine
end

section
/-! ### What leaves the vault as it is -/

namespace Sys2Proof.Machine

open Sys2Proof

/-- A walk over a list keeps the vault if each step does. -/
theorem foldl_vlt {α : Type} {f : State → α → State} (hf : ∀ s x, (f s x).vlt = s.vlt) (l : List α) (s : State) :
    (l.foldl f s).vlt = s.vlt := by
  induction l generalizing s with
  | nil => rfl
  | cons x xs ih => exact (ih _).trans (hf s x)

@[simp] theorem raise_vlt (s : State) (page k : Nat) : (raise s page k).vlt = s.vlt := rfl
@[simp] theorem noteEccUnit_vlt (dom : Nat) (s : State) (w : Nat) : (noteEccUnit dom s w).vlt = s.vlt := rfl
@[simp] theorem setBne_vlt (s : State) (n : Nat) (x : BLane) : (setBne s n x).vlt = s.vlt := rfl
@[simp] theorem setChan_vlt (s : State) (n : Nat) (c : Chan) : (setChan s n c).vlt = s.vlt := rfl
@[simp] theorem setLane_vlt (s : State) (h : Bool) (n : Nat) (x : Lane) : (setLane s h n x).vlt = s.vlt := by
  cases h <;> rfl

@[simp] theorem unitWrite_vlt (s : State) (dom a : Nat) (bs : Bytes) : (unitWrite s dom a bs).vlt = s.vlt :=
  foldl_vlt (noteEccUnit_vlt dom) _ _

@[simp] theorem unitRead_vlt (s : State) (dom a n : Nat) : (unitRead s dom a n).1.vlt = s.vlt := by
  unfold unitRead
  split <;> rfl

@[simp] theorem chanSettle_vlt (s : State) (n : Nat) : (chanSettle s n).vlt = s.vlt := by
  unfold chanSettle
  dsimp only
  split <;> rfl

@[simp] theorem chanDone_vlt (s : State) (n tag : Nat) (order : Bool) (st : Nat) (body : Bytes) :
    (chanDone s n tag order st body).vlt = s.vlt := by
  unfold chanDone
  dsimp only
  split
  · exact chanSettle_vlt s n
  · rfl

@[simp] theorem jobReport_vlt (s : State) (src : JobSrc) (dom off st : Nat) (body : Bytes) :
    (jobReport s src dom off st body).vlt = s.vlt := by
  cases src with
  | page => rfl
  | cp c t addr => rfl
  | chan n tag =>
    simp only [jobReport, endByTag, endActive]
    split <;> simp

@[simp] theorem laneEnd_vlt (s : State) (h : Bool) (n : Nat) (j : Job) (st d t k : Nat) : (laneEnd s h n j st d t k).vlt = s.vlt := by
  unfold laneEnd
  split
  · rfl
  · exact jobReport_vlt ..

@[simp] theorem laneClear_vlt (s : State) (h : Bool) (n : Nat) : (laneClear s h n).vlt = s.vlt := by
  simp only [laneClear, endCur, setLane_vlt]
  split <;> simp

@[simp] theorem bneEndCur_vlt (s : State) (n st : Nat) : (bneEndCur s n st).vlt = s.vlt := by
  simp only [bneEndCur, bneEnd]
  split
  · rfl
  · split
    · rfl
    · simp

@[simp] theorem lmsEnd_vlt (s : State) (q : LReq) (st len idx : Nat) : (lmsEnd s q st len idx).vlt = s.vlt := by
  unfold lmsEnd
  dsimp only
  split
  · rfl
  · simp

/-- A lane that holds an entry's key clears it. -/
def recallLane (entry : Nat) (h : Bool) (s : State) (n : Nat) : State :=
  if keyFrom entry (getLane s h n).key then laneClear s h n else s

/-- A big-number lane that holds an entry's key clears it. -/
def recallBne (entry : Nat) (s : State) (n : Nat) : State :=
  if keyFrom entry (getBne s n).key then
    setBne (bneEndCur s n stABORT) n { getBne (bneEndCur s n stABORT) n with key := none }
  else s

/-- A signature under an entry's key ends. -/
def recallLms (entry : Nat) (s : State) : State :=
  match s.lanes.lmsRun with
  | some r => if entry / 2 ^ 30 = 1 && r.slot == entry % 256 then
      lmsEnd { s with lanes := { s.lanes with lmsRun := none } } r.req stABORT 0 0 else s
  | none => s

@[simp] theorem recallLane_vlt (entry : Nat) (h : Bool) (s : State) (n : Nat) : (recallLane entry h s n).vlt = s.vlt := by
  unfold recallLane
  split
  · exact laneClear_vlt s h n
  · rfl

@[simp] theorem recallBne_vlt (entry : Nat) (s : State) (n : Nat) : (recallBne entry s n).vlt = s.vlt := by
  unfold recallBne
  split
  · exact bneEndCur_vlt s n stABORT
  · rfl

@[simp] theorem recallLms_vlt (entry : Nat) (s : State) : (recallLms entry s).vlt = s.vlt := by
  unfold recallLms
  split
  · split
    · exact lmsEnd_vlt ..
    · rfl
  · rfl

/-- The recall of a key leaves the vault itself. -/
@[simp] theorem recallKey_vlt (s : State) (entry : Nat) : (recallKey s entry).vlt = s.vlt := by
  unfold recallKey
  extract_lets s1 s2 s3 lanes s4
  have h1 : s1.vlt = s.vlt := foldl_vlt (recallLane_vlt entry false) _ s
  clear_value s1
  have h2 : s2.vlt = s1.vlt := foldl_vlt (recallLane_vlt entry true) _ s1
  clear_value s2
  have h3 : s3.vlt = s2.vlt := foldl_vlt (recallBne_vlt entry) _ s2
  clear_value s3
  have h4 : s4.vlt = s3.vlt := recallLms_vlt entry s3
  exact h4.trans (h3.trans (h2.trans h1))

@[simp] theorem drbgCount_vlt (s : State) : (drbgCount s).vlt = s.vlt := by
  simp only [drbgCount, reseedDue]
  split
  · split <;> rfl
  · rfl

@[simp] theorem freeBytes_vlt (n : Nat) (s : State) : (freeBytes n s).2.vlt = s.vlt := by
  induction n generalizing s with
  | zero => rfl
  | succ n ih => exact ih { s with fresh := s.fresh + 1 }

theorem drbg_vlt {s t : State} {n : Nat} {r : Bytes} (h : drbg s n = some (r, t)) : t.vlt = s.vlt := by
  unfold drbg at h
  split at h
  · rw [← (Prod.mk.inj (Option.some.inj h)).2, freeBytes_vlt, drbgCount_vlt]
    split <;> rfl
  · exact absurd h (by simp)

@[simp] theorem keyFor_vlt (s : State) (h dom : Nat) (use : KeyRec → Bool) : (keyFor s h dom use).1.vlt = s.vlt := by
  simp only [keyFor]
  split
  · rfl
  · split
    · rfl
    · split
      · split <;> rfl
      · rfl

@[simp] theorem vIn_vlt (s : State) (q : VReq) (n : Nat) : (vIn s q n).1.vlt = s.vlt := by
  unfold vIn
  split
  · rfl
  · split
    · rfl
    · exact unitRead_vlt ..

@[simp] theorem nvGate_vlt (s : State) (prot : Bool) : (nvGate s prot).1.vlt = s.vlt := by
  unfold nvGate
  split
  · rfl
  · split <;> rfl

@[simp] theorem identSign_vlt (s : State) (m : Bytes) : (identSign s m).1.vlt = s.vlt := by
  unfold identSign
  split
  · split
    · rfl
    · next hr =>
      dsimp only
      split <;> exact drbg_vlt hr
  · rfl

@[simp] theorem updMaterial_vlt (s : State) (m : Bytes) : (updMaterial s m).1.vlt = s.vlt := by
  simp only [updMaterial]
  split
  · rfl
  · split
    · rfl
    · split
      · rfl
      · split <;> rfl

/-- The end of a command leaves the vault itself. -/
@[simp] theorem vEnd_vlt (s : State) (q : VReq) (st result : Nat) (out : Bytes) : (vEnd s q st result out).vlt = s.vlt := by
  have hout : (if (decide (st = stOK) && !out.isEmpty) = true then unitWrite s q.dom q.obuf out else s).vlt = s.vlt := by
    split
    · exact unitWrite_vlt ..
    · rfl
  unfold vEnd
  dsimp only
  split
  · exact hout
  · exact (jobReport_vlt ..).trans hout

@[simp] theorem vReject_vlt (s : State) (q : VReq) (st reason : Nat) : (vReject s q st reason).vlt = s.vlt := vEnd_vlt _ q st 0 []

/-- A new session takes an entry and leaves the commands. -/
theorem newSess_queue {s t : State} {k : KeyRec} {h : Nat} (hn : newSess s k = some (t, h)) : t.vlt.queue = s.vlt.queue := by
  unfold newSess at hn
  cases he : freeSess s with
  | none => rw [he] at hn; exact absurd hn (by simp)
  | some e =>
    rw [he] at hn
    rw [← (Prod.mk.inj (Option.some.inj hn)).1]
    rfl

end Sys2Proof.Machine
end

section
/-! ### Vault commands of the page (R182 to R199, R203, R204) -/

namespace Sys2Proof.Machine

open Sys2Proof

/-- With an empty queue the vault starts nothing. -/
theorem vRun_idle (n : Nat) {s : State} (hq : s.vlt.queue = []) : vRun n s = s := by
  cases n with
  | zero => rfl
  | succ n =>
    unfold vRun
    split
    · next q rest _ h => exact absurd (h.symm.trans hq) (List.cons_ne_nil q rest)
    · rfl

theorem vaultRun_idle {s : State} (hq : s.vlt.queue = []) : vaultRun s = s := vRun_idle 9 hq

/-- A command put into an empty queue and taken out again leaves the state. -/
theorem setVlt_queue_nil {s : State} (hq : s.vlt.queue = []) (x : List VReq) :
    setVlt (setVlt s { s.vlt with queue := x }) { (setVlt s { s.vlt with queue := x }).vlt with queue := [] } = s := by
  show { s with vlt := { s.vlt with queue := [] } } = s
  rw [← hq]

/-- The state in which the page's command starts: CMDSTAT shows BUSY. -/
def vltBusy (s : State) : State := wr s Reg.VLT_CMDSTAT 0x80000000#32

/-- The page may start a command: the write is permitted, no command of the page runs, and none is queued or runs. -/
structure VltFree (s : State) (i : Initiator) : Prop where
  store : MayStore s i Reg.VLT_CMD
  ready : bit (rd s Reg.VLT_CMDSTAT) 31 = false
  queue : s.vlt.queue = []
  job : s.vlt.job = none

/-- A command that does not wait starts at once. -/
theorem vltCmd_starts {s : State} {i : Initiator} {op : Nat} (h : VltFree s i)
    (hw : vWaits (vltBusy s) (pageReq (vltBusy s) op) = false)
    (hq : (vStart (vltBusy s) (pageReq (vltBusy s) op)).vlt.queue = []) :
    vltCmd s i op = vStart (vltBusy s) (pageReq (vltBusy s) op) := by
  obtain ⟨hm, hr, hq0, hj⟩ := h
  have hqb : (vltBusy s).vlt.queue = [] := hq0
  refine (guardW_open hm _).trans ((if_neg (ne_true_of_eq_false hr)).trans ?_)
  show vRun 9 (setVlt (vltBusy s) { (vltBusy s).vlt with queue := (vltBusy s).vlt.queue ++ [pageReq (vltBusy s) op] }) = _
  rw [hqb, List.nil_append]
  unfold vRun
  split
  · next q rest _ hqr =>
    obtain ⟨rfl, rfl⟩ := List.cons.inj hqr
    rw [setVlt_queue_nil hqb]
    exact (if_neg (ne_true_of_eq_false hw)).trans (vRun_idle 8 hq)
  · next hno => exact absurd rfl (hno _ _ hj)

/-- No command waits where KUW works and a big-number lane takes internal work. -/
theorem vWaits_false {s : State} (hk : kuwWaits s = false) (hb : bneInternal s = true) (q : VReq) : vWaits s q = false := by
  unfold vWaits
  rw [hk, hb]
  simp

/-- A command that ends at once ends in the state its meaning gives. -/
theorem vltCmd_gives {s t : State} {i : Initiator} {op : Nat} (h : VltFree s i) (hk : kuwWaits (vltBusy s) = false)
    (hb : bneInternal (vltBusy s) = true) (ht : vStart (vltBusy s) (pageReq (vltBusy s) op) = t) (hq : t.vlt.queue = []) :
    vltCmd s i op = t :=
  (vltCmd_starts h (vWaits_false hk hb _) (ht ▸ hq)).trans ht

/-- How a command of the page ends: the output is written where there is one, then the three result registers. -/
theorem vEnd_page {s t : State} {op result : Nat} {out : Bytes} :
    vEnd t (pageReq s op) stOK result out =
      wr (wr (wr (if out.isEmpty then t else unitWrite t 0 (rd s Reg.VLT_OBUF).toNat out) Reg.VLT_CMDSTAT (word stOK))
        Reg.VLT_RESULT (word result)) Reg.VLT_OUTLEN (word out.length) := by
  cases out <;> rfl

/-- OPEN gives the handle that its key answers to. -/
theorem vOpen_key {s t : State} {q : VReq} {k : KeyRec} :
    let h := handleOf 1 (vslot s (q.arg 0 % 256)).gen (q.arg 0 % 256)
    keyFor s h q.dom (fun _ => true) = (t, .inr k) → vOpen s q = vEnd t q stOK h [] := by
  intro h hk
  unfold vOpen
  dsimp only
  rw [hk]

/-- An output that fits is given. -/
theorem vGive_fits {s : State} {q : VReq} {result : Nat} {out : Bytes} (h : vOut s q out.length = none) :
    vGive s q result out = vEnd s q stOK result out := by
  unfold vGive
  rw [h]

/-- GETPUB gives the public key of a key. -/
theorem vGetpub_key {s t : State} {q : VReq} {k : KeyRec}
    (hk : keyFor s (q.arg 0) q.dom (fun k => !ktypeSym k.ktype) = (t, .inr k))
    (ho : vOut t q ((pubOf k).getD []).length = none) : vGetpub s q = vEnd t q stOK 0 ((pubOf k).getD []) := by
  unfold vGetpub
  rw [hk]
  exact vGive_fits ho

/-- GETID gives both identity keys. -/
theorem vGetid_keys {s : State} {q : VReq} {a b : KeyRec} (ha : slotKey s 0 = some a) (hb : slotKey s 1 = some b)
    (ho : vOut s q ((pubOf a).getD [] ++ (pubOf b).getD []).length = none) :
    vGetid s q = vEnd s q stOK 0 ((pubOf a).getD [] ++ (pubOf b).getD []) := by
  unfold vGetid
  rw [ha, hb]
  exact vGive_fits ho

/-- What a symmetric key type is not: RSA, LMS, public material, or a type with a public key. -/
theorem ktypeSym_types {kt : Nat} (h : ktypeSym kt = true) :
    kt ≠ 0x20 ∧ kt ≠ 0x30 ∧ ktypePublic kt = false ∧ pubLen kt 0 = 0 := by
  have hall : ∀ k < 0x10, k ≠ 0x20 ∧ k ≠ 0x30 ∧ ktypePublic k = false ∧ pubLen k 0 = 0 := by decide
  exact hall kt (of_decide_eq_true h)

/-- A new symmetric session key. -/
theorem vMint_session {s s2 s3 : State} {q : VReq} {r : Bytes} {h kt attr : Nat} (hkt : q.arg 0 / 2 ^ 24 % 256 = kt)
    (hat : q.arg 1 + 2 ^ 32 * q.arg 2 = attr) (hs : nbit (q.arg 0) 8 = true) (hsym : ktypeSym kt = true)
    (hlen : (ktypeLen kt).isSome = true) (hattr : attrOk kt attr true = true) (hfree : freeSess s ≠ none)
    (hr : drbg (if bit (rd s Reg.RNG_CFG) 0 && drbgReady s then reseeded s else s) (mintLen kt 0) = some (r, s2))
    (hn : newSess s2 { ktype := kt, origin := 1, auth := 0xFF, attr := attr, keyId := q.arg 3, nvctr := 0xFF, param := 0,
                       mat := mintMat kt 0 r } = some (s3, h)) :
    vMint s q = raise (vEnd s3 q stOK h []) 5 5 := by
  obtain ⟨h20, h30, hpub, hpl⟩ := ktypeSym_types hsym
  have hfree' : (freeSess s).isNone = false := Option.isNone_eq_false_iff.mpr (Option.isSome_iff_ne_none.mpr hfree)
  have hopen : mintOpen s kt = ((0, 0), s) := (if_neg h20).trans (if_neg h30)
  have hout : vOut s q (pubLen kt 0) = none := if_pos hpl
  simp only [vMint, hkt, hat, hs, hlen, hpub, hattr, hfree', hopen, h30, hsym, hout, hr, hn, Bool.not_true, Bool.false_and,
    Bool.and_false, Bool.or_false, Bool.false_eq_true, decide_false, if_false, if_true, ne_eq, not_true_eq_false]

/-- Derived bytes of one iteration make a session key. -/
theorem vNewKey_short {s t : State} {q : VReq} {kt attr h : Nat} {o : Bytes} (hl : (ktypeLen kt).getD 0 ≤ 32)
    (hn : newSess s (sessRec kt attr 0 (o.take ((ktypeLen kt).getD 0))) = some (t, h)) :
    vNewKey s q kt attr o = vEnd t q stOK h [] := by
  have hd : derivedMat s kt o = (o.take ((ktypeLen kt).getD 0), s) := if_pos hl
  unfold vNewKey
  rw [hd]
  dsimp only
  rw [hn]

/-- DERIVE makes a session key from a key and a label. -/
theorem vDerive_key {s s2 s3 s4 : State} {q : VReq} {k : KeyRec} {label : Bytes} {h : Nat} :
    let kt := q.arg 1 / 2 ^ 24 % 256
    outKeyOk q = true → 0 < q.arg 3 → q.arg 3 ≤ 64 → vIn s q (q.arg 3) = (s2, .inr label) →
    keyFor s2 (q.arg 0) q.dom (fun k => nbit k.attr aDERIVE) = (s3, .inr k) →
    newSess s3 (sessRec kt (outAttr (q.arg 2) q.dom) 0 ((kdf k.mat label serial).take ((ktypeLen kt).getD 0))) = some (s4, h) →
    (ktypeLen kt).getD 0 ≤ 32 → vDerive s q = vEnd s4 q stOK h [] := by
  intro kt hok h0 h64 hin hk hn hl
  unfold vDerive
  dsimp only
  rw [if_neg (by simp [hok]; omega), hin]
  dsimp only
  rw [hk]
  exact vNewKey_short hl hn

/-- AGREE makes a session key from a shared secret. -/
theorem vAgree_key {s s2 s3 s4 : State} {q : VReq} {k : KeyRec} {peer z : Bytes} {h : Nat} :
    let kt := q.arg 1 / 2 ^ 24 % 256
    outKeyOk q = true → keyFor s (q.arg 0) q.dom (fun k => nbit k.attr aKEYAGREE) = (s2, .inr k) →
    vIn s2 q (peerLen k.ktype) = (s3, .inr peer) → sharedSecret k peer = some z → (ktypeLen kt).getD 0 ≤ 32 →
    newSess s3 (sessRec kt (outAttr (q.arg 2) q.dom) 0 ((kdf z (ascii "JQAGREE") serial).take ((ktypeLen kt).getD 0))) =
      some (s4, h) →
    vAgree s q = vEnd s4 q stOK h [] := by
  intro kt hok hk hin hz hl hn
  unfold vAgree
  rw [if_neg (by simp [hok]), hk]
  dsimp only
  rw [hin]
  dsimp only
  rw [hz]
  exact vNewKey_short hl hn

/-- DESTROY of a session of the requester's domain. -/
theorem vDestroy_session {s : State} {q : VReq} {k : KeyRec} {h : Nat} (hh : q.arg 0 = h) (he : entryOf s h = some k)
    (hk : hKind h = 2) (hd : q.dom = attrDom k.attr) :
    vDestroy s q = vEnd (recallKey (setVsess s (hIdx h) { vsess s (hIdx h) with key := none }) h) q stOK 0 [] := by
  unfold vDestroy
  dsimp only
  rw [hh, he]
  dsimp only
  rw [if_neg (by omega), if_neg (not_not_intro hd)]

/-- A statement is signed and given out. -/
theorem vStatement_signed {s s3 s4 : State} {q : VReq} {mk : Bytes → Bytes} {nonce sig : Bytes} (hin : vIn s q 16 = (s3, .inr nonce))
    (ho : vOut s3 q 3533 = none) (hs : identSign s3 (mk nonce) = (s4, .inr sig)) :
    vStatement s q mk = raise (vEnd s4 q stOK 0 (mk nonce ++ sig)) 5 6 := by
  unfold vStatement
  rw [hin]
  dsimp only
  rw [ho]
  dsimp only
  rw [hs]

/-- The digest of a key's public part in a statement. -/
def pubDigest (k : KeyRec) : Bytes := match pubOf k with | some p => sha384 p | none => zeros 48

/-- HALLMARK of a key that may make one, outside RETIRED. -/
theorem vHallmark_key {s s2 s3 s4 : State} {q : VReq} {k : KeyRec} {nonce sig : Bytes} :
    let h := q.arg 0
    keyFor s h q.dom (fun _ => true) = (s2, .inr k) → k.origin ≠ 2 → nbit k.attr aHALLMARK = true → lcode s2 ≠ 5 →
    vIn s2 q 16 = (s3, .inr nonce) → vOut s3 q 3533 = none →
    let m := statement s2 1 (if hKind h = 1 then hIdx h else 0xFF) k.ktype k.origin k.keyId k.attr nonce (hGen h) (pubDigest k)
    identSign s3 m = (s4, .inr sig) → vHallmark s q = raise (vEnd s4 q stOK 0 (m ++ sig)) 5 6 := by
  intro h hk ho ha hl hin hout m hs
  unfold vHallmark
  dsimp only
  rw [hk]
  dsimp only
  rw [if_neg (by simp [ho, ha, hl])]
  exact vStatement_signed hin hout hs

/-- REPORT outside TEST. -/
theorem vReport_signed {s s3 s4 : State} {q : VReq} {nonce sig : Bytes} (hl : lcode s ≠ 1) (hin : vIn s q 16 = (s3, .inr nonce))
    (hout : vOut s3 q 3533 = none) :
    let m := statement s 2 0xFF 0 0 0 0 nonce 0 (zeros 48)
    identSign s3 m = (s4, .inr sig) → vReport s q = raise (vEnd s4 q stOK 0 (m ++ sig)) 5 6 := by
  intro m hs
  exact (if_neg hl).trans (vStatement_signed hin hout hs)

/-- ENROLL in TEST with the NV store ready. -/
theorem vEnroll_test {s s2 : State} {q : VReq} (hl : lcode s = 1) (hg : nvGate s true = (s2, stOK)) :
    vEnroll s q = vEnd (setVlt { s2 with fresh := s2.fresh + 1 } { s2.vlt with
      helper := some { enrol := s2.fresh, okA := true, okB := true, regionS := true } }) q stOK 0 [] := by
  unfold vEnroll
  rw [if_neg (not_not_intro hl), hg]
  exact if_neg (not_not_intro rfl)

end Sys2Proof.Machine
end

section
/-! ### Updates of the vault (R188 to R194) -/

namespace Sys2Proof.Machine

open Sys2Proof

/-- A well-formed message for this device waits for its signatures. -/
theorem vUpdate_message {s s2 : State} {q : VReq} {m : Bytes} (hin : vIn s q (q.arg 0) = (s2, .inr m)) (hf : updForm m = true)
    (hser : (m.drop 8).take 16 = serial) (ha : anchorOf s2 (mfld m 5 1) ≠ none) :
    vUpdate s q = setVlt s2 { s2.vlt with job := some { req := q, work := .sigs m } } := by
  have ha' : ¬ (anchorOf s2 (mfld m 5 1)).isNone = true := by simpa [Option.isNone_iff_eq_none] using ha
  unfold vUpdate
  rw [hin]
  exact (if_neg (by rw [hf]; decide)).trans ((if_neg (not_not_intro hser)).trans (if_neg ha'))

/-- Once both verifications have ended the checks follow. -/
theorem doUpdateSigsVerified_checks {s : State} {q : VReq} {m : Bytes} (hj : s.vlt.job = some ⟨q, .sigs m⟩)
    (hb : bneInternal s = true) (hk : kuwWaits s = false) : doUpdateSigsVerified s = vaultRun (updChecks s q m) := by
  unfold doUpdateSigsVerified
  rw [hj]
  exact if_neg (by simp [hb, hk])

/-- Checks 4 to 6 in turn. -/
theorem updChecks_rejects {s : State} {q : VReq} {m : Bytes} :
    let s1 := setVlt s { s.vlt with job := none }
    ((updSigs s m).1 = false → updChecks s q m = vReject s1 q stAUTH 4) ∧
    ((updSigs s m).1 = true → (updSigs s m).2 = false → updChecks s q m = vReject s1 q stAUTH 5) ∧
    ((updSigs s m).1 = true → (updSigs s m).2 = true → mfld m 24 4 ≤ ctrValue s1 (mfld m 5 1) →
      updChecks s q m = vReject s1 q stREPLAY 6) := by
  intro s1
  obtain ⟨⟨ec, pq⟩, hp⟩ : ∃ p, p = updSigs s m := ⟨_, rfl⟩
  unfold updChecks
  rw [← hp]
  refine ⟨fun h1 => ?_, fun h1 h2 => ?_, fun h1 h2 h3 => ?_⟩
  · exact if_pos (by simpa using h1)
  · exact (if_neg (by simpa using h1)).trans (if_pos (by simpa using h2))
  · exact (if_neg (by simpa using h1)).trans ((if_neg (by simpa using h2)).trans (if_pos h3))

/-- An account key whose checks all pass waits for its gate. -/
theorem updChecks_account {s s2 s3 : State} {q : VReq} {m mat : Bytes} :
    let s1 := setVlt s { s.vlt with job := none }
    (updSigs s m).1 = true → (updSigs s m).2 = true → ctrValue s1 (mfld m 5 1) < mfld m 24 4 → updAllowed s1 m = true →
    nvGate s1 true = (s2, stOK) → updMaterial s2 m = (s3, some mat) → mfld m 6 1 = 3 →
    updChecks s q m = setVlt s3 { s3.vlt with job := some { req := q, work := .gate m (acctEntry s3 m mat) } } := by
  intro s1 h1 h2 h3 ha hg hm hop
  obtain ⟨⟨ec, pq⟩, hp⟩ : ∃ p, p = updSigs s m := ⟨_, rfl⟩
  rw [← hp] at h1 h2
  unfold updChecks
  rw [← hp]
  refine (if_neg (by simpa using h1)).trans ((if_neg (by simpa using h2)).trans ((if_neg (Nat.not_le.mpr h3)).trans
    ((if_neg (by rw [ha]; decide)).trans ?_)))
  rw [hg]
  dsimp only
  rw [if_neg (not_not_intro rfl), hm]
  exact if_pos hop

/-- A transaction of the vault has ended well: what follows is its work's. -/
theorem vaultEnded_slots {s s2 : State} {q : VReq} {put : List (Nat × VSlot)} {cause result : Nat} {out : Bytes}
    (hj : s.vlt.job = some ⟨q, .slots put cause result out⟩) (ht : takeDone s (.txn 1 (s.vlt.refs - 1)) = some (stOK, s2))
    (hc : cause < 29) :
    let s3 := put.foldl (fun s kx => putSlot s kx.1 kx.2) (setVlt s2 { s2.vlt with job := none, hold := none })
    vaultEnded s = vaultRun (raise (vEnd s3 q stOK result out) 5 cause) := by
  intro s3
  unfold vaultEnded
  rw [hj]
  dsimp only
  rw [ht]
  dsimp only
  rw [if_neg (not_not_intro rfl)]
  exact congrArg vaultRun (if_pos hc)

theorem vaultEnded_account {s s2 : State} {q : VReq} {m entry : Bytes} (hj : s.vlt.job = some ⟨q, .acct m entry⟩)
    (ht : takeDone s (.txn 1 (s.vlt.refs - 1)) = some (stOK, s2)) :
    let s3 := acctInstall (setVlt s2 { s2.vlt with job := none, hold := none }) m entry
    vaultEnded s = vaultRun (raise (vEnd s3 q stOK 0 []) 5 3) := by
  intro s3
  unfold vaultEnded
  rw [hj]
  dsimp only
  rw [ht]
  exact if_neg (not_not_intro rfl)

/-- The account-key page of a pair as the NV store holds it. -/
def pairPage (s : State) (lid : Nat) : Bytes :=
  match newestPage s 6 lid with | some (_, f) => (f.data ++ zeros 192).take 192 | none => zeros 192

/-- With the account free at its gate the vault writes the pair's page and the base counter in one transaction. -/
theorem doAccountKeyInstall_gate {s s2 : State} {q : VReq} {m entry : Bytes} (hj : s.vlt.job = some ⟨q, .gate m entry⟩)
    (hh : acctHeld s (mfld m 28 2) = false) :
    let a := mfld m 28 2
    let page := pairPage s (a / 2)
    let off := a % 2 * 96
    let mine := installEntry ((page.drop off).take 96) (acctFlag s a 2) (mfld m 30 2 == 1) entry
    vTxn (setVlt s { s.vlt with job := none, hold := some a })
      [.page 6 (a / 2) 3 (page.take off ++ mine ++ page.drop (off + 96) ++ zeros 64), .base (mfld m 5 1) (mfld m 24 4)] = (s2, 0) →
    doAccountKeyInstall s = setVlt s2 { s2.vlt with job := some { req := q, work := .acct m entry } } := by
  intro a page off mine ht
  unfold doAccountKeyInstall
  rw [hj]
  refine (if_neg (ne_true_of_eq_false hh)).trans ?_
  show (match vTxn (setVlt s { s.vlt with job := none, hold := some a })
      [.page 6 (a / 2) 3 (page.take off ++ mine ++ page.drop (off + 96) ++ zeros 64), .base (mfld m 5 1) (mfld m 24 4)] with
    | (s, 0) => vWait s q (.acct m entry)
    | (s, st) => gateNext (vaultRun (vEnd (setVlt s { s.vlt with hold := none }) q st 0 []))) = _
  rw [ht]
  rfl

theorem doAccountKeyInstall_commit {s : State} {q : VReq} {m entry : Bytes} (hj : s.vlt.job = some ⟨q, .acct m entry⟩) :
    doAccountKeyInstall s = gateNext (vaultEnded s) := by
  unfold doAccountKeyInstall
  rw [hj]
  rfl

end Sys2Proof.Machine
end

section
/-! ### O28: vault commands and updates -/

namespace Sys2Proof.Machine

open Sys2Proof

/-- A command of the page that ends at once shows its end in the page's registers. -/
theorem vltCmd_ends {s t : State} {i : Initiator} {op result : Nat} {out : Bytes} (h : VltFree s i)
    (hk : kuwWaits (vltBusy s) = false) (hb : bneInternal (vltBusy s) = true)
    (ht : vStart (vltBusy s) (pageReq (vltBusy s) op) = vEnd t (pageReq (vltBusy s) op) stOK result out)
    (hq : t.vlt = (vltBusy s).vlt ∨ t.vlt.queue = []) :
    vltCmd s i op =
      wr (wr (wr (if out.isEmpty then t else unitWrite t 0 (rd (vltBusy s) Reg.VLT_OBUF).toNat out) Reg.VLT_CMDSTAT (word stOK))
        Reg.VLT_RESULT (word result)) Reg.VLT_OUTLEN (word out.length) := by
  refine (vltCmd_gives h hk hb ht ?_).trans vEnd_page
  rw [vEnd_vlt]
  exact hq.elim (fun e => (congrArg VltSt.queue e).trans h.queue) id

/-- The same where the command also raises a cause. -/
theorem vltCmd_raises {s t : State} {i : Initiator} {op result cause : Nat} {out : Bytes} (h : VltFree s i)
    (hk : kuwWaits (vltBusy s) = false) (hb : bneInternal (vltBusy s) = true)
    (ht : vStart (vltBusy s) (pageReq (vltBusy s) op) = raise (vEnd t (pageReq (vltBusy s) op) stOK result out) 5 cause)
    (hq : t.vlt.queue = []) : vltCmd s i op = raise (vEnd t (pageReq (vltBusy s) op) stOK result out) 5 cause :=
  vltCmd_gives h hk hb ht (by rw [raise_vlt, vEnd_vlt]; exact hq)

theorem keyFor_kept {s t : State} {h dom : Nat} {use : KeyRec → Bool} {r : Nat ⊕ KeyRec} (he : keyFor s h dom use = (t, r)) :
    t.vlt = s.vlt := by
  rw [← keyFor_vlt s h dom use, he]

theorem vIn_kept {s t : State} {q : VReq} {n : Nat} {r : Nat ⊕ Bytes} (he : vIn s q n = (t, r)) : t.vlt = s.vlt := by
  rw [← vIn_vlt s q n, he]

theorem identSign_kept {s t : State} {m : Bytes} {r : Nat ⊕ Bytes} (he : identSign s m = (t, r)) : t.vlt = s.vlt := by
  rw [← identSign_vlt s m, he]

theorem nvGate_kept {s t : State} {prot : Bool} {st : Nat} (he : nvGate s prot = (t, st)) : t.vlt = s.vlt := by
  rw [← nvGate_vlt s prot, he]

theorem updMaterial_kept {s t : State} {m : Bytes} {r : Option Bytes} (he : updMaterial s m = (t, r)) : t.vlt = s.vlt := by
  rw [← updMaterial_vlt s m, he]

/-- A message read from the page waits for its signatures. -/
theorem doVltUpdate_waits {s s2 : State} {i : Initiator} {m : Bytes} (h : VltFree s i) :
    let q := pageReq (vltBusy s) 1
    vIn (vltBusy s) q (rd (vltBusy s) Reg.VLT_ARG).toNat = (s2, .inr m) → updForm m = true → (m.drop 8).take 16 = serial →
    anchorOf s2 (mfld m 5 1) ≠ none → doVltUpdate i s = setVlt s2 { s2.vlt with job := some { req := q, work := .sigs m } } := by
  intro q hin hf hser ha
  have hv : vStart (vltBusy s) q = setVlt s2 { s2.vlt with job := some { req := q, work := .sigs m } } :=
    vUpdate_message hin hf hser ha
  refine (vltCmd_starts h ?_ ?_).trans hv
  · rfl
  · rw [hv]
    exact (congrArg VltSt.queue (vIn_kept hin)).trans h.queue

/-- Settles O28: each command of the page starts at once on an idle vault, and the queue stays empty, since no unit that the
command uses touches it. -/
theorem vaultCommands : Obligations.VaultCommands := by
  unfold Obligations.VaultCommands
  refine ⟨?_, ?_⟩
  · intro i k r z nonce label sig s s2 s3 s4 h busy q ends arg hm hr hq0 hj hkuw hbne
    have hf : VltFree s i := ⟨hm, hr, hq0, hj⟩
    have hqb : busy.vlt.queue = [] := hq0
    refine ⟨fun hk => ?_, fun hk ho => ?_, fun a b ha hb => ?_, ?_, ?_, ?_, fun he hk hd => ?_, fun hk ho ha hl hin hout => ?_,
      fun hl hin hout => ?_, fun hl hg => ?_⟩
    · exact lands (exec_vltOpen ..) (vltCmd_ends hf hkuw hbne (vOpen_key hk) (.inl (keyFor_kept hk)))
    · exact lands (exec_vltGetpub ..) (vltCmd_ends hf hkuw hbne (vGetpub_key hk ho) (.inl (keyFor_kept hk)))
    · intro out ho
      exact lands (exec_vltGetid ..) (vltCmd_ends hf hkuw hbne (vGetid_keys ha hb ho) (.inl rfl))
    · intro kt attr hs hsym hlen hattr hfree s1 hr hn
      have hs1 : s1.vlt = busy.vlt := by
        simp only [s1]
        split <;> rfl
      have hq3 : s3.vlt.queue = [] := (newSess_queue hn).trans ((congrArg VltSt.queue ((drbg_vlt hr).trans hs1)).trans hqb)
      exact lands (exec_vltMint ..) (vltCmd_raises hf hkuw hbne (vMint_session rfl rfl hs hsym hlen hattr hfree hr hn) hq3)
    · intro kt hok h0 h64 hin hk hn hl
      have hq4 : s4.vlt.queue = [] :=
        (newSess_queue hn).trans ((congrArg VltSt.queue ((keyFor_kept hk).trans (vIn_kept hin))).trans hqb)
      exact lands (exec_vltDerive ..) (vltCmd_ends hf hkuw hbne (vDerive_key hok h0 h64 hin hk hn hl) (.inr hq4))
    · intro kt hok hk hin hz hl hn
      have hq4 : s4.vlt.queue = [] :=
        (newSess_queue hn).trans ((congrArg VltSt.queue ((vIn_kept hin).trans (keyFor_kept hk))).trans hqb)
      exact lands (exec_vltAgree ..) (vltCmd_ends hf hkuw hbne (vAgree_key hok hk hin hz hl hn) (.inr hq4))
    · obtain ⟨t, ht⟩ : ∃ t, t = recallKey (setVsess busy (hIdx (arg 0)) { vsess busy (hIdx (arg 0)) with key := none }) (arg 0) :=
        ⟨_, rfl⟩
      have hq1 : t.vlt.queue = [] := by
        rw [ht, recallKey_vlt]
        exact hqb
      have hv : vDestroy busy (q 7) = vEnd t (q 7) stOK 0 [] := by
        rw [ht]
        exact vDestroy_session rfl he hk hd.symm
      rw [← ht]
      exact lands (exec_vltDestroy ..) (vltCmd_ends hf hkuw hbne hv (.inr hq1))
    · intro m hs
      have hq4 : s4.vlt.queue = [] :=
        (congrArg VltSt.queue ((identSign_kept hs).trans ((vIn_kept hin).trans (keyFor_kept hk)))).trans hqb
      exact lands (exec_hallmark ..) (vltCmd_raises hf hkuw hbne (vHallmark_key hk ho ha hl hin hout hs) hq4)
    · intro m hs
      have hq4 : s4.vlt.queue = [] := (congrArg VltSt.queue ((identSign_kept hs).trans (vIn_kept hin))).trans hqb
      exact lands (exec_report ..) (vltCmd_raises hf hkuw hbne (vReport_signed hl hin hout hs) hq4)
    · have hq2 : s2.vlt.queue = [] := (congrArg VltSt.queue (nvGate_kept hg)).trans hqb
      exact lands (exec_vltEnroll ..) (vltCmd_ends hf hkuw hbne (vEnroll_test hl hg) (.inr hq2))
  · intro i q m entry s s2 makes busy q1
    refine ⟨fun hm hr hq0 hj hin hf hser ha => ?_, ?_, fun put cause result out hj ht hc => ?_, fun hj hh => ?_, fun hj ht => ?_⟩
    · exact lands (exec_vltUpdate ..) (doVltUpdate_waits ⟨hm, hr, hq0, hj⟩ hin hf hser ha)
    · intro hj hq0 hb hk s1
      have checked : ∀ {t : State}, updChecks s q m = t → t.vlt.queue = [] → makes .updateSigsVerified t := fun ht hq =>
        lands (exec_updateSigsVerified _) ((doUpdateSigsVerified_checks hj hb hk).trans ((congrArg vaultRun ht).trans (vaultRun_idle hq)))
      have rejected : ∀ st reason, (vReject s1 q st reason).vlt.queue = [] := fun st reason =>
        (congrArg VltSt.queue (vReject_vlt s1 q st reason)).trans hq0
      obtain ⟨h4, h5, h6⟩ := updChecks_rejects (s := s) (q := q) (m := m)
      refine ⟨fun h => checked (h4 h) (rejected ..), fun h h' => checked (h5 h h') (rejected ..),
        fun h h' hc => checked (h6 h h' hc) (rejected ..), fun s3 mat h h' hc ha hg hmat hop => ?_⟩
      exact checked (updChecks_account h h' hc ha hg hmat hop)
        ((congrArg VltSt.queue ((updMaterial_kept hmat).trans (nvGate_kept hg))).trans hq0)
    · exact lands (exec_updateCommit _) (congrArg gateNext (vaultEnded_slots hj ht hc))
    · intro a page off mine ht
      exact lands (exec_accountKeyInstall _) (doAccountKeyInstall_gate hj hh ht)
    · exact lands (exec_accountKeyInstall _) ((doAccountKeyInstall_commit hj).trans (congrArg gateNext (vaultEnded_account hj ht)))

end Sys2Proof.Machine
end

/-! PROOFS. Jobs of the pages (R213), the cipher lanes (R212 to R228), the hash lanes (R236 to R240), the LMS sequencer
(R243 to R250) and the seal engine (R251 to R255). -/

section
/-! ### O29: a job submitted through its page -/

namespace Sys2Proof.Machine

open Sys2Proof

/-- What a page job's GO asks of the page, of the block's place and of the banks. -/
structure PageBlock (s : State) (i : Initiator) (page off size : Nat) (s1 : State) (blk : Bytes) : Prop where
  store : MayStore s i (hdr page off)
  ready : bit (rd s (hdr page (off + 4))) 31 = false
  aligned : (rd s (hdr page (off - 4))).toNat % 16 = 0
  inRange : rangeSram (rd s (hdr page (off - 4))).toNat size = true
  up : banksUp s (rd s (hdr page (off - 4))).toNat size = true
  read : unitRead s (pageDomain s page) (rd s (hdr page (off - 4))).toNat size = (s1, .inr blk)

/-- A GO with such a block gives it to the unit, with the page BUSY. -/
theorem pageGo_reads {s s1 : State} {i : Initiator} {page off size : Nat} {blk : Bytes} (h : PageBlock s i page off size s1 blk)
    (fail : State → Nat → State) (k : State → Bytes → State) :
    pageGo s i page off size fail k = k (wr s1 (hdr page (off + 4)) 0x80000000#32) blk := by
  obtain ⟨hm, hr, ha, hb, hu, hrd⟩ := h
  refine (guardW_open hm _).trans ((if_neg (ne_true_of_eq_false hr)).trans ((if_neg (not_not_intro ha)).trans
    ((if_neg ?_).trans ?_)))
  · rw [hb, hu]
    decide
  · rw [hrd]

theorem lanePageJob_taken {s s1 s2 : State} {i : Initiator} {h : Bool} {n : Nat} {blk : Bytes}
    (hb : PageBlock s i (lanePage h n) 0x88 48 s1 blk) :
    let s' := wr s1 (hdr (lanePage h n) 0x8C) 0x80000000#32
    laneAdmit s' h n .page (pageDomain s' (lanePage h n)) blk = .taken s2 → lanePageJob i h n s = s2 := by
  intro s' ht
  unfold lanePageJob
  dsimp only
  rw [pageGo_reads hb, ht]

theorem doBneJobcmd_taken {s s1 s2 : State} {i : Initiator} {n : Fin 4} {blk : Bytes}
    (hb : PageBlock s i (bnePage n.val) 0x88 48 s1 blk) :
    let s' := wr s1 (hdr (bnePage n.val) 0x8C) 0x80000000#32
    bneAdmit s' n.val .page (pageDomain s' (bnePage n.val)) blk = .taken s2 → doBneJobcmd i n s = s2 := by
  intro s' ht
  unfold doBneJobcmd
  dsimp only
  rw [pageGo_reads hb, ht]

theorem doLmsJobcmd_taken {s s1 s2 : State} {i : Initiator} {blk : Bytes} (hb : PageBlock s i 0x0F 0x88 32 s1 blk) :
    let s' := wr s1 (hdr 0x0F 0x8C) 0x80000000#32
    lmsAdmit s' .page (pageDomain s' 0x0F) blk = .taken s2 → doLmsJobcmd i s = s2 := by
  intro s' ht
  unfold doLmsJobcmd
  dsimp only
  rw [pageGo_reads hb, ht]

/-- Settles O29: GO reads the block and hands it to the unit, for each of the four kinds of page. -/
theorem pageJobs : Obligations.PageJobs := by
  unfold Obligations.PageJobs
  intro i n m blk s s1 s2 submits
  refine ⟨?_, ?_, ?_, ?_⟩
  · exact fun hm hr ha hb hu hrd ht => lands (exec_aesJobcmd ..) (lanePageJob_taken (h := false) ⟨hm, hr, ha, hb, hu, hrd⟩ ht)
  · exact fun hm hr ha hb hu hrd ht => lands (exec_hshJobcmd ..) (lanePageJob_taken (h := true) ⟨hm, hr, ha, hb, hu, hrd⟩ ht)
  · exact fun hm hr ha hb hu hrd ht => lands (exec_bneJobcmd ..) (doBneJobcmd_taken ⟨hm, hr, ha, hb, hu, hrd⟩ ht)
  · exact fun hm hr ha hb hu hrd ht => lands (exec_lmsJobcmd ..) (doLmsJobcmd_taken ⟨hm, hr, ha, hb, hu, hrd⟩ ht)

end Sys2Proof.Machine
end

section
/-! ### O30: AES jobs on a lane -/

namespace Sys2Proof.Machine

open Sys2Proof

theorem doAesJobStart_job {s s1 : State} {n : Fin 4} {host : List (Nat × Bytes)} {j : Job} {q : List Job} {r : AesRec}
    (hf : laneFree s false n.val = true) (hn : laneNext s false n.val = .job j q) (hok : aesBlkOk (aesBlk j.blk) = true)
    (hi : (aesBlk j.blk).init = true)
    (hr : aesFirst (setLane s false n.val { getLane s false n.val with queue := q }) j.src j.dom (aesBlk j.blk) host = (s1, .inr r)) :
    doAesJobStart n host s = aesTake s1 n.val j r := by
  refine (if_neg (by rw [hf]; decide)).trans ?_
  rw [hn]
  refine (if_neg (by rw [hok]; decide)).trans ((if_pos hi).trans ?_)
  rw [hr]

theorem doAesResume_susp {s s1 : State} {n : Fin 4} {host : List (Nat × Bytes)} {x : RunJob} {susp : List RunJob} {r : AesRec}
    (hf : laneFree s false n.val = true) (hn : laneNext s false n.val = .susp x susp)
    (hr : aesRead (setLane s false n.val { getLane s false n.val with susp := susp }) x.job.src x.job.dom (aesBlk x.job.blk) x.token host =
      (s1, .inr r)) : doAesResume n host s = aesTake s1 n.val x.job r := by
  refine (if_neg (by rw [hf]; decide)).trans ?_
  rw [hn]
  dsimp only
  rw [hr]

theorem doAesJobDone_ready {s s1 : State} {n : Fin 4} {host : List (Nat × Bytes)} {x y : RunJob}
    (hx : runReady s false n.val = some x) (hg : aesGo s n.val x (aesFuel (aesBlk x.job.blk)) host = (s1, y, stOK)) :
    doAesJobDone n host s = aesConclude s1 n.val y host := by
  unfold doAesJobDone
  rw [hx]
  dsimp only
  rw [hg]
  exact if_pos rfl

/-- The running job yields to a higher priority: its blocks are computed, the count is stepped, its context saved. -/
theorem doAesPreempt_yields {s s1 s3 : State} {n : Fin 4} {units p : Nat} {dm : Option Nat} {host : List (Nat × Bytes)} {x y : RunJob}
    (hx : runReady s false n.val = some x) (hc : nextClaim s false n.val = some (p, dm)) (hp : lanePri s false n.val x.job.cls < p)
    (hs : (getLane s false n.val).susp.length < 4)
    (hu : units < ((aesBlk x.job.blk).aadlen - (aesRec x.ctx).aadlen) / 16 + ((aesBlk x.job.blk).len - x.pos + 15) / 16)
    (hpart : aesPart s n.val x units host = (s1, some y)) :
    let s2 := bumpSat s1 (laneReg false n.val 0xB0) 15 0
    aesSave s2 y (decide (dm ≠ some y.job.dom)) (aesRec y.ctx) = (s3, stOK) →
    doAesPreempt n units host s =
      setLane s3 false n.val { getLane s2 false n.val with cur := none, susp := (getLane s2 false n.val).susp ++ [y] } := by
  intro s2 hsave
  unfold doAesPreempt
  rw [hx, hc]
  refine (if_neg ?_).trans ?_
  · simp only [Bool.or_eq_true, Bool.not_eq_true', decide_eq_true_eq, Bool.or_eq_false_iff, decide_eq_false_iff_not]
    omega
  · rw [hpart]
    dsimp only
    rw [hsave]
    exact if_pos rfl

/-- A lane that runs nothing has no running job to compute. -/
theorem runReady_none {s : State} {h : Bool} {n : Nat} (hc : (getLane s h n).cur = none) : runReady s h n = none := by
  unfold runReady
  rw [hc]

/-- A lane that runs nothing only clears its key. -/
theorem laneClear_idle {s : State} {h : Bool} {n : Nat} (hc : (getLane s h n).cur = none) :
    laneClear s h n = setLane s h n { getLane s h n with key := none, clr := false } := by
  have he : endCur s h n stABORT = s := by
    unfold endCur
    dsimp only
    rw [hc]
  unfold laneClear
  rw [he]

theorem doAesClrkey_idle {s : State} {i : Initiator} {n : Fin 4} {units : Nat} {host : List (Nat × Bytes)}
    (hm : MayStore s i (hdr (lanePage false n.val) Off.CTRL)) (hf : frameRuns s n.val = false)
    (hc : (getLane s false n.val).cur = none) :
    doAesClrkey i n units host s = setLane s false n.val { getLane s false n.val with key := none, clr := false } := by
  refine (guardW_open hm _).trans ((if_neg (ne_true_of_eq_false hf)).trans ?_)
  rw [runReady_none hc]
  exact laneClear_idle hc

/-- With no intake frame on the lane a mismatch befalls the lane's own work. -/
theorem doAesCheckMismatch_lane {s : State} {n : Fin 4} {units : Nat} {host : List (Nat × Bytes)}
    (h : (s.intake.frames.findIdx? fun f => decide (f.lane = some n.val) && decide (f.stage = .loaded)) = none) :
    doAesCheckMismatch n units host s = aesMismatch n.val units host s := by
  unfold doAesCheckMismatch
  rw [h]

theorem doKeyUnwrapDone_ok {s s2 : State} {d : KeyDest} {hd dom : Nat} {kuw : List (KeyDest × Nat × Nat)} {k : KeyRec}
    (hq : s.lanes.kuw = (d, hd, dom) :: kuw) (hw : kuwWaits s = false)
    (hk : keyFor { s with lanes := { s.lanes with kuw := kuw } } hd dom (fun _ => true) = (s2, .inr k)) :
    doKeyUnwrapDone .ok s = keyGiven s2 d { handle := hd, ktype := k.ktype, attr := k.attr, acct := false, mat := k.mat } := by
  unfold doKeyUnwrapDone
  rw [hq]
  refine (if_neg (ne_true_of_eq_false hw)).trans ?_
  dsimp only
  rw [hk]

theorem doKeyUnwrapDone_fault {s : State} {d : KeyDest} {hd dom : Nat} {kuw : List (KeyDest × Nat × Nat)}
    (hq : s.lanes.kuw = (d, hd, dom) :: kuw) (hw : kuwWaits s = false) :
    doKeyUnwrapDone .fault s = goOos (keyRefused { s with lanes := { s.lanes with kuw := kuw } } d stLANE) 0x0C := by
  unfold doKeyUnwrapDone
  rw [hq]
  exact if_neg (ne_true_of_eq_false hw)

/-- Settles O30: one lemma for each command of a cipher lane, on the branch that its hypotheses choose. -/
theorem aesRuns : Obligations.AesRuns := by
  unfold Obligations.AesRuns
  intro i n units host x j q susp d hd dom kuw k r s s1 s2 makes lane
  refine ⟨fun hf => ⟨fun hn hok hi => ?_, fun hn => ?_⟩, fun hx => ⟨fun y hg => ?_, fun p dm y hc hp hs hu hpart => ?_⟩,
    fun h => ?_, fun hm hf hc => ?_, fun hq hw => ⟨fun hk => ?_, ?_⟩⟩
  · intro s0 hr
    exact lands (exec_aesJobStart ..) (doAesJobStart_job hf hn hok hi hr)
  · intro s0 hr
    exact lands (exec_aesResume ..) (doAesResume_susp hf hn hr)
  · exact lands (exec_aesJobDone ..) (doAesJobDone_ready hx hg)
  · intro s2 s3 hsave
    exact lands (exec_aesPreempt ..) (doAesPreempt_yields hx hc hp hs hu hpart hsave)
  · exact lands (exec_aesCheckMismatch ..) (doAesCheckMismatch_lane h)
  · exact lands (exec_aesClrkey ..) (doAesClrkey_idle hm hf hc)
  · exact lands (exec_keyUnwrapDone ..) (doKeyUnwrapDone_ok hq hw hk)
  · exact lands (exec_keyUnwrapDone ..) (doKeyUnwrapDone_fault hq hw)

end Sys2Proof.Machine
end

section
/-! ### O31: hash jobs on a lane -/

namespace Sys2Proof.Machine

open Sys2Proof

/-- The next token of a hash message is taken. -/
def hshTokened (s : State) : State :=
  { s with lanes := { s.lanes with hshTok := if s.lanes.hshTok = 2 ^ 32 - 1 then 1 else s.lanes.hshTok + 1 } }

theorem doHshJobStart_job {s : State} {n : Fin 2} {host : List (Nat × Bytes)} {j : Job} {q : List Job}
    (hf : laneFree s true n.val = true) (hn : laneNext s true n.val = .job j q) (hok : hshBlkOk j.blk = true)
    (hi : (hshBlk j.blk).init = true) :
    let s0 := setLane s true n.val { getLane s true n.val with queue := q }
    doHshJobStart n host s = hshTake (hshTokened s0) n.val j
      { dom := j.dom, mode := (hshBlk j.blk).mode, key := (hshBlk j.blk).key, token := s0.lanes.hshTok, jobpos := 0, datalen := 0,
        st := hshIv (hshBlk j.blk).mode } := by
  intro s0
  refine (if_neg (by rw [hf]; decide)).trans ?_
  rw [hn]
  exact (if_neg (by rw [hok]; decide)).trans (if_pos hi)

theorem doHshJobStart_susp {s s1 : State} {n : Fin 2} {host : List (Nat × Bytes)} {x : RunJob} {susp : List RunJob} {r : HshRec}
    (hf : laneFree s true n.val = true) (hn : laneNext s true n.val = .susp x susp)
    (hr : hshRead (setLane s true n.val { getLane s true n.val with susp := susp }) x.job.src x.job.dom (hshBlk x.job.blk) x.token host =
      (s1, .inr r)) : doHshJobStart n host s = hshTake s1 n.val x.job r := by
  refine (if_neg (by rw [hf]; decide)).trans ?_
  rw [hn]
  dsimp only
  rw [hr]

theorem doHshJobDone_ready {s s1 : State} {n : Fin 2} {host : List (Nat × Bytes)} {x y : RunJob}
    (hx : runReady s true n.val = some x) (hg : hshGo s n.val x ((hshBlk x.job.blk).len / 64 + 1) host = (s1, y, stOK)) :
    doHshJobDone n host s = hshConclude s1 n.val y host := by
  unfold doHshJobDone
  rw [hx]
  dsimp only
  rw [hg]
  exact if_pos rfl

theorem doHshPreempt_yields {s s1 s3 : State} {n : Fin 2} {units p : Nat} {dm : Option Nat} {host : List (Nat × Bytes)} {x y : RunJob}
    (hx : runReady s true n.val = some x) (hc : nextClaim s true n.val = some (p, dm)) (hp : lanePri s true n.val x.job.cls < p)
    (hs : (getLane s true n.val).susp.length < 4)
    (hu : x.pos + units * hshBlock (hshBlk x.job.blk).mode < (hshBlk x.job.blk).len)
    (hpart : hshPart s n.val x units host = (s1, some y)) :
    let s2 := bumpSat s1 (laneReg true n.val 0xB0) 15 0
    hshSave s2 y (decide (dm ≠ some y.job.dom)) (hshRec y.ctx) = (s3, stOK) →
    doHshPreempt n units host s =
      setLane s3 true n.val { getLane s2 true n.val with cur := none, susp := (getLane s2 true n.val).susp ++ [y] } := by
  intro s2 hsave
  unfold doHshPreempt
  rw [hx, hc]
  refine (if_neg ?_).trans ?_
  · simp only [Bool.or_eq_true, Bool.not_eq_true', decide_eq_true_eq, Bool.or_eq_false_iff, decide_eq_false_iff_not]
    omega
  · rw [hpart]
    dsimp only
    rw [hsave]
    exact if_pos rfl

theorem hshJobMismatch_part {s s2 : State} {n units : Nat} {host : List (Nat × Bytes)} {x y : RunJob}
    (hx : runReady s true n = some x) (hp : hshPart s n x units host = (s2, some y)) :
    hshJobMismatch n units host s = hshMismatch n y.job.cls y.job.dom (y.pos / hshBlock (hshBlk y.job.blk).mode) s2 := by
  unfold hshJobMismatch
  rw [hx]
  dsimp only
  rw [hp]

theorem doHshClrkey_idle {s : State} {i : Initiator} {n : Fin 2} {units : Nat} {host : List (Nat × Bytes)}
    (hm : MayStore s i (hdr (lanePage true n.val) Off.CTRL)) (hc : (getLane s true n.val).cur = none) :
    doHshClrkey i n units host s = setLane s true n.val { getLane s true n.val with key := none, clr := false } := by
  refine (guardW_open hm _).trans ?_
  rw [runReady_none hc]
  exact laneClear_idle hc

/-- Settles O31: one lemma for each command of a hash lane, on the branch that its hypotheses choose. -/
theorem hashRuns : Obligations.HashRuns := by
  unfold Obligations.HashRuns
  intro i n units host x y j q susp r s s1 s2 s3 makes lane
  refine ⟨fun hf => ⟨fun hn hok hi => ?_, fun hn => ?_⟩, fun hx => ⟨fun hg => ?_, fun p dm hc hp hs hu hpart => ?_, fun hp => ?_⟩,
    fun h => ?_, fun h => ?_, fun hm hc => ?_⟩
  · exact lands (exec_hshJobStart ..) (doHshJobStart_job hf hn hok hi)
  · intro s0 hr
    exact lands (exec_hshJobStart ..) (doHshJobStart_susp hf hn hr)
  · exact lands (exec_hshJobDone ..) (doHshJobDone_ready hx hg)
  · intro s2 hsave
    exact lands (exec_hshPreempt ..) (doHshPreempt_yields hx hc hp hs hu hpart hsave)
  · exact lands (exec_hshCheckMismatch ..) (hshJobMismatch_part hx hp)
  · exact lands (exec_hshCheckMismatch ..) (if_pos h)
  · exact lands (exec_hshCheckMismatch ..) (if_pos h)
  · exact lands (exec_hshClrkey ..) (doHshClrkey_idle hm hc)

end Sys2Proof.Machine
end

section
/-! ### O32: LMS signatures -/

namespace Sys2Proof.Machine

open Sys2Proof

/-- What makes a sign request one that the sequencer takes. -/
structure LmsTaken (s s1 s2 : State) (q : LReq) (rest : List LReq) (r : KeyRec) (p : HssParam) (m : Bytes) : Prop where
  op : bfld q.blk 0 1 = 1
  pos : 0 < bfld q.blk 24 2
  fits : bfld q.blk 24 2 ≤ 4096
  key : keyFor (setLanes s { s.lanes with lmsQ := rest }) (bfld q.blk 4 4) q.dom
    (fun k => k.ktype == 0x30 && nbit k.attr aSIGN && hKind (bfld q.blk 4 4) == 1) = (s1, .inr r)
  param : hssParam r.param = some p
  room : p.sigLen ≤ bfld q.blk 26 2
  ready : drbgReady s1 = true
  read : jobRead s1 q.src q.dom (bfld q.blk 8 8) (bfld q.blk 24 2) [] = (s2, .inr m)

theorem doLmsSignStart_taken {s s1 s2 : State} {q : LReq} {rest : List LReq} {r : KeyRec} {p : HssParam} {m : Bytes}
    (hrun : s.lanes.lmsRun = none) (hq : s.lanes.lmsQ = q :: rest) (hup : lmsUp s = true) (hw : s.pmu.window = false)
    (h : LmsTaken s s1 s2 q rest r p m) : doLmsSignStart s = lmsBegin s2 q (hIdx (bfld q.blk 4 4)) r m := by
  obtain ⟨hop, h0, h4, hk, hp, hroom, hd, hr⟩ := h
  unfold doLmsSignStart
  rw [hrun, hq]
  dsimp only
  rw [if_neg (by rw [hup, hw]; decide), if_neg (by simp only [Bool.or_eq_true, decide_eq_true_eq]; omega), hk]
  dsimp only
  rw [hp]
  dsimp only
  rw [if_neg (by simp only [hd, Bool.not_true, Bool.or_false, decide_eq_true_eq]; omega), hr]

/-- A key that advances has a state held. -/
theorem lmsKey_adv {s : State} {ctr : Nat} (h : (lmsKey s ctr).adv = true) : (mget LmsKey.none_ s.lanes.lmsKeys ctr).adv = true := by
  unfold lmsKey at h
  dsimp only at h
  split at h
  · exact absurd h Bool.false_ne_true
  · exact h

theorem doLmsAdvanceDone_idle {s s1 : State} {k : Fin 256} {r : KeyRec} (ha : (lmsKey s k.val).adv = true) (hw : writeReady s = true)
    (ho : lmsOfCtr s k.val = some r) (hadv : lmsAdvanced s k.val (lmsTotal r) = some s1) (hrun : s.lanes.lmsRun = none) :
    doLmsAdvanceDone k s = s1 := by
  unfold doLmsAdvanceDone
  rw [if_neg (by rw [lmsKey_adv ha, hw]; decide), ho]
  dsimp only
  rw [hrun, hadv]

theorem doLmsAdvanceDone_waits {s s1 : State} {k : Fin 256} {r : KeyRec} {x : LRun} (ha : (lmsKey s k.val).adv = true)
    (hw : writeReady s = true) (ho : lmsOfCtr s k.val = some r) (hadv : lmsAdvanced s k.val (lmsTotal r) = some s1)
    (hrun : s.lanes.lmsRun = some x) (hx : x.idx = none) (hb : mget 0 s.nv.bound k.val = x.slot + 1) :
    doLmsAdvanceDone k s = lmsBegin s1 x.req x.slot r x.msg := by
  unfold doLmsAdvanceDone
  rw [if_neg (by rw [lmsKey_adv ha, hw]; decide), ho]
  dsimp only
  rw [hrun, hadv]
  dsimp only
  rw [if_pos (by rw [hx, hb]; simp)]

theorem doLmsSignDone_released {s s2 s3 : State} {x : LRun} {g : Nat} {r : KeyRec} {sig : Bytes} (hrun : s.lanes.lmsRun = some x)
    (hg : x.idx = some g) (hk : (vslot s x.slot).key = some r) (hup : lmsUp s = true)
    (hrel : lmsRelease (setLanes s { s.lanes with lmsRun := none }) r g x.msg = (s2, .inr sig))
    (hw : jobWrite s2 x.req.src x.req.dom (bfld x.req.blk 16 8) sig = (s3, stOK)) :
    doLmsSignDone s = lmsEnd s3 x.req stOK sig.length g := by
  unfold doLmsSignDone
  rw [hrun]
  dsimp only
  rw [hg, hk]
  dsimp only
  rw [if_neg (by rw [hup]; decide), hrel]
  dsimp only
  rw [hw]
  exact if_pos rfl

theorem doLmsKsel_empty {s : State} {i : Initiator} {v : Word} (hm : MayStore s i Reg.LMS_KSEL) (hk : (vslot s (fld v 7 0)).key = none) :
    let s1 := wr s Reg.LMS_KSEL (v &&& 0xFF#32)
    let s2 := wr (wr s1 Reg.LMS_KNEXT 0#32) (Reg.LMS_KNEXT + 4) 0#32
    doLmsKsel i v s = wr (wr (wr s2 Reg.LMS_KLIMIT 0#32) (Reg.LMS_KLIMIT + 4) 0#32) Reg.LMS_KSTAT 0#32 := by
  intro s1 s2
  have hk1 : (vslot s1 (fld v 7 0)).key = none := hk
  refine (guardW_open hm _).trans ?_
  dsimp only
  rw [hk1]
  rfl

theorem doLmsKsel_held {s : State} {i : Initiator} {v : Word} {r : KeyRec} (hm : MayStore s i Reg.LMS_KSEL)
    (hk : (vslot s (fld v 7 0)).key = some r) (ht : r.ktype = 0x30) (hy : mget LmsKey.none_ s.lanes.lmsKeys r.nvctr ≠ LmsKey.none_) :
    let y := mget LmsKey.none_ s.lanes.lmsKeys r.nvctr
    let s1 := wr s Reg.LMS_KSEL (v &&& 0xFF#32)
    let s2 := { s1 with fresh := s1.fresh + 1 }
    let stat := word (0x80000000 + b2n (Config.free 1 s1.fresh == 1#1) * 0x40000000 + b2n y.adv * 0x20000000 +
      b2n (decide (lmsTotal r ≤ y.next)) * 0x10000000 + r.nvctr)
    let s3 := wr (wr s2 Reg.LMS_KNEXT (word y.next)) (Reg.LMS_KNEXT + 4) (word (y.next / 2 ^ 32))
    doLmsKsel i v s =
      wr (wr (wr s3 Reg.LMS_KLIMIT (word y.limit)) (Reg.LMS_KLIMIT + 4) (word (y.limit / 2 ^ 32))) Reg.LMS_KSTAT stat := by
  intro y s1 s2 stat s3
  have hk1 : (vslot s1 (fld v 7 0)).key = some r := hk
  refine (guardW_open hm _).trans ?_
  dsimp only
  rw [hk1]
  exact (if_neg (not_not_intro ht)).trans (if_neg hy)

/-- Settles O32: the sequencer's commands, on the branch that their hypotheses choose. -/
theorem lmsRuns : Obligations.LmsRuns := by
  unfold Obligations.LmsRuns
  intro i k v q rest x r p m sig g s s1 s2 s3 makes
  refine ⟨fun hrun hq hup hw hop h0 h4 hk hp hroom hd hr => ?_, fun ha hw ho hadv => ⟨fun hrun => ?_, fun hrun hx hb => ?_⟩,
    fun hrun hg hk hup hrel hw => ?_, fun hm hk => ?_, fun hm hk ht hy => ?_⟩
  · exact lands (exec_lmsSignStart _) (doLmsSignStart_taken hrun hq hup hw ⟨hop, h0, h4, hk, hp, hroom, hd, hr⟩)
  · exact lands (exec_lmsAdvanceDone ..) (doLmsAdvanceDone_idle ha hw ho hadv hrun)
  · exact lands (exec_lmsAdvanceDone ..) (doLmsAdvanceDone_waits ha hw ho hadv hrun hx hb)
  · exact lands (exec_lmsSignDone _) (doLmsSignDone_released hrun hg hk hup hrel hw)
  · exact lands (exec_lmsKsel ..) (doLmsKsel_empty hm hk)
  · exact lands (exec_lmsKsel ..) (doLmsKsel_held hm hk ht hy)

end Sys2Proof.Machine
end

section
/-! ### O33: seals -/

namespace Sys2Proof.Machine

open Sys2Proof

theorem doLmsSealcmd_queued {s s1 : State} {i : Initiator} {v : Word} (hm : MayStore s i Reg.LMS_SEALCMD) (hv : bit v 31 = true)
    (he : enabled s 0x0F = true) (ho : lmem 0x0F s.enOff = false) (hq : sealRequest s (fld v 3 0) = some s1) :
    doLmsSealcmd i v s = wrBit s1 Reg.LMS_SEALSTAT 31 false := by
  refine (guardW_open hm _).trans ((if_neg (by rw [hv]; decide)).trans ((if_neg (by rw [he, ho]; decide)).trans ?_))
  rw [hq]

/-- The first request whose check passes and whose till has room is begun. -/
theorem doSealStart_room {s s1 : State} {q : SealReq} {rest : List SealReq} {n : Nat} {cfg acct key : Word}
    (hrun : s.lanes.sealing = none) (hq : s.seals = q :: rest) (ha : accepting s 0x0F = true) (hw : s.pmu.window = false)
    (hk : kuwWaits s = false) (hcfg : rd s (Reg.LMS_SPCFG + 16 * q.profile) = cfg)
    (hacct : rd s (Reg.LMS_SPCFG + 16 * q.profile + 4) = acct) (hkey : rd s (Reg.LMS_SPCFG + 16 * q.profile + 8) = key)
    (hc : sealCheck s cfg acct key = (s1, .inr n)) :
    let words := (128 + n + b2n (bit cfg 29) * (10 * (sealRange acct).2) + 7) / 8
    hwMayReserve s (fld cfg 6 0) words = true →
    let s2 := tillReserve { s1 with seals := rest } (fld cfg 6 0) words
    doSealStart s = setSealing s2 (sealCaptures s2 ⟨q, cfg, acct, key, words, stOK, [], 0, 0, none, 0, [], none⟩) := by
  intro words hroom s2
  unfold doSealStart
  rw [hrun, hq]
  dsimp only
  rw [if_neg (by rw [ha, hw, hk]; decide)]
  simp only [Nat.mul_zero, Nat.add_zero, Nat.mul_one, Nat.reduceMul, hcfg, hacct, hkey, hc]
  exact if_neg (by rw [hroom]; decide)

/-- The closing that heads a seal's leaves, if its request carries one. -/
def sealHead (s : State) (r : SealRun) : List Bytes := match sealClosing s r.req with | some c => [c] | none => []

/-- The length of a closing at the head of a seal. -/
def headLen (head : List Bytes) : Nat := match head with | c :: _ => c.length | [] => 0

/-- The hash blocks of a closing at the head of a seal. -/
def headBlocks (head : List Bytes) : Nat := match head with | c :: _ => (c.length + 2 + 9 + 63) / 64 | [] => 0

/-- With every capture taken the root follows from the leaves. -/
theorem doSealTreeDone_root {s : State} {r : SealRun} {m : Nat} (hrun : s.lanes.sealing = some r) (hl : unitLane s 30 = some m)
    (hst : r.status = stOK) (hroot : r.root = none) :
    let r1 := sealCaptures s r
    r1.caps.length = (sealRange r1.acct).2 →
    let s1 := setSealing s r1
    let head := sealHead s1 r1
    let leaves := head.map (fun c => sha256 ([0#8, 2#8] ++ c)) ++ r1.caps.map fun c => sha256 ([0#8, 1#8] ++ c.leaf)
    leaves ≠ [] →
    let blocks := headBlocks head + r1.caps.length + 2 * (leaves.length - 1)
    doSealTreeDone s =
      setSealing (hshCount s1 m blocks) { r1 with root := some (sealRoot 11 leaves), header := leBytes 4 (headLen head) } := by
  intro r1 hlen s1 head leaves hne blocks
  have hemp : ¬ leaves.isEmpty = true := by simpa [List.isEmpty_iff] using hne
  unfold doSealTreeDone
  rw [hrun, hl]
  exact (if_neg (by rw [hst, hroot]; decide)).trans ((if_neg (not_not_intro hlen)).trans (if_neg hemp))

/-- A numbered seal is signed. -/
theorem doSealSigned_signs {s s1 s2 s3 : State} {r r' : SealRun} {root : Bytes} {k : KeyRec} {sg : Bytes}
    (hrun : s.lanes.sealing = some r) (hroot : r.root = some root) (hsig : r.sig = none) (hw : r.no ≠ 0 ∨ writeReady s = true)
    (hk : kuwWaits s = false) (hno : sealNumber s r = (s1, r')) (hst : r'.status = stOK)
    (hkey : sealKey (setSealing s1 r') r.key.toNat (fld r.cfg 27 24) = (s2, .inr k)) :
    let h := sealHeader s2 r' stOK (sealSigLen (fld r.cfg 27 24) k) k.keyId
    sealSign s2 (fld r.cfg 27 24) k h = some (s3, .inr sg) →
    doSealSigned s = setSealing s3 { r' with header := h, sig := some sg } := by
  intro h hs
  have hnow : (r.no == 0 && !writeReady s) = false := by
    rcases hw with hw | hw
    · simp [hw]
    · simp [hw]
  unfold doSealSigned
  rw [hrun]
  dsimp only
  rw [if_neg (by rw [hroot, hsig, hnow, hk]; exact Bool.false_ne_true), hno]
  dsimp only
  rw [if_neg (not_not_intro hst), hkey]
  dsimp only
  rw [hs]

/-- A signed seal is delivered as one packet, after its write to NV where the profile asks for that. -/
theorem doSealDelivered_signed {s : State} {r : SealRun} {sg : Bytes} (hrun : s.lanes.sealing = some r) (hst : r.status = stOK)
    (hsig : r.sig = some sg) (hw : bit r.cfg 30 = true → writeReady s = true) :
    let s1 := if bit r.cfg 30 then sealToNv s r.no (r.header ++ sg) else s
    let s2 := wrFld (tillDeliver s1 (fld r.cfg 6 0) r.resv (r.header ++ sg ++ sealList r)) Reg.LMS_SEALSTAT 7 0 stOK
    let s3 := wr (wr s2 Reg.LMS_SEALNO (word r.no)) (Reg.LMS_SEALNO + 4) (word (r.no / 2 ^ 32))
    doSealDelivered s = raise (setLanes s3 { s3.lanes with sealing := none }) 0x0F 0 := by
  intro s1 s2 s3
  have hnv : (bit r.cfg 30 && !writeReady s) = false := by
    cases hb : bit r.cfg 30 with
    | false => rfl
    | true => rw [hw hb]; rfl
  have hok : (r.status == stOK) = true := by rw [hst]; rfl
  unfold doSealDelivered
  rw [hrun]
  dsimp only
  rw [hok, hsig, Bool.true_and, if_neg (by rw [hnv]; simp), if_pos rfl, if_pos rfl, if_pos rfl, hst]
  rfl

/-- Settles O33: each stage of a seal, on the branch that its hypotheses choose. -/
theorem sealRuns : Obligations.SealRuns := by
  unfold Obligations.SealRuns
  intro i v q rest r n m k sg s s1 s2 s3 makes set
  refine ⟨fun hm hv he ho hq => ?_, fun hrun hq ha hw hk => ?_, fun hrun hl hst hroot => ?_,
    fun root r' hrun hroot hsig hw hk hno hst hkey hcfg hk' => ?_, fun hrun hst hsig hw => ?_⟩
  · exact lands (exec_lmsSealcmd ..) (doLmsSealcmd_queued hm hv he ho hq)
  · intro cfg acct key hc words hroom s2
    exact lands (exec_sealStart _) (doSealStart_room hrun hq ha hw hk rfl rfl rfl hc hroom)
  · intro r1 hlen s1 head leaves hne blocks
    exact lands (exec_sealTreeDone _) (doSealTreeDone_root hrun hl hst hroot hlen hne)
  · rw [hcfg, hk'] at hkey
    exact fun hs => lands (exec_sealSigned _) (doSealSigned_signs hrun hroot hsig hw hk hno hst hkey hs)
  · exact lands (exec_sealDelivered _) (doSealDelivered_signed hrun hst hsig hw)

end Sys2Proof.Machine
end

/-! PROOFS. Big-number jobs (R268 to R280) and the operations of a user sequence (R258 to R267). -/

section
/-! ### O34: big-number jobs and the sequence memory -/

namespace Sys2Proof.Machine

open Sys2Proof

/-- A lane that may take work takes its next job. -/
theorem doBneJobStart_next {s : State} {n : Fin 4} {j : Job} {rest : List Job} (hup : laneUp s (bnePage n.val) = true)
    (hw : s.pmu.window = false) (hc : (getBne s n.val).cur = none) (hn : bneNext s n.val = some (j, rest)) (hb : bneBlkOk j.blk = true)
    (ho : 32768 ≤ bfld j.blk 0 2 ∨ outOfService s 0x14 = false) :
    doBneJobStart n .clean s = bneTake (setBne s n.val { getBne s n.val with queue := rest }) n.val j := by
  have ho' : ¬ (!decide (32768 ≤ bfld j.blk 0 2) && outOfService s 0x14) = true := by
    rcases ho with h | h <;> simp [h]
  unfold doBneJobStart
  rw [if_neg (by rw [hup, hw, hc]; decide), hn]
  exact (if_neg (by rw [hb]; decide)).trans (if_neg ho')

theorem doBneJobDone_status {s : State} {n : Fin 4} {host : List (Nat × Bytes)} {r : BRun} {st : Nat}
    (hc : (getBne s n.val).cur = some r) (hr : r.ready = true) (hu : r.user = true) (hs : r.status = some st) :
    doBneJobDone n host s = bneFinish s n.val r st r.out 0 := by
  unfold doBneJobDone
  rw [hc]
  dsimp only
  rw [if_neg (by rw [hr]; decide), if_pos hu, hs]

theorem doBneJobDone_left {s : State} {n : Fin 4} {host : List (Nat × Bytes)} {r : BRun} (hc : (getBne s n.val).cur = some r)
    (hr : r.ready = true) (hu : r.user = true) (hs : r.status = none) (hp : inUser r.pc = false) :
    doBneJobDone n host s = bneFinish s n.val r stBADPROF r.out 0 := by
  unfold doBneJobDone
  rw [hc]
  dsimp only
  rw [if_neg (by rw [hr]; decide), if_pos hu, hs]
  exact if_pos (by simp [hp])

theorem doBneJobDone_vendor {s : State} {n : Fin 4} {host : List (Nat × Bytes)} {r : BRun} {f : VFn}
    (hc : (getBne s n.val).cur = some r) (hr : r.ready = true) (hu : r.user = false) (hf : vfn (r.fld 0 2 % 4096) = some f) :
    doBneJobDone n host s = vrun s n.val r f host := by
  unfold doBneJobDone
  rw [hc]
  dsimp only
  rw [if_neg (by rw [hr]; decide), if_neg (ne_true_of_eq_false hu), hf]

theorem doBneLimitExpiry_reached {s : State} {n : Fin 4} {r : BRun} (hc : (getBne s n.val).cur = some r) (hr : r.ready = true)
    (hu : r.user = true) (hs : r.status = none) (hl : bnLimit s n.val r = true) :
    doBneLimitExpiry n s = bneFinish s n.val r stTIMEOUT r.out 0 := by
  unfold doBneLimitExpiry
  rw [hc]
  exact if_pos (by simp [hr, hu, hs, hl])

theorem doBneCheckMismatch_running {s : State} {n : Fin 4} {r : BRun} (hc : (getBne s n.val).cur = some r) :
    let page := bnePage n.val
    let s1 := wr (bumpSat s (hdr page 0xB4) 15 0) (hdr page 0xB8)
      (word (0x80000000 + r.job.cls * 2 ^ 24 + r.job.dom * 2 ^ 16 + r.pc % 8192))
    let s2 := flushBne (goOos (bneFinish s1 n.val r stLANE r.out 0) page) n.val stLANE
    doBneCheckMismatch n s = setBne s2 n.val { getBne s2 n.val with key := none, clr := false } := by
  intro page s1 s2
  unfold doBneCheckMismatch
  rw [hc]

theorem doBneClrkey_idle {s : State} {i : Initiator} {n : Fin 4} (hm : MayStore s i (hdr (bnePage n.val) Off.CTRL))
    (hc : (getBne s n.val).cur = none) : doBneClrkey i n s = setBne s n.val { getBne s n.val with key := none } := by
  refine (guardW_open hm _).trans ?_
  dsimp only
  rw [hc]
  rfl

theorem doBneClrkey_vendor {s : State} {i : Initiator} {n : Fin 4} {r : BRun} (hm : MayStore s i (hdr (bnePage n.val) Off.CTRL))
    (hc : (getBne s n.val).cur = some r) (hr : r.ready = true) (hu : r.user = false) :
    doBneClrkey i n s = setBne s n.val { getBne s n.val with clr := true } := by
  refine (guardW_open hm _).trans ?_
  dsimp only
  rw [hc]
  exact congrArg (setBne s n.val) (if_pos (by simp [hr, hu]))

/-- A slot of the vendor region is not written. -/
theorem doBncSdataWrite_vendor {s : State} {i : Initiator} {v : Word} (hm : MayStore s i Reg.BNC_SDATA)
    (hk : fld (rd s Reg.BNC_SIDX) 12 0 < 0x1000) : doBncSdataWrite i v s = bncStep (noteErr s i 0x14 0x84 6 true) :=
  (guardW_open hm _).trans (congrArg bncStep (if_pos hk))

/-- While a lane runs a user sequence no slot is written. -/
theorem doBncSdataWrite_running {s : State} {i : Initiator} {v : Word} (hm : MayStore s i Reg.BNC_SDATA)
    (hk : 0x1000 ≤ fld (rd s Reg.BNC_SIDX) 12 0) (hr : ∃ n, n < 4 ∧ userRuns s n = true) :
    doBncSdataWrite i v s = bncStep (noteErr s i 0x14 0x84 4 true) := by
  obtain ⟨n, hn, hu⟩ := hr
  have hany : (List.range 4).any (userRuns s) = true := List.any_eq_true.mpr ⟨n, List.mem_range.mpr hn, hu⟩
  exact (guardW_open hm _).trans (congrArg bncStep ((if_neg (Nat.not_lt.mpr hk)).trans (if_pos hany)))

theorem doBncSdataWrite_user {s : State} {i : Initiator} {v : Word} (hm : MayStore s i Reg.BNC_SDATA)
    (hk : 0x1000 ≤ fld (rd s Reg.BNC_SIDX) 12 0) (hr : ∀ n, n < 4 → userRuns s n = false) :
    doBncSdataWrite i v s =
      bncStep { s with lanes := { s.lanes with seq := mset 0#32 s.lanes.seq (fld (rd s Reg.BNC_SIDX) 12 0) v } } := by
  have hany : ¬ (List.range 4).any (userRuns s) = true := by
    rw [List.any_eq_true]
    rintro ⟨n, hn, hu⟩
    exact Bool.false_ne_true ((hr n (List.mem_range.mp hn)).symm.trans hu)
  exact (guardW_open hm _).trans (congrArg bncStep ((if_neg (Nat.not_lt.mpr hk)).trans (if_neg hany)))

theorem doBncCrccmd_go {s : State} {i : Initiator} {v : Word} (hm : MayStore s i Reg.BNC_CRCCMD) (hv : bit v 31 = true) :
    let s1 := wr s Reg.BNC_CRCCMD (v &&& 1#32)
    doBncCrccmd i v s = { s1 with lanes := { s1.lanes with bncCrc := some (fld v 0 0) } } :=
  (guardW_open hm _).trans (if_pos hv)

theorem doBncCrcDone_some {s : State} {g : Nat} (hg : s.lanes.bncCrc = some g) :
    let s1 := wr { s with lanes := { s.lanes with bncCrc := none } } Reg.BNC_CRC (bncRegionCrc s g)
    doBncCrcDone s =
      if g = 0 ∧ fld (bncRegionCrc s g) 31 16 ≠ fld Config.bncVver 31 16 then raise s1 0x14 2 else s1 := by
  intro s1
  unfold doBncCrcDone
  rw [hg]
  dsimp only
  refine if_congr ?_ rfl rfl
  rw [Bool.and_eq_true, decide_eq_true_eq, bne_iff_ne]

/-- Settles O34: each command of a big-number lane and of the sequence memory, on the branch that its hypotheses choose. -/
theorem bigNumberJobs : Obligations.BigNumberJobs := by
  unfold Obligations.BigNumberJobs
  intro i n j rest r v f st g host s makes page lane
  refine ⟨fun hup hw hc hn hb ho => ?_, fun hc hr => ⟨fun hu hs => ?_, fun hu hs hp => ?_, fun hu hf => ?_, fun hu hs hl => ?_⟩,
    fun hc => ?_, fun hm => ⟨fun hc => ?_, fun hc hr hu => ?_⟩, fun hm => ?_, fun hm => ?_, fun hm hv => ?_, fun hg => ?_⟩
  · exact lands (exec_bneJobStart ..) (doBneJobStart_next hup hw hc hn hb ho)
  · exact lands (exec_bneJobDone ..) (doBneJobDone_status hc hr hu hs)
  · exact lands (exec_bneJobDone ..) (doBneJobDone_left hc hr hu hs hp)
  · exact lands (exec_bneJobDone ..) (doBneJobDone_vendor hc hr hu hf)
  · exact lands (exec_bneLimitExpiry ..) (doBneLimitExpiry_reached hc hr hu hs hl)
  · exact lands (exec_bneCheckMismatch ..) (doBneCheckMismatch_running hc)
  · exact lands (exec_bneClrkey ..) (doBneClrkey_idle hm hc)
  · exact lands (exec_bneClrkey ..) (doBneClrkey_vendor hm hc hr hu)
  · exact lands (exec_bneWsdataRead ..) (guardR_open hm _)
  · intro k
    refine ⟨fun hk => ?_, fun hk hr => ?_, fun hk hr => ?_⟩
    · exact lands (exec_bncSdataWrite ..) (doBncSdataWrite_vendor hm hk)
    · exact lands (exec_bncSdataWrite ..) (doBncSdataWrite_running hm hk hr)
    · exact lands (exec_bncSdataWrite ..) (doBncSdataWrite_user hm hk hr)
  · exact lands (exec_bncCrccmd ..) (doBncCrccmd_go hm hv)
  · exact lands (exec_bncCrcDone _) (doBncCrcDone_some hg)

end Sys2Proof.Machine
end

section
/-! ### O35: the operations of a user sequence -/

namespace Sys2Proof.Machine

open Sys2Proof

/-- A run after one operation: the next slot, and the cycles it took. -/
def ran (r : BRun) (cyc : Nat) : BRun := { r with pc := r.pc + 1, cyc := r.cyc + cyc }

/-- An operation that runs is counted and has the effect of its body. -/
theorem bnOp_gives {s t : State} {l : Fin 4} {r r' : BRun} {op : Nat} {w : Word} {cyc : Nat → Nat}
    {f : State → BRun → Word → State × BRun} (h : RunsOp s l r op w) (hf : f (countedOp s l) (ran r (cyc r.n)) w = (t, r')) :
    bnOp s l.val op cyc f = setRun t l.val r' := by
  obtain ⟨hr, hu, hw, hop, hok⟩ := h
  unfold bnOp
  rw [hr]
  dsimp only
  rw [if_neg (by rw [hw, hu, hop]; simp), hw, if_neg (by rw [hok]; decide)]
  change setRun (f (countedOp s l) (ran r (cyc r.n)) w).1 l.val (f (countedOp s l) (ran r (cyc r.n)) w).2 = _
  rw [hf]

/-- A running sequence has no status. -/
theorem RunsOp.status_none {s : State} {l : Fin 4} {r : BRun} {op : Nat} {w : Word} (h : RunsOp s l r op w) : r.status = none := by
  have hr : bnRunning s l.val = some r := h.1
  unfold bnRunning at hr
  split at hr
  · split at hr
    · next hc =>
      rw [← Option.some.inj hr]
      simp only [Bool.and_eq_true, Option.isNone_iff_eq_none] at hc
      exact hc.1.2
    · exact absurd hr (by simp)
  · exact absurd hr (by simp)

/-- A register that no other domain wrote gives its value, and whether it is secret. -/
theorem bnUse_one {s : State} {l : Fin 4} {r : BRun} {a : Nat} {f : List Nat → Bool → State × BRun} (ha : OwnReg s l r.job.dom a) :
    bnUse (countedOp s l) l.val r [a] f = f [wval s l a] (wsecret s l a) := by
  have hno : ¬ ([wreg (countedOp s l) l.val a].any fun x => x.written && x.dom != r.job.dom) = true := by
    simp only [List.any_cons, List.any_nil, Bool.or_false, Bool.and_eq_true, bne_iff_ne, not_and, not_not]
    exact ha
  have hs : ([wreg (countedOp s l) l.val a].any fun x => x.written && x.secret) = wsecret s l a := Bool.or_false _
  exact (if_neg hno).trans (congrArg (f [wval s l a]) hs)

/-- The same of two registers. -/
theorem bnUse_two {s : State} {l : Fin 4} {r : BRun} {a b : Nat} {f : List Nat → Bool → State × BRun} (ha : OwnReg s l r.job.dom a)
    (hb : OwnReg s l r.job.dom b) :
    bnUse (countedOp s l) l.val r [a, b] f = f [wval s l a, wval s l b] (wsecret s l a || wsecret s l b) := by
  have hno : ¬ ([wreg (countedOp s l) l.val a, wreg (countedOp s l) l.val b].any fun x => x.written && x.dom != r.job.dom) = true := by
    simp only [List.any_cons, List.any_nil, Bool.or_false, Bool.or_eq_true, Bool.and_eq_true, bne_iff_ne]
    rintro (⟨hw, hd⟩ | ⟨hw, hd⟩)
    · exact hd (ha hw)
    · exact hd (hb hw)
  have hs : ([wreg (countedOp s l) l.val a, wreg (countedOp s l) l.val b].any fun x => x.written && x.secret) =
      (wsecret s l a || wsecret s l b) := congrArg (wsecret s l a || ·) (Bool.or_false _)
  exact (if_neg hno).trans (congrArg (f [wval s l a, wval s l b]) hs)

/-- Only the low words of a value are written. -/
theorem wput_low (s : State) (l dom k n v : Nat) (sec : Bool) : wput s l dom k n (v % 2 ^ (64 * n)) sec = wput s l dom k n v sec := by
  simp only [wput, lowWords, Nat.mod_mod]

/-- An operation on one register below M. -/
theorem bnMod_one {s : State} {l : Fin 4} {r : BRun} {w : Word} {a m : Nat} {f : Nat → List Nat → Nat} (hm : r.m = some m)
    (ha : OwnReg s l r.job.dom a) (hlt : wval s l a % 2 ^ (64 * r.n) < m) :
    bnMod (countedOp s l) l.val r w [a] f =
      (wput (countedOp s l) l.val r.job.dom (bD w) r.n (f m [wval s l a % 2 ^ (64 * r.n)]) (wsecret s l a), r) := by
  unfold bnMod
  rw [hm]
  refine (bnUse_one ha).trans (if_neg ?_)
  simp only [List.map_cons, List.map_nil, List.any_cons, List.any_nil, Bool.or_false, decide_eq_true_eq]
  exact Nat.not_le.mpr hlt

/-- An operation on two registers below M. -/
theorem bnMod_two {s : State} {l : Fin 4} {r : BRun} {w : Word} {a b m : Nat} {f : Nat → List Nat → Nat} (hm : r.m = some m)
    (ha : OwnReg s l r.job.dom a) (hb : OwnReg s l r.job.dom b) (hlt : wval s l a % 2 ^ (64 * r.n) < m)
    (hlt' : wval s l b % 2 ^ (64 * r.n) < m) :
    bnMod (countedOp s l) l.val r w [a, b] f =
      (wput (countedOp s l) l.val r.job.dom (bD w) r.n (f m [wval s l a % 2 ^ (64 * r.n), wval s l b % 2 ^ (64 * r.n)])
        (wsecret s l a || wsecret s l b), r) := by
  unfold bnMod
  rw [hm]
  refine (bnUse_two ha hb).trans (if_neg ?_)
  simp only [List.map_cons, List.map_nil, List.any_cons, List.any_nil, Bool.or_false, Bool.or_eq_true, decide_eq_true_eq, not_or]
  exact ⟨Nat.not_le.mpr hlt, Nat.not_le.mpr hlt'⟩

/-- The condition of a branch. -/
theorem bnBr_takes (r : BRun) (d : Nat) :
    (match d with | 0 => r.z | 1 => !r.z | 2 => r.c | _ => !r.c) = if d = 0 then r.z else if d = 1 then !r.z else if d = 2 then r.c else !r.c := by
  match d with
  | 0 => rfl
  | 1 => rfl
  | 2 => rfl
  | n + 3 => rfl

/-- A branch goes where its condition says. -/
theorem doBnBr_runs {s : State} {l : Fin 4} {r : BRun} {w : Word} (h : RunsOp s l r 0x03 w) :
    doBnBr l s = setRun (countedOp s l) l.val
      (if (if bD w = 0 then r.z else if bD w = 1 then !r.z else if bD w = 2 then r.c else !r.c) then bnGoto (ran r 2) (bI w) else ran r 2) := by
  refine bnOp_gives h ?_
  rw [← bnBr_takes]
  rfl

theorem doBnRet_pops {s : State} {l : Fin 4} {r : BRun} {w : Word} {k : Nat} {ks : List Nat} (hk : r.stack = k :: ks)
    (h : RunsOp s l r 0x05 w) : doBnRet l s = setRun (countedOp s l) l.val (bnGoto { ran r 2 with stack := ks } k) := by
  refine bnOp_gives h (congrArg (Prod.mk _) ?_)
  show (match r.stack with | [] => (ran r 2).stop stBADPROF | k :: ks => bnGoto { ran r 2 with stack := ks } k) = _
  rw [hk]

theorem doBnRet_empty {s : State} {l : Fin 4} {r : BRun} {w : Word} (hk : r.stack = []) (h : RunsOp s l r 0x05 w) :
    doBnRet l s = setRun (countedOp s l) l.val ((ran r 2).stop stBADPROF) := by
  refine bnOp_gives h (congrArg (Prod.mk _) ?_)
  show (match r.stack with | [] => (ran r 2).stop stBADPROF | k :: ks => bnGoto { ran r 2 with stack := ks } k) = _
  rw [hk]

/-- The control operations. -/
theorem control_runs (l : Fin 4) (r : BRun) (w : Word) (s : State) :
    (RunsOp s l r 0x07 w → doCloop l s = setRun (countedOp s l) l.val
      (let v := (r.ctr.getD (bD w) 0 + 65535) % 65536
       if v = 0 then { ran r 2 with ctr := r.ctr.set (bD w) v } else bnGoto { ran r 2 with ctr := r.ctr.set (bD w) v } (bI w))) ∧
    (8 ≤ r.stack.length → RunsOp s l r 0x04 w → doBnCall l s = setRun (countedOp s l) l.val ((ran r 2).stop stBADPROF)) ∧
    (r.stack.length < 8 → RunsOp s l r 0x04 w →
      doBnCall l s = setRun (countedOp s l) l.val (bnGoto { ran r 2 with stack := (r.pc + 1) :: r.stack } (bI w))) := by
  refine ⟨fun h => bnOp_gives h rfl, fun hl h => bnOp_gives h (congrArg (Prod.mk _) (if_pos hl)), fun hl h => bnOp_gives h ?_⟩
  exact congrArg (Prod.mk _) (if_neg (Nat.not_le.mpr hl))

theorem doModset_runs {s : State} {l : Fin 4} {r : BRun} {w : Word} (ha : OwnReg s l r.job.dom (bA w)) (h : RunsOp s l r 0x09 w) :
    let m := wval s l (bA w) % 2 ^ (64 * r.n)
    doModset l s = setRun (countedOp s l) l.val (if m % 2 = 0 then (ran r 70).stop stBADPROF else { ran r 70 with m := some m }) :=
  bnOp_gives h (bnUse_one (r := ran r 70) ha)

theorem doPfmt_runs {s : State} {l : Fin 4} {r : BRun} {w : Word} (h0 : 0 < bI w % 32) (h24 : bI w % 32 ≤ 24) (h : bI w ≤ 2047)
    (hr : RunsOp s l r 0x2A w) : doPfmt l s = setRun (countedOp s l) l.val { ran r 1 with fmt := bI w } := by
  refine bnOp_gives hr (if_neg ?_)
  rw [Bool.or_eq_true, Bool.or_eq_true, decide_eq_true_eq, decide_eq_true_eq, decide_eq_true_eq]
  show ¬ ((bI w % 32 = 0 ∨ 24 < bI w % 32) ∨ 2047 < bI w)
  omega

end Sys2Proof.Machine
end

section
/-! ### O35: moves and arithmetic -/

namespace Sys2Proof.Machine

open Sys2Proof

theorem doBnMov_runs {s : State} {l : Fin 4} {r : BRun} {w : Word} (ha : OwnReg s l r.job.dom (bA w)) (h : RunsOp s l r 0x0A w) :
    doBnMov l s =
      setRun (wput (countedOp s l) l.val r.job.dom (bD w) r.n (wval s l (bA w) % 2 ^ (64 * r.n)) (wsecret s l (bA w))) l.val
        (ran r (4 + quarter r.n)) := by
  rw [wput_low]
  exact bnOp_gives h (bnUse_one (r := ran r (4 + quarter r.n)) ha)

theorem doBtst_runs {s : State} {l : Fin 4} {r : BRun} {w : Word} (ha : OwnReg s l r.job.dom (bA w)) (hi : bI w ≤ 8191)
    (h : RunsOp s l r 0x19 w) :
    doBtst l s = setRun (countedOp s l) l.val { ran r 3 with z := !(wval s l (bA w) / 2 ^ bI w % 2 == 1) } :=
  bnOp_gives h ((if_neg (Nat.not_lt.mpr hi)).trans (bnUse_one (r := ran r 3) ha))

/-- A shift by 1 to 63. -/
theorem bnShift_runs {s : State} {l : Fin 4} {r : BRun} {w : Word} {f : Nat → Nat → Nat × Bool} (ha : OwnReg s l r.job.dom (bA w))
    (hi : 0 < bI w) :
    bnShift (countedOp s l) l.val r w f =
      (wput (countedOp s l) l.val r.job.dom (bD w) r.n (f (wval s l (bA w) % 2 ^ (64 * r.n)) (bI w)).1 (wsecret s l (bA w)),
        { r with c := (f (wval s l (bA w) % 2 ^ (64 * r.n)) (bI w)).2 }) :=
  (if_neg (Nat.pos_iff_ne_zero.mp hi)).trans (bnUse_one ha)

theorem doBnShl_runs {s : State} {l : Fin 4} {r : BRun} {w : Word} (ha : OwnReg s l r.job.dom (bA w)) (hi : 0 < bI w)
    (h : RunsOp s l r 0x17 w) :
    let a := wval s l (bA w) % 2 ^ (64 * r.n)
    doBnShl l s = setRun (wput (countedOp s l) l.val r.job.dom (bD w) r.n (a * 2 ^ bI w) (wsecret s l (bA w))) l.val
      { ran r (4 + quarter r.n) with c := a / 2 ^ (64 * r.n - bI w) % 2 == 1 } :=
  bnOp_gives h (bnShift_runs (r := ran r (4 + quarter r.n)) ha hi)

theorem doBnShr_runs {s : State} {l : Fin 4} {r : BRun} {w : Word} (ha : OwnReg s l r.job.dom (bA w)) (hi : 0 < bI w)
    (h : RunsOp s l r 0x18 w) :
    let a := wval s l (bA w) % 2 ^ (64 * r.n)
    doBnShr l s = setRun (wput (countedOp s l) l.val r.job.dom (bD w) r.n (a / 2 ^ bI w) (wsecret s l (bA w))) l.val
      { ran r (4 + quarter r.n) with c := a / 2 ^ (bI w - 1) % 2 == 1 } :=
  bnOp_gives h (bnShift_runs (r := ran r (4 + quarter r.n)) ha hi)

/-- An inverse: Z says that none exists. -/
theorem doMinv_runs {s : State} {l : Fin 4} {r : BRun} {w : Word} {m : Nat} (ha : OwnReg s l r.job.dom (bA w)) (hm : r.m = some m)
    (hlt : wval s l (bA w) % 2 ^ (64 * r.n) < m) (h : RunsOp s l r 0x13 w) :
    doMinv l s =
      setRun (wput (countedOp s l) l.val r.job.dom (bD w) r.n (inv0 m (wval s l (bA w) % 2 ^ (64 * r.n))) (wsecret s l (bA w))) l.val
        { ran r (16 + 128 * r.n * quarter r.n) with z := (invMod m ((wreg s l.val (bA w)).val % 2 ^ (64 * r.n))).isNone } := by
  have hm' : (ran r (16 + 128 * r.n * quarter r.n)).m = some m := hm
  have hst : (ran r (16 + 128 * r.n * quarter r.n)).status.isNone = true := by
    rw [Option.isNone_iff_eq_none]
    exact h.status_none
  refine bnOp_gives h ?_
  dsimp only
  rw [bnMod_one hm' ha hlt, hm']
  dsimp only
  rw [if_pos hst]
  rfl

/-- Output that fits is written. -/
theorem bnOut_fits {s s2 : State} {r : BRun} {off n : Nat} {bs : Bytes} (hn : bs.length = n) (hf : off + n ≤ r.fld 36 4)
    (hw : jobWrite s r.job.src r.job.dom (r.fld 24 8 + off) bs = (s2, stOK)) : bnOut s r off bs = (s2, { r with out := r.out + n }) := by
  subst hn
  unfold bnOut
  rw [if_neg (Nat.not_lt.mpr hf), hw]
  rfl

theorem doBnPut_runs {s s2 : State} {l : Fin 4} {r : BRun} {w : Word} (ha : OwnReg s l r.job.dom (bA w))
    (hf : bI w + 8 * r.n ≤ r.fld 36 4) :
    let bs := bnBytes (bBE w) (8 * r.n) (wval s l (bA w) % 2 ^ (64 * r.n))
    jobWrite (countedOp s l) r.job.src r.job.dom (r.fld 24 8 + bI w) bs = (s2, stOK) → RunsOp s l r 0x0D w → bs.length = 8 * r.n →
    doBnPut l s = setRun s2 l.val { ran r (4 + r.n) with out := r.out + 8 * r.n } := by
  intro bs hw h hlen
  exact bnOp_gives h ((bnUse_one (r := ran r (4 + r.n)) ha).trans (bnOut_fits (r := ran r (4 + r.n)) hlen hf hw))

theorem doLdc_runs {s : State} {l : Fin 4} {r : BRun} {w : Word} (h1 : inUser (bI w) = true) (h2 : inUser (bI w + 2 * r.n - 1) = true)
    (h : RunsOp s l r 0x0B w) :
    doLdc l s = setRun (wput (countedOp s l) l.val r.job.dom (bD w) r.n
      ((List.range (2 * r.n)).foldr (fun k a => (seqSlot s (bI w + k)).toNat + 2 ^ 32 * a) 0) false) l.val (ran r (4 + r.n)) := by
  have h2' : inUser (bI w + 2 * (ran r (4 + r.n)).n - 1) = true := h2
  exact bnOp_gives h (if_neg (by rw [h1, h2']; decide))

/-- Input that lies within INLEN and is read. -/
theorem bnIn_fits {s s2 : State} {r : BRun} {off n : Nat} {host : List (Nat × Bytes)} {f : State → Bytes → State × BRun} {bs : Bytes}
    (hf : off + n ≤ r.fld 32 2) (hr : jobRead s r.job.src r.job.dom (r.fld 16 8 + off) n host = (s2, .inr bs)) :
    bnIn s r off n host f = f s2 bs := by
  unfold bnIn
  rw [if_neg (Nat.not_lt.mpr hf), hr]

theorem doBnGet_runs {s s2 : State} {l : Fin 4} {r : BRun} {w : Word} {host : List (Nat × Bytes)} {bs : Bytes}
    (hf : bI w + 8 * r.n ≤ r.fld 32 2)
    (hr : jobRead (countedOp s l) r.job.src r.job.dom (r.fld 16 8 + bI w) (8 * r.n) host = (s2, .inr bs)) (h : RunsOp s l r 0x0C w) :
    doBnGet l host s = setRun (wput s2 l.val r.job.dom (bD w) r.n (bnNum (bBE w) bs) false) l.val (ran r (4 + r.n)) :=
  bnOp_gives h (bnIn_fits (r := ran r (4 + r.n)) hf hr)

theorem doBnRand_runs {s s2 : State} {l : Fin 4} {r : BRun} {w : Word} {bs : Bytes}
    (hd : drbg (countedOp s l) (8 * r.n) = some (bs, s2)) (h : RunsOp s l r 0x0F w) :
    doBnRand l s = setRun (wput s2 l.val r.job.dom (bD w) r.n (leNat bs) false) l.val (ran r (16 + 7 * r.n)) := by
  have hd' : drbg (countedOp s l) (8 * (ran r (16 + 7 * r.n)).n) = some (bs, s2) := hd
  refine bnOp_gives h ?_
  rw [hd']
  rfl

/-- Comparison, addition and subtraction. -/
theorem addition_runs {s : State} {l : Fin 4} {r : BRun} {w : Word} (ha : OwnReg s l r.job.dom (bA w)) (hb : OwnReg s l r.job.dom (bB w)) :
    let a := wval s l (bA w) % 2 ^ (64 * r.n)
    let b := wval s l (bB w) % 2 ^ (64 * r.n)
    let sab := wsecret s l (bA w) || wsecret s l (bB w)
    (RunsOp s l r 0x14 w →
      doBnCmp l s = setRun (countedOp s l) l.val { ran r (4 + quarter r.n) with z := a == b, c := decide (a < b) }) ∧
    (RunsOp s l r 0x15 w → doBnAdd l s = setRun (wput (countedOp s l) l.val r.job.dom (bD w) r.n (a + b) sab) l.val
      { ran r (4 + quarter r.n) with c := decide (2 ^ (64 * r.n) ≤ a + b) }) ∧
    (RunsOp s l r 0x16 w → doBnSub l s = setRun (wput (countedOp s l) l.val r.job.dom (bD w) r.n (a + 2 ^ (64 * r.n) - b) sab) l.val
      { ran r (4 + quarter r.n) with c := decide (a < b) }) := by
  intro a b sab
  exact ⟨fun h => bnOp_gives h (bnUse_two (r := ran r (4 + quarter r.n)) ha hb),
    fun h => bnOp_gives h (bnUse_two (r := ran r (4 + quarter r.n)) ha hb),
    fun h => bnOp_gives h (bnUse_two (r := ran r (4 + quarter r.n)) ha hb)⟩

/-- Products, sums and differences modulo M. -/
theorem modular_runs {s : State} {l : Fin 4} {r : BRun} {w : Word} {m : Nat} (ha : OwnReg s l r.job.dom (bA w))
    (hb : OwnReg s l r.job.dom (bB w)) (hm : r.m = some m) :
    let a := wval s l (bA w) % 2 ^ (64 * r.n)
    let b := wval s l (bB w) % 2 ^ (64 * r.n)
    let sab := wsecret s l (bA w) || wsecret s l (bB w)
    let puts (x cyc : Nat) : State := setRun (wput (countedOp s l) l.val r.job.dom (bD w) r.n x sab) l.val (ran r cyc)
    a < m → b < m →
    (RunsOp s l r 0x10 w → doMmul l s = puts (a * b * inv0 m (2 ^ (64 * r.n)) % m) (16 + r.n * ((r.n + 1) / 2))) ∧
    (RunsOp s l r 0x11 w → doMadd l s = puts ((a + b) % m) (6 + (r.n + 1) / 2)) ∧
    (RunsOp s l r 0x12 w → doMsub l s = puts (subMod m a b) (6 + (r.n + 1) / 2)) := by
  intro a b sab puts hlt hlt'
  exact ⟨fun h => bnOp_gives h (bnMod_two (r := ran r (16 + r.n * ((r.n + 1) / 2))) hm ha hb hlt hlt'),
    fun h => bnOp_gives h (bnMod_two (r := ran r (6 + (r.n + 1) / 2)) hm ha hb hlt hlt'),
    fun h => bnOp_gives h (bnMod_two (r := ran r (6 + (r.n + 1) / 2)) hm ha hb hlt hlt')⟩

/-- A swap, where C is set; nothing else. -/
theorem doCswap_runs {s : State} {l : Fin 4} {r : BRun} {w : Word} (ha : OwnReg s l r.job.dom (bA w)) (hb : OwnReg s l r.job.dom (bB w))
    (h : RunsOp s l r 0x1A w) :
    let sab := wsecret s l (bA w) || wsecret s l (bB w)
    (r.c = false → doCswap l s = setRun (countedOp s l) l.val (ran r (4 + quarter r.n))) ∧
    (r.c = true → doCswap l s =
      setRun (wput (wput (countedOp s l) l.val r.job.dom (bA w) r.n (wval s l (bB w)) sab) l.val r.job.dom (bB w) r.n (wval s l (bA w)) sab)
        l.val (ran r (4 + quarter r.n))) := by
  intro sab
  exact ⟨fun hc => bnOp_gives h ((bnUse_two (r := ran r (4 + quarter r.n)) ha hb).trans (if_neg (ne_true_of_eq_false hc))),
    fun hc => bnOp_gives h ((bnUse_two (r := ran r (4 + quarter r.n)) ha hb).trans (if_pos hc))⟩

theorem doWipe_runs {s : State} {l : Fin 4} {r : BRun} {w : Word} (h : RunsOp s l r 0x1B w) :
    (bI w = 1 → doWipe l s = setRun (wipeAll (countedOp s l) l.val) l.val (ran r 516)) ∧
    (bI w ≠ 1 → doWipe l s = setRun
      (setWreg (countedOp s l) l.val (bD w) { wreg s l.val (bD w) with val := 0, written := false, secret := false }) l.val (ran r 36)) :=
  ⟨fun hi => bnOp_gives h (if_pos hi), fun hi => bnOp_gives h (if_neg hi)⟩

/-- Settles O35: each operation of a running sequence, by the rule for running one and the rules for its operands. -/
theorem sequenceOperations : Obligations.SequenceOperations := by
  unfold Obligations.SequenceOperations
  refine ⟨?_, ?_⟩
  · intro l r w s leaves goto ends
    obtain ⟨hloop, hcall9, hcall⟩ := control_runs l r w s
    refine ⟨fun h => lands (exec_bnEnd ..) (bnOp_gives h rfl), fun h => lands (exec_bnFail ..) (bnOp_gives h rfl),
      fun h => lands (exec_bnJmp ..) (bnOp_gives h rfl), fun h => lands (exec_bnBr ..) (doBnBr_runs h),
      fun hl h => lands (exec_bnCall ..) (hcall hl h), fun hl h => lands (exec_bnCall ..) (hcall9 hl h),
      fun k ks hk h => lands (exec_bnRet ..) (doBnRet_pops hk h), fun hk h => lands (exec_bnRet ..) (doBnRet_empty hk h),
      fun h => lands (exec_cset ..) (bnOp_gives h rfl), fun h => lands (exec_cloop ..) (hloop h),
      fun h => lands (exec_setlen ..) (bnOp_gives h rfl), fun ha => ⟨fun hm h => ?_, fun hm h => ?_⟩,
      fun h => lands (exec_kload ..) (bnOp_gives h rfl), fun h => lands (exec_qset ..) (bnOp_gives h rfl),
      fun h0 h24 hw h => lands (exec_pfmt ..) (doPfmt_runs h0 h24 hw h), fun h => lands (exec_hinit ..) (bnOp_gives h rfl)⟩
    · exact lands (exec_modset ..) ((doModset_runs ha h).trans (congrArg _ (if_neg (by omega))))
    · exact lands (exec_modset ..) ((doModset_runs ha h).trans (congrArg _ (if_pos hm)))
  · intro l host r w m bs s s2 n dom s1 a b sa sab after puts keeps
    refine ⟨fun ha => ⟨fun h => ?_, fun hi h => ?_, fun hi h => ?_, fun hi h => ?_, fun hm hlt h => ?_, fun hf hw h hlen => ?_⟩,
      fun ha hb => ?_, fun h1 h2 h => ?_, fun hf hr h => ?_, fun hd h => ?_, fun h => ?_⟩
    · exact lands (exec_bnMov ..) (doBnMov_runs ha h)
    · exact lands (exec_btst ..) (doBtst_runs ha hi h)
    · exact lands (exec_bnShl ..) (doBnShl_runs ha hi h)
    · exact lands (exec_bnShr ..) (doBnShr_runs ha hi h)
    · exact lands (exec_minv ..) (doMinv_runs ha hm hlt h)
    · exact lands (exec_bnPut ..) (doBnPut_runs ha hf hw h hlen)
    · obtain ⟨hcmp, hadd, hsub⟩ := addition_runs ha hb
      refine ⟨fun h => lands (exec_bnCmp ..) (hcmp h), fun h => lands (exec_bnAdd ..) (hadd h), fun h => lands (exec_bnSub ..) (hsub h),
        fun hm hlt hlt' => ?_, fun hc h => lands (exec_cswap ..) ((doCswap_runs ha hb h).1 hc),
        fun hc h => lands (exec_cswap ..) ((doCswap_runs ha hb h).2 hc)⟩
      obtain ⟨hmul, hmadd, hmsub⟩ := modular_runs ha hb hm hlt hlt'
      exact ⟨fun h => lands (exec_mmul ..) (hmul h), fun h => lands (exec_madd ..) (hmadd h), fun h => lands (exec_msub ..) (hmsub h)⟩
    · exact lands (exec_ldc ..) (doLdc_runs h1 h2 h)
    · exact lands (exec_bnGet ..) (doBnGet_runs hf hr h)
    · exact lands (exec_bnRand ..) (doBnRand_runs hd h)
    · exact ⟨fun hi => lands (exec_wipe ..) ((doWipe_runs h).1 hi), fun hi => lands (exec_wipe ..) ((doWipe_runs h).2 hi)⟩

end Sys2Proof.Machine
end

section
/-! ### O36: rings, samples, formats and the hash unit -/

namespace Sys2Proof.Machine

open Sys2Proof

/-- The coefficients of a register of the workspace. -/
def wcoefs (s : State) (l : Fin 4) (k : Nat) : List Nat := coefs (wval s l k)

/-- Coefficients that are all below a bound. -/
def lowCoefs (q : Nat) (p : List Nat) : Bool := p.all fun x => decide (x < q)

/-- A ring operation on one polynomial whose coefficients are below q. -/
theorem bnPoly_one {s : State} {l : Fin 4} {r : BRun} {w : Word} {a : Nat} {ok : List (List Nat) → Bool} {f : List (List Nat) → List Nat}
    (ha : OwnReg s l r.job.dom a) (hlow : lowCoefs (bnRing r).q (wcoefs s l a) = true) (hok : ok [wcoefs s l a] = true) :
    bnPoly (countedOp s l) l.val r w [a] ok f =
      (wpoly (countedOp s l) l.val r.job.dom (bD w) (f [wcoefs s l a]) (wsecret s l a), r) := by
  refine (bnUse_one ha).trans (if_pos ?_)
  rw [Bool.and_eq_true]
  exact ⟨(Bool.and_true _).trans hlow, hok⟩

/-- A ring operation on two polynomials whose coefficients are below q. -/
theorem bnPoly_two {s : State} {l : Fin 4} {r : BRun} {w : Word} {a b : Nat} {f : List (List Nat) → List Nat}
    (ha : OwnReg s l r.job.dom a) (hb : OwnReg s l r.job.dom b) (hla : lowCoefs (bnRing r).q (wcoefs s l a) = true)
    (hlb : lowCoefs (bnRing r).q (wcoefs s l b) = true) :
    bnPoly (countedOp s l) l.val r w [a, b] (fun _ => true) f =
      (wpoly (countedOp s l) l.val r.job.dom (bD w) (f [wcoefs s l a, wcoefs s l b]) (wsecret s l a || wsecret s l b), r) := by
  refine (bnUse_two ha hb).trans (if_pos ?_)
  rw [Bool.and_true]
  show (lowCoefs (bnRing r).q (wcoefs s l a) && (lowCoefs (bnRing r).q (wcoefs s l b) && true)) = true
  rw [hla, hlb]
  rfl

/-- A ring operation on a polynomial with a coefficient that is not below q has no stated result. -/
theorem bnPoly_free {s : State} {l : Fin 4} {r : BRun} {w : Word} {a : Nat} {ok : List (List Nat) → Bool} {f : List (List Nat) → List Nat}
    (ha : OwnReg s l r.job.dom a) (hlow : ¬ lowCoefs (bnRing r).q (wcoefs s l a) = true) :
    bnPoly (countedOp s l) l.val r w [a] ok f = (wfree (countedOp s l) l.val r.job.dom (bD w) (wsecret s l a), r) := by
  refine (bnUse_one ha).trans (if_neg ?_)
  rw [Bool.and_eq_true]
  exact fun h => hlow ((Bool.and_true _).symm.trans h.1)

/-- The cycles of an operation whose length does not matter. -/
theorem ran_zero (r : BRun) (a b : Nat) : { ran r 0 with cyc := (ran r 0).cyc + a + b } = ran r (a + b) := by
  unfold ran
  simp only [Nat.add_zero, Nat.add_assoc]

theorem doNtt_runs {s : State} {l : Fin 4} {r : BRun} {w : Word} (ha : OwnReg s l r.job.dom (bA w)) (h : RunsOp s l r 0x21 w) :
    (lowCoefs (bnRing r).q (wcoefs s l (bA w)) = true → doNtt l s =
      setRun (wpoly (countedOp s l) l.val r.job.dom (bD w) (ntt (bnRing r) (wcoefs s l (bA w))) (wsecret s l (bA w))) l.val
        (ran r (64 + 8 * r.ring))) ∧
    (¬ lowCoefs (bnRing r).q (wcoefs s l (bA w)) = true → doNtt l s =
      setRun (wfree (countedOp s l) l.val r.job.dom (bD w) (wsecret s l (bA w))) l.val (ran r (64 + 8 * r.ring))) := by
  rw [← ran_zero]
  exact ⟨fun hlow => bnOp_gives h (bnPoly_one (r := { ran r 0 with cyc := (ran r 0).cyc + 64 + 8 * r.ring }) ha hlow rfl),
    fun hlow => bnOp_gives h (bnPoly_free (r := { ran r 0 with cyc := (ran r 0).cyc + 64 + 8 * r.ring }) ha hlow)⟩

theorem doIntt_runs {s : State} {l : Fin 4} {r : BRun} {w : Word} (ha : OwnReg s l r.job.dom (bA w))
    (hlow : lowCoefs (bnRing r).q (wcoefs s l (bA w)) = true) (h : RunsOp s l r 0x22 w) :
    doIntt l s =
      setRun (wpoly (countedOp s l) l.val r.job.dom (bD w) (intt (bnRing r) (wcoefs s l (bA w))) (wsecret s l (bA w))) l.val
        (ran r (72 + 8 * r.ring)) := by
  rw [← ran_zero]
  exact bnOp_gives h (bnPoly_one (r := { ran r 0 with cyc := (ran r 0).cyc + 72 + 8 * r.ring }) ha hlow rfl)

/-- A coefficient-wise function of one operand. -/
theorem doPmap_runs {s : State} {l : Fin 4} {r : BRun} {w : Word} (ha : OwnReg s l r.job.dom (bA w))
    (hlow : lowCoefs (bnRing r).q (wcoefs s l (bA w)) = true) (hok : pmapOk w = true) (hf : bI w % 256 < 6)
    (hd : pmapDef r w (wcoefs s l (bA w)) = true) (h : RunsOp s l r 0x26 w) :
    doPmap l s =
      setRun (wpoly (countedOp s l) l.val r.job.dom (bD w)
        ((List.range 256).map fun i => pmapFn (bnRing r).q w ((wcoefs s l (bA w)).getD i 0) 0) (wsecret s l (bA w))) l.val (ran r 20) := by
  refine bnOp_gives h ?_
  refine (if_neg (by rw [hok]; decide)).trans ((if_neg (by omega)).trans ((if_neg (by omega)).trans ?_))
  rw [if_pos hf]
  exact bnPoly_one (r := ran r 20) ha hlow hd

theorem doPput_runs {s s2 : State} {l : Fin 4} {r : BRun} {w : Word} (ha : OwnReg s l r.job.dom (bA w)) (hk : pfmtW r.fmt ≠ 0)
    (hf : bI w + 32 * pfmtW r.fmt ≤ r.fld 36 4) :
    let bs := packPoly (bnRing r).q (pfmtW r.fmt) (pfmtB r.fmt) (pfmtNeg r.fmt) (wcoefs s l (bA w))
    bs.length = 32 * pfmtW r.fmt → jobWrite (countedOp s l) r.job.src r.job.dom (r.fld 24 8 + bI w) bs = (s2, stOK) →
    RunsOp s l r 0x29 w →
    doPput l s = setRun s2 l.val { ran r (4 + 4 * pfmtW r.fmt) with out := r.out + 32 * pfmtW r.fmt } := by
  intro bs hlen hw h
  refine bnOp_gives h ((if_neg hk).trans ((bnUse_one (r := { ran r 4 with cyc := (ran r 4).cyc + 4 * pfmtW r.fmt }) ha).trans ?_))
  refine (bnOut_fits (r := { ran r 4 with cyc := (ran r 4).cyc + 4 * pfmtW r.fmt }) hlen hf hw).trans ?_
  simp only [ran, Nat.add_assoc]

theorem doHabs_runs {s : State} {l : Fin 4} {r : BRun} {w : Word} (ha : OwnReg s l r.job.dom (bA w)) (h0 : 0 < bI w)
    (h1024 : bI w ≤ 1024) (h : RunsOp s l r 0x31 w) :
    doHabs l s = setRun (countedOp s l) l.val (bnAbsorb (ran r 0) (leBytes (bI w) (wval s l (bA w))) (wsecret s l (bA w))) := by
  refine bnOp_gives h ((if_neg ?_).trans (bnUse_one (r := ran r 0) ha))
  rw [Bool.or_eq_true, decide_eq_true_eq, decide_eq_true_eq]
  omega

/-- Products, sums and differences of polynomials. -/
theorem polynomial_runs {s : State} {l : Fin 4} {r : BRun} {w : Word} (ha : OwnReg s l r.job.dom (bA w)) (hb : OwnReg s l r.job.dom (bB w))
    (hla : lowCoefs (bnRing r).q (wcoefs s l (bA w)) = true) (hlb : lowCoefs (bnRing r).q (wcoefs s l (bB w)) = true) :
    let a := wcoefs s l (bA w)
    let b := wcoefs s l (bB w)
    let puts (p : List Nat) (r' : BRun) : State :=
      setRun (wpoly (countedOp s l) l.val r.job.dom (bD w) p (wsecret s l (bA w) || wsecret s l (bB w))) l.val r'
    (RunsOp s l r 0x23 w → doPmul l s = puts (polyMul (bnRing r) a b) { r with pc := r.pc + 1, cyc := r.cyc + 24 - 4 * r.ring }) ∧
    (RunsOp s l r 0x24 w → doPadd l s = puts (polyAdd (bnRing r) a b) (ran r 20)) ∧
    (RunsOp s l r 0x25 w → doPsub l s = puts (polySub (bnRing r) a b) (ran r 20)) := by
  intro a b puts
  exact ⟨fun h => bnOp_gives h (bnPoly_two (r := { ran r 0 with cyc := (ran r 0).cyc + 24 - 4 * r.ring }) ha hb hla hlb),
    fun h => bnOp_gives h (bnPoly_two (r := ran r 20) ha hb hla hlb), fun h => bnOp_gives h (bnPoly_two (r := ran r 20) ha hb hla hlb)⟩

theorem doPget_runs {s s2 : State} {l : Fin 4} {r : BRun} {w : Word} {host : List (Nat × Bytes)} {bs : Bytes} (hk : pfmtW r.fmt ≠ 0)
    (hf : bI w + 32 * pfmtW r.fmt ≤ r.fld 32 2)
    (hr : jobRead (countedOp s l) r.job.src r.job.dom (r.fld 16 8 + bI w) (32 * pfmtW r.fmt) host = (s2, .inr bs))
    (h : RunsOp s l r 0x28 w) :
    doPget l host s =
      setRun (wpoly s2 l.val r.job.dom (bD w) (unpackPoly (bnRing r).q (pfmtW r.fmt) (pfmtB r.fmt) (pfmtNeg r.fmt) bs) false) l.val
        (ran r (4 + 4 * pfmtW r.fmt)) := by
  refine bnOp_gives h ((if_neg hk).trans ((bnIn_fits (r := { ran r 4 with cyc := (ran r 4).cyc + 4 * pfmtW r.fmt }) hf hr).trans ?_))
  unfold ran
  simp only [Nat.add_assoc]
  rfl

/-- A sample that the standard of the ring defines. -/
theorem doPsamp_runs {s : State} {l : Fin 4} {r : BRun} {w : Word} {u : HUnit} {f : List Nat} {used : Nat} (hu : r.hash = some u)
    (hm : u.mode = if bI w % 16 = 0 then 5 else 6)
    (hs : psamp r.ring (bI w % 16) (bI w / 16) (hunitBytes u 3200) = some (f, used))
    (hr : bI w % 16 = 0 ∨ r.ring = if bI w % 16 = 1 then 0 else 1) (h : RunsOp s l r 0x27 w) :
    doPsamp l s = setRun (wpoly (countedOp s l) l.val r.job.dom (bD w) f u.secret) l.val
      { ran r (50 * hunitPerms u.mode u.out (u.out + used)) with hash := some { u with out := u.out + used } } := by
  have hu' : (ran r 0).hash = some u := hu
  have hdef : (bI w % 16 == 0 || r.ring == (if bI w % 16 = 1 then 0 else 1)) = true := by simpa using hr
  refine bnOp_gives h ?_
  dsimp only
  rw [hu']
  refine (if_neg (not_not_intro hm)).trans ?_
  have hs' : psamp (ran r 0).ring (bI w % 16) (bI w / 16) (hunitBytes u 3200) = some (f, used) := hs
  rw [hs']
  exact if_pos hdef

theorem doHabsi_runs {s s2 : State} {l : Fin 4} {r : BRun} {w : Word} {host : List (Nat × Bytes)} {bs : Bytes}
    (hf : bI w + r.ctr.getD 0 0 ≤ r.fld 32 2)
    (hr : jobRead (countedOp s l) r.job.src r.job.dom (r.fld 16 8 + bI w) (r.ctr.getD 0 0) host = (s2, .inr bs))
    (h : RunsOp s l r 0x32 w) : doHabsi l host s = setRun s2 l.val (bnAbsorb (ran r 0) bs false) :=
  bnOp_gives h (bnIn_fits (r := ran r 0) hf hr)

theorem doHmsg_runs {s s2 : State} {l : Fin 4} {r : BRun} {w : Word} {host : List (Nat × Bytes)} {bs : Bytes}
    (hr : jobRead (countedOp s l) r.job.src r.job.dom (r.fld 40 8) (r.fld 34 2) host = (s2, .inr bs)) (h : RunsOp s l r 0x33 w) :
    doHmsg l host s = setRun s2 l.val (bnAbsorb (ran r 0) bs false) := by
  have hr' : jobRead (countedOp s l) (ran r 0).job.src (ran r 0).job.dom ((ran r 0).fld 40 8) ((ran r 0).fld 34 2) host = (s2, .inr bs) := hr
  refine bnOp_gives h ?_
  rw [hr']

/-- The next bytes of a SHAKE. -/
theorem doHsqz_shake {s : State} {l : Fin 4} {r : BRun} {w : Word} {u : HUnit} (hu : r.hash = some u) (hm : 5 ≤ u.mode) (h0 : 0 < bI w)
    (h1024 : bI w ≤ 1024) (h : RunsOp s l r 0x34 w) :
    doHsqz l s = setRun (wput (countedOp s l) l.val r.job.dom (bD w) 128 (leNat (hunitBytes u (bI w))) u.secret) l.val
      { ran r (50 * hunitPerms u.mode u.out (u.out + bI w)) with hash := some { u with out := u.out + bI w } } := by
  have hu' : (ran r 0).hash = some u := hu
  refine bnOp_gives h ?_
  dsimp only
  rw [hu']
  refine (if_neg ?_).trans ?_
  · rw [Bool.or_eq_true, decide_eq_true_eq, decide_eq_true_eq]
    omega
  · simp only [hm, decide_true, if_true]
    rfl

/-- Settles O36: each ring, format and hash operation of a running sequence. -/
theorem sequenceRings : Obligations.SequenceRings := by
  unfold Obligations.SequenceRings
  intro l host r w h bs f used s s2 dom s1 q a b sa sab low after puts
  refine ⟨fun ha => ⟨fun hlow => ⟨fun hr => ?_, fun hr => ?_⟩, fun hlow hok hf hd hr => ?_, fun hlow hr => ?_, fun hk hf => ?_,
    fun hu ho h0 h1024 hr => ?_⟩, fun ha hb hla hlb => ?_, fun hk hf hrd hr => ?_, fun hu hm hs hr h' => ?_, fun hf hrd hr => ?_,
    fun hrd hr => ?_, fun hu hm h0 h1024 hr => ?_⟩
  · exact lands (exec_ntt ..) ((doNtt_runs ha hr).1 hlow)
  · exact lands (exec_intt ..) (doIntt_runs ha hlow hr)
  · exact lands (exec_pmap ..) (doPmap_runs ha hlow hok hf hd hr)
  · exact lands (exec_ntt ..) ((doNtt_runs ha hr).2 hlow)
  · intro bs hlen hw hr
    exact lands (exec_pput ..) (doPput_runs ha hk hf hlen hw hr)
  · exact lands (exec_habs ..) (doHabs_runs ha h0 h1024 hr)
  · obtain ⟨hmul, hadd, hsub⟩ := polynomial_runs ha hb hla hlb
    exact ⟨fun h => lands (exec_pmul ..) (hmul h), fun h => lands (exec_padd ..) (hadd h), fun h => lands (exec_psub ..) (hsub h)⟩
  · exact lands (exec_pget ..) (doPget_runs hk hf hrd hr)
  · exact lands (exec_psamp ..) (doPsamp_runs hu hm hs hr h')
  · exact lands (exec_habsi ..) (doHabsi_runs hf hrd hr)
  · exact lands (exec_hmsg ..) (doHmsg_runs hrd hr)
  · exact lands (exec_hsqz ..) (doHsqz_shake hu hm h0 h1024 hr)

end Sys2Proof.Machine
end

/-! PROOFS. The pages of the cores (R298 to R304) and the banks' tests (R340 to R352). -/

section
/-! ### O37: the cores' pages and the metrology watchdog -/

namespace Sys2Proof.Machine

open Sys2Proof

/-- Enabling AC1 releases it at its entry; disabling it holds it once its buffer has drained; the same value changes nothing. -/
theorem ac1Enable_cases {s : State} {en : Bool} :
    (en = bit (rd s (hdr 0x61 Off.CTRL)) 0 → ac1Enable s en = s) ∧
    (en = true → bit (rd s (hdr 0x61 Off.CTRL)) 0 = false →
      ac1Enable s en = { wrBit s (hdr 0x61 Off.CTRL) 0 true with
        ac1 := { Core.zero with run := .running, pc := rd (wrBit s (hdr 0x61 Off.CTRL) 0 true) (hdr 0x61 0x80) } }) ∧
    (en = false → bit (rd s (hdr 0x61 Off.CTRL)) 0 = true →
      ac1Enable s en = { drain (wrBit s (hdr 0x61 Off.CTRL) 0 false) .ac1 with ac1 := Core.zero }) := by
  refine ⟨fun h => if_pos h, fun h hb => ?_, fun h hb => ?_⟩
  · subst h
    exact (if_neg fun h => Bool.false_ne_true (hb.symm.trans h.symm)).trans (if_pos rfl)
  · subst h
    exact (if_neg fun h => Bool.false_ne_true (h.trans hb)).trans (if_neg Bool.false_ne_true)

theorem gsetWrite_fits {s : State} {i : Initiator} {c : Fin 2} {v : Word} (hg : gstMay s i c = true) (hv : fld v 3 0 ≤ 8) :
    gsetWrite s i c v = setCore s (pageCore c) { getCore s (pageCore c) with gdepth := fld v 3 0 } :=
  (if_pos hg).trans (if_neg (Nat.not_lt.mpr hv))

/-- A kick with another value counts as the watchdog's expiry. -/
theorem mccKick_cases {s : State} {v : Word} :
    (v = 0x4B1C#32 → mccKick s v = { s with mcc := { s.mcc with kickAt := s.tick } }) ∧
    (v ≠ 0x4B1C#32 → bit (rd s Reg.MCC_WDCFG) 31 = true → mccKick s v = askReset s 6) :=
  ⟨fun h => if_pos h, fun h hw => (if_neg h).trans (if_pos hw)⟩

theorem doMccLoadDone_loading {s : State} (h : s.boot.loading = true) :
    let s1 := loadAssay { s with boot := { s.boot with loading := false, lockstep := false } }
    doMccLoadDone s = if s.boot.lockstep then raise s1 0x29 0 else s1 :=
  if_neg (by rw [h]; decide)

/-- Settles O37: each command of the cores' pages and of the watchdog has one branch, which its hypotheses choose. -/
theorem corePages : Obligations.CorePages := by
  unfold Obligations.CorePages
  intro i c k v en s makes page
  refine ⟨fun hm => ?_, fun hm hg => ?_, fun hm hg hv => ?_, fun hm => ?_, fun hm => ⟨fun h => ?_, fun h hw => ?_⟩, fun h => ?_,
    fun h => ?_, fun h => ?_, fun h => ?_⟩
  · obtain ⟨hsame, hon, hoff⟩ := ac1Enable_cases (s := s) (en := en)
    exact ⟨fun h => lands (exec_ac1CtrlEn ..) ((guardW_open hm _).trans (hsame h)),
      fun h hb => lands (exec_ac1CtrlEn ..) ((guardW_open hm _).trans (hon h hb)),
      fun h hb => lands (exec_ac1CtrlEn ..) ((guardW_open hm _).trans (hoff h hb))⟩
  · exact lands (exec_coreGdataWrite ..) ((guardW_open hm _).trans (if_pos hg))
  · exact lands (exec_coreGset ..) ((guardW_open hm _).trans (gsetWrite_fits hg hv))
  · exact lands (exec_coreCycRead ..) (guardR_open hm _)
  · exact lands (exec_mccWdkick ..) ((guardW_open hm _).trans (mccKick_cases.1 h))
  · exact lands (exec_mccWdkick ..) ((guardW_open hm _).trans (mccKick_cases.2 h hw))
  · exact lands (exec_metrologyWatchdogWarn _) (if_pos h)
  · exact lands (exec_lockstepMismatch _) (if_neg h)
  · exact lands (exec_wdrM _) (if_pos (Bool.or_eq_true _ _ |>.mpr h))
  · exact lands (exec_mccLoadDone _) (doMccLoadDone_loading h)

end Sys2Proof.Machine
end

section
/-! ### O38: the banks' tests -/

namespace Sys2Proof.Machine

open Sys2Proof

/-- The tester visits while it is enabled, no bank is being cleared, and the power state permits it. -/
structure TesterOn (s : State) : Prop where
  on : bit (rd s Reg.MEM_BTCFG) 31 = true
  quiet : anyClearing s = false
  awake : s.pmu.mode ≠ .sleep
  powered : s.pmu.mode ≠ .off

theorem TesterOn.starts {s : State} (h : TesterOn s) :
    ¬ (!bit (rd s Reg.MEM_BTCFG) 31 || anyClearing s || s.pmu.mode = .sleep || s.pmu.mode = .off) = true := by
  obtain ⟨hon, hq, hs, hp⟩ := h
  simp [hon, hq, hs, hp]

theorem doBtVisitStart_late {s : State} (h : TesterOn s) (hb : bit (rd s Reg.MEM_BTSTAT) 31 = true) :
    doBtVisitStart s = wrBit s Reg.MEM_BTSTAT 28 true := (if_neg h.starts).trans (if_pos hb)

theorem doBtVisitStart_next {s : State} {x : Nat} (h : TesterOn s) (hb : bit (rd s Reg.MEM_BTSTAT) 31 = false)
    (hf : btFind s 34 s.bt.next = some x) (hx : s.bt.next ≤ x) :
    doBtVisitStart s = wr { s with bt := { s.bt with next := x } } Reg.MEM_BTSTAT
      (word (0xA0000000 + b2n (bit (rd s Reg.MEM_BTSTAT) 28) * 0x10000000 + x / 1024 * 0x10000 + x % 1024)) := by
  refine (if_neg h.starts).trans ((if_neg (ne_true_of_eq_false hb)).trans ?_)
  rw [hf]
  dsimp only
  rw [if_neg (Nat.not_lt.mpr hx), decide_eq_true hx, Bool.and_true]

/-- COPY of a region without an error. -/
theorem doBtCopyDone_clean {s : State} (hp : fld (rd s Reg.MEM_BTSTAT) 30 29 = 1)
    (hc : (s.mem.poison.filter fun w => regionAddr s.bt.next ≤ w && w < regionAddr s.bt.next + 256) = []) :
    doBtCopyDone [] s = wrFld s Reg.MEM_BTSTAT 30 29 2 := by
  refine (if_neg (not_not_intro hp)).trans ?_
  simp only [List.foldl_nil, hc]

theorem doBtTestDone_cases {s : State} (hp : fld (rd s Reg.MEM_BTSTAT) 30 29 = 2) :
    doBtTestDone false s = wrFld s Reg.MEM_BTSTAT 30 29 3 ∧
    (let k := s.bt.next / 1024
     let r := s.bt.next % 1024
     doBtTestDone true s =
       btEnd (raise (wr (repairRegion s k r) Reg.MEM_BTFAIL (word (0x80000000 + k * 0x1000000 + r))) 0x58 3)) :=
  ⟨(if_neg (not_not_intro hp)).trans (if_neg Bool.false_ne_true), (if_neg (not_not_intro hp)).trans (if_pos rfl)⟩

theorem doBankWithdraw_up {s : State} {i : Initiator} {bank : Fin 32} (hm : MayStore s i Reg.MEM_BCMD) (hb : bank.val < 30)
    (hu : bankUp s bank.val = true) :
    doBankWithdraw i bank s =
      bcmdEnd (raise (wrBit (drain (drain (drain s .ac0) .ac1) .mc) Reg.MEM_SERVICE bank.val false) 0x58 4) bank.val stOK :=
  (guardW_open hm _).trans ((if_neg (Nat.not_le.mpr hb)).trans (if_neg (by rw [hu]; decide)))

theorem doBankReturn_down {s : State} {i : Initiator} {bank : Fin 32} {failing : List (Fin 1024)} {n : Nat}
    (hm : MayStore s i Reg.MEM_BCMD) (hu : bankUp s bank.val = false) (hn : n ≤ 1) (hf : failing.length + n ≤ 2) :
    let s1 := failing.foldl (fun s r => repairRegion s bank.val r.val)
      (wr s (repairReg bank.val) (word (b2n (decide (0 < n)) * 0x10000000)))
    doBankReturn i bank failing n s =
      bcmdEnd (raise (wrBit (clearBank s1 bank.val) Reg.MEM_SERVICE bank.val true) 0x58 4) bank.val stOK := by
  refine (guardW_open hm _).trans ((if_neg (ne_true_of_eq_false hu)).trans (if_neg ?_))
  rw [Bool.or_eq_true, decide_eq_true_eq, decide_eq_true_eq]
  omega

/-- Settles O38: each step of the tester and each bank command, on the branch that its hypotheses choose. -/
theorem bankTests : Obligations.BankTests := by
  unfold Obligations.BankTests
  intro i bank x failing spares n s makes event stat
  refine ⟨fun hon hq hs hp => ⟨fun hb => ?_, fun hb hf hx => ?_⟩, fun hp hc => ?_, fun hp => ?_, fun hp => ?_, fun h => ?_, ?_,
    fun hm => ⟨fun hb => ?_, fun hb hu => ?_, fun hu hn hf => ?_⟩⟩
  · exact lands (exec_btVisitStart _) (doBtVisitStart_late ⟨hon, hq, hs, hp⟩ hb)
  · exact lands (exec_btVisitStart _) (doBtVisitStart_next ⟨hon, hq, hs, hp⟩ hb hf hx)
  · exact lands (exec_btCopyDone ..) (doBtCopyDone_clean hp hc)
  · obtain ⟨hpass, hfail⟩ := doBtTestDone_cases hp
    exact ⟨lands (exec_btTestDone ..) hpass, lands (exec_btTestDone ..) hfail⟩
  · exact lands (exec_btRestoreDone _) (if_neg (not_not_intro hp))
  · exact lands (exec_btSpareTest ..) (if_neg (by rw [h]; decide))
  · exact exec_bankClearDone _
  · exact lands (exec_bankWithdraw ..) ((guardW_open hm _).trans (if_pos hb))
  · exact lands (exec_bankWithdraw ..) (doBankWithdraw_up hm hb hu)
  · exact lands (exec_bankReturn ..) (doBankReturn_down hm hu hn hf)

end Sys2Proof.Machine
end

/-! PROOFS. The rings of the channels (R357 to R372), their operations on memory and tills (R374 to R376), and the tills' own
commands (R377 to R384). -/

section
/-! ### O39: the rings of a channel -/

namespace Sys2Proof.Machine

open Sys2Proof

theorem doChnEnable_off {s : State} {i : Initiator} {n : Fin 64} {v : Word} (hm : MayStore s i (Reg.CHN_CFG + 32 * n.val))
    (hb : bit (rd s (Reg.CHN_CFG + 32 * n.val)) 31 = false) :
    let s0 := wr s (Reg.CHN_CFG + 32 * n.val) ((v &&& 0xF03FFF00#32) ||| 0x80000000#32)
    let s1 := wr (wr (wr (wr s0 (dbReg n.val 0) 0#32) (dbReg n.val 4) 0#32) (dbReg n.val 8) 0#32) (dbReg n.val 12) 0x1000#32
    doChnEnable i n v s = setChan s1 n.val { Chan.idle with
      tokens := fld (rd s0 (Reg.CHN_TBKT + 32 * n.val)) 15 0, active := (getChan s n.val).active } := by
  intro s0 s1
  unfold doChnEnable
  dsimp only
  rw [guardW_open hm]
  exact if_neg (ne_true_of_eq_false hb)

theorem doDbSqtail_inRing {s : State} {i : Initiator} {n : Fin 64} {v : Word} (hm : MayStore s i (dbReg n.val 0))
    (ho : chanOn s n.val = true) (hv : fld v 11 0 < sqSize s n.val) :
    let s1 := wr s (dbReg n.val 0) (word (fld v 11 0))
    doDbSqtail i n v s =
      if bit (rd s1 (Reg.CHN_CFG + 32 * n.val)) 28 then s1 else setChan s1 n.val { getChan s1 n.val with release := fld v 11 0 } := by
  refine (guardW_open hm _).trans (if_neg ?_)
  rw [ho, Bool.or_eq_true, decide_eq_true_eq]
  exact not_or.mpr ⟨Bool.false_ne_true, Nat.not_le.mpr hv⟩

theorem doDbCqhead_inRing {s : State} {i : Initiator} {n : Fin 64} {v : Word} (hm : MayStore s i (dbReg n.val 4))
    (ho : chanOn s n.val = true) (hv : fld v 11 0 < cqSize s n.val)
    (hw : (fld v 11 0 + cqSize s n.val - cqHead s n.val) % cqSize s n.val ≤
      (cqTail s n.val + cqSize s n.val - cqHead s n.val) % cqSize s n.val) :
    doDbCqhead i n v s = wr s (dbReg n.val 4) (word (fld v 11 0)) := by
  refine (guardW_open hm _).trans (if_neg ?_)
  rw [ho, Bool.or_eq_true, Bool.or_eq_true, decide_eq_true_eq, decide_eq_true_eq]
  exact not_or.mpr ⟨not_or.mpr ⟨Bool.false_ne_true, Nat.not_le.mpr hv⟩, Nat.not_lt.mpr hw⟩

theorem doTokenRefill_limited {s : State} {n : Fin 64} (ho : chanOn s n.val = true)
    (hb : fld (rd s (Reg.CHN_TBKT + 32 * n.val)) 15 0 ≠ 0) :
    doTokenRefill n s = setChan s n.val { getChan s n.val with
      tokens := min (fld (rd s (Reg.CHN_TBKT + 32 * n.val)) 15 0) ((getChan s n.val).tokens + 1) } :=
  if_neg (by simp [ho, hb])

/-- A channel that may fetch issues as many reads as its limits allow. -/
theorem doDescFetch_open {s : State} {n : Fin 64} {k : Nat} (ho : chanOn s n.val = true) (hh : (getChan s n.val).halted = false)
    (hd : (getChan s n.val).disabling = false) (hr : (getChan s n.val).toRead = 0) (hp : portOpen s n.val = true)
    (hw : s.pmu.window = false) (hs : (fetchLimits s n.val).2.1 ≠ 0) :
    let burst := fld (rd s (Reg.CHN_TBKT + 32 * n.val)) 15 0
    let c := getChan s n.val
    let m := min k (min (fetchLimits s n.val).1 (min (fetchLimits s n.val).2.1 (fetchLimits s n.val).2.2))
    doDescFetch n k s =
      setChan s n.val { c with cqwait := false, toRead := m, tokens := if burst = 0 then c.tokens else c.tokens - m } := by
  intro burst c m
  refine (if_neg ?_).trans (if_neg ?_)
  · rw [ho, hh, hd, hr, hp, hw]
    decide
  · show ¬ ((fetchLimits s n.val).1 != 0 && (fetchLimits s n.val).2.2 != 0 && (fetchLimits s n.val).2.1 == 0) = true
    rw [beq_eq_false_iff_ne.mpr hs, Bool.and_false]
    exact Bool.false_ne_true

theorem doDescArrive_read {s s1 : State} {n : Fin 64} {d : DmaData} {bs : Bytes} (hr : (getChan s n.val).toRead ≠ 0)
    (hd : dmaRead s n.val (rd64 s (Reg.CHN_SQBASE0 + 32 * n.val) + 64 * sqHead s n.val) (64 * (getChan s n.val).toRead) d =
      (s1, .inr bs)) :
    let m := (getChan s n.val).toRead
    let ds := (pieces 64 m bs).zipIdx.map fun bj => (⟨n.val, (sqHead s n.val + bj.2) % sqSize s1 n.val, bj.1⟩ : Desc)
    let s2 := wr s1 (dbReg n.val 8) (word ((sqHead s n.val + m) % sqSize s1 n.val))
    doDescArrive n d s =
      passFetched (setChan s2 n.val { getChan s2 n.val with toRead := 0, fetched := (getChan s2 n.val).fetched ++ ds }) n.val := by
  intro m ds s2
  refine (if_neg hr).trans ?_
  dsimp only
  rw [hd]

theorem doCompletionWrite_open {s : State} {c : Cpl} {rest : List Cpl} (hq : s.cplq = c :: rest) (hh : (getChan s c.ch).halted = false)
    (hd : (getChan s c.ch).discard = false) :
    doCompletionWrite none s = passFetched (chanSettle (writeCpl { s with cplq := rest } c) c.ch) c.ch := by
  have hn : ¬ ((getChan { s with cplq := rest } c.ch).halted || (getChan { s with cplq := rest } c.ch).discard) = true := by
    show ¬ ((getChan s c.ch).halted || (getChan s c.ch).discard) = true
    rw [hh, hd]
    decide
  unfold doCompletionWrite
  rw [hq]
  exact if_neg hn

/-- Settles O39: each command of a channel's rings, on the branch that its hypotheses choose. -/
theorem channelRings : Obligations.ChannelRings := by
  unfold Obligations.ChannelRings
  intro i n v k d bs c rest s s1 makes cfg raw burst ch
  refine ⟨fun hm => ⟨fun hb => ?_, fun hb => ?_⟩, fun hm => ?_, fun hm ho hv => ?_, fun hm ho hv hw => ?_, fun ho hb => ?_,
    fun ho hh hd hr hp hw hs => ?_, fun hr hd => ?_, fun hq hh hd => ?_, fun ht hc => ?_⟩
  · exact lands (exec_chnEnable ..) (doChnEnable_off hm hb)
  · exact lands (exec_chnDisable ..) ((guardW_open hm _).trans (if_pos hb))
  · exact lands (exec_chnAbort ..) (guardW_open hm _)
  · exact lands (exec_dbSqtail ..) (doDbSqtail_inRing hm ho hv)
  · exact lands (exec_dbCqhead ..) (doDbCqhead_inRing hm ho hv hw)
  · exact lands (exec_tokenRefill ..) (doTokenRefill_limited ho hb)
  · exact lands (exec_descFetch ..) (doDescFetch_open ho hh hd hr hp hw hs)
  · exact lands (exec_descArrive ..) (doDescArrive_read hr hd)
  · exact lands (exec_completionWrite ..) (doCompletionWrite_open hq hh hd)
  · exact lands (exec_cqCoalTimeout ..) (if_neg (by simp only [Bool.or_eq_true, decide_eq_true_eq, not_or]; exact ⟨ht, hc⟩))

end Sys2Proof.Machine
end

section
/-! ### O40: channel operations on memory and tills -/

namespace Sys2Proof.Machine

open Sys2Proof

/-- A read of host memory waits for bus mastering only. -/
theorem host_now {s : State} {a : Nat} (h : isHostAddr a = true → s.pcie.bme = true) : (isHostAddr a && !s.pcie.bme) = false := by
  cases ha : isHostAddr a with
  | false => rfl
  | true => rw [h ha]; rfl

theorem doChanCopy_runs {s : State} {n : Fin 64} {o : ActOp} {data : Bytes} {src dst len : Nat} (ho : firstOp s n.val 0x01 = some o)
    (hsrc : descFld o.d 16 8 = src) (hdst : descFld o.d 24 8 = dst) (hlen : descFld o.d 32 4 = len) (hv : overlap src dst len = false)
    (hs : busOk src len = true) (hd : busOk dst len = true) (hb : isHostAddr src = true → s.pcie.bme = true) :
    let r := copyPieces n.val src dst len data (copyFuel len) 0 s
    doChanCopy n data s = endOp r.1 n.val 0x01 r.2.1 (leBytes 4 r.2.2) := by
  intro r
  obtain ⟨⟨t, st, done⟩, hr⟩ : ∃ q, q = r := ⟨r, rfl⟩
  rw [← hr]
  unfold doChanCopy
  rw [ho]
  dsimp only
  rw [hsrc, hdst, hlen, if_neg (ne_true_of_eq_false hv), if_neg (by rw [hs, hd]; decide), if_neg (ne_true_of_eq_false (host_now hb))]
  rw [show copyPieces n.val src dst len data (copyFuel len) 0 s = (t, st, done) from hr.symm]

theorem doTillRead_ready {s s1 : State} {n : Fin 64} {o : ActOp} {u : Nat} (ho : firstOp s n.val 0x11 = some o)
    (hu : descFld o.d 16 1 = u) (h28 : bit (tillCfg s u) 28 = false) (hn : fld (tillCfg s u) 21 16 = n.val)
    (hc : dmaCheck s n.val (descFld o.d 24 8) (descFld o.d 32 4) true = (s1, 0))
    (hp : max 1 (descFld o.d 17 1) ≤ (getTill s1 u).packets.length) : doTillRead n s = tillReadRun s1 n.val o := by
  unfold doTillRead
  rw [ho]
  dsimp only
  rw [hu, if_neg (by rw [h28, hn]; simp), hc]
  exact if_pos (by rw [decide_eq_true hp]; rfl)

theorem doTillReadTimeout_begun {s : State} {n : Fin 64} {o : ActOp} (ho : firstOp s n.val 0x11 = some o) (hb : o.begun = true) :
    doTillReadTimeout n s = tillReadRun s n.val o := by
  unfold doTillReadTimeout
  rw [ho]
  exact if_pos hb

theorem doTillWrite_room {s s1 : State} {n : Fin 64} {o : ActOp} {d : DmaData} {bs : Bytes} {u len : Nat}
    (ho : firstOp s n.val 0x12 = some o) (hu : descFld o.d 16 1 = u) (hlen : descFld o.d 20 4 = len) (hp : tillProd s u = 1)
    (hn : fld (tillCfg s u) 27 22 = n.val) (hsz : (len + 7) / 8 ≤ tillSize s u) (hop : tillOpenFor s u = true)
    (hr : (len + 7) / 8 ≤ tillRoom s u) (hb : isHostAddr (descFld o.d 24 8) = true → s.pcie.bme = true)
    (hd : dmaRead s n.val (descFld o.d 24 8) len d = (s1, .inr bs)) :
    doTillWrite n d s =
      endOp (tillCommit s1 u (toWords bs)) n.val 0x12 stOK (leBytes 4 len ++ zeros 4 ++ leBytes 4 (getTill s1 u).next) := by
  unfold doTillWrite
  rw [ho]
  dsimp only
  rw [hu, hlen, if_neg (by rw [hp, hn]; simp), if_neg (by rw [hop]; simpa using hsz),
    if_neg (by rw [host_now hb]; simpa using hr), hd]

theorem doTillEnable_off {s : State} {i : Initiator} {t : Fin 128} {v : Word} (hm : MayStore s i (tillCfgReg t.val))
    (he : bit (tillCfg s t.val) 31 = false) :
    let s1 := wr s (tillCfgReg t.val) (v &&& 0x7FFFFFFF#32)
    doTillEnable i t v s =
      if tillRangeBad s1 t.val then tillRaise s1 t.val 6 else setTill (wrBit s1 (tillCfgReg t.val) 31 true) t.val Till.idle :=
  (guardW_open hm _).trans (if_neg (ne_true_of_eq_false he))

/-- A flush of a till with an open packet waits for it. -/
theorem doTillFlush_ready {s : State} {i : Initiator} {t : Fin 128} (hm : MayStore s i (hdr (tillPage t.val) 0x80))
    (hb : bit (rd s (hdr (tillPage t.val) 0x84)) 31 = false) :
    let s1 := wr s (hdr (tillPage t.val) 0x80) (word (0x10000000 + t.val % 64))
    doTillFlush i t s =
      if (getTill s1 t.val).opener.isNone then tillFlushNow s1 t.val else wr s1 (hdr (tillPage t.val) 0x84) 0x80000000#32 := by
  intro s1
  unfold doTillFlush
  dsimp only
  rw [guardW_open hm]
  exact if_neg (ne_true_of_eq_false hb)

/-- A pointer mismatch of a till without an open packet resets it. -/
theorem doTillPtrerr_closed {s : State} {t : Fin 128} (he : bit (tillCfg s t.val) 31 = true) (ho : (getTill s t.val).opener = none) :
    let x := getTill s t.val
    let lost := hdr (tillPage t.val) 0x88
    let s1 := wr s lost (word (min 0xFFFF ((rd s lost).toNat + x.packets.length)))
    doTillPtrerr t s =
      tillAfterOpen (tillRaise (setTill s1 t.val { x with packets := [], open_ := [], opener := none, stale := false }) t.val 3) t.val := by
  intro x lost s1
  unfold doTillPtrerr
  dsimp only
  rw [if_neg (by rw [he]; decide), ho]
  rfl

/-- Settles O40: each operation and each till command, on the branch that its hypotheses choose. -/
theorem channelOperations : Obligations.ChannelOperations := by
  unfold Obligations.ChannelOperations
  intro i n t o d data bs k e v s s1 makes cfg
  refine ⟨exec_chanNop .., fun ho => ?_, fun ho => ?_, fun ho => ?_, exec_dmaTimeout .., exec_dmaReadError .., fun hm => ⟨?_, fun he => ?_⟩,
    fun hm hb => ?_, fun h0 hp hs => ?_, fun he ho => ?_⟩
  · intro src dst len hv hs hd hb r
    exact lands (exec_chanCopy ..) (doChanCopy_runs ho rfl rfl rfl hv hs hd hb)
  · intro u
    exact ⟨fun h28 hn hc hp => lands (exec_tillRead ..) (doTillRead_ready ho rfl h28 hn hc hp),
      fun hb => lands (exec_tillReadTimeout ..) (doTillReadTimeout_begun ho hb)⟩
  · intro u len w hp hn hsz hop hr hb hd
    exact lands (exec_tillWrite ..) (doTillWrite_room ho rfl rfl hp hn hsz hop hr hb hd)
  · intro s1 he
    exact ⟨fun hb => lands (exec_tillEnable ..) ((doTillEnable_off hm he).trans (if_pos hb)),
      fun hb => lands (exec_tillEnable ..) ((doTillEnable_off hm he).trans (if_neg (ne_true_of_eq_false hb)))⟩
  · exact lands (exec_tillDisable ..) ((guardW_open hm _).trans (if_pos he))
  · exact lands (exec_tillFlush ..) (doTillFlush_ready hm hb)
  · exact lands (exec_tillStale ..) (if_neg (by simp [h0, hp, hs]))
  · exact lands (exec_tillPtrerr ..) (doTillPtrerr_closed he ho)

end Sys2Proof.Machine
end

/-! PROOFS. The contact port (R388 to R411). -/

section
/-! ### O41: ISO mode and its command set -/

namespace Sys2Proof.Machine

open Sys2Proof

theorem leNat_leBytes_two {v : Nat} (h : v < 65536) : leNat (leBytes 2 v) = v := by
  simp only [leBytes, leNat, BitVec.toNat_ofNat]
  omega

theorem leNat_byte {v : Nat} (h : v < 256) : leNat [byte v] = v := by
  simp only [byte, leNat, BitVec.toNat_ofNat]
  omega

@[simp] theorem serial_length : serial.length = 16 := by
  simp [serial]

/-- A command that arrives in a form of the table has its operands, in either mode. -/
theorem cptCmd_arrives {s : State} {m : PortCmd} {p : Nat} {d : Bytes} {le : Option Nat} {card : Bytes} {f : PortForm} {x : PortArgs}
    (h : Arrives s m p d le card) (hp : f.pOk p = true) (hl : f.lOk d.length le = true) (hi : f.iso p d le = x) (hc : f.card card = some x)
    (code : Nat) (exempt lockOk : Bool) (k : State → PortArgs → PortEnd) :
    cptCmd s code m exempt lockOk f k = cptRun s code exempt lockOk x k := by
  obtain ⟨ha, ⟨p1, p2, rfl, rfl, hlive, hact⟩ | ⟨a, rfl, hadr, hpos, hlive, hsl⟩⟩ := h
  · refine (if_neg (by rw [hlive, hact, ha]; decide)).trans ((if_neg (not_not_intro rfl)).trans ((if_neg (by rw [hp]; decide)).trans
      ((if_neg (by rw [hl]; decide)).trans ?_)))
    rw [hi]
  · refine (if_neg ?_).trans ((if_neg (by simp)).trans ?_)
    · rw [hlive, hsl, ha]
      simp [hadr, Nat.pos_iff_ne_zero.mp hpos]
    · rw [hc]

/-- A command that the gate lets pass answers with what it came to. -/
theorem cptRun_done {s t : State} {code st : Nat} {exempt lockOk : Bool} {x : PortArgs} {k : State → PortArgs → PortEnd} {data : Bytes}
    (hg : cptGate s exempt lockOk = stOK) (hk : k s x = .done t st data) :
    cptRun s code exempt lockOk x k = cptAnswer t code st data := by
  refine (if_neg (not_not_intro hg)).trans ?_
  rw [hk]

/-- The state in which a persistent command has begun: in ISO mode it answers later, on the card bus at once. -/
def persistBegan (s : State) (code : Nat) : State :=
  if cptMode s = 1 then s else cardAnswer s code stOK (leBytes 2 (fld (rd s Reg.CPT_PSEQ) 31 16 + 1))

theorem cptRun_runs {s t : State} {code : Nat} {exempt lockOk : Bool} {x : PortArgs} {k : State → PortArgs → PortEnd}
    (hg : cptGate s exempt lockOk = stOK) (hk : k s x = .runs t) : cptRun s code exempt lockOk x k = persistBegan t code := by
  refine (if_neg (not_not_intro hg)).trans ?_
  rw [hk]
  rfl

theorem doWriteBuf_window {s : State} {m : PortCmd} {off a : Nat} {d : Bytes} (h : Arrives s m off d none (leBytes 2 off ++ d))
    (hoff : off < 65536) (hg : cptGate s false false = stOK) (h1 : 1 ≤ d.length) (h255 : d.length ≤ 255)
    (hw : inWindow s off d.length = some a) : doWriteBuf m s = cptAnswer (bankWrite s .cport a d) 0xD6 stOK [] := by
  refine (cptCmd_arrives (x := ⟨off, d, 0⟩) h rfl (by simp [h1, h255]) rfl ?_ _ _ _ _).trans (cptRun_done hg ?_)
  · refine (if_pos ?_).trans ?_
    · rw [Bool.and_eq_true, decide_eq_true_eq, decide_eq_true_eq, List.length_append, leBytes_length]
      omega
    · rw [List.take_left' (leBytes_length 2 off), List.drop_left' (leBytes_length 2 off), leNat_leBytes_two hoff]
  · dsimp only
    rw [hw]

theorem doReadBuf_window {s : State} {m : PortCmd} {off n a : Nat} (h : Arrives s m off [] (some n) (leBytes 2 off ++ leBytes 2 n))
    (hoff : off < 65536) (hg : cptGate s false false = stOK) (h1 : 1 ≤ n) (h256 : n ≤ 256) (hw : inWindow s off n = some a)
    (hp : poisoned s a n = false) : doReadBuf m s = cptAnswer s 0xB0 stOK (sramRead s a n) := by
  have hn : leNat (((leBytes 2 off ++ leBytes 2 n).drop 2).take 2) = n := by
    rw [List.drop_left' (leBytes_length 2 off), List.take_of_length_le (by simp), leNat_leBytes_two (by omega)]
  refine (cptCmd_arrives (x := ⟨off, [], n⟩) h rfl (by simp [h1, h256]) rfl ?_ _ _ _ _).trans (cptRun_done hg ?_)
  · dsimp only
    rw [hn]
    refine (if_pos ?_).trans ?_
    · simp [h1]
      omega
    · rw [List.take_left' (leBytes_length 2 off), leNat_leBytes_two hoff]
  · dsimp only
    rw [hw]
    exact if_neg (ne_true_of_eq_false hp)

/-- P1 of a channel of the contact port. -/
theorem chanP_channel {n : Nat} (h : 62 ≤ n) (hn : n < 64) : chanP (256 * n) = true := by
  have : n = 62 ∨ n = 63 := by omega
  rcases this with rfl | rfl <;> rfl

theorem doCpSubmit_room {s : State} {m : PortCmd} {ch : Fin 64} {d : Bytes} (h62 : 62 ≤ ch.val)
    (h : Arrives s m (256 * ch.val) d none (byte ch.val :: d)) (hd : d.length = 64) (hg : cptGate s false false = stOK)
    (hc : cportChan s ch.val = true)
    (hr : (sqTail s ch.val + sqSize s ch.val - sqHead s ch.val) % sqSize s ch.val + 1 < sqSize s ch.val) :
    let s2 := bankWrite s .cport (sramOf (rd64 s (Reg.CHN_SQBASE0 + 32 * ch.val)) + 64 * sqTail s ch.val) d
    doCpSubmit m s = cptAnswer (doDbSqtail .cport ch (word ((sqTail s ch.val + 1) % sqSize s ch.val)) s2) 0xC1 stOK [] := by
  intro s2
  refine (cptCmd_arrives (x := ⟨ch.val, d, 0⟩) h (chanP_channel h62 ch.isLt) (by simp [hd]) ?_ ?_ _ _ _ _).trans (cptRun_done hg ?_)
  · show (⟨256 * ch.val / 256, d, 0⟩ : PortArgs) = _
    rw [Nat.mul_div_cancel_left _ (by decide)]
  · refine (if_pos (by simp [hd])).trans ?_
    show some (⟨leNat [byte ch.val], d, 0⟩ : PortArgs) = _
    rw [leNat_byte (by omega)]
  · refine (if_neg (by rw [hc]; decide)).trans ((if_neg (Nat.not_le.mpr hr)).trans (dif_pos ch.isLt))

/-- The address of a completion slot, counted from the head. -/
def cqSlotAddr (s : State) (n k : Nat) : Nat := sramOf (rd64 s (Reg.CHN_CQBASE0 + 32 * n)) + 16 * ((cqHead s n + k) % cqSize s n)

theorem doCpReap_clean {s : State} {m : PortCmd} {ch : Fin 64} {k : Nat} (h62 : 62 ≤ ch.val)
    (h : Arrives s m (256 * ch.val) [] (some (16 * k + 1)) [byte ch.val, byte k]) (h1 : 1 ≤ k) (h15 : k ≤ 15)
    (hg : cptGate s false false = stOK) (hc : cportChan s ch.val = true) :
    let c := min k ((cqTail s ch.val + cqSize s ch.val - cqHead s ch.val) % cqSize s ch.val)
    (∀ x, x < c → poisoned s (cqSlotAddr s ch.val x) 16 = false) →
    doCpReap m s = cptAnswer (wr s (dbReg ch.val 4) (word ((cqHead s ch.val + c) % cqSize s ch.val))) 0xC3 stOK
      ([byte c] ++ (List.range c).flatMap (fun x => sramRead s (cqSlotAddr s ch.val x) 16) ++ zeros (16 * (k - c))) := by
  intro c hp
  have hfind : ((List.range c).find? fun j => poisoned s (cqSlotAddr s ch.val j) 16) = none := by
    rw [List.find?_eq_none]
    exact fun x hx => ne_true_of_eq_false (hp x (List.mem_range.mp hx))
  refine (cptCmd_arrives (x := ⟨ch.val, [], k⟩) h (chanP_channel h62 ch.isLt) ?_ ?_ ?_ _ _ _ _).trans (cptRun_done hg ?_)
  · simp
    omega
  · show (⟨256 * ch.val / 256, [], (16 * k + 1) / 16⟩ : PortArgs) = _
    rw [Nat.mul_div_cancel_left _ (by decide), show (16 * k + 1) / 16 = k by omega]
  · show (if decide (2 = 2) && decide (1 ≤ leNat [byte k]) && decide (leNat [byte k] ≤ 15)
      then some (⟨leNat [byte ch.val], [], leNat [byte k]⟩ : PortArgs) else none) = _
    rw [leNat_byte (by omega), leNat_byte (by omega)]
    exact if_pos (by simp [h1, h15])
  · refine (if_neg (by rw [hc]; decide)).trans ?_
    change (match (List.range c).find? fun j => poisoned s (cqSlotAddr s ch.val j) 16 with
      | some j => cptRead s (cqSlotAddr s ch.val j) 16
      | none => PortEnd.done (wr s (dbReg ch.val 4) (word ((cqHead s ch.val + c) % cqSize s ch.val))) stOK
        ([byte c] ++ (List.range c).flatMap (fun x => sramRead s (cqSlotAddr s ch.val x) 16) ++ zeros (16 * (k - c)))) = _
    rw [hfind]

/-- A command that carries a fixed number of bytes. -/
theorem cptCmd_data {s : State} {m : PortCmd} {d : Bytes} {n : Nat} (h : Arrives s m 0 d none d) (hd : d.length = n) (code : Nat)
    (exempt lockOk : Bool) (k : State → PortArgs → PortEnd) :
    cptCmd s code m exempt lockOk (dataForm n) k = cptRun s code exempt lockOk ⟨0, d, 0⟩ k :=
  cptCmd_arrives (f := dataForm n) h rfl (by simp [dataForm, hd]) rfl (if_pos hd) code exempt lockOk k

theorem doCpStatus_answers {s : State} {m : PortCmd} (h : Arrives s m 0 [] (some 40) []) :
    doCpStatus m s = cptAnswer s 0xCA stOK (statusBlock s) :=
  (cptCmd_arrives (x := ⟨0, [], 0⟩) h rfl rfl rfl rfl _ _ _ _).trans (cptRun_done rfl rfl)

theorem doLockPort_locks {s : State} {m : PortCmd} (h : Arrives s m 0 [] none []) :
    doLockPort m s = cptAnswer (wrBit s Reg.CPT_STAT 28 true) 0xE4 stOK [] :=
  (cptCmd_data h rfl _ _ _ _).trans (cptRun_done rfl rfl)

theorem doSetPassword_begins {s s1 : State} {m : PortCmd} {pw : Bytes} (h : Arrives s m 0 pw none pw) (hpw : pw.length = 16)
    (hg : cptGate s false false = stOK) (hz : pw ≠ zeros 16)
    (hp : persist s false 0xE1 pw stOK { s.cpt.lockRec with hash := some (sha256 (serial ++ pw)), pseq := nextPseq s, pstat := stOK } =
      .runs s1) : doSetPassword m s = persistBegan s1 0xE1 :=
  (cptCmd_data h hpw _ _ _ _).trans (cptRun_runs hg ((if_neg hz).trans hp))

/-- The record that a first failure leaves. -/
def countedFail (s : State) : LockRec :=
  { s.cpt.lockRec with fails := min 255 (s.cpt.lockRec.fails + 1), pseq := nextPseq s, pstat := stAUTH }

theorem doClearPassword_begins {s s1 : State} {m : PortCmd} {pw : Bytes} (h : Arrives s m 0 pw none pw) (hpw : pw.length = 16)
    (hg : cptGate s false false = stOK) (hh : s.cpt.lockRec.hash ≠ none)
    (hp : persist s false 0xE2 pw stAUTH (countedFail s) = .runs s1) : doClearPassword m s = persistBegan s1 0xE2 :=
  (cptCmd_data h hpw _ _ _ _).trans (cptRun_runs hg ((if_neg (by simpa [Option.isNone_iff_eq_none] using hh)).trans hp))

theorem doCpUnlock_begins {s s1 : State} {m : PortCmd} {pw : Bytes} (h : Arrives s m 0 pw none pw) (hpw : pw.length = 16)
    (hg : cptGate s false true = stOK) (hh : s.cpt.lockRec.hash ≠ none) (hd : cptDelay s = 0)
    (hp : persist s false 0xE3 pw stAUTH (countedFail s) = .runs s1) : doCpUnlock m s = persistBegan s1 0xE3 :=
  (cptCmd_data h hpw _ _ _ _).trans (cptRun_runs hg
    ((if_neg (by simpa [Option.isNone_iff_eq_none] using hh)).trans ((if_neg (not_not_intro hd)).trans hp)))

theorem doCpUnlock_open {s : State} {m : PortCmd} {pw : Bytes} (h : Arrives s m 0 pw none pw) (hpw : pw.length = 16)
    (hg : cptGate s false true = stOK) (hh : s.cpt.lockRec.hash = none) :
    doCpUnlock m s = cptAnswer (wrBit s Reg.CPT_STAT 28 false) 0xE3 stOK [] :=
  (cptCmd_data h hpw _ _ _ _).trans (cptRun_done hg (if_pos (by rw [hh]; rfl)))

theorem doForceErase_begins {s s1 : State} {m : PortCmd} :
    let erase := serial ++ [0x45#8, 0x52#8, 0x41#8, 0x53#8]
    Arrives s m 0 erase none erase → cptGate s false true = stOK → bit (rd s Reg.CPT_CFG) 2 = true → lcode s ≠ 1 → lcode s ≠ 5 → s.lcs = none →
    persist s (lcode s == 3) 0xEE erase stOK { hash := none, fails := 0, pseq := nextPseq s, pstat := stOK } = .runs s1 →
    doForceErase m s = persistBegan s1 0xEE := by
  intro erase h hg hc h1 h5 hl hp
  refine (cptCmd_data h (by simp [erase]) _ _ _ _).trans (cptRun_runs hg ?_)
  exact (if_neg (by rw [hc]; decide)).trans ((if_neg (not_not_intro rfl)).trans ((if_neg (by simp [h1, h5])).trans
    ((if_neg (by rw [hl]; decide)).trans hp)))

/-- A result taken from the NV store leaves the time. -/
theorem takeDone_tick {s t : State} {src : NvSrc} {st : Nat} (h : takeDone s src = some (st, t)) : t.tick = s.tick := by
  unfold takeDone at h
  split at h
  · rw [← (Prod.mk.inj (Option.some.inj h)).2]
    rfl
  · exact absurd h (by simp)

/-- The transaction of a persistent command has been committed. -/
theorem doPersistDone_committed {s s1 : State} {j : CptJob} (hj : s.cpt.job = some j)
    (ht : takeDone s (.txn 2 (s.cpt.refs - 1)) = some (stOK, s1)) :
    let s2 := setCpt s1 { s1.cpt with lockRec := j.next }
    (j.code = 0xE1 → doPersistDone s = persistEnd s2 j stOK) ∧
    (j.code = 0xEE → doPersistDone s = persistEnd (forceErased s2) j stOK) ∧
    (j.code = 0xE2 ∨ j.code = 0xE3 → j.second = false → j.next.hash ≠ some (pwHash j.data) →
      doPersistDone s = persistEnd (cptRaise (setCpt s2 { s2.cpt with failAt := s.tick }) 4) j stAUTH) := by
  intro s2
  unfold doPersistDone
  rw [hj]
  dsimp only
  rw [ht]
  dsimp only
  rw [if_neg (not_not_intro rfl), ← takeDone_tick ht]
  refine ⟨fun h => (if_neg (by omega)).trans (if_pos h), fun h => if_pos h, fun h hs hn => ?_⟩
  exact (if_neg (by omega)).trans ((if_neg (by omega)).trans ((if_neg (ne_true_of_eq_false hs)).trans (if_neg hn)))

theorem doModeSelect_chooses {s : State} (hc : s.cpt.choosing = true) (hp : s.cpt.power = true) (hr : s.cpt.crst = true)
    (ha : awake s = true) (hv : s.pmu.vmain = true) :
    let s0 := setCpt s { s.cpt with choosing := false }
    (bit (rd s Reg.CPT_CFG) 0 = true →
      doModeSelect true s = wr s0 Reg.CPT_STAT (setFld (setFld (rd s Reg.CPT_STAT) 31 30 1) 15 0 0x0110)) ∧
    (bit (rd s Reg.CPT_CFG) 1 = true →
      doModeSelect false s = cptRaise (wrBit (wrFld s0 Reg.CPT_STAT 31 30 2) Reg.CPT_STAT 29 true) 0) := by
  intro s0
  have hno : ¬ (!s.cpt.choosing || !s.cpt.power || !s.cpt.crst || !awake s || !s.pmu.vmain) = true := by
    rw [hc, hp, hr, ha, hv]
    decide
  exact ⟨fun h => (if_neg hno).trans ((if_pos rfl).trans (if_pos h)),
    fun h => (if_neg hno).trans ((if_neg Bool.false_ne_true).trans (if_pos h))⟩

theorem doPps_accepts {s : State} {req r : Bytes} {tn ta : Nat} (hl : cptLive s 1 = true) (ha : cptBit s 29 = true)
    (hr : ppsReply req = some (r, some (tn, ta))) :
    doPps req s = wrFld (wrFld (emit s (.contact r)) Reg.CPT_STAT 15 12 tn) Reg.CPT_STAT 11 4 ta := by
  refine (if_neg (by rw [hl, ha]; decide)).trans ?_
  rw [hr]

theorem doWtxRequest_asked {s : State} {j : CptJob} (hj : s.cpt.job = some j) (ha : j.asked = true) (hl : cptLive s 1 = true) :
    doWtxRequest s =
      emit s (.contact (if fld (rd s Reg.CPT_STAT) 15 12 = 0 then [0x60#8] else [0x00#8, 0xC3#8, 0x01#8, 0x01#8, 0xC3#8])) := by
  unfold doWtxRequest
  rw [hj]
  exact if_pos (by rw [ha, hl]; rfl)

theorem doCvccLoss_powered {s : State} (h : s.cpt.power = true) :
    doCvccLoss s = setCpt (cptDrop s) { (cptDrop s).cpt with power := false } := by
  unfold doCvccLoss
  rw [if_pos h]

/-- Settles O41: a command in a form of the table reaches its meaning through the gate, in either mode; the rest of the port's
events have one branch each. -/
theorem contactPort : Obligations.ContactPort := by
  unfold Obligations.ContactPort
  intro m req d pw off n k ch s s1 a j r tn ta makes reply open_ began rec_
  refine ⟨exec_crstNRise _, exec_crstNFall _, fun hc hp hr ha hv => ?_, fun hl hb ha => ?_, fun hl hb hr => ?_,
    fun h hoff hg h1 h255 hw => ?_, fun h hoff hg h1 h256 hw hp => ?_, fun h62 h hd hg hc hr => ?_, fun h62 h h1 h15 hg hc => ?_, fun h => ?_,
    fun h hpw => ⟨fun hg hz hp => ?_, fun hg hh hp => ?_, fun hg hh hd hp => ?_, fun hg hh => ?_⟩, fun h => ?_, ?_, fun hj ht => ?_,
    fun hj ha hl => ?_, fun h => ?_, fun h => ?_⟩
  · obtain ⟨hiso, hbus⟩ := doModeSelect_chooses hc hp hr ha hv
    exact ⟨fun h => lands (exec_modeSelect ..) (hiso h), fun h => lands (exec_modeSelect ..) (hbus h)⟩
  · exact lands (exec_atr ..) (if_neg (by rw [hl, hb, ha]; decide))
  · exact lands (exec_pps ..) (doPps_accepts hl hb hr)
  · exact lands (exec_writeBuf ..) (doWriteBuf_window h hoff hg h1 h255 hw)
  · exact lands (exec_readBuf ..) (doReadBuf_window h hoff hg h1 h256 hw hp)
  · exact lands (exec_cpSubmit ..) (doCpSubmit_room h62 h hd hg hc hr)
  · intro base size head c hp
    exact lands (exec_cpReap ..) (doCpReap_clean h62 h h1 h15 hg hc hp)
  · exact lands (exec_cpStatus ..) (doCpStatus_answers h)
  · exact lands (exec_setPassword ..) (doSetPassword_begins h hpw hg hz hp)
  · exact lands (exec_clearPassword ..) (doClearPassword_begins h hpw hg hh hp)
  · exact lands (exec_cpUnlock ..) (doCpUnlock_begins h hpw hg hh hd hp)
  · exact lands (exec_cpUnlock ..) (doCpUnlock_open h hpw hg hh)
  · exact lands (exec_lockPort ..) (doLockPort_locks h)
  · intro erase h hg hc h1 h5 hl hp
    exact lands (exec_forceErase ..) (doForceErase_begins h hg hc h1 h5 hl hp)
  · obtain ⟨hset, herase, hfail⟩ := doPersistDone_committed hj ht
    exact ⟨fun h => lands (exec_persistDone _) (hset h), fun h => lands (exec_persistDone _) (herase h),
      fun h hs hn => lands (exec_persistDone _) (hfail h hs hn)⟩
  · exact lands (exec_wtxRequest _) (doWtxRequest_asked hj ha hl)
  · exact lands (exec_cvccLoss _) (doCvccLoss_powered h)
  · exact lands (exec_cvccReturn _) (if_neg (ne_true_of_eq_false h))

end Sys2Proof.Machine
end

section
/-! ### O42: the card bus -/

namespace Sys2Proof.Machine

open Sys2Proof

/-- A good broadcast reaches the module's command. -/
theorem broadcast_up {s : State} (hb : busUp s = true) (d : Bytes) (k : State → State) : broadcast s ⟨0#8, d, true⟩ k = k s := by
  refine (if_neg ?_).trans (if_pos rfl)
  rw [hb]
  simp

theorem onlyBroadcast_up {s : State} (hb : busUp s = true) (d : Bytes) (code : Nat) (k : State → State) :
    onlyBroadcast s code ⟨0#8, d, true⟩ k = k s := (if_pos rfl).trans (broadcast_up hb d k)

/-- A good frame for this module's address reaches its command. -/
theorem addressed_here {s : State} {x : Byte} (hb : busUp s = true) (hx : x.toNat = cptAddr s) (h0 : 0 < cptAddr s) (d : Bytes) (code : Nat)
    (k : State → State) : addressed s code ⟨x, d, true⟩ k = k s := by
  refine (if_neg ?_).trans (if_pos rfl)
  rw [hb]
  simp [hx, Nat.pos_iff_ne_zero.mp h0]

/-- ASSIGN to the armed module with its own serial number. -/
theorem doCbAssign_own {s : State} {d : Bytes} {x : Byte} (hb : busUp s = true) (ha : s.cpt.armed = true) (hd : d = serial ++ [x])
    (h1 : 1 ≤ x.toNat) (h15 : x.toNat ≤ 15) :
    doCbAssign ⟨0#8, d, true⟩ s = cardAnswer (wrFld s Reg.CPT_STAT 19 16 x.toNat) 0x02 stOK [] := by
  subst hd
  have hx : leNat ((serial ++ [x]).drop 16) = x.toNat := by
    rw [List.drop_left' serial_length]
    rfl
  have hs : (serial ++ [x]).take 16 = serial := List.take_left' serial_length
  refine (onlyBroadcast_up hb _ _ _).trans ?_
  dsimp only
  rw [hx]
  refine if_neg ?_
  simp [ha, hs]
  omega

theorem doCbSwitch_one {s : State} {d : Bytes} {x : Byte} (hb : busUp s = true) (hx : x.toNat = cptAddr s) (h0 : 0 < cptAddr s)
    (hd : d = [1#8]) : doCbSwitch ⟨x, d, true⟩ s = setCpt (cardAnswer s 0x09 stOK []) { s.cpt with swAt := some s.tick } :=
  (addressed_here hb hx h0 d _ _).trans (if_pos hd)

theorem doCbCheck_confirms {s : State} {d : Bytes} {x : Byte} {t0 : Nat} (hb : busUp s = true) (hx : x.toNat = cptAddr s)
    (h0 : 0 < cptAddr s) (hd : d = checkPattern) (hs : s.cpt.swAt = some t0) (ht : s.tick ≤ t0 + 10000) :
    doCbCheck ⟨x, d, true⟩ s =
      cptRaise (cardAnswer (setCpt (wrBit s Reg.CPT_STAT 25 true) { s.cpt with swAt := none }) 0x0A stOK checkPattern) 2 := by
  refine (addressed_here hb hx h0 d _ _).trans ((if_neg (not_not_intro hd)).trans ?_)
  rw [hs]
  exact if_pos ht

theorem doCbCheck_echoes {s : State} {d : Bytes} {x : Byte} (hb : busUp s = true) (hx : x.toNat = cptAddr s) (h0 : 0 < cptAddr s)
    (hd : d = checkPattern) (hs : s.cpt.swAt = none) (h1 : cptBit s 25 = true) :
    doCbCheck ⟨x, d, true⟩ s = cardAnswer s 0x0A stOK checkPattern := by
  refine (addressed_here hb hx h0 d _ _).trans ((if_neg (not_not_intro hd)).trans ?_)
  rw [hs]
  exact if_pos h1

theorem doCbSleep_all {s : State} {d : Bytes} (hb : busUp s = true) (hd : d = []) : doCbSleep ⟨0#8, d, true⟩ s = cptSleep s := by
  subst hd
  exact (if_pos rfl).trans (broadcast_up hb [] _)

theorem doCbSleep_mine {s : State} {d : Bytes} {x : Byte} (hb : busUp s = true) (hd : d = []) (hx : x.toNat = cptAddr s)
    (h0 : 0 < cptAddr s) : doCbSleep ⟨x, d, true⟩ s = cptSleep (cardAnswer s 0x0B stOK []) := by
  subst hd
  have hne : x ≠ 0#8 := by
    rintro rfl
    exact Nat.lt_irrefl 0 (by rwa [← hx] at h0)
  exact (if_neg hne).trans (addressed_here hb hx h0 [] _ _)

theorem doCbWake_all {s : State} (hl : cptLive s 2 = true) (hs : cptBit s 24 = true) :
    let s1 := cptRaise (wrBit s Reg.CPT_STAT 24 false) 6
    doCbWake ⟨0#8, [], true⟩ s = if bit (rd s1 Reg.PMU_WAKECFG) 1 then wakeFrom s1 2 else s1 := by
  intro s1
  refine if_neg ?_
  rw [hl, hs]
  simp

/-- Settles O42: link commands of the card bus, broadcast or addressed to this module. -/
theorem cardBus : Obligations.CardBus := by
  unfold Obligations.CardBus
  intro d x line s t0 makes all mine here
  refine ⟨fun hb => ⟨fun h0 => ?_, fun ha hd h1 h15 => ?_, ?_, fun hx hd => ?_, fun hx hd hs ht => ?_, fun hx hd hs h1 => ?_, fun hd => ?_,
    fun hd hx => ?_⟩, fun hs => ?_, fun hl hs hd => ?_, fun hl => ?_⟩
  · exact lands (exec_cbIdentify ..) ((onlyBroadcast_up hb _ _ _).trans (if_neg (not_not_intro h0)))
  · exact lands (exec_cbAssign ..) (doCbAssign_own hb ha hd h1 h15)
  · exact lands (exec_cbRelease ..) (onlyBroadcast_up hb _ _ _)
  · exact lands (exec_cbSwitch ..) (doCbSwitch_one hb hx.1 hx.2 hd)
  · exact lands (exec_cbCheck ..) (doCbCheck_confirms hb hx.1 hx.2 hd hs ht)
  · exact lands (exec_cbCheck ..) (doCbCheck_echoes hb hx.1 hx.2 hd hs h1)
  · exact lands (exec_cbSleep ..) (doCbSleep_all hb hd)
  · exact lands (exec_cbSleep ..) (doCbSleep_mine hb hd hx.1 hx.2)
  · exact lands (exec_switchTimeout _) (if_neg (by rw [hs]; simp))
  · subst hd
    exact lands (exec_cbWake ..) (doCbWake_all hl hs)
  · exact lands (exec_frameGapTimeout _) (if_pos hl)

end Sys2Proof.Machine
end

/-! PROOFS. PCIe and the fabric (R412 to R454). -/

section
/-! ### What leaves the PCIe interface's own state as it is -/

namespace Sys2Proof.Machine

open Sys2Proof

/-- A walk over a list keeps PCIe's own state if each step does. -/
theorem foldl_pcie {α : Type} {f : State → α → State} (hf : ∀ s x, (f s x).pcie = s.pcie) (l : List α) (s : State) :
    (l.foldl f s).pcie = s.pcie := by
  induction l generalizing s with
  | nil => rfl
  | cons x xs ih => exact (ih _).trans (hf s x)

@[simp] theorem bumpSat_pcie (s : State) (a hi lo : Nat) : (bumpSat s a hi lo).pcie = s.pcie := rfl
@[simp] theorem raise_pcie (s : State) (page k : Nat) : (raise s page k).pcie = s.pcie := rfl
@[simp] theorem setBne_pcie (s : State) (n : Nat) (x : BLane) : (setBne s n x).pcie = s.pcie := rfl
@[simp] theorem setLane_pcie (s : State) (h : Bool) (n : Nat) (x : Lane) : (setLane s h n x).pcie = s.pcie := by
  cases h <;> rfl

@[simp] theorem noteEcc_pcie (s : State) (i : Initiator) (tester : Bool) (w : Nat) (uncorr : Bool) :
    (noteEcc s i tester w uncorr).pcie = s.pcie := by
  simp only [noteEcc, raise_pcie, wr_pcie]
  split <;> exact bumpSat_pcie ..

@[simp] theorem bankWrite_pcie (s : State) (i : Initiator) (a : Nat) (bs : Bytes) : (bankWrite s i a bs).pcie = s.pcie := by
  unfold bankWrite bankWriteBy
  dsimp only
  rw [foldl_pcie fun s w => noteEcc_pcie s i false w true]

@[simp] theorem noteXfer_pcie (s : State) (n a st : Nat) (wrt : Bool) (kind : Nat) : (noteXfer s n a st wrt kind).pcie = s.pcie := by
  unfold noteXfer
  dsimp only
  refine (raise_pcie ..).trans ?_
  split
  · exact wrBit_pcie ..
  · exact (wr_pcie ..).trans ((wr_pcie ..).trans (wr_pcie ..))

@[simp] theorem dmaCheck_pcie (s : State) (n a len : Nat) (wrt : Bool) : (dmaCheck s n a len wrt).1.pcie = s.pcie := by
  unfold dmaCheck
  repeat' split
  all_goals rfl

@[simp] theorem dmaRead_pcie (s : State) (n a len : Nat) (d : DmaData) : (dmaRead s n a len d).1.pcie = s.pcie := by
  have h := dmaCheck_pcie s n a len false
  unfold dmaRead
  split
  next s1 e =>
    rw [e] at h
    split
    · cases d
      case data => exact h
      all_goals exact (noteXfer_pcie ..).trans h
    · split
      · exact (noteEcc_pcie ..).trans h
      · exact h
  next s1 st _ e =>
    rw [e] at h
    exact h

@[simp] theorem dmaWrite_pcie (s : State) (n a : Nat) (bs : Bytes) : (dmaWrite s n a bs).1.pcie = s.pcie := by
  have h := dmaCheck_pcie s n a bs.length true
  unfold dmaWrite
  split
  next s1 e =>
    rw [e] at h
    split
    · repeat' split
      all_goals exact h
    · exact (bankWrite_pcie ..).trans h
  next => exact h

theorem copyPieces_pcie (n src dst len : Nat) (data : Bytes) (fuel done : Nat) (s : State) :
    (copyPieces n src dst len data fuel done s).1.pcie = s.pcie := by
  induction fuel generalizing done s with
  | zero => rfl
  | succ fuel ih =>
    unfold copyPieces
    split
    · rfl
    · dsimp only
      split <;> rename_i e
      · exact (congrArg (·.1.pcie) e).symm.trans (dmaRead_pcie ..)
      · have hr := (congrArg (·.1.pcie) e).symm.trans (dmaRead_pcie ..)
        split <;> rename_i e2
        · exact (ih _ _).trans (((congrArg (·.1.pcie) e2).symm.trans (dmaWrite_pcie ..)).trans hr)
        · exact ((congrArg (·.1.pcie) e2).symm.trans (dmaWrite_pcie ..)).trans hr

@[simp] theorem chanSettle_pcie (s : State) (n : Nat) : (chanSettle s n).pcie = s.pcie := by
  unfold chanSettle
  dsimp only
  split <;> rfl

@[simp] theorem chanDone_pcie (s : State) (n tag : Nat) (order : Bool) (st : Nat) (body : Bytes) :
    (chanDone s n tag order st body).pcie = s.pcie := by
  unfold chanDone
  dsimp only
  split
  · exact chanSettle_pcie s n
  · rfl

@[simp] theorem endActive_pcie (s : State) (n : Nat) (p : ActOp → Bool) (st : Nat) (body : Bytes) :
    (endActive s n p st body).pcie = s.pcie := by
  unfold endActive
  split
  · rfl
  · exact (chanDone_pcie ..).trans rfl

@[simp] theorem jobReport_pcie (s : State) (src : JobSrc) (dom off st : Nat) (body : Bytes) :
    (jobReport s src dom off st body).pcie = s.pcie := by
  cases src with
  | page => rfl
  | cp c t addr => rfl
  | chan n tag => exact endActive_pcie ..

@[simp] theorem laneEnd_pcie (s : State) (h : Bool) (n : Nat) (j : Job) (st d t k : Nat) : (laneEnd s h n j st d t k).pcie = s.pcie := by
  unfold laneEnd
  split
  · rfl
  · exact jobReport_pcie ..

@[simp] theorem bneEnd_pcie (s : State) (n : Nat) (j : Job) (st d r k : Nat) : (bneEnd s n j st d r k).pcie = s.pcie := by
  unfold bneEnd
  split
  · rfl
  · exact jobReport_pcie ..

theorem laneAdmit_pcie {s t : State} {h : Bool} {n : Nat} {src : JobSrc} {dom : Nat} {blk : Bytes}
    (ht : laneAdmit s h n src dom blk = .taken t) : t.pcie = s.pcie := by
  unfold laneAdmit at ht
  dsimp only at ht
  repeat' split at ht
  all_goals cases ht
  · exact laneEnd_pcie ..
  · exact setLane_pcie ..

theorem bneAdmit_pcie {s t : State} {n : Nat} {src : JobSrc} {dom : Nat} {blk : Bytes}
    (ht : bneAdmit s n src dom blk = .taken t) : t.pcie = s.pcie := by
  unfold bneAdmit at ht
  dsimp only at ht
  repeat' split at ht
  all_goals cases ht
  · exact bneEnd_pcie ..
  · rfl

@[simp] theorem submitChanJob_pcie (s : State) (n : Nat) (d : Desc) : (submitChanJob s n d).pcie = s.pcie := by
  unfold submitChanJob
  dsimp only
  split
  · split <;> rename_i e
    · exact (laneAdmit_pcie e).trans rfl
    · exact (laneEnd_pcie ..).trans rfl
  split
  · split <;> rename_i e
    · exact (laneAdmit_pcie e).trans rfl
    · exact (laneEnd_pcie ..).trans rfl
  split
  · split <;> rename_i e
    · exact (bneAdmit_pcie e).trans rfl
    · exact (bneEnd_pcie ..).trans rfl
  split
  · exact endActive_pcie ..
  · rfl

@[simp] theorem passDesc_pcie (s : State) (n : Nat) (d : Desc) : (passDesc s n d).pcie = s.pcie := by
  unfold passDesc
  split
  · refine (chanDone_pcie ..).trans ?_
    split <;> rfl
  · exact (submitChanJob_pcie ..).trans rfl

theorem passAll_pcie (n : Nat) (ds : List Desc) (s : State) : (passAll n ds s).pcie = s.pcie := by
  induction ds generalizing s with
  | nil => rfl
  | cons d ds ih =>
    unfold passAll
    split
    · exact (ih _).trans ((passDesc_pcie ..).trans rfl)
    · rfl

@[simp] theorem dropJob_pcie (s : State) (n tag : Nat) : (dropJob s n tag).pcie = s.pcie := by
  unfold dropJob
  dsimp only
  refine (foldl_pcie (fun s k => setBne_pcie s k _) _ _).trans ?_
  refine (foldl_pcie (fun s k => setLane_pcie s true k _) _ _).trans ?_
  exact foldl_pcie (fun s k => setLane_pcie s false k _) _ _

@[simp] theorem failActive_pcie (s : State) (n k st kind : Nat) (got : Bytes) : (failActive s n k st kind got).pcie = s.pcie := by
  unfold failActive
  split
  · rfl
  dsimp only
  split
  · rfl
  refine (passAll_pcie ..).trans ((endActive_pcie ..).trans ((setIntake_pcie ..).trans ((dropJob_pcie ..).trans ?_)))
  split
  · split
    · exact (noteXfer_pcie ..).trans (copyPieces_pcie ..)
    · exact copyPieces_pcie ..
  · exact noteXfer_pcie ..

@[simp] theorem hir_pcie (s : State) (port : Nat) : (hir s port).pcie = s.pcie := by
  refine foldl_pcie (fun s n => ?_) _ s
  split <;> rfl

@[simp] theorem hirReads_pcie (s : State) : (hirReads s).pcie = s.pcie := by
  refine foldl_pcie (fun s n => foldl_pcie (fun s o => ?_) _ s) _ s
  split
  · split
    · exact failActive_pcie ..
    · rfl
  · rfl

end Sys2Proof.Machine
end

section
/-! ### O43: the PCIe link -/

namespace Sys2Proof.Machine

open Sys2Proof

/-- What a reset or a loss of the link leaves. -/
theorem pcieHir_eq (s : State) (cause : Nat) :
    let t := hirReads (hir s 1)
    pcieHir s cause = wrBit (setPcie { t with held := [] } { t.pcie with linkUp := false, l1 := false, width := 0, speed := 0 })
      (hdr 0x39 Off.EVT_RAW) cause true := by
  intro t
  have h : t.pcie = s.pcie := (hirReads_pcie _).trans (hir_pcie s 1)
  unfold pcieHir
  change raise { t with held := [], pcie := { s.pcie with linkUp := false, l1 := false, width := 0, speed := 0 } } 0x39 cause = _
  clear_value t
  rw [← h]
  rfl

theorem doPcieLinkUp_waiting {w : Fin 3} {sp : Fin 4} {s : State} (hp : s.pcie.perst = false) (hl : s.pcie.linkUp = false)
    (ha : awake s = true) (hb : s.boot.steps.head? ≠ some 1) (hw : w ≠ 0) (hs : sp ≠ 0) :
    doPcieLinkUp w sp s = raise (setPcie s { s.pcie with linkUp := true, l1 := false, width := w.val, speed := sp.val }) 0x39 1 := by
  refine if_neg ?_
  rw [hp, hl, ha]
  simp [hb, hw, hs]

theorem doFlr_up {s : State} (h : s.pcie.linkUp = true) :
    doFlr s = let t := pcieConfig (pcieHir s 0)
      setPcie t { t.pcie with linkUp := true, width := s.pcie.width, speed := s.pcie.speed } :=
  if_neg (by rw [h]; decide)

theorem doBusMasterEnable_up {s : State} (h : s.pcie.linkUp = true) :
    doBusMasterEnable s = msixFlush (setPcie { s with out := s.out ++ s.held, held := [] } { s.pcie with bme := true }) :=
  if_neg (by rw [h]; decide)

theorem doAspmStateChange_other {s : State} {l1 : Bool} (h : s.pcie.linkUp = true) (hl : s.pcie.l1 ≠ l1) :
    doAspmStateChange l1 s = raise (setPcie s { s.pcie with l1 := l1 }) 0x39 3 :=
  if_neg (by rw [h]; simp [hl])

theorem h2dWrite_shown {s : State} {v : Word} (h : s.boot.rom = false) :
    let s1 := wr (wr s Reg.HIF_H2D v) Reg.PCI_H2D v
    h2dWrite s v = if bit (rd s1 Reg.PCI_CFG) 4 then wrBit s1 Reg.EVR_SWDB (fld (rd s1 Reg.PCI_CFG) 3 0) true else s1 := by
  intro s1
  refine if_neg ?_
  have : ∀ t : State, t.boot = s.boot → ¬(t.boot.rom && decide (t.boot.mail.length < 3)) = true := by
    intro t ht
    rw [ht, h]
    exact Bool.false_ne_true
  refine this _ ?_
  split <;> rfl

/-- A vector control keeps its mask bit. -/
theorem msixWrite_control (s : State) (x : Fin 64) (en : Bool) :
    msixWrite s (4 * x.val + 3) (word (b2n en)) =
      msixFlush (setPcie s { s.pcie with msixTab := mset 1#32 s.pcie.msixTab (4 * x.val + 3) (word (b2n en)) }) := by
  have h3 : (4 * x.val + 3) % 4 = 3 := by omega
  have hw : word (b2n en) &&& 1#32 = word (b2n en) := by cases en <;> decide
  unfold msixWrite
  rw [if_pos h3, if_pos h3, hw]

/-- Settles O43: the interface's own state outlives the end of its channels' work, so a reset leaves what the statement writes. -/
theorem pcieLink : Obligations.PcieLink := by
  unfold Obligations.PcieLink
  intro w sp l1 en fm x v s makes gone fresh0 cleared
  have hgone : ∀ k, pcieHir s k = gone k := fun k => pcieHir_eq s k
  refine ⟨fun hp => ⟨?_, fun hl => ?_, fun hl ha hb hw hs => ?_⟩, fun hp => ?_, fun hl => ⟨?_, ?_, ?_, ?_, ?_, fun h1 => ?_⟩,
    fun hi hr => ?_, ?_, ?_⟩
  · refine lands (exec_perstNFall _) ((if_neg (ne_true_of_eq_false hp)).trans ?_)
    rw [hgone]
    generalize gone 0 = g
    rfl
  · refine lands (exec_pcieLinkDown _) ((if_neg (ne_true_of_eq_false hp)).trans ((if_pos hl).trans ?_))
    rw [hgone]
  · exact lands (exec_pcieLinkUp ..) (doPcieLinkUp_waiting hp hl ha hb hw hs)
  · exact lands (exec_perstNRise _) (if_neg (by rw [hp]; decide))
  · refine lands (exec_flr _) ((doFlr_up hl).trans ?_)
    rw [hgone]
    generalize gone 0 = g
    rfl
  · exact lands (exec_d3hotEntry _) (if_pos hl)
  · exact lands (exec_d3hotExit _) (if_pos hl)
  · exact lands (exec_busMasterEnable _) (doBusMasterEnable_up hl)
  · exact lands (exec_busMasterDisable _) (if_pos hl)
  · exact lands (exec_aspmStateChange ..) (doAspmStateChange_other hl h1)
  · exact lands (exec_hifH2dWrite ..) ((if_neg (ne_true_of_eq_false hi)).trans (h2dWrite_shown hr))
  · exact lands (exec_msixUnmask ..) (msixWrite_control s x en)
  · exact exec_msixUnmask ..

end Sys2Proof.Machine
end

section
/-! ### O44: a fabric port -/

namespace Sys2Proof.Machine

open Sys2Proof

theorem portUp_active {s : State} {p : Nat} (h : (getPort s p).st = .active) : portUp s p = true := decide_eq_true h

theorem portTrain_disabled {s : State} {p : Nat} (h : (getPort s p).st = .disabled) (hon : fabOn s p = true) :
    portTrain s p = setLstate s p .detect := by
  refine if_pos ?_
  rw [h, hon]
  rfl

theorem portDown_active {s : State} {p : Nat} (h : (getPort s p).st = .active) :
    portDown s p = leavePort (sendCtrl s p true) p .disabled := by
  refine (if_neg (by rw [h]; decide)).trans ?_
  rw [if_pos (portUp_active h)]

/-- A port after an OFFER of the serial and the FABRIC_ID the device knows: the lower serial begins. -/
def offerTaken (s : State) (p : Nat) (x : FPort) (h : Hsk) (m : Bytes) : State :=
  let ini := decide (beNat serial < beNat (m.take 16))
  let h1 : Hsk := { h with peer := some m, tries := 0 }
  let t := setPort s p { x with initiator := ini, hsk := some h1 }
  if ini then sendInit t p h1 else t

/-- The partner's serial, as the OFFER gives it, in its register. -/
def offerSerial (s : State) (p : Nat) (m : Bytes) : State :=
  (List.range 4).foldl (fun s k => wr s (fabReg p (0x90 + 4 * k)) (word (leNat (part (m.take 16) (4 * k) 4)))) s

theorem doHskOffer_first {s : State} {p : Fin 4} {h : Hsk} {m : Bytes} (hh : (getPort s p.val).hsk = some h) (hp : h.peer = none)
    (hm : m.length = 60) :
    let s1 := offerSerial s p.val m
    doHskOffer p m s =
      if part m 16 8 ≠ fabId s1 then hskFail s1 p.val 2
      else if m.take 16 = serial then hskFail s1 p.val 8
      else offerTaken s1 p.val (getPort s p.val) h m := by
  unfold doHskOffer
  dsimp only
  rw [hh]
  exact if_neg (by rw [hp, hm]; decide)

theorem offerTaken_lower {s : State} {p : Nat} {x : FPort} {h : Hsk} {m : Bytes} (hl : beNat serial < beNat (m.take 16)) :
    let h1 : Hsk := { h with peer := some m, tries := 0 }
    offerTaken s p x h m = sendInit (setPort s p { x with initiator := true, hsk := some h1 }) p h1 := by
  simp only [offerTaken, decide_eq_true hl, if_true]

theorem offerTaken_higher {s : State} {p : Nat} {x : FPort} {h : Hsk} {m : Bytes} (hl : beNat (m.take 16) ≤ beNat serial) :
    offerTaken s p x h m = setPort s p { x with initiator := false, hsk := some { h with peer := some m, tries := 0 } } := by
  simp only [offerTaken, decide_eq_false (Nat.not_lt.mpr hl), Bool.false_eq_true, if_false]

theorem hskStore_turn {s : State} {p len : Nat} {ini : Bool} {h : Hsk} {m : Bytes} {turn : Hsk → Bool} {put : Hsk → Hsk}
    (hh : (getPort s p).hsk = some h) (hi : (getPort s p).initiator = ini) (hp : h.peer ≠ none) (hm : m.length = len)
    (ht : h.todo = false) (hturn : turn h = true) :
    hskStore s p len ini m turn put = setPort s p { getPort s p with hsk := some { put h with todo := true, tries := 0 } } := by
  unfold hskStore
  dsimp only
  rw [hh]
  refine if_pos ?_
  rw [hi, hm, ht, hturn, Option.isSome_iff_ne_none.mpr hp]
  simp

theorem doHskConfirm_turn {s : State} {p : Fin 4} {h : Hsk} {m : Bytes} (hh : (getPort s p.val).hsk = some h)
    (hi : (getPort s p.val).initiator = false) (ht : h.todo = false) (hr : h.reply ≠ []) (hm : m.length = 3405) :
    doHskConfirm p m s =
      if !partnerSigs (part h.init 4750 2049) h.t2 m then hskFail s p.val 6
      else sendDiscovery (fabRaise (setLstate (dropHsk s p.val) p.val .active) p.val 0) p.val := by
  unfold doHskConfirm
  dsimp only
  rw [hh]
  refine if_neg ?_
  rw [hi, ht, hm, List.isEmpty_eq_false_iff.mpr hr]
  decide

theorem doHskChecksDone_todo {s : State} {p : Fin 4} {h : Hsk} (hh : (getPort s p.val).hsk = some h) (ht : h.todo = true)
    (hb : bneInternal s = true) :
    doHskChecksDone p s =
      if (getPort s p.val).initiator then checkReply s p.val (getPort s p.val) h else checkInit s p.val (getPort s p.val) h := by
  unfold doHskChecksDone
  dsimp only
  rw [hh]
  exact if_neg (by rw [ht, hb]; decide)

theorem doHskTimeout_again {s : State} {p : Fin 4} {h : Hsk} (hst : (getPort s p.val).st = .hsk) (hh : (getPort s p.val).hsk = some h)
    (ht : h.tries < 2) (hi : (getPort s p.val).initiator = false ∨ h.init ≠ []) :
    let x := getPort s p.val
    doHskTimeout p s = sendHsk (setPort s p.val { x with hsk := some { h with tries := h.tries + 1 } }) p.val (hskCode x h) h.sent := by
  intro x
  unfold doHskTimeout
  dsimp only
  rw [if_neg (not_not_intro hst), hh]
  refine (if_neg (Nat.not_le.mpr ht)).trans (if_neg ?_)
  rw [Bool.and_eq_true, List.isEmpty_iff]
  rintro ⟨h1, h2⟩
  exact hi.elim (fun h3 => Bool.false_ne_true (h3.symm.trans h1)) fun h3 => h3 h2

theorem doHskTimeout_ends {s : State} {p : Fin 4} {h : Hsk} (hst : (getPort s p.val).st = .hsk) (hh : (getPort s p.val).hsk = some h)
    (ht : 2 ≤ h.tries) : doHskTimeout p s = hskFail { s with fresh := s.fresh + 1 } p.val (Config.free 8 s.fresh).toNat := by
  unfold doHskTimeout
  dsimp only
  rw [if_neg (not_not_intro hst), hh]
  exact if_pos ht

theorem doBlockLockLost_active {s : State} {p : Fin 4} (h : (getPort s p.val).st = .active) :
    doBlockLockLost p s = holdoff s p.val 5 := by
  unfold doBlockLockLost
  rw [h]

theorem round_limit {s : State} {p : Nat} (hr : (getPort s p).replay ≠ []) (h8 : 8 ≤ (getPort s p).rounds) :
    round s p = holdoff s p 3 :=
  (if_neg (by rw [List.isEmpty_iff]; exact hr)).trans (if_pos h8)

theorem round_again {s : State} {p : Nat} (hr : (getPort s p).replay ≠ []) (h8 : (getPort s p).rounds < 8) :
    let x := getPort s p
    round s p = resend (bumpSat (setPort s p { x with rounds := x.rounds + 1 }) (fabReg p 0xB4) 15 8) p :=
  (if_neg (by rw [List.isEmpty_iff]; exact hr)).trans (if_neg (Nat.not_le.mpr h8))

theorem doCreditStall_first {s : State} {p : Fin 4} {q : FTx} {qs : List FTx} (hst : (getPort s p.val).st = .active)
    (hq : (getPort s p.val).queue = q :: qs) (hb : q.m.best = false) (hs : (getPort s p.val).stalled = false)
    (hu : (getPort s p.val).rel < q.m.units) :
    doCreditStall p s = fabRaise (setPort s p.val { getPort s p.val with stalled := true }) p.val 4 := by
  unfold doCreditStall
  dsimp only
  rw [hq]
  refine if_pos ?_
  rw [hst, hb, hs, decide_eq_true hu]
  rfl

theorem doFabLaneMismatch_active {s : State} {p : Fin 4} {ok : Bool} (h : (getPort s p.val).st = .active) :
    let s1 := holdoff (bumpSat s (fabReg p.val 0xC8) 15 0) p.val 7
    doFabLaneMismatch p ok s = if ok then s1 else wrBit s1 (fabReg p.val Off.STAT) 5 true := by
  unfold doFabLaneMismatch
  rw [h]

theorem doHoldoffExpiry_ends {s : State} {p : Fin 4} (h : (getPort s p.val).st = .holdoff) (hh : halted s = false) :
    doHoldoffExpiry p s =
      setLstate s p.val (if bit (rd s (fabReg p.val 0x80)) 31 && !outOfService s (0x40 + p.val) then .detect else .disabled) :=
  if_pos (by rw [h, hh]; rfl)

/-- What a received DISCOVERY records. -/
def discovered (s : State) (p : Nat) (r : FRx) (rest : List FRx) : State :=
  let f (off n : Nat) : Nat := leNat ((r.m.body.drop off).take n)
  let link := f 0 2 + 0x80000000 * (f 2 1 % 2) + 0x40000000 * (f 2 1 / 2 % 2) + 0x1000000 * ((f 3 1 + 3) % 4)
  let s1 := wr (rxTake s p r rest) (fabReg p 0x8C) (word link)
  let y := getPort s1 p
  setPort s1 p { y with rel := y.rel + f 4 2 - y.pRel, be := y.be + f 6 2 - y.pBe, pRel := f 4 2, pBe := f 6 2 }

theorem doDiscovery_found {s : State} {p : Fin 4} {r : FRx} {rest : List FRx}
    (h : rxFind s p.val 2 (fun m => m.msg == 0) = some (r, rest)) :
    doDiscovery p s = pump (frtRaise (discovered s p.val r rest) 0) p.val := by
  unfold doDiscovery
  rw [h]
  rfl

theorem doFrtAddrWrite_takes {s : State} {i : Initiator} {v : Word} (hm : MayStore s i Reg.FRT_ADDR)
    (hv : bit v 31 = true → fld v 15 8 ≤ 15 ∧ fld v 7 0 ≤ 15) :
    let s1 := wr s Reg.FRT_ADDR (v &&& 0x8000FFFF#32)
    doFrtAddrWrite i v s =
      if bit v 31 then discoverAll (frtRaise (wr s1 Reg.DIR_SELF (word (0x80000000 + fld v 11 8 * 16 + fld v 3 0))) 1)
      else discoverAll (wr s1 Reg.DIR_SELF 0#32) := by
  refine (guardW_open hm _).trans (if_neg ?_)
  rw [Bool.and_eq_true, Bool.or_eq_true, decide_eq_true_eq, decide_eq_true_eq]
  rintro ⟨h1, h2⟩
  have := hv h1
  omega

/-- Settles O44: a port's commands and events, by its state and what it holds. -/
theorem fabricLinks : Obligations.FabricLinks := by
  unfold Obligations.FabricLinks
  intro i p m wire h q qs r rest ok v s makes x cmd cause lost handshake
  refine ⟨fun hm hd hon => ?_, fun ha hd hon => ?_, fun hm ha => ?_, fun hm ha => ?_, fun hd => ?_, ?_, fun hh hp ht => ⟨?_, ?_, ?_⟩,
    fun hh ht hb => ?_, fun ⟨hst, hh⟩ ht hi => ?_, fun ⟨hst, hh⟩ ht => ?_, fun hw => ?_, fun hw => ?_,
    fun ha => ⟨?_, ?_, ?_, fun hd => ?_, fun hr h8 => ?_, fun hr h8 => ?_, fun hq hb hs hu => ?_, ?_⟩, fun hst hh => ?_, ?_, ?_, ?_⟩
  · exact lands (exec_fabTrain ..) ((guardW_open hm _).trans (portTrain_disabled hd hon))
  · exact lands (exec_fabTrain ..) ((if_pos ha).trans (portTrain_disabled hd hon))
  · exact lands (exec_fabDown ..) ((guardW_open hm _).trans (portDown_active ha))
  · exact lands (exec_rekey ..) ((guardW_open hm _).trans (congrArg (portTrain · p.val) (portDown_active ha)))
  · exact lands (exec_linkTrained ..) (if_pos hd)
  · intro hh hp hm s1 h1
    have e := doHskOffer_first (s := s) (p := p) (h := h) (m := m) hh hp hm
    refine ⟨fun hf => ?_, fun hf hser => ?_, fun hf hlt => ?_, fun hf hser hle => ?_⟩
    · exact lands (exec_hskOffer ..) (e.trans (if_pos hf))
    · exact lands (exec_hskOffer ..) (e.trans ((if_neg (not_not_intro hf)).trans (if_pos hser)))
    · have hser : m.take 16 ≠ serial := fun he => Nat.lt_irrefl (beNat serial) (by rwa [he] at hlt)
      exact lands (exec_hskOffer ..) (e.trans ((if_neg (not_not_intro hf)).trans ((if_neg hser).trans (offerTaken_lower hlt))))
    · exact lands (exec_hskOffer ..) (e.trans ((if_neg (not_not_intro hf)).trans ((if_neg hser).trans (offerTaken_higher hle))))
  · intro hi hin hm
    exact lands (exec_hskInit ..) (hskStore_turn hh hi hp hm ht (by rw [hin]; rfl))
  · intro hi hin hr hm
    exact lands (exec_hskReply ..) (hskStore_turn hh hi hp hm ht (by rw [hr, List.isEmpty_eq_false_iff.mpr hin]; rfl))
  · intro hi hr hm
    have e := doHskConfirm_turn (s := s) (p := p) hh hi ht hr hm
    exact ⟨fun hs => lands (exec_hskConfirm ..) (e.trans (if_pos (by rw [hs]; rfl))),
      fun hs => lands (exec_hskConfirm ..) (e.trans (if_neg (by rw [hs]; decide)))⟩
  · exact lands (exec_hskChecksDone ..) (doHskChecksDone_todo hh ht hb)
  · exact lands (exec_hskTimeout ..) (doHskTimeout_again hst hh ht hi)
  · exact lands (exec_hskTimeout ..) (doHskTimeout_ends hst hh ht)
  · exact lands (exec_frameReceive ..) (if_neg (ne_true_of_eq_false hw))
  · exact lands (exec_ctrlFrame ..) (if_pos hw)
  · exact lands (exec_blockLockLost ..) (doBlockLockLost_active ha)
  · exact lands (exec_keepaliveMiss ..) (if_pos (portUp_active ha))
  · exact lands (exec_keepaliveSend ..) (if_pos (portUp_active ha))
  · exact lands (exec_ackSend ..) (if_pos (by rw [portUp_active ha]; exact hd))
  · exact lands (exec_replayTimeout ..) ((if_pos (portUp_active ha)).trans (round_limit hr h8))
  · exact lands (exec_replayTimeout ..) ((if_pos (portUp_active ha)).trans (round_again hr h8))
  · exact lands (exec_creditStall ..) (doCreditStall_first ha hq hb hs hu)
  · exact lands (exec_fabLaneMismatch ..) (doFabLaneMismatch_active ha)
  · exact lands (exec_holdoffExpiry ..) (doHoldoffExpiry_ends hst hh)
  · intro hf f link s1 y s2
    exact lands (exec_discovery ..) (doDiscovery_found hf)
  · intro hm s1
    exact ⟨fun h1 h2 h3 => lands (exec_frtAddrWrite ..) ((doFrtAddrWrite_takes hm fun _ => ⟨h2, h3⟩).trans (if_pos h1)),
      fun h1 => lands (exec_frtAddrWrite ..)
        ((doFrtAddrWrite_takes hm fun h2 => absurd (h1.symm.trans h2) Bool.false_ne_true).trans (if_neg (ne_true_of_eq_false h1)))⟩
  · intro hm t
    exact lands (exec_fabCreditWrite ..) (guardW_open hm _)

end Sys2Proof.Machine
end

section
/-! ### O45: transactions and remote operations -/

namespace Sys2Proof.Machine

open Sys2Proof

theorem doTxnTimeout_again {s : State} {k : Nat} {t : FTxn} (h : s.fab.txns[k]? = some t) (hs : isSelf s t.dst = false)
    (ht : t.tries < fld (rd s Reg.FRT_TXCFG) 3 0) :
    let s1 := setFab s { s.fab with txns := s.fab.txns.map fun x => if x.txid == t.txid then { x with tries := x.tries + 1 } else x }
    doTxnTimeout k s = fabSweep (sendRouted s1 ⟨ownMsg s1 3 t.msg t.dst (ownTtl s1) t.body, none⟩) := by
  unfold doTxnTimeout
  rw [h]
  exact (if_neg (ne_true_of_eq_false hs)).trans (if_pos ht)

theorem doTxnTimeout_ends {s : State} {k : Nat} {t : FTxn} (h : s.fab.txns[k]? = some t) (hs : isSelf s t.dst = false)
    (ht : fld (rd s Reg.FRT_TXCFG) 3 0 ≤ t.tries) : doTxnTimeout k s = fabSweep (txnEnd s t false stTIMEOUT 0 0 []) := by
  unfold doTxnTimeout
  rw [h]
  exact (if_neg (ne_true_of_eq_false hs)).trans (if_neg (Nat.not_lt.mpr ht))

/-- The outstanding transaction that a received header names. -/
def txnNamed (s : State) (m : FMsg) : Option FTxn := s.fab.txns.find? fun t => t.txid == mHdr m 0 4

theorem rspTake_found {s : State} {p msg : Nat} {ok : FTxn → Bool} {other : Bool} {r : FRx} {rest : List FRx} {t : FTxn}
    (hr : rxFind s p 3 (fun m => m.msg == msg && (txnNamed s m).elim other ok) = some (r, rest)) (ht : txnNamed s r.m = some t) :
    rspTake s p msg ok other =
      fabSweep (txnEnd (rxTake s p r rest) t (msg == 2) (if msg = 2 then mHdr r.m 5 1 else stPARTNER) (mHdr r.m 6 2) (mHdr r.m 12 4)
        (r.m.body.drop 16)) := by
  have hg : ∀ g : FMsg → Bool, (∀ m, g m = (m.msg == msg && (txnNamed s m).elim other ok)) → rxFind s p 3 g = some (r, rest) :=
    fun g h => funext h ▸ hr
  unfold rspTake
  dsimp only
  rw [hg]
  · unfold txnNamed at ht
    dsimp only
    rw [ht]
  · intro m
    unfold txnNamed
    cases s.fab.txns.find? fun t => t.txid == mHdr m 0 4 <;> rfl

/-- The dedup cache with an entry for a request, which has no response yet. -/
def dedupEntered (s : State) (m : FMsg) : State :=
  setFab s { s.fab with dedup := s.fab.dedup ++ [{ src := m.src, txid := mHdr m 0 4, resp := none, at_ := 0 }] }

theorem dedupRun_new {s : State} {m : FMsg} (h : (s.fab.dedup.find? fun d => d.is m.src (mHdr m 0 4)) = none)
    (hl : s.fab.dedup.length < 1024) (run : State → State) : dedupRun s m run = run (dedupEntered s m) := by
  unfold dedupRun
  dsimp only
  rw [h]
  exact if_neg (Nat.not_le.mpr hl)

theorem doTxnReq_new {p : Fin 4} {s : State} {r : FRx} {rest : List FRx} (h : rxFind s p.val 3 (fun m => m.msg == 1) = some (r, rest))
    (hd : ((rxTake s p.val r rest).fab.dedup.find? fun d => d.is r.m.src (mHdr r.m 0 4)) = none)
    (hl : (rxTake s p.val r rest).fab.dedup.length < 1024) (h1 : 0x10 ≤ mHdr r.m 4 1) (h2 : mHdr r.m 4 1 ≤ 0x15) :
    let t := dedupEntered (rxTake s p.val r rest) r.m
    let op : FOp := { wire := true, src := r.m.src, txid := mHdr r.m 0 4, epoch := mHdr r.m 8 4, dom := pageDomain t (0x40 + p.val),
                      op := mHdr r.m 4 1, arg := mHdr r.m 12 4, body := r.m.body.drop 16 }
    doTxnReq p s = setFab t { t.fab with ops := t.fab.ops ++ [op] } := by
  unfold doTxnReq
  rw [h]
  refine (dedupRun_new hd hl _).trans (if_neg ?_)
  rw [Bool.or_eq_true, decide_eq_true_eq, decide_eq_true_eq]
  omega

theorem doForwardedIntake_new {p : Fin 4} {s : State} {r : FRx} {rest : List FRx}
    (h : rxFind s p.val 3 (fun m => m.msg == 0) = some (r, rest))
    (he : mHdr r.m 8 4 = (rd (rxTake s p.val r rest) Reg.DIR_EPOCH).toNat)
    (hd : ((rxTake s p.val r rest).fab.dedup.find? fun d => d.is r.m.src (mHdr r.m 0 4)) = none)
    (hl : (rxTake s p.val r rest).fab.dedup.length < 1024)
    (hf : (dedupEntered (rxTake s p.val r rest) r.m).intake.frames.length < 256) :
    let t := dedupEntered (rxTake s p.val r rest) r.m
    let f := r.m.body.drop 16
    let req : FrameReq := {
      src := .fabric p.val r.m.src (mHdr r.m 0 4) (mHdr r.m 8 4) r.m.ttl, dom := pageDomain t (0x40 + p.val), profile := mHdr r.m 12 4 % 32,
      len := f.length, recEn := false, noFwd := false, frameAddr := 0, recAddr := 0, recLen := 0, data := some f }
    doForwardedIntake p s = setIntake t { t.intake with reqs := t.intake.reqs ++ [req] } := by
  unfold doForwardedIntake
  rw [h]
  dsimp only
  rw [if_pos he]
  exact (dedupRun_new hd hl _).trans (if_neg (Nat.not_le.mpr hf))

theorem doDedupExpire_answered {s : State} {k : Nat} {e : Dedup} (h : s.fab.dedup[k]? = some e) (he : e.resp ≠ none) :
    doDedupExpire k s = setFab s { s.fab with dedup := s.fab.dedup.eraseIdx k } := by
  unfold doDedupExpire
  rw [h]
  exact if_pos (Option.isSome_iff_ne_none.mpr he)

theorem doNotify_found {p : Fin 4} {s : State} {r : FRx} {rest : List FRx} (h : rxFind s p.val 3 (fun m => m.msg == 3) = some (r, rest)) :
    doNotify p s = notifyLatch (rxTake s p.val r rest) r.m.src (mHdr r.m 0 2) := by
  unfold doNotify
  rw [h]

theorem doAgent_found {p : Fin 4} {s s1 : State} {r : FRx} {rest : List FRx}
    (h : takeFirst (fun r : FRx => (r.m.kind == 2 && r.m.msg == 1) || (r.m.kind == 3 && r.m.msg == 5 && r.here)) (getPort s p.val).rx =
      some (r, rest)) (h1 : agentPacket s r.m.src (b2n (r.m.kind == 2)) p.val r.m.asg r.m.body = some s1) :
    doAgent p s = rxTake s1 p.val r rest := by
  unfold doAgent
  rw [h]
  dsimp only
  rw [h1]

section
variable {p : Fin 4} {s : State} {r : FRx} {rest : List FRx}
  (h : takeFirst (fun r : FRx => r.m.kind == 3 && !r.here) (getPort s p.val).rx = some (r, rest))
include h

theorem doRoutedForward_broadcast (hd : r.m.dst = 0xFFFF) (hm : r.m.msg = 3 ∨ r.m.msg = 5) :
    doRoutedForward p s = broadcastIn s p.val r rest := by
  unfold doRoutedForward
  rw [h]
  exact (if_pos hd).trans (if_pos (by simpa using hm))

theorem doRoutedForward_here (hd : r.m.dst ≠ 0xFFFF) (hr : route s r.m.dst = .here) :
    let x := getPort s p.val
    doRoutedForward p s = setPort s p.val { x with rx := x.rx.map fun y => if y = r then { y with here := true } else y } := by
  unfold doRoutedForward
  rw [h]
  refine (if_neg hd).trans ?_
  rw [hr]

theorem doRoutedForward_port {q : Nat} (hd : r.m.dst ≠ 0xFFFF) (hr : route s r.m.dst = .port q) (ht : r.m.ttl ≠ 0) :
    doRoutedForward p s = enqueue (rxTake s p.val r rest) q ⟨{ r.m with ttl := r.m.ttl - 1 }, none⟩ := by
  unfold doRoutedForward
  rw [h]
  refine (if_neg hd).trans ?_
  rw [hr]
  exact if_neg ht

theorem doRoutedForward_none (hd : r.m.dst ≠ 0xFFFF) (hr : route s r.m.dst = .none) :
    doRoutedForward p s = unreachable (rxTake s p.val r rest) ⟨r.m, none⟩ false := by
  unfold doRoutedForward
  rw [h]
  refine (if_neg hd).trans ?_
  rw [hr]

end

/-- LEASE_MS is one that a lease may have. -/
theorem leaseMs_ok {o : FOp} (h0 : 0 < o.hi) (h1 : o.hi ≤ 10000) : ¬(decide (o.hi = 0) || decide (10000 < o.hi)) = true := by
  rw [Bool.or_eq_true, decide_eq_true_eq, decide_eq_true_eq]
  omega

theorem doLeaseRead_leases {s s1 : State} {o : FOp} {k : Nat} (h : opNext s 0x10 = some o) (h0 : 0 < o.hi) (h1 : o.hi ≤ 10000)
    (hl : acctLeased s o.acct = false) (hv : acctFlag s o.acct 0 = true) (hd : opDom o (acctFld s o.acct 0x0A 1) = true)
    (hn : s.fab.leases.length < 64) (he : newLease s (acctAddrOf s o.acct) o.acct o.hi none = (k, s1)) :
    doLeaseRead s = opDone s1 o stOK 0 (k * 65536) (sramRead s (acctAddr o.acct) 128) := by
  unfold doLeaseRead
  rw [h]
  refine (if_neg (leaseMs_ok h0 h1)).trans ((if_neg (ne_true_of_eq_false hl)).trans ((if_neg ?_).trans ((if_neg (Nat.not_le.mpr hn)).trans ?_)))
  · rw [hv, hd]
    decide
  · dsimp only
    rw [he]

theorem doFrtStage_leases {s s1 : State} {o : FOp} {k : Nat} (h : opNext s 0x11 = some o) (h0 : 0 < o.hi) (h1 : o.hi ≤ 10000)
    (hb : o.body.length = 128) (hd : opDom o (leNat (part o.body 0x0A 1)) = true) (hv : acctFlag s o.acct 0 = false)
    (ha : addrHeld s (o.body.take 8) = false) (hc : (chainOf s (localBucket (o.body.take 8))).length < 8)
    (hn : s.fab.leases.length < 64) (he : newLease s (o.body.take 8) o.acct o.hi (some o.body) = (k, s1)) :
    doFrtStage s = opDone s1 o stOK 0 (k * 65536) [] := by
  unfold doFrtStage
  rw [h]
  refine (if_neg ?_).trans ((if_neg ?_).trans ((if_neg (ne_true_of_eq_false hv)).trans
    ((if_neg (ne_true_of_eq_false ha)).trans ((if_neg ?_).trans ?_))))
  · rw [hb, Bool.or_eq_true, not_or]
    exact ⟨leaseMs_ok h0 h1, by decide⟩
  · rw [hd]
    decide
  · rw [Bool.or_eq_true, decide_eq_true_eq, decide_eq_true_eq]
    omega
  · rw [he]

theorem doFrtCommit_builds {s : State} {o : FOp} {l : Lease} (h : opNext s 0x12 = some o) (hl : opLease s o true = some l)
    (hd : opDom o (leNat (part (l.staged.getD []) 0x0A 1)) = true) (hv : acctFlag s o.acct 0 = false)
    (hc : (chainOf s (localBucket l.addr)).length < 8) (hu : unitLane s 31 ≠ none) :
    let s1 := setFab s { s.fab with leases := s.fab.leases.filter fun x => !(decide (x = l)) }
    doFrtCommit s = opDone (buildStaged s1 o.acct (l.staged.getD [])) o stOK 0 0 [] := by
  unfold doFrtCommit
  rw [h]
  dsimp only
  rw [hl]
  refine (if_neg ?_).trans ((if_neg ?_).trans (if_neg ?_))
  · rw [hd]
    decide
  · rw [hv, Bool.false_or, decide_eq_true_eq]
    omega
  · rw [Option.isNone_iff_eq_none]
    exact hu

theorem doFrtDispose_deletes {s : State} {o : FOp} {l : Lease} (h : opNext s 0x13 = some o) (hl : opLease s o false = some l)
    (hv : acctFlag s o.acct 0 = true) (hd : opDom o (acctFld s o.acct 0x0A 1) = true) :
    doFrtDispose s = opDone (deleteAcct s o.acct) o stOK 0 0 [] := by
  unfold doFrtDispose
  rw [h]
  dsimp only
  rw [hl, hv, hd]
  rfl

/-- The account of an operation is of a domain that passes, or not valid. -/
theorem opDom_ok {s : State} {o : FOp} (h : acctFlag s o.acct 0 = true → opDom o (acctFld s o.acct 0x0A 1) = true) :
    ¬(acctFlag s o.acct 0 && !opDom o (acctFld s o.acct 0x0A 1)) = true := by
  cases hv : acctFlag s o.acct 0 with
  | false => simp
  | true =>
    rw [h hv]
    decide

theorem doFrtRelease_ends {s : State} {o : FOp} (h : opNext s 0x14 = some o)
    (hd : acctFlag s o.acct 0 = true → opDom o (acctFld s o.acct 0x0A 1) = true) :
    doFrtRelease s =
      opDone (setFab s { s.fab with leases := s.fab.leases.filter fun l => !(l.num == o.hi && l.acct == o.acct) }) o stOK 0 0 [] := by
  unfold doFrtRelease
  rw [h]
  exact if_neg (opDom_ok hd)

theorem doRemoteQuery_shows {s : State} {o : FOp} (h : opNext s 0x15 = some o)
    (hd : acctFlag s o.acct 0 = true → opDom o (acctFld s o.acct 0x0A 1) = true) :
    let f := b2n (acctFlag s o.acct 0) + 2 * b2n (acctFlag s o.acct 1) + 4 * b2n (acctLeased s o.acct)
    doRemoteQuery s = opDone s o stOK 0 0 (byte f :: zeros 7 ++ acctAddrOf s o.acct ++ sramRead s (acctAddr o.acct + 0x20) 40) := by
  unfold doRemoteQuery
  rw [h]
  exact if_neg (opDom_ok hd)

/-- An active operation of a channel that its unit may take up, and the state in which it has begun. -/
def Begins (s : State) (n op : Nat) (a : ActOp) (s1 : State) : Prop :=
  let ch := getChan s n
  (ch.active.find? fun o => descOp o.d == op && !o.begun) = some a ∧
    s1 = setChan s n { ch with active := ch.active.map fun x => if x = a then { x with begun := true, at_ := s.tick } else x }

theorem takeOp_begins {s s1 : State} {n op : Nat} {a : ActOp} (h : Begins s n op a s1) (k : State → ActOp → State) :
    takeOp s n op k = k s1 a := by
  obtain ⟨hf, rfl⟩ := h
  unfold takeOp
  dsimp only
  rw [hf]

theorem doClrSend_link {n : Fin 64} {d : DmaData} {s s1 s2 : State} {a : ActOp} {bs : Bytes} (h : Begins s n.val 0x40 a s1)
    (hr : dmaRead s1 n.val (descFld a.d 24 8) (descFld a.d 20 2) d = (s2, .inr bs)) (hm : descFld a.d 18 1 = 1)
    (hu : portUp s2 (descFld a.d 19 1) = true) :
    doClrSend n d s = enqueue s2 (descFld a.d 19 1) ⟨ownMsg s2 2 1 0 0 bs, some (n.val, descTag a.d)⟩ := by
  refine (takeOp_begins h _).trans ?_
  dsimp only
  rw [hr]
  exact (if_pos hm).trans (if_pos hu)

theorem doClrSend_routed {n : Fin 64} {d : DmaData} {s s1 s2 : State} {a : ActOp} {bs : Bytes} (h : Begins s n.val 0x40 a s1)
    (hr : dmaRead s1 n.val (descFld a.d 24 8) (descFld a.d 20 2) d = (s2, .inr bs)) (hm : descFld a.d 18 1 ≠ 1)
    (hd : descFld a.d 16 2 ≠ 0xFFFF) (hs : isSelf s2 (descFld a.d 16 2) = false) :
    doClrSend n d s =
      sendRouted s2 ⟨ownMsg s2 3 5 (descFld a.d 16 2) (ownTtl s2) bs, some (n.val, descTag a.d)⟩ := by
  refine (takeOp_begins h _).trans ?_
  dsimp only
  rw [hr]
  exact (if_neg hm).trans ((if_neg (by simp [hd])).trans (if_neg (ne_true_of_eq_false hs)))

theorem doClrQuery_opens {n : Fin 64} {s s1 s2 : State} {a : ActOp} (h : Begins s n.val 0x42 a s1)
    (ho : fabOpen s1 (descFld a.d 16 2) 1 0x15 (descFld a.d 18 2) (chanDom s1 n.val) [] (.query n.val (descTag a.d)) = some s2) :
    doClrQuery n s = fabSweep s2 := by
  refine (takeOp_begins h _).trans ?_
  rw [ho]

/-- Settles O45: a received message, an operation that waits for its account, or a channel's descriptor is taken up as found. -/
theorem fabricTransactions : Obligations.FabricTransactions := by
  unfold Obligations.FabricTransactions
  intro p q n k r rest t o a l d e bs s s1 s2 makes txid taken entered x
  refine ⟨fun ht hs => ⟨fun hl => ?_, fun hl => ?_⟩, ?_, ?_, ?_, fun hk he => ?_, fun hk => ?_, fun hf => ?_, fun hf ha => ?_,
    fun hf => ⟨fun hd hm => ?_, fun hd hr => ?_, fun hd hr ht => ?_, fun hd hr => ?_⟩, fun h h0 h1 hl hv hd hn he => ?_,
    fun h h0 h1 hb hd hv ha hc hn he => ?_, ?_, fun h hl hv hd => ?_, fun h hd => ?_, ?_, ?_⟩
  · exact lands (exec_txnTimeout ..) (doTxnTimeout_again ht hs hl)
  · exact lands (exec_txnTimeout ..) (doTxnTimeout_ends ht hs hl)
  · intro find answered ht
    refine ⟨fun hr => ?_, fun hr => ?_, fun hr => ?_⟩
    · exact lands (exec_txnRsp ..) (rspTake_found hr ht)
    · exact lands (exec_forwardResponse ..) (rspTake_found hr ht)
    · have hm : (fun m : FMsg => m.msg == 4 && (txnNamed s m).elim true fun _ => true) = fun m => m.msg == 4 := by
        funext m
        cases txnNamed s m <;> simp
      exact lands (exec_unreach ..) (rspTake_found (by rw [hm]; exact hr) ht)
  · intro hf hd hl h1 h2 op
    exact lands (exec_txnReq ..) (doTxnReq_new hf hd hl h1 h2)
  · intro hf he hd hl hfr f req
    exact lands (exec_forwardedIntake ..) (doForwardedIntake_new hf he hd hl hfr)
  · exact lands (exec_dedupExpire ..) (doDedupExpire_answered hk he)
  · exact lands (exec_leaseExpire ..) (if_pos hk)
  · exact lands (exec_notify ..) (doNotify_found hf)
  · exact lands (exec_agent ..) (doAgent_found hf ha)
  · exact lands (exec_routedForward ..) (doRoutedForward_broadcast hf hd hm)
  · exact lands (exec_routedForward ..) (doRoutedForward_here hf hd hr)
  · exact lands (exec_routedForward ..) (doRoutedForward_port hf hd hr ht)
  · exact lands (exec_routedForward ..) (doRoutedForward_none hf hd hr)
  · exact lands (exec_leaseRead _) (doLeaseRead_leases h h0 h1 hl hv hd hn he)
  · exact lands (exec_frtStage _) (doFrtStage_leases h h0 h1 hb hd hv ha hc hn he)
  · intro h hl hd hv hc hu t1
    exact lands (exec_frtCommit _) (doFrtCommit_builds h hl hd hv hc hu)
  · exact lands (exec_frtDispose _) (doFrtDispose_deletes h hl hv hd)
  · exact lands (exec_frtRelease _) (doFrtRelease_ends h hd)
  · intro h hd f
    exact lands (exec_remoteQuery _) (doRemoteQuery_shows h hd)
  · intro ch begun f tag
    refine ⟨fun h hr hm hu => ?_, fun h hr hm hd hs => ?_, ?_, fun h ho => ?_⟩
    · exact lands (exec_clrSend ..) (doClrSend_link h hr hm hu)
    · exact lands (exec_clrSend ..) (doClrSend_routed h hr hm hd hs)
    · intro h c
      exact lands (exec_clrClear ..) (takeOp_begins h _)
    · exact lands (exec_clrQuery ..) (doClrQuery_opens h ho)

end Sys2Proof.Machine
end

/-! PROOFS. The NV store (R459 to R486). -/

section
/-! ### O46: commands, programs and erases -/

namespace Sys2Proof.Machine

open Sys2Proof

theorem nvcCmd_free {s : State} {i : Initiator} (hm : MayStore s i Reg.NVC_CMD) (hf : bit (rd s Reg.NVC_CMDSTAT) 31 = false)
    (k : State → State) : nvcCmd s i k = k s :=
  (guardW_open hm _).trans (if_neg (ne_true_of_eq_false hf))

theorem nvkCmd_free {s : State} {i : Initiator} (hm : MayStore s i Reg.NVK_CMD) (hf : bit (rd s Reg.NVK_CMDSTAT) 31 = false)
    (k : State → State) : nvkCmd s i k = k s :=
  (guardW_open hm _).trans (if_neg (ne_true_of_eq_false hf))

/-- A command that succeeds shows OK and no hint. -/
theorem nvcEnd_ok (s : State) : nvcEnd s stOK = wr s Reg.NVC_CMDSTAT (word stOK) := by
  have h : ¬(stOK = stBUSY) := by decide
  unfold nvcEnd
  rw [if_neg h, Nat.zero_mul, Nat.zero_add]

section
variable {s : State} {i : Initiator} (hm : MayStore s i Reg.NVC_CMD) (hf : bit (rd s Reg.NVC_CMDSTAT) 31 = false)
include hm hf

theorem doNvcRead_waits (h0 : 0 < nvcArg s 1) (h1 : nvcArg s 1 ≤ 65536) (h2 : nvcArg s 0 + nvcArg s 1 ≤ 0x1000000)
    (hr : rangeSram (nvcBuf s) (nvcArg s 1) = true) (hp : readForbidden (nvcArg s 0) (nvcArg s 1) = false) :
    doNvcRead i .clean s = serveRead (setNv (nvcBusy s) { s.nv with readWait := some i }) false := by
  refine (nvcCmd_free hm hf _).trans ((if_neg ?_).trans ((if_neg ?_).trans (if_neg (ne_true_of_eq_false hp))))
  · rw [Bool.or_eq_true, Bool.or_eq_true, decide_eq_true_eq, decide_eq_true_eq, decide_eq_true_eq]
    omega
  · rw [hr]
    decide

theorem doImgErase_erases {s1 : State} (ha : nvcArg s 0 < 4) (hg : nvGate s true = (s1, 0)) :
    let a := nvcArg s 0
    doImgErase i s = (List.range (nvRegion (a + 1)).2).foldl
      (fun s k => addErase s ((nvRegion (a + 1)).1 + 1024 * b2n (inactiveB s1 a) + k) true) (nvcBusy s1) := by
  refine (nvcCmd_free hm hf _).trans ((if_neg (Nat.not_le.mpr ha)).trans ?_)
  unfold imgErase
  rw [hg]
  rfl

theorem doImgWrite_writes {ws : List NvWrite} (h0 : 0 < nvcArg s 1) (h256 : nvcArg s 1 % 256 = 0) (h1 : nvcArg s 1 ≤ 4096)
    (hr : rangeSram (nvcBuf s) (nvcArg s 1) = true) (hp : poisoned s (nvcBuf s) (nvcArg s 1) = false)
    (hw : imgPages s (nvcArg s 0 / 2 ^ 30) (nvcArg s 0 % 65536) (sramRead s (nvcBuf s) (nvcArg s 1)) = some ws) :
    let r := nvcArg s 0 / 2 ^ 30 + 1
    doImgWrite i s = nvcWrites (setNv s { s.nv with seqs := mset 0 s.nv.seqs r (mget 0 s.nv.seqs r + nvcArg s 1 / 256) }) r ws := by
  refine (nvcCmd_free hm hf _).trans ((if_neg ?_).trans ((if_neg ?_).trans ((if_neg (ne_true_of_eq_false hp)).trans ?_)))
  · rw [Bool.or_eq_true, Bool.or_eq_true, decide_eq_true_eq, decide_eq_true_eq, decide_eq_true_eq]
    omega
  · rw [hr]
    decide
  · rw [hw]

theorem doImgClose_writes {ws : List NvWrite} (ha : nvcArg s 0 < 4) (hw : imgClose s (nvcArg s 0) (nvcArg s 1) = some ws) :
    doImgClose i s = nvcWrites s (nvcArg s 0 + 1) ws := by
  refine (nvcCmd_free hm hf _).trans ((if_neg (Nat.not_le.mpr ha)).trans ?_)
  rw [hw]

theorem doPbRead_reads (ha : nvcArg s 0 < 128) (hr : rangeSram (nvcBuf s) 256 = true) :
    doPbRead i s = wr (bankWrite s i (nvcBuf s) (pbPage s (nvcArg s 0))) Reg.NVC_CMDSTAT (word stOK) := by
  refine (nvcCmd_free hm hf _).trans ((if_neg (Nat.not_le.mpr ha)).trans ((if_neg ?_).trans (nvcEnd_ok _)))
  rw [hr]
  decide

theorem doPbWrite_buffers (hl : nvcArg s 0 % 65536 < 128) (h0 : 0 < nvcArg s 1) (h256 : nvcArg s 0 / 65536 + nvcArg s 1 ≤ 256)
    (hr : rangeSram (nvcBuf s) (nvcArg s 1) = true) (hp : poisoned s (nvcBuf s) (nvcArg s 1) = false)
    (ho : (s.nv.bufs.filter fun b => b.1 != nvcArg s 0 % 65536).length < 8) :
    let lid := nvcArg s 0 % 65536
    let off := nvcArg s 0 / 65536
    let n := nvcArg s 1
    let old := pbPage s lid
    doPbWrite i s = wr (setNv s { s.nv with bufs := (s.nv.bufs.filter fun b => b.1 != lid) ++
      [(lid, old.take off ++ sramRead s (nvcBuf s) n ++ old.drop (off + n))] }) Reg.NVC_CMDSTAT (word stOK) := by
  refine (nvcCmd_free hm hf _).trans
    ((if_neg ?_).trans ((if_neg ?_).trans ((if_neg (ne_true_of_eq_false hp)).trans ((if_pos ho).trans (nvcEnd_ok _)))))
  · rw [Bool.or_eq_true, Bool.or_eq_true, decide_eq_true_eq, decide_eq_true_eq, decide_eq_true_eq]
    omega
  · rw [hr]
    decide

end

theorem doScrubPeriod_on {s : State} (h : bit (rd s Reg.NVC_SCRUB) 31 = true) (finds : List FlashFind) :
    doScrubPeriod finds s = finds.foldl scrubFind (scrubStart s) :=
  if_neg (by rw [h]; decide)

section
variable {s : State} {i : Initiator} {k : Fin 256} (hm : MayStore s i Reg.NVK_CMD) (hf : bit (rd s Reg.NVK_CMDSTAT) 31 = false)
include hm hf

/-- A counter of the engines is none that a command may step. -/
theorem nvk_protected (hk : k.val < 4 ∨ 16 ≤ k.val) : doNvkInc i k s = nvkEnd s k.val stPROT 0 ∧ doNvkSet i k s = nvkEnd s k.val stPROT 0 := by
  have h : (decide (k.val < 4) || decide (16 ≤ k.val)) = true := by
    rw [Bool.or_eq_true, decide_eq_true_eq, decide_eq_true_eq]
    exact hk
  exact ⟨(nvkCmd_free hm hf _).trans (if_pos h), (nvkCmd_free hm hf _).trans (if_pos h)⟩

variable (h4 : 4 ≤ k.val) (h16 : k.val < 16)
include h4 h16

omit hm hf in
theorem nvk_open : ¬(decide (k.val < 4) || decide (16 ≤ k.val)) = true := by
  rw [Bool.or_eq_true, decide_eq_true_eq, decide_eq_true_eq]
  omega

theorem doNvkInc_steps (hv : ctrValue s k.val < ctrMax k.val) :
    doNvkInc i k s = addTask (wr s Reg.NVK_CMDSTAT 0x80000000#32) (plainTask (.nvk k.val) [.unary k.val]) :=
  (nvkCmd_free hm hf _).trans ((if_neg (nvk_open h4 h16)).trans (if_neg (Nat.not_le.mpr hv)))

theorem doNvkInc_exhausted (hv : ctrMax k.val ≤ ctrValue s k.val) : doNvkInc i k s = nvkEnd (ctrExhausted s) k.val stEXHAUST 0 :=
  (nvkCmd_free hm hf _).trans ((if_neg (nvk_open h4 h16)).trans (if_pos hv))

theorem doNvkSet_sets (hv : ctrValue s k.val < rd64 s Reg.NVK_ARG) (hmax : rd64 s Reg.NVK_ARG ≤ ctrMax k.val) :
    doNvkSet i k s = addTask (wr s Reg.NVK_CMDSTAT 0x80000000#32) (plainTask (.nvk k.val) [.base k.val (rd64 s Reg.NVK_ARG)]) :=
  (nvkCmd_free hm hf _).trans
    ((if_neg (nvk_open h4 h16)).trans ((if_neg (Nat.not_lt.mpr hmax)).trans (if_neg (Nat.not_le.mpr hv))))

theorem doNvkSet_behind (hv : rd64 s Reg.NVK_ARG ≤ ctrValue s k.val) (hmax : rd64 s Reg.NVK_ARG ≤ ctrMax k.val) :
    doNvkSet i k s = nvkEnd s k.val stREPLAY 0 :=
  (nvkCmd_free hm hf _).trans ((if_neg (nvk_open h4 h16)).trans ((if_neg (Nat.not_lt.mpr hmax)).trans (if_pos hv)))

end

section
variable {s : State} {b : Bool} {e : EraseJob} (he : erasing s b = some e)
include he

theorem doNvEraseDone_passed :
    let s1 := dropErase (wipeSector s e.sector) b
    let s2 := showWear (ledgerEntry s1 b 0x43 e.sector (mget 0 s1.nv.ecount e.sector)) e.sector
    doNvEraseDone b true s = if e.cmd then nvcOpEnd s2 b else s2 := by
  unfold doNvEraseDone
  rw [he]
  exact if_pos rfl

theorem doNvEraseDone_again (hn : e.n < 3) :
    doNvEraseDone b false s =
      setNv s { s.nv with erases := s.nv.erases.map fun f => if f = e then { f with n := f.n + 1 } else f } := by
  unfold doNvEraseDone
  rw [he]
  exact (if_neg Bool.false_ne_true).trans (if_pos hn)

theorem doNvEraseDone_retires (hn : 3 ≤ e.n) :
    let s1 := ledgerEntry (dropErase s b) b 0x52 e.sector 0
    let s2 := setNv s1 { s1.nv with retired := linsert e.sector s1.nv.retired }
    let s3 := raise (wr s2 Reg.NVC_RETIRED (word s2.nv.retired.length)) 0x48 10
    doNvEraseDone b false s = if e.cmd then nvcOpEnd s3 b else s3 := by
  unfold doNvEraseDone
  rw [he]
  exact (if_neg Bool.false_ne_true).trans (if_neg (Nat.not_lt.mpr hn))

theorem doEraseSuspend_serves (hr : readTouches s b = true) : doEraseSuspend b s = serveRead s true :=
  if_pos (by rw [he, hr]; rfl)

end

/-- What is left of a task after a program that sets no counter. -/
def programmed (t : NvTask) (rest : List NvWrite) (ok : Bool) : NvTask := { t with todo := if ok then rest else [], failed := !ok }

/-- A program outside the service window ends, with what its task has left. -/
theorem doNvProgramDone_ends {s : State} {b ok : Bool} {t : NvTask} {w : NvWrite} {rest : List NvWrite} (he : erasing s b = none)
    (ht : bankTask s b = some t) (hw : takeWrite s b t.todo = some (w, rest)) (hwin : s.pmu.window = false)
    (hb : ∀ k v, w ≠ .base k v) :
    let s1 := applyWrite s t ok w
    let t1 := programmed t rest ok
    doNvProgramDone b ok s = serveRead
      (if t1.todo.isEmpty && decide (t.source = 0) then
        taskEnd (setNv s1 { s1.nv with tasks := s1.nv.tasks.filter fun x => decide (x ≠ t) }) t1 b
      else setNv s1 { s1.nv with tasks := replaceTask t t1 s1.nv.tasks }) false := by
  unfold doNvProgramDone
  rw [he, ht]
  refine (if_neg Bool.false_ne_true).trans ?_
  dsimp only
  rw [hw]
  dsimp only
  rw [if_neg (ne_true_of_eq_false hwin)]
  cases w
  case base k v => exact absurd rfl (hb k v)
  all_goals rfl

theorem doDaybookBegin_writes {s : State} {t : NvTask} (ho : openTxn s = none) (hw : s.pmu.window = false) (hr : writeReady s = true)
    (ht : (s.nv.tasks.find? fun t => t.source != 0) = some t) :
    let s1 := dbEntry s 1 t.source (if t.source = 2 then t.info else t.todo.length) s.nv.txn
    doDaybookBegin s =
      setNv s1 { s1.nv with txn := s.nv.txn + 1, tasks := replaceTask t { t with txn := s.nv.txn } s1.nv.tasks } := by
  unfold doDaybookBegin
  rw [ho, hw, hr, ht]
  rfl

/-- The open transaction's end: what follows once nothing is left to program. -/
theorem doDaybookCommit_done {s : State} {t : NvTask} (ho : openTxn s = some t) (hd : t.todo = []) :
    let s1 := setNv s { s.nv with tasks := s.nv.tasks.filter fun x => decide (x ≠ t) }
    let info := if t.source = 2 then t.info else 0
    let r := dbEntry s1 3 t.source info t.txn
    let c := dbEntry s1 2 t.source info t.txn
    doDaybookCommit s =
      if t.failed then setNv r { r.nv with done := r.nv.done ++ [(t.src, stLANE)] }
      else t.sets.foldl (fun s kv => ctrSet s kv.1 kv.2)
        (setNv c { c.nv with committed := linsert t.txn c.nv.committed, done := c.nv.done ++ [(t.src, stOK)] }) := by
  unfold doDaybookCommit
  rw [ho]
  exact if_neg (by rw [hd]; decide)

theorem doCounterHalfSwitch_switches {s : State} {j : Fin 32} (hg : groupWaits s j.val = true) (ho : openTxn s = none)
    (hr : writeReady s = true) : doCounterHalfSwitch j s = switchHalf s j.val := by
  unfold doCounterHalfSwitch
  rw [ho, hg, hr]
  rfl

theorem doSectorReclaim_oldest {s : State} {r p : Nat} {b : Bool} {x : FPage} (hr : r ∈ [6, 7, 9, 10, 11, 14])
    (hw : writeReady s = true) (hu : (copyPages r b).2 < (regionPages s r b).length + 32)
    (ho : oldestPage ((regionPages s r b).filter fun kv => tagRtype kv.2 == r) = some (p, x))
    (hc : reclaimWaits s (p / 32)
      (((regionPages s r b).filter fun kv => tagRtype kv.2 == r).filter fun kv => kv.1 / 32 == p / 32) = false) :
    let there := ((regionPages s r b).filter fun kv => tagRtype kv.2 == r).filter fun kv => kv.1 / 32 == p / 32
    doSectorReclaim r b s =
      addErase (if r = 14 then s else reclaimCopies s r (copyPages r b).1 (copyPages r b).2 there) (p / 32) false := by
  have h1 : (r == 6 || r == 7 || r == 9 || r == 10 || r == 11 || r == 14) = true := by simpa [or_assoc] using hr
  unfold doSectorReclaim
  refine (if_neg ?_).trans ?_
  · simp only [h1, hw, Bool.not_true, Bool.or_false, Bool.false_or, decide_eq_true_eq]
    exact Nat.not_le.mpr hu
  · rw [ho]
    exact if_neg (ne_true_of_eq_false hc)

theorem doAssayPortWrite_stores {s : State} (hg : assayGo s false = true) (h0 : 0 < assayCtl s % 4096) (h1 : assayCtl s % 4096 ≤ 3840) :
    let data := (List.range (assayCtl s % 4096)).map fun k => mget 0#8 (assayTake s).mem.dram (0x3F100 + k)
    doAssayPortWrite s = addTask (assayTake s) (plainTask .assay (recordPages 9 (assayCtl s / 65536 % 256) data)) := by
  refine (if_neg (by rw [hg]; decide)).trans (if_neg ?_)
  rw [Bool.or_eq_true, decide_eq_true_eq, decide_eq_true_eq]
  omega

theorem doAssayPortRead_found {s : State} {lead : Nat} {bs : Bytes} (hg : assayGo s true = true)
    (hr : nvRecord (assayTake s) 9 (assayCtl s / 65536 % 256) = some (lead, bs)) :
    let t := assayTake s
    doAssayPortRead s =
      assayEnd { t with mem := { t.mem with dram := putBytes (fun _ => true) t.mem.dram 0x3F100 bs } } stOK (some bs.length) := by
  refine (if_neg (by rw [hg]; decide)).trans ?_
  dsimp only
  rw [hr]

/-- Settles O46: the commands that nothing refuses, then what a bank's program or erase comes to. -/
theorem nvStore : Obligations.NvStore := by
  unfold Obligations.NvStore
  refine ⟨?_, ?_⟩
  · intro i k ws finds s s1 makes free ends a n buf
    refine ⟨fun hm hf => ⟨fun h0 h1 h2 hr hp => ?_, ?_, ?_, fun ha hw => ?_, fun ha hr => ?_, ?_, ?_, ?_⟩, fun h => ?_, ?_⟩
    · exact lands (exec_nvcRead ..) (doNvcRead_waits hm hf h0 h1 h2 hr hp)
    · intro ha hg first
      exact lands (exec_imgErase ..) (doImgErase_erases hm hf ha hg)
    · intro r h0 h256 h1 hr hp hw
      exact lands (exec_imgWrite ..) (doImgWrite_writes hm hf h0 h256 h1 hr hp hw)
    · exact lands (exec_imgClose ..) (doImgClose_writes hm hf ha hw)
    · exact lands (exec_pbRead ..) (doPbRead_reads hm hf ha hr)
    · intro lid off old others hl h0 h256 hr hp ho
      exact lands (exec_pbWrite ..) (doPbWrite_buffers hm hf hl h0 h256 hr hp ho)
    · exact lands (exec_pbFlush ..) (nvcCmd_free hm hf _)
    · exact lands (exec_scrub ..) ((nvcCmd_free hm hf _).trans (nvcEnd_ok _))
    · exact lands (exec_scrubPeriod ..) (doScrubPeriod_on h finds)
    · intro hm hf busy v
      refine ⟨?_, fun hk => ⟨?_, ?_⟩, fun h4 h16 => ⟨fun hv => ?_, fun hv => ?_, fun hv hx => ?_, fun hv hx => ?_⟩⟩
      · exact lands (exec_nvkRead ..) (nvkCmd_free hm hf _)
      · exact lands (exec_nvkInc ..) (nvk_protected hm hf hk).1
      · exact lands (exec_nvkSet ..) (nvk_protected hm hf hk).2
      · exact lands (exec_nvkInc ..) (doNvkInc_steps hm hf h4 h16 hv)
      · exact lands (exec_nvkInc ..) (doNvkInc_exhausted hm hf h4 h16 hv)
      · exact lands (exec_nvkSet ..) (doNvkSet_sets hm hf h4 h16 hv hx)
      · exact lands (exec_nvkSet ..) (doNvkSet_behind hm hf h4 h16 hv hx)
  · intro b e t w rest j bs lead p r x s makes
    refine ⟨fun he => ⟨?_, fun hn => ?_, fun hn => ?_, fun hr => ?_⟩, fun he ht hw hwin => ⟨?_, ?_, ?_⟩, fun ho hwin hr ht => ?_,
      fun ho hd => ?_, fun hg ho hr => ?_, fun hr hw => ?_, ?_⟩
    · exact lands (exec_nvEraseDone ..) (doNvEraseDone_passed he)
    · exact lands (exec_nvEraseDone ..) (doNvEraseDone_again he hn)
    · exact lands (exec_nvEraseDone ..) (doNvEraseDone_retires he hn)
    · exact lands (exec_eraseSuspend ..) (doEraseSuspend_serves he hr)
    · intro hs hrest hb s1 t1
      subst hrest
      refine lands (exec_nvProgramDone ..) ((doNvProgramDone_ends he ht hw hwin hb).trans (congrArg (serveRead · false) (if_pos ?_)))
      rw [decide_eq_true hs]
      rfl
    · intro hrest hb s1
      refine lands (exec_nvProgramDone ..) ((doNvProgramDone_ends he ht hw hwin hb).trans (congrArg (serveRead · false) (if_neg ?_)))
      rw [show (programmed t rest true).todo = rest from rfl, List.isEmpty_eq_false_iff.mpr hrest]
      exact Bool.false_ne_true
    · intro hs hb s1 t1
      refine lands (exec_nvProgramDone ..) ((doNvProgramDone_ends he ht hw hwin hb).trans (congrArg (serveRead · false) (if_pos ?_)))
      rw [decide_eq_true hs]
      rfl
    · exact lands (exec_daybookBegin _) (doDaybookBegin_writes ho hwin hr ht)
    · exact ⟨fun hfl => lands (exec_daybookCommit _) ((doDaybookCommit_done ho hd).trans (if_pos hfl)),
        fun hfl => lands (exec_daybookCommit _) ((doDaybookCommit_done ho hd).trans (if_neg (ne_true_of_eq_false hfl)))⟩
    · exact lands (exec_counterHalfSwitch ..) (doCounterHalfSwitch_switches hg ho hr)
    · intro used mine there hu hold hwait
      exact lands (exec_sectorReclaim ..) (doSectorReclaim_oldest hr hw hu hold hwait)
    · intro c n taken
      refine ⟨?_, fun hg hr => ?_⟩
      · intro hg h0 h1 data
        exact lands (exec_assayPortWrite _) (doAssayPortWrite_stores hg h0 h1)
      · exact lands (exec_assayPortRead _) (doAssayPortRead_found hg hr)

end Sys2Proof.Machine
end

/-! PROOFS. The tamper unit (R487 to R507) and the life-cycle (R518 to R522). -/

section
/-! ### O47: samples of the sensors -/

namespace Sys2Proof.Machine

open Sys2Proof

theorem doVmainGlitch_open {s : State} (h : s.pmu.mode ≠ .off) (hw : s.pmu.window = false) :
    doVmainGlitch .lasting s = sample s 0 true ∧ doVmainGlitch .ended s = sample s 0 false ∧ doVmainGlitch .brief s = detect s 0 := by
  have hn : ¬(decide (s.pmu.mode = .off) || s.pmu.window) = true := by
    rw [hw, decide_eq_false h]
    decide
  exact ⟨if_neg hn, if_neg hn, if_neg hn⟩

/-- A count of the crystal that is not within tolerance. -/
def xtalBad (s : State) (count : BitVec 16) : Bool :=
  let c := count.toNat
  let ref := fld (rd s Reg.TMP_XTAL) 31 16
  c == 0 || decide (xtalTol s * ref < ((c - ref) + (ref - c)) * 1000)

theorem xtalBad_iff {s : State} {count : BitVec 16} :
    let k := count.toNat
    let ref := fld (rd s Reg.TMP_XTAL) 31 16
    xtalBad s count = true ↔ (k = 0 ∨ xtalTol s * ref < ((k - ref) + (ref - k)) * 1000) := by
  simp only [xtalBad, Bool.or_eq_true, beq_iff_eq, decide_eq_true_eq]

theorem doXtalWindow_awake {s : State} {count : BitVec 16} (ha : awake s = true) (hb : s.boot.steps.head? ≠ some 1) :
    let c := count.toNat
    let ref := fld (rd s Reg.TMP_XTAL) 31 16
    doXtalWindow count s =
      sample (wr s Reg.TMP_XTAL (word ((if xtalBad s count then ref else xtalMove ref c) * 0x10000 + c))) 2 (xtalBad s count) := by
  refine if_neg ?_
  rw [ha, decide_eq_false hb]
  decide

theorem doLightSample_awake {s : State} (ha : awake s = true) (n : Fin 16) (lux : Nat) :
    doLightSample n lux s = sample s (4 + n.val) (decide (2 * max 1 (fld (eff s Reg.TMP_LIGHT) 7 0) < lux)) :=
  if_pos ha

theorem doShieldMismatch_awake {s : State} (ha : awake s = true) (a b : Bool) :
    let s1 := if a then bumpSat s Reg.SHD_SHIELD 15 0 else s
    doShieldMismatch a b s = sample (if b then bumpSat s1 Reg.SHD_SHIELD 31 16 else s1) 20 (a || b) :=
  if_neg (by rw [ha]; decide)

theorem doTempSample_on {s : State} (h : s.pmu.mode ≠ .off) (t : BitVec 16) :
    doTempSample t s = sample (wr s Reg.TMP_TEMP (word (0x80000000 + t.toNat))) 3
      (decide ((tempLimits s).2 * 256 < t.toInt) || decide (t.toInt < (tempLimits s).1 * 256)) :=
  if_neg h

/-- Settles O47: each detector comes to a sample of its source, and a sample of a condition to a detection that its filter counts. -/
theorem tamperSensors : Obligations.TamperSensors := by
  unfold Obligations.TamperSensors
  intro count t n c l lux a b s makes counted
  have hdet : ∀ src, disabled s src = false → detect s src = counted src := fun src h => if_neg (ne_true_of_eq_false h)
  refine ⟨fun hm hw => ?_, fun ha => ⟨fun hd => ?_, fun hd => ?_, fun hb => ?_, ?_, ?_⟩, fun hm => ?_, ?_, ?_, ?_, ?_⟩
  · obtain ⟨h1, h2, h3⟩ := doVmainGlitch_open hm hw
    exact ⟨lands (exec_vmainGlitch ..) h1, lands (exec_vmainGlitch ..) h2, fun hd => lands (exec_vmainGlitch ..) (h3.trans (hdet 0 hd))⟩
  · exact lands (exec_coreRailGlitch _) ((if_pos ha).trans (hdet 1 hd))
  · exact lands (exec_coreRailGlitch _) ((if_pos ha).trans (if_pos hd))
  · intro ref k bad
    have e := doXtalWindow_awake (count := count) ha hb
    refine ⟨fun h => lands (exec_xtalWindow ..) (e.trans ?_), fun h => lands (exec_xtalWindow ..) (e.trans ?_)⟩
    · rw [xtalBad_iff.mpr h]
      rfl
    · rw [Bool.eq_false_iff.mpr fun h1 => h (xtalBad_iff.mp h1)]
      rfl
  · exact lands (exec_lightSample ..) (doLightSample_awake ha n lux)
  · exact lands (exec_shieldMismatch ..) (doShieldMismatch_awake ha a b)
  · exact lands (exec_tempSample ..) (doTempSample_on hm t)
  · exact exec_meshMismatch ..
  · exact exec_lidSwitchSample ..
  · exact exec_caseSample ..
  · intro s1 r differs s2
    exact ⟨fun h => lands (exec_loopSample ..) (if_neg (ne_true_of_eq_false h)), fun h => lands (exec_loopSample ..) (if_pos h)⟩

end Sys2Proof.Machine
end

section
/-! ### O48: responses, zeroization and transitions -/

namespace Sys2Proof.Machine

open Sys2Proof

theorem doEvidenceBurnDone_first {s : State} {b : EvBurn} {rest : List EvBurn} (h : s.tmp.burns = b :: rest) :
    let s1 := evidBurn s (evClass b.src)
    doEvidenceBurnDone s = burnNext (setTmp s1 { s1.tmp with burns := rest }) b.level := by
  unfold doEvidenceBurnDone
  rw [h]

theorem doTmr_due {s : State} (h : lmem 3 s.pmu.due = true) :
    doTmr s = if s.pmu.window then keyClear (setPmu s { s.pmu with due := lerase 3 s.pmu.due }) else fullReset s 3 false := by
  unfold doTmr
  rw [h, Bool.not_true, if_neg Bool.false_ne_true]
  cases hw : s.pmu.window with
  | true => rw [if_pos rfl, if_pos rfl]
  | false =>
    rw [if_neg Bool.false_ne_true, if_neg Bool.false_ne_true]
    unfold dueResets
    dsimp only
    rw [h, hw, Bool.not_false, Bool.and_true, if_pos rfl]

theorem tmpRelease_locked {s : State} (hh : halted s = true) (hc : condsAbsent s = false) :
    tmpRelease s = wr s Reg.TMP_CMDSTAT (word stLOCKED) :=
  if_pos (by rw [hh, hc]; rfl)

theorem tmpRelease_ends {s : State} (hc : condsAbsent s = true) : tmpRelease s = haltEnd (wr s Reg.TMP_CMDSTAT (word stOK)) :=
  if_neg (by rw [hc]; simp)

theorem doL2holdExpiry_ends {s : State} (hh : halted s = true) (h0 : 0 < fld (eff s Reg.TMP_L2HOLD) 15 0)
    (ht : s.tmp.since + fld (eff s Reg.TMP_L2HOLD) 15 0 * 1000 ≤ s.tick) (hc : condsAbsent s = true) : doL2holdExpiry s = haltEnd s := by
  refine if_pos ?_
  rw [hh, hc, decide_eq_true ht]
  simpa using Nat.pos_iff_ne_zero.mp h0

/-- A message that passes the checks begins its transition. -/
theorem lcsMessage_begins {s s2 : State} {m : Bytes} {k : Nat} (h : lcsCheck s m = (s2, stOK, k)) :
    lcsMessage s m = (lcsBurn s2 (mfld m 6 1) (some (mfld m 5 1, mfld m 24 4)) (claimAnchor s2 (mfld m 6 1)), stOK) := by
  unfold lcsMessage
  rw [h]
  rfl

theorem lcsCmd_free {s : State} {i : Initiator} (hm : MayStore s i Reg.LCS_CMD) (hf : bit (rd s Reg.LCS_CMDSTAT) 31 = false)
    (k : State → State) : lcsCmd s i k = k s :=
  (guardW_open hm _).trans (if_neg (ne_true_of_eq_false hf))

theorem doLcsTransition_begins {s s1 s2 : State} {i : Initiator} {m : Bytes} {k : Nat} (hm : MayStore s i Reg.LCS_CMD)
    (hf : bit (rd s Reg.LCS_CMDSTAT) 31 = false) (hl : s.lcs = none)
    (hn : fld (rd s Reg.LCS_LEN) 15 0 = 0 ∨ rangeSram (rd s Reg.LCS_BUF).toNat (fld (rd s Reg.LCS_LEN) 15 0) = true)
    (hr : unitRead s 0 (rd s Reg.LCS_BUF).toNat (fld (rd s Reg.LCS_LEN) 15 0) = (s1, .inr m)) (hc : lcsCheck s1 m = (s2, stOK, k)) :
    doLcsTransition i s =
      wr (lcsBurn s2 (mfld m 6 1) (some (mfld m 5 1, mfld m 24 4)) (claimAnchor s2 (mfld m 6 1))) Reg.LCS_CMDSTAT 0x80000000#32 := by
  refine (lcsCmd_free hm hf _).trans ?_
  unfold transition
  refine (if_neg ?_).trans ((if_neg ?_).trans ?_)
  · rw [Bool.and_eq_true, decide_eq_true_eq, Bool.not_eq_true']
    rintro ⟨h0, h1⟩
    exact hn.elim h0 fun h => Bool.false_ne_true (h1.symm.trans h)
  · rw [hl]
    decide
  · rw [hr]
    dsimp only
    rw [lcsMessage_begins hc]
    rfl

theorem doLifecycleRestart_completes {s : State} {r : LcsRec} (hl : s.lcs = some r) (hb : r.burned = true)
    (hw : s.pmu.window = false) (ha : awake s = true) : doLifecycleRestart s = start (lcsComplete s r) 0x0A false := by
  unfold doLifecycleRestart
  rw [hl]
  exact if_pos (by rw [hb, hw, ha]; rfl)

/-- Settles O48: each response goes on from the stage it is in. -/
theorem tamperResponses : Obligations.TamperResponses := by
  unfold Obligations.TamperResponses
  intro i b rest m r k s s1 s2 makes released h
  refine ⟨?_, fun hz => ?_, fun hz => ?_, ?_, fun hd => ⟨fun hw => ?_, fun hw => ?_⟩, fun hm => ⟨fun hh hc => ?_, fun _ hc => ?_⟩,
    fun hh h0 ht hc => ?_, ?_, fun hl hb hw ha => ?_⟩
  · intro hb t1
    exact lands (exec_evidenceBurnDone _) (doEvidenceBurnDone_first hb)
  · exact lands (exec_zeroizeBurnDone _) (if_pos hz)
  · exact lands (exec_zeroizeEraseDone _) (if_pos hz)
  · intro hz t1 t2
    exact lands (exec_zeroizeDone _) (if_pos hz)
  · exact lands (exec_tmr _) ((doTmr_due hd).trans (if_neg (ne_true_of_eq_false hw)))
  · exact lands (exec_tmr _) ((doTmr_due hd).trans (if_pos hw))
  · exact lands (exec_tmpRelease ..) ((guardW_open hm _).trans (tmpRelease_locked hh hc))
  · exact lands (exec_tmpRelease ..) ((guardW_open hm _).trans (tmpRelease_ends hc))
  · exact lands (exec_l2holdExpiry _) (doL2holdExpiry_ends hh h0 ht hc)
  · intro hm hf hl a n hn hr hc
    exact lands (exec_lcsTransition ..) (doLcsTransition_begins hm hf hl hn hr hc)
  · exact lands (exec_lifecycleRestart _) (doLifecycleRestart_completes hl hb hw ha)

end Sys2Proof.Machine
end

/-! PROOFS. The boot ROM (R514 to R517) and what leads to a reset (R510 to R513). -/

section
/-! ### O49: the steps of a start -/

namespace Sys2Proof.Machine

open Sys2Proof

theorem notStep {s : State} {k : Nat} (h : atStep s k = true) : ¬(!atStep s k) = true := by
  rw [h]
  decide

theorem doBootRails_fault {s : State} (h : atStep s 1 = true) (count : BitVec 16) : doBootRails false count s = raise s 1 3 :=
  (if_neg (notStep h)).trans (if_pos rfl)

theorem doBootRails_up {s : State} (h : atStep s 1 = true) (count : BitVec 16) :
    let s1 := doBankClearDone (wrBit (wrBit s Reg.PMU_RAILS 1 true) (hdr 0 Off.STAT) 8 true)
    let s2 := wr s1 Reg.TMP_XTAL (word (count.toNat * 0x10001))
    doBootRails true count s = setBoot s2 { s2.boot with steps := s2.boot.steps.drop 2 } :=
  (if_neg (notStep h)).trans (if_neg (by decide))

theorem doBootSelftest_step {s : State} (h : atStep s 3 = true) (fails : List (Fin 256)) :
    let s1 := doBankClearDone s
    let s2 := fails.foldl (fun s p => if hasTest p.val then setOos s p.val true else s) s1
    doBootSelftest fails s = beforePuf (stepDone (if s2.vlt.rngStart && !outOfService s2 6 then doDrbgReseedDone s2 else s2)) :=
  if_neg (notStep h)

/-- What BOOT_LIFECYCLE comes to. -/
def lifecycled (s : State) : State :=
  let s1 := setBoot s { s.boot with steps := s.boot.steps.drop 2 }
  let s2 := match s1.lcs with
    | some r => if r.burned then lcsComplete s1 r else { s1 with lcs := none }
    | none => s1
  let b := match s2.vlt.helper with | some h => !h.okA && h.okB | none => false
  let s3 := setBoot s2 { s2.boot with flags := s2.boot.flags + 16 * b2n b }
  if s3.boot.steps.head? = some 6 then s3 else vaultService s3

theorem doBootLifecycle_step {s : State} (h : atStep s 4 = true) (hp : pufEnded s = true) (hz : s.tmp.zero = .idle) :
    doBootLifecycle s = lifecycled s :=
  if_neg (by rw [h, hp, decide_eq_true hz]; decide)

theorem doBootNvRecovery_step {s : State} (h : atStep s 6 = true) :
    let unclean := if s.nv.started then !s.nv.clean else anyCheckpoint s
    let s1 := wr s Reg.NVC_RECOV (word (b2n unclean * 2 ^ 30))
    let s2 := if writeReady s1 then recoverWrites s1 else setNv s1 { s1.nv with owed := true }
    let s3 := setBoot s2 { s2.boot with
      flags := s2.boot.flags + b2n unclean + 4 * b2n (!s.nv.cut.isEmpty) + 8 * b2n (openBegin s s.nv.dseq).isSome }
    let r := s3.cpt.lockRec
    let s4 := showPseq s3 r.pseq r.fails r.pstat
    doBootNvRecovery s = vaultService (stepDone (if r.hash.isSome then wrBit s4 Reg.CPT_STAT 28 true else s4)) :=
  if_neg (notStep h)

theorem doBootImageSelect_none {s : State} (h : atStep s 7 = true) (hi : selectImage s 0 = none) :
    doBootImageSelect s = romEnter s 7 3 := by
  refine (if_neg (notStep h)).trans ?_
  rw [hi]

theorem doBootImageSelect_some {s : State} {c : Bool × Bool} (h : atStep s 7 = true) (hi : selectImage s 0 = some c) :
    let m := (imageOf s 0 c.1).getD []
    let s1 := wrWords (loadSup (noteOthers (noteImage s 0 c)) m) Reg.SYS_SUPHASH 8 (leNat (sha256 m))
    doBootImageSelect s = stepDone (if s.boot.steps.drop 1 == [8, 9] then loadAssay s1 else s1) := by
  refine (if_neg (notStep h)).trans ?_
  rw [hi]

theorem doHandOver_step {s : State} (h : atStep s 9 = true) (hz : s.tmp.zero = .idle) :
    let m := (imageOf s 0 (bit (rd s Reg.SYS_IMGSEL) 0)).getD []
    let h := (List.range 8).foldl (fun n k => n + (rd s (Reg.SYS_SUPHASH + 4 * k)).toNat * 2 ^ (32 * k)) 0
    doHandOver s =
      if !s.boot.warm then passControl s
      else if leNat (sha256 m) = h then passControl (loadSup s m)
      else pufStart (setBoot s { s.boot with steps := [4, 5, 7, 9], warm := false }) :=
  if_neg (by rw [h, decide_eq_true hz]; decide)

/-! The commands of ROM service. -/

section
variable {s : State} {a b c : Word} {op : Nat} (hr : s.boot.rom = true) (hmail : s.boot.mail = [a, b, c]) (hl : s.pcie.linkUp = true)
  (hb : s.pcie.bme = true) (hop : fld c 31 24 = op)
include hr hmail hl hb hop

theorem romCmd_reads (bs : Bytes) (k : State → Bytes → State) :
    romCmd s op (.data bs) k = k s ((bs ++ zeros (fld c 23 0)).take (fld c 23 0)) := by
  unfold romCmd
  rw [hr, hmail]
  exact if_neg (by rw [hl, hb]; simp [hop])

theorem romCmd_timeout (k : State → Bytes → State) : romCmd s op .timeout k = romPost s stTIMEOUT := by
  unfold romCmd
  rw [hr, hmail]
  exact if_neg (by rw [hl, hb]; simp [hop])

end

section
variable {s : State} {a b c : Word} (hr : s.boot.rom = true) (hmail : s.boot.mail = [a, b, c]) (hl : s.pcie.linkUp = true)
  (hb : s.pcie.bme = true) {bs m : Bytes} (hm : m = (bs ++ zeros (fld c 23 0)).take (fld c 23 0))
include hr hmail hl hb hm

theorem doRomImgErase_works (hop : fld c 31 24 = 1) (h1 : m.length = 1) (h4 : mfld m 0 1 < 4) :
    doRomImgErase (.data bs) s = romNvc s fun s => imgErase s (mfld m 0 1) := by
  refine (romCmd_reads hr hmail hl hb hop bs _).trans ?_
  rw [← hm]
  refine if_neg ?_
  rw [Bool.or_eq_true, decide_eq_true_eq, decide_eq_true_eq]
  omega

theorem doRomImgWrite_works {ws : List NvWrite} (hop : fld c 31 24 = 2) (h0 : mfld m 0 1 < 4) (h1 : mfld m 1 1 = 0) (h4 : 4 < m.length)
    (h256 : (m.length - 4) % 256 = 0) (hmax : m.length - 4 ≤ 4096) (hw : imgPages s (mfld m 0 1) (mfld m 2 2) (m.drop 4) = some ws) :
    let r := mfld m 0 1 + 1
    doRomImgWrite (.data bs) s = romNvc s fun s =>
      nvcWrites (setNv s { s.nv with seqs := mset 0 s.nv.seqs r (mget 0 s.nv.seqs r + (m.length - 4) / 256) }) r ws := by
  refine (romCmd_reads hr hmail hl hb hop bs _).trans ?_
  rw [← hm]
  refine (if_neg ?_).trans ?_
  · simp only [Bool.or_eq_true, decide_eq_true_eq]
    omega
  · rw [hw]

theorem doRomImgClose_works {ws : List NvWrite} (hop : fld c 31 24 = 3) (h8 : m.length = 8) (h0 : mfld m 0 1 < 4) (h1 : mfld m 1 3 = 0)
    (hw : imgClose s (mfld m 0 1) (mfld m 4 4) = some ws) :
    doRomImgClose (.data bs) s = romNvc s fun s => nvcWrites s (mfld m 0 1 + 1) ws := by
  refine (romCmd_reads hr hmail hl hb hop bs _).trans ?_
  rw [← hm]
  refine (if_neg ?_).trans ?_
  · simp only [Bool.or_eq_true, decide_eq_true_eq]
    omega
  · rw [hw]

theorem doRomUpdate_works (hop : fld c 31 24 = 4) (hv : vaultUp s = true) :
    let q : VReq := { src := .page, dom := 0, op := 1, args := [m.length, 0, 0, 0], buf := 0, obuf := 0, olen := 0 }
    doRomUpdate (.data bs) s = romTick (romWork (vUpdateMsg (wr s Reg.VLT_CMDSTAT 0x80000000#32) q m) 1#32) := by
  refine (romCmd_reads hr hmail hl hb hop bs _).trans ?_
  rw [← hm]
  exact if_neg (by rw [hv]; decide)

theorem doRomTransition_begins {s1 : State} (hop : fld c 31 24 = 5) (hv : vaultUp s = true) (hlcs : s.lcs = none)
    (hmsg : lcsMessage s m = (s1, stOK)) : doRomTransition (.data bs) s = setBoot s1 { s1.boot with mail := [] } := by
  refine (romCmd_reads hr hmail hl hb hop bs _).trans ?_
  rw [← hm]
  refine (if_neg (by rw [hv]; decide)).trans ((if_neg (by rw [hlcs]; decide)).trans ?_)
  rw [hmsg]
  rfl

end

theorem doRomRestart_restarts {s : State} {a b c : Word} (hr : s.boot.rom = true) (hmail : s.boot.mail = [a, b, c])
    (hop : fld c 31 24 = 6) : doRomRestart s = start s 8 false := by
  unfold doRomRestart
  rw [hr, hmail]
  exact if_pos hop

/-- Settles O49: each step of the path at its turn, and each command of ROM service with its words in the mailbox. -/
theorem bootSteps : Obligations.BootSteps := by
  unfold Obligations.BootSteps
  refine ⟨?_, ?_⟩
  · intro count fails c s makes done
    refine ⟨fun h => ⟨?_, ?_⟩, ?_, ?_, ?_, fun h => ⟨fun hi => ?_, ?_⟩, ?_, ?_⟩
    · exact lands (exec_bootRails ..) (doBootRails_fault h count)
    · exact lands (exec_bootRails ..) (doBootRails_up h count)
    · intro h s1 s2
      exact lands (exec_bootSelftest ..) (doBootSelftest_step h fails)
    · intro h hp hz
      exact lands (exec_bootLifecycle _) (doBootLifecycle_step h hp hz)
    · intro h
      exact lands (exec_bootNvRecovery _) (doBootNvRecovery_step h)
    · exact lands (exec_bootImageSelect _) (doBootImageSelect_none h hi)
    · intro hi m s1
      exact lands (exec_bootImageSelect _) (doBootImageSelect_some h hi)
    · intro h
      exact lands (exec_bootRestore _) (if_neg (notStep h))
    · intro h hz m n
      have e := doHandOver_step h hz
      refine ⟨fun hw => ?_, fun hw hh => ?_, fun hw hh => ?_⟩
      · exact lands (exec_handOver _) (e.trans (if_pos (by rw [hw]; rfl)))
      · exact lands (exec_handOver _) (e.trans ((if_neg (by rw [hw]; decide)).trans (if_pos hh)))
      · exact lands (exec_handOver _) (e.trans ((if_neg (by rw [hw]; decide)).trans (if_neg hh)))
  · intro bs a b c ws s s1 makes op m unit posted hr hmail hl hb
    refine ⟨fun hop h1 h4 => ?_, fun hop => ?_, ?_, fun hop h8 h0 h1 hw => ?_, ?_, fun hop hv hlcs hmsg => ?_, fun hop => ?_⟩
    · exact lands (exec_romImgErase ..) (doRomImgErase_works hr hmail hl hb (bs := bs) rfl hop h1 h4)
    · exact lands (exec_romImgErase ..) (romCmd_timeout hr hmail hl hb hop _)
    · intro hop h0 h1 h4 h256 hmax hw r
      exact lands (exec_romImgWrite ..) (doRomImgWrite_works hr hmail hl hb (bs := bs) rfl hop h0 h1 h4 h256 hmax hw)
    · exact lands (exec_romImgClose ..) (doRomImgClose_works hr hmail hl hb (bs := bs) rfl hop h8 h0 h1 hw)
    · intro hop hv q
      exact lands (exec_romUpdate ..) (doRomUpdate_works hr hmail hl hb (bs := bs) rfl hop hv)
    · exact lands (exec_romTransition ..) (doRomTransition_begins hr hmail hl hb (bs := bs) rfl hop hv hlcs hmsg)
    · exact lands (exec_romRestart _) (doRomRestart_restarts hr hmail hop)

end Sys2Proof.Machine
end

/-! PROOFS. Resets and power (R510 to R542). -/

section
/-! ### O50: what leads to a reset -/

namespace Sys2Proof.Machine

open Sys2Proof

theorem doPor_starts {s : State} (hw : s.pmu.window = false) :
    doPor s = start (setVmain s true) (if s.pmu.mode = .off ∧ s.boot.code = 2 then 2 else 1) false := by
  have h : (decide (s.pmu.mode = .off) && s.boot.code == 2) = decide (s.pmu.mode = .off ∧ s.boot.code = 2) := by
    rw [Bool.eq_iff_iff]
    simp
  unfold doPor
  rw [hw, if_neg Bool.false_ne_true, h]
  simp only [decide_eq_true_eq]

theorem doVmainReturn_back {s : State} (hw : s.pmu.window = true) (hv : s.pmu.vmain = false) :
    doVmainReturn s = setPmu (setVmain s true) { (setVmain s true).pmu with back := true } :=
  if_pos (by rw [hw, hv]; rfl)

theorem doPinReset_starts {s : State} (hw : s.pmu.window = false) (hv : s.pmu.vmain = true) : doPinReset s = start s 8 false := by
  unfold doPinReset
  rw [hw, hv]
  exact if_neg (by decide)

theorem doWdrS_asks {s : State} (h : sysWdOn s = true ∨ lmem 4 s.pmu.due = true) : doWdrS s = dueResets (askReset s 4) := by
  unfold doWdrS
  rw [if_pos (by rwa [Bool.or_eq_true])]

theorem sysKick_kicks {s : State} {v : Word} (hv : v = 0x4B1C#32) :
    sysKick s v = { s with boot := { s.boot with kickAt := s.tick } } := by
  unfold sysKick
  rw [if_pos hv]

theorem sysKick_expires {s : State} {v : Word} (hv : v ≠ 0x4B1C#32) (hon : sysWdOn s = true) :
    sysKick s v = dueResets (askReset s 4) := by
  unfold sysKick
  rw [if_neg hv, if_pos hon]

theorem sysSwr_asks {s : State} {i : Initiator} {v : Word} (hv : v = 0xA55A#32) : sysSwr s i v = dueResets (askReset s 5) := by
  unfold sysSwr
  rw [if_pos hv]

/-- Settles O50: the supply, the pin, the watchdogs and software, each by the command that it gives. -/
theorem resets : Obligations.Resets := by
  unfold Obligations.Resets
  intro i v s makes vmain asked on
  refine ⟨fun hw => ?_, fun hw hv => ⟨?_, ?_⟩, fun hw => ?_, fun hw hv => ?_, fun hon => ?_, fun h => ?_,
    fun hm => ⟨fun hv => ?_, fun hv hon => ?_⟩, fun hm hv => ?_, ?_, ?_, ?_, ?_⟩
  · exact lands (exec_por _) (doPor_starts hw)
  · exact lands (exec_por _) ((if_pos hw).trans (doVmainReturn_back hw hv))
  · exact lands (exec_vmainReturn _) (doVmainReturn_back hw hv)
  · exact lands (exec_hur _) (if_pos hw)
  · exact lands (exec_pinReset _) (doPinReset_starts hw hv)
  · exact lands (exec_supervisorWatchdogWarn _) (if_pos hon)
  · exact lands (exec_wdrS _) (doWdrS_asks h)
  · exact lands (exec_sysWdkick ..) ((guardW_open hm _).trans (sysKick_kicks hv))
  · exact lands (exec_sysWdkick ..) ((guardW_open hm _).trans (sysKick_expires hv hon))
  · exact lands (exec_swr ..) ((guardW_open hm _).trans (sysSwr_asks hv))
  · exact exec_pllLockLost _
  · exact exec_railFault _
  · exact exec_vbatApplied _
  · exact exec_vbatLoss _

end Sys2Proof.Machine
end

section
/-! ### O51: the power states and the service window -/

namespace Sys2Proof.Machine

open Sys2Proof

theorem pmuCmd_ends {s t : State} {i : Initiator} {k : State → State × Option Nat} {st : Nat} (hm : MayStore s i Reg.PMU_CMD)
    (hf : bit (rd s Reg.PMU_CMDSTAT) 31 = false) (hk : k s = (t, some st)) : pmuCmd s i k = wr t Reg.PMU_CMDSTAT (word st) := by
  refine (guardW_open hm _).trans ((if_neg (ne_true_of_eq_false hf)).trans ?_)
  rw [hk]

theorem pmuCmd_goes {s t : State} {i : Initiator} {k : State → State × Option Nat} (hm : MayStore s i Reg.PMU_CMD)
    (hf : bit (rd s Reg.PMU_CMDSTAT) 31 = false) (hk : k s = (t, none)) : pmuCmd s i k = t := by
  refine (guardW_open hm _).trans ((if_neg (ne_true_of_eq_false hf)).trans ?_)
  rw [hk]

theorem pmuRun_leaves {s : State} (h : s.pmu.mode = .doze ∨ s.pmu.mode = .idle) :
    pmuRun s = setMode (wrFld s Reg.PMU_STATE 10 8 0) .run := by
  unfold pmuRun
  dsimp only
  rw [wrFld_pmu]
  rcases h with h | h <;> rw [h]

/-- Every port to DISABLED, without a BYE. -/
def portsLeave (s : State) : State :=
  [0, 1, 2, 3].foldl (fun s p => if (getPort s p).st = .disabled then s else leavePort s p .disabled) s

theorem doPmuDoze_dozes {s : State} {i : Initiator} (hm : MayStore s i Reg.PMU_CMD) (hf : bit (rd s Reg.PMU_CMDSTAT) 31 = false)
    (hw : s.pmu.window = false) :
    doPmuDoze i s = wr (setMode (wrFld (portsLeave s) Reg.PMU_STATE 10 8 2) .doze) Reg.PMU_CMDSTAT (word stOK) := by
  refine pmuCmd_ends hm hf ?_
  rw [hw, if_neg Bool.false_ne_true]
  rfl

theorem doPmuOff_opens {s : State} {i : Initiator} (hm : MayStore s i Reg.PMU_CMD) (hf : bit (rd s Reg.PMU_CMDSTAT) 31 = false)
    (hw : s.pmu.window = false) : doPmuOff i s = wr (windowOpen s) Reg.PMU_CMDSTAT (word stOK) := by
  refine pmuCmd_ends hm hf ?_
  rw [hw, if_neg Bool.false_ne_true]

theorem sleepAsk_begins {s : State} (hw : s.pmu.window = false) (hl : lifeBusy s = false) (he : s.pmu.entering = false)
    (ha : awake s = true) :
    let s1 := setPmu (wrFld s Reg.PMU_STATE 10 8 3) { s.pmu with entering := true }
    sleepAsk s = (sleepPages.foldl (fun s p => setQuiesce s p true) (wr s1 Reg.PMU_CMDSTAT 0x80000000#32), none) := by
  unfold sleepAsk
  rw [hw, hl, he, ha]
  exact if_neg (by decide)

theorem sleepAbandon_entering {s : State} (he : s.pmu.entering = true) :
    let t := sleepPages.foldl (fun s p => setQuiesce s p false) (setPmu s { s.pmu with entering := false })
    sleepAbandon s = wr (pmuRun t) Reg.PMU_CMDSTAT (word stABORT) :=
  if_neg (by rw [he]; decide)

section
variable {s : State} (he : s.pmu.entering = true)
  (hp : (sleepPages.all fun p => bit (rd s (hdr p Off.STAT)) 2 && !pageBusy s p) = true) (ht : s.nv.tasks = []) (hx : s.nv.erases = [])
include he hp ht hx

/-- The units rest, so that SLEEP entry goes on. -/
theorem sleepRests : ¬(!s.pmu.entering || !(sleepPages.all fun p => bit (rd s (hdr p Off.STAT)) 2 && !pageBusy s p) ||
    !s.nv.tasks.isEmpty || !s.nv.erases.isEmpty) = true := by
  rw [he, hp, ht, hx]
  decide

theorem doSleepEnter_flushes (hb : s.nv.bufs ≠ []) :
    doSleepEnter s = setNv s { s.nv with tasks := [plainTask .pb (s.nv.bufs.map fun b => .page 11 b.1 3 b.2)] } := by
  refine (if_neg (sleepRests he hp ht hx)).trans ((if_pos ?_).trans ?_)
  · rw [List.isEmpty_eq_false_iff.mpr hb]
    rfl
  · unfold addTask
    rw [ht, List.nil_append]

theorem doSleepEnter_sleeps {s1 s2 : State} (hb : s.nv.bufs = []) (h0 : coreRests s.ac0 = true) (h1 : coreRests s.ac1 = true)
    (hm : coreRests s.mc = true) (hs1 : s1 = pcieLost (portsLeave s)) (hs2 : s2 = sleepLoses (wr s1 Reg.PMU_CMDSTAT 0#32)) :
    doSleepEnter s =
      setMode (setPmu s2 { s2.pmu with entering := false, slept := 0, wakeAt := (heapRoot s1 0).map fun p => postCmp s1 p }) .sleep := by
  have hflush : ¬(!s.nv.bufs.isEmpty) = true := by
    rw [hb]
    decide
  have hcores : ¬(!(coreRests s.ac0 && coreRests s.ac1 && coreRests s.mc)) = true := by
    rw [h0, h1, hm]
    decide
  subst hs2 hs1
  unfold doSleepEnter portsLeave
  rw [if_neg (sleepRests he hp ht hx), if_neg hflush, if_neg hcores]

end

/-- Whether every core waits or is held. -/
def coresRest (s : State) : Bool :=
  let rest (k : Core) : Bool := decide (k.run = .waiting) || decide (k.run = .held)
  rest s.ac0 && rest s.ac1 && rest s.mc

theorem coresRest_iff (s : State) :
    coresRest s = true ↔
      ((s.ac0.run = .waiting ∨ s.ac0.run = .held) ∧ (s.ac1.run = .waiting ∨ s.ac1.run = .held) ∧ (s.mc.run = .waiting ∨ s.mc.run = .held)) := by
  simp only [coresRest, Bool.and_eq_true, Bool.or_eq_true, decide_eq_true_eq, and_assoc]

theorem doIdleEntry_idles {s : State} (hm : s.pmu.mode = .run) (h : coresRest s = true) : doIdleEntry s = setMode s .idle := by
  unfold doIdleEntry
  rw [hm]
  exact if_pos h

theorem doIdleEntry_runs {s : State} (hm : s.pmu.mode = .idle) (h : ¬coresRest s = true) : doIdleEntry s = setMode s .run := by
  unfold doIdleEntry
  rw [hm]
  exact if_neg h

/-- Whether PMU_WAKETIME has been reached with the timer enabled. -/
def wakeDue (s : State) : Bool := bit (rd s Reg.PMU_WAKECFG) 0 && decide (rd64 s Reg.PMU_WAKETIME ≤ rd64 s Reg.AXS_RTC)

theorem wakeDue_of {s : State} (h : bit (rd s Reg.PMU_WAKECFG) 0 = true ∧ rd64 s Reg.PMU_WAKETIME ≤ rd64 s Reg.AXS_RTC) :
    wakeDue s = true := by
  unfold wakeDue
  rw [h.1, decide_eq_true h.2]
  rfl

theorem doWakeTimer_timer {s : State} (ht : wakeDue s = true) (hm : s.pmu.mode ≠ .off) (hw : s.pmu.wakeAt = none) :
    doWakeTimer s = wakeFrom s 1 := by
  refine (if_neg (by rwa [decide_eq_true_eq])).trans ?_
  rw [hw]
  exact if_pos ht

theorem doWakeTimer_off {s : State} (ht : wakeDue s = true) (hm : s.pmu.mode = .off) (hv : s.pmu.vmain = true) :
    doWakeTimer s = start s 7 false := by
  have h : (wakeDue s && s.pmu.vmain) = true := by
    rw [ht, hv]
    rfl
  unfold wakeDue at h
  unfold doWakeTimer
  dsimp only
  rw [if_pos (decide_eq_true hm), if_pos h]

theorem doWakeTimer_calendar {s : State} {c : Nat} (hm : s.pmu.mode ≠ .off) (hw : s.pmu.wakeAt = some c)
    (hc : c ≤ rd64 s Reg.AXS_RTC) : doWakeTimer s = wakeFrom s 0 := by
  refine (if_neg (by rwa [decide_eq_true_eq])).trans ?_
  rw [hw]
  exact if_pos hc

theorem doPmuWake_waking {s : State} (h : s.pmu.waking = true) :
    let s1 := wr (raise (sclkBack s) 1 5) Reg.MEM_CLEARING 0x3FFFFFFF#32
    doPmuWake s = { s1 with
      ac0 := { Core.zero with run := .running }
      boot := { s1.boot with steps := [3, 9], code := 9, rom := false, mail := [], flags := 0, warm := true, rails := s1.tick } } := by
  unfold doPmuWake
  rw [h]
  exact if_neg (by decide)

/-- The supply is gone, and no return of it is noted. -/
def powerGone (s : State) : State := setPmu (setVmain s false) { (setVmain s false).pmu with back := false }

theorem doPowerFail_supplied {s : State} (h : s.pmu.vmain = true) :
    doPowerFail s = if s.pmu.window || decide (s.pmu.mode = .off) then powerGone s else windowOpen (powerGone s) := by
  have hp : (powerGone s).pmu.window = s.pmu.window ∧ (powerGone s).pmu.mode = s.pmu.mode := ⟨rfl, rfl⟩
  unfold doPowerFail
  rw [h, Bool.not_true, if_neg Bool.false_ne_true, ← hp.1, ← hp.2]
  rfl

theorem doWindowComplete_clean {s : State} (hw : s.pmu.window = true) (hd : windowDone s = true) (ho : s.pmu.winOk = true)
    (hwh : s.pmu.whole = true) (hdirty : s.intake.dirty = []) :
    let s1 := bumpSat (dbEntry s 4 4 0 0) Reg.PMU_WINSTAT 23 16
    doWindowComplete s = windowEnd (setNv s1 { s1.nv with clean := true }) true false := by
  unfold doWindowComplete
  rw [hw, hd, ho, hwh, hdirty]
  exact (if_neg (by decide)).trans (if_pos rfl)

theorem doWindowComplete_unclean {s : State} (hw : s.pmu.window = true) (hd : windowDone s = true)
    (h : s.pmu.winOk = false ∨ s.pmu.whole = false ∨ s.intake.dirty ≠ []) : doWindowComplete s = windowEnd s false false := by
  have hn : ¬(s.pmu.winOk && s.pmu.whole && s.intake.dirty.isEmpty) = true := by
    rw [Bool.and_eq_true, Bool.and_eq_true, List.isEmpty_iff]
    rintro ⟨⟨h1, h2⟩, h3⟩
    rcases h with h | h | h
    · exact Bool.false_ne_true (h.symm.trans h1)
    · exact Bool.false_ne_true (h.symm.trans h2)
    · exact h h3
  unfold doWindowComplete
  rw [hw, hd]
  exact (if_neg (by decide)).trans (if_neg hn)

/-- Settles O51: the PMU's commands, SLEEP entry and the wakes, and the window's opening and end. -/
theorem powerStates : Obligations.PowerStates := by
  unfold Obligations.PowerStates
  intro i s makes ok portsDown rests all rtc timer
  have hall : coresRest s = true ↔ all := coresRest_iff s
  refine ⟨fun hm hf => ⟨fun h => ?_, fun hw => ?_, ?_, fun hw => ?_⟩, fun hm he => ?_, ?_, fun he hp ht hx => ⟨fun hb => ?_, ?_⟩,
    fun hm h => ?_, fun hm h => ?_, fun ht => ⟨fun hm hw => ?_, fun hm hv => ?_⟩, fun c hm hw hc => ?_, ?_, ?_,
    fun hw hd => ⟨?_, fun h => ?_⟩⟩
  · exact lands (exec_pmuRun ..) ((pmuCmd_ends hm hf rfl).trans (congrArg (wr · Reg.PMU_CMDSTAT (word stOK)) (pmuRun_leaves h)))
  · exact lands (exec_pmuDoze ..) (doPmuDoze_dozes hm hf hw)
  · intro hw hl he ha s1
    exact lands (exec_pmuSleep ..) (pmuCmd_goes hm hf (sleepAsk_begins hw hl he ha))
  · exact lands (exec_pmuOff ..) (doPmuOff_opens hm hf hw)
  · exact lands (exec_pmuAbort ..) ((guardW_open hm _).trans (if_neg (ne_true_of_eq_false he)))
  · intro hm he t
    exact lands (exec_pmuAbort ..) ((guardW_open hm _).trans ((if_pos he).trans (sleepAbandon_entering he)))
  · exact lands (exec_sleepEnter _) (doSleepEnter_flushes he hp ht hx hb)
  · intro hb h0 h1 hm s1 s2
    exact lands (exec_sleepEnter _) (doSleepEnter_sleeps he hp ht hx hb h0 h1 hm rfl rfl)
  · exact lands (exec_idleEntry _) (doIdleEntry_idles hm (hall.mpr h))
  · exact lands (exec_idleEntry _) (doIdleEntry_runs hm fun h1 => h (hall.mp h1))
  · exact lands (exec_wakeTimer _) (doWakeTimer_timer (wakeDue_of ht) hm hw)
  · exact lands (exec_wakeTimer _) (doWakeTimer_off (wakeDue_of ht) hm hv)
  · exact lands (exec_wakeTimer _) (doWakeTimer_calendar hm hw hc)
  · intro hw s1
    exact lands (exec_pmuWake _) (doPmuWake_waking hw)
  · intro hv s1 s2
    refine ⟨fun h => ?_, fun hw hm => ?_⟩
    · exact lands (exec_powerFail _) ((doPowerFail_supplied hv).trans (if_pos (by rwa [Bool.or_eq_true, decide_eq_true_eq])))
    · exact lands (exec_powerFail _) ((doPowerFail_supplied hv).trans (if_neg (by rw [hw, decide_eq_false hm]; decide)))
  · intro ho hwh hdirty s1
    exact lands (exec_windowComplete _) (doWindowComplete_clean hw hd ho hwh hdirty)
  · exact lands (exec_windowComplete _) (doWindowComplete_unclean hw hd h)

end Sys2Proof.Machine
end

section
/-! ### O52: the hold-up reserve and the load switches -/

namespace Sys2Proof.Machine

open Sys2Proof

theorem doHuWriteReady_reaches {s : State} {mv : BitVec 16} (hv : s.pmu.vmain = true) (ht : fld (rd s Reg.PMU_HUTHR) 15 0 ≤ mv.toNat) :
    doHuWriteReady mv s = huReady (wrFld s Reg.PMU_HUSTAT 15 0 mv.toNat) :=
  if_pos (by rw [hv, decide_eq_true ht]; rfl)

theorem doHuChargeComplete_full {s : State} (hv : s.pmu.vmain = true) (hb : bit (rd s Reg.PMU_HUSTAT) 29 = true) (mv : BitVec 16) :
    let s1 := wrBit (wrFld s Reg.PMU_HUSTAT 15 0 5000) Reg.PMU_HUSTAT 29 false
    doHuChargeComplete none s = huReady s1 ∧ doHuChargeComplete (some mv) s = huReady (huCap s1 mv.toNat) := by
  have h : ¬(!s.pmu.vmain || !bit (rd s Reg.PMU_HUSTAT) 29) = true := by
    rw [hv, hb]
    decide
  exact ⟨if_neg h, if_neg h⟩

theorem doHuCapTest_begins {s : State} (hc : bit (rd s Reg.PMU_HUCFG) 31 = true) (hv : s.pmu.vmain = true) (hw : s.pmu.window = false)
    (h5 : huVolt s = 5000) (hb : bit (rd s Reg.PMU_HUSTAT) 28 = false) (hp : pageBusy s 0x48 = false) :
    doHuCapTest s = wrBit (wrBit s Reg.PMU_HUSTAT 28 true) Reg.PMU_HUSTAT 29 false := by
  refine if_pos ?_
  rw [hc, hv, hw, decide_eq_true h5, hb, hp]
  rfl

/-- The reserve after its test, at the voltage that it has fallen to. -/
def huTested (s : State) (fall : BitVec 16) : State :=
  wrFld (wrBit (wrBit s Reg.PMU_HUSTAT 28 false) Reg.PMU_HUSTAT 29 true) Reg.PMU_HUSTAT 15 0 (5000 - fall.toNat)

theorem doHuCapTestDone_ends {s : State} {fall : BitVec 16} (h : bit (rd s Reg.PMU_HUSTAT) 28 = true) :
    let s1 := huTested s fall
    doHuCapTestDone fall s =
      if fall = 0#16 then huCap { s1 with fresh := s1.fresh + 1 } (Config.free 16 s1.fresh).toNat
      else huCap s1 (100000 / fall.toNat) :=
  if_neg (by rw [h]; decide)

/-- The switches whose order is vetoed. -/
def lswVetoes (s : State) (v : Word) : List Nat := lswAll.filter fun n => lswVeto s n (lswAsk v n)

/-- A supervisor order as far as it is not vetoed, and the report of it with a status. -/
def lswReported (s : State) (v : Word) (st : Nat) : State :=
  let veto := lswVetoes s v
  let t := lswAll.foldl (fun s n => if lmem n veto then s else lswSup s n (lswAsk v n)) s
  wr t Reg.PMU_LSWSTAT (word (0x80000000 + fld v 29 24 * 0x1000000 + st * 0x10000 + veto.foldl (fun m n => m + 2 ^ n) 0 * 0x100 +
    fld (rd t Reg.LSW_STAT) 3 0))

theorem doPmuLswreq_reports {s : State} {i : Initiator} {v : Word} (hm : MayStore s i Reg.PMU_LSWREQ) :
    let t := lswReported s v (if (lswVetoes s v).isEmpty then stOK else stPROT)
    doPmuLswreq i v s = lswEvents s (if (lswVetoes s v).isEmpty then t else raise t 2 8) :=
  guardW_open hm _

theorem doLswMaxonExpiry_opens {s : State} {n : Fin 4} (hb : bit (rd s Reg.LSW_STAT) (16 + n.val) = true)
    (h0 : fld (lswPol s n.val) 15 0 ≠ 0) : doLswMaxonExpiry n s = lswEvents s (lswOpen s n.val) :=
  if_pos (by rw [hb]; simpa using h0)

theorem doLswPolWrite_stores {s : State} {i : Initiator} {n : Fin 4} (hm : MayStore s i (Reg.LSW_POL + 4 * n.val)) (v : Word) :
    doLswPolWrite i n v s = storeReg s i (Reg.LSW_POL + 4 * n.val) v := by
  unfold doLswPolWrite
  exact guardW_open hm _

/-- Settles O52: the reserve's measurements, then the orders and trips of the switches. -/
theorem suppliesAndSwitches : Obligations.SuppliesAndSwitches := by
  unfold Obligations.SuppliesAndSwitches
  intro i n mv fall v s makes volts measured thr h lsw
  refine ⟨fun hv ht => ?_, fun ht => ?_, ?_, fun hc hv hw h5 hb hp => ?_, ?_, ?_, ?_, fun hb h0 => ?_, ?_, fun hm => ?_, ?_, ?_⟩
  · exact lands (exec_huWriteReady ..) (doHuWriteReady_reaches hv ht)
  · exact lands (exec_huBelowThreshold ..) (if_pos ht)
  · intro hv hb s1
    obtain ⟨h1, h2⟩ := doHuChargeComplete_full hv hb mv
    exact ⟨lands (exec_huChargeComplete ..) h1, lands (exec_huChargeComplete ..) h2⟩
  · exact lands (exec_huCapTest _) (doHuCapTest_begins hc hv hw h5 hb hp)
  · intro hb s1
    exact ⟨fun hf => lands (exec_huCapTestDone ..) ((doHuCapTestDone_ends hb).trans (if_neg hf)),
      fun hf => lands (exec_huCapTestDone ..) ((doHuCapTestDone_ends hb).trans (if_pos hf))⟩
  · intro hm t
    exact lands (exec_lswOrder ..) (guardW_open hm _)
  · intro hm veto mask t shown
    refine ⟨fun hv => lands (exec_pmuLswreq ..) ((doPmuLswreq_reports hm).trans ?_),
      fun hv => lands (exec_pmuLswreq ..) ((doPmuLswreq_reports hm).trans ?_)⟩
    · have he : (lswVetoes s v).isEmpty = true := List.isEmpty_iff.mpr hv
      rw [he]
      rfl
    · have he : (lswVetoes s v).isEmpty = false := List.isEmpty_eq_false_iff.mpr hv
      rw [he]
      rfl
  · exact lands (exec_lswMaxonExpiry ..) (doLswMaxonExpiry_opens hb h0)
  · intro hc t
    exact lands (exec_lswTrip ..) (if_pos hc)
  · exact lands (exec_lswPolWrite ..) (doLswPolWrite_stores hm v)
  · exact exec_vloadLoss _
  · exact exec_vloadReturn _

end Sys2Proof.Machine
end
